-- ==== Sys2Proof/Word.lean ====
section
/-! DEFINITION. The word types of the Nowtra 7240 and the plainest arithmetic on them. -/

namespace Sys2Proof

/-- One byte of a block, a frame, a store slot or a page. -/
abbrev Byte := BitVec 8

/-- A node id of a block header: five bits, 0 to 23 for nodes, 31 for all nodes (12.1). -/
abbrev NodeId := BitVec 5

end Sys2Proof
end

