-- ==== Sys2Proof/Config.lean ====
section
/-! DEFINITION. What the manual leaves open: the free values of the model. Each is a constant without a body, so a claim
that mentions one holds for every value of it. The assumption log's entries 2 to 10 and 13 name them one by one. -/

namespace Sys2Proof.Config

/-- The enumerated fields that STATUS, READ-ENTRY or a notice reports and for which the table of R182 lists no code. -/
inductive CodeField where
  | port | waitList | freshness | pageState | lineState | holdSender | journalCond | highMark | entryState
  | ctlState | storeOp | opClient | playState | loadLoaded
deriving DecidableEq, Repr

/-- The code byte of a member of a field for which R182 lists none. UNVERIFIED: free (log entry 2). -/
opaque unlistedCode : CodeField → Nat → Byte

/-- Which of two events that the manual lets happen in either order inside one step happens first, the n-th time such a
choice is met. UNVERIFIED: free (log entry 3). -/
opaque freeChoice : Nat → Bool

/-- The n-th byte whose value the store leaves open after a write cut short. UNVERIFIED: free (log entry 4). -/
opaque freeByte : Nat → Byte

/-- The far-fault flag read from a KEEP body whose flag byte is absent or is neither 0 nor 1. UNVERIFIED: free (log entry 5). -/
opaque keepFlag : List Byte → Bool

/-- The minutes left of an expiry when the milliseconds left are not a whole number of minutes. UNVERIFIED: free (log entry 6). -/
opaque partMinutes : Nat → Nat

/-- The value that the configuration load takes from a raw image field outside its range. UNVERIFIED: free (log entry 7). -/
opaque imageValue : Nat → Nat

/-- The place, among slots that hold the newest serial, of the newest slot when R120 names none of them. UNVERIFIED: free
(log entry 8). -/
opaque newestCopy : List Nat → Nat

/-- The image generation after 4294967295. UNVERIFIED: free (log entry 9). -/
opaque generationAfterLast : BitVec 32

/-- The frame repeated for a call that has played none yet. UNVERIFIED: free (log entry 10). -/
opaque absentFrame : List Byte

/-- The subtype field of a block sent of a kind for which R182 lists no subtype, by the kind's code. UNVERIFIED: free (log
entry 13). -/
opaque plainSubtype : Nat → BitVec 4

/-- The seq field of a block sent of a kind for which no rule gives a seq, by the kind's code. UNVERIFIED: free (log
entry 13). -/
opaque plainSeq : Nat → Byte

end Sys2Proof.Config
end

