-- ==== Sys2Proof/Syntax.lean ====
section
/-! DEFINITION. The commands of the 7240: one constructor for each row of spec/opcode_table.json, with what the event or the
command carries. -/

namespace Sys2Proof

/-- The two sides of the node, each with one receive port and one out port. -/
inductive Side where
  | E | W
deriving DecidableEq, Repr

/-- The two rings: CW enters on W and leaves on E, CCW enters on E and leaves on W. -/
inductive Dir where
  | CW | CCW
deriving DecidableEq, Repr

/-- What a READ of a store slot returns: `none` when the store returns the slot as it keeps it (R114), or the 64 bytes the
slot is found to hold instead (a bad or lost slot, R114, R120). -/
abbrev ReadBack := Option (List Byte)

/-- The commands and events that reach the block. Byte-wide operands are raw, so that every refusal of R172 can be met. -/
inductive Instr where
  | fullReset (straps : BitVec 5)
  | lightPresent (port : Side)
  | lossOfLight (port : Side)
  | blockArrival (port : Side) (bytes : List Byte)
  | sendCompletion (port : Side)
  | creditWindowExpiry (port : Side)
  | keepTimerExpiry (port : Side)
  | holdoffRepeatExpiry (dir : Dir)
  | holdoffReceiverExpiry (port : Side)
  | keepGapExpiry (port : Side)
  | provingTimerExpiry (port : Side)
  | stationPollDue (slot : Fin 32)
  | voiceExchangeDue (slot : Fin 32)
  | pollFrameEnd (drop : Fin 4)
  | replyStart (drop : Fin 4)
  | replyFrameEnd (drop : Fin 4) (bytes : List Byte)
  | brokenFrame (drop : Fin 4)
  | replyTimerExpiry (drop : Fin 4)
  | unsolicitedFrame (drop : Fin 4)
  | callingTimerExpiry (rec : Fin 16)
  | clearingTimerExpiry (rec : Fin 16)
  | isolatedTimerExpiry (rec : Fin 16)
  | commitWriteCompletion (got : ReadBack)
  | markWriteCompletion
  | readAheadCompletion (got : ReadBack)
  | storeStepDone
  | saveStepCompletion (got : ReadBack)
  | stepTimerExpiry
  | abandonedStepCompletion
  | scanReadDone (got : ReadBack)
  | loadReadDone (got : ReadBack)
  | revertTimerExpiry
  | signRequestExpiry (sign : Fin 12)
  | sampleTimerExpiry (level : Nat)
  | settleTimerExpiry
  | feedLostAsserted
  | feedLostNegated
  | readEntry (src : NodeId) (tag : Byte) (table index : Byte)
  | writeEntryLane (src : NodeId) (tag : Byte) (index state service peer : Byte)
  | writeEntryStation (src : NodeId) (tag : Byte) (index state drop address kind : Byte) (period : BitVec 16) (link : Byte)
      (location : BitVec 16) (shed : Byte)
  | writeEntryRule (src : NodeId) (tag : Byte) (index enabled source quantity sense : Byte) (set clear : BitVec 16)
      (p link : Byte) (signs : BitVec 16) (page priority : Byte)
  | writeEntrySign (src : NodeId) (tag : Byte) (index station mode level minimum : Byte) (slope : BitVec 16)
  | writeEntrySlot (src : NodeId) (tag : Byte) (index depth offset : Byte) (kw : BitVec 16) (light : Byte)
  | writeEntryParam (src : NodeId) (tag : Byte) (index ringSize wTq wMq wAq : Byte)
      (conserveEntry conserveExit holdupEntry holdupExit : BitVec 16) (primary secondary : Byte)
  | pageOpen (src : NodeId) (tag : Byte) (sign page size : Byte)
  | pageData (src : NodeId) (tag : Byte) (sign page offset : Byte) (data : List Byte)
  | pageDiscard (src : NodeId) (tag : Byte) (sign page : Byte)
  | signSet (src : NodeId) (tag : Byte) (sign page priority : Byte) (expiry : BitVec 16)
  | signCancel (src : NodeId) (tag : Byte) (sign : Byte)
  | status (src : NodeId) (tag : Byte) (group : Byte)
  | clearCounters (src : NodeId) (tag : Byte) (group : Byte)
  | saveConfig (src : NodeId) (tag : Byte)
  | restart (src : NodeId) (tag : Byte) (force : Byte)
deriving DecidableEq, Repr

end Sys2Proof
end

