-- ==== Sys2Proof/WellFormed.lean ====
section
/-! DEFINITION. Which commands the outside world can form: the sizes of the byte strings they carry and the range of a
command's source (12.1, 12.3, 12.4, 12.5, R161). exec is total and gives an ill-formed command the effect nearest to the
rules; no claim needs it. -/

namespace Sys2Proof

/-- A block on the fibre, and a slot of the store, is 64 bytes (12.1, 12.5). -/
def isSlotSized (l : List Byte) : Bool := l.length == 64

/-- What a READ returns is a whole slot. -/
def readBackOk : ReadBack → Bool
  | none => true
  | some l => isSlotSized l

/-- A command's source is a node id (R3 discards every other src). -/
def sourceOk (src : NodeId) : Bool := src.toNat ≤ 23

/-- A drop frame is received to the end its length byte gives: at most 3 + 255 + 2 bytes (R38, 12.4). -/
def frameOk (l : List Byte) : Bool := l.length ≤ 260

/-- PAGE-DATA leaves 49 bytes of a 52-byte body for its data (12.1, 12.3). -/
def pageBytesOk (l : List Byte) : Bool := l.length ≤ 49

/-- The feed-sense converter's number, 16 bits wide; R161 reads a level above 4000 as 4000. -/
def levelOk (n : Nat) : Bool := n ≤ 65535

/-- Whether the outside world can form the command. -/
def Instr.wellFormed : Instr → Bool
  | .blockArrival _ bytes => isSlotSized bytes
  | .replyFrameEnd _ bytes => frameOk bytes
  | .commitWriteCompletion got => readBackOk got
  | .readAheadCompletion got => readBackOk got
  | .saveStepCompletion got => readBackOk got
  | .scanReadDone got => readBackOk got
  | .loadReadDone got => readBackOk got
  | .sampleTimerExpiry level => levelOk level
  | .readEntry src _ _ _ => sourceOk src
  | .writeEntryLane src _ _ _ _ _ => sourceOk src
  | .writeEntryStation src _ _ _ _ _ _ _ _ _ _ => sourceOk src
  | .writeEntryRule src _ _ _ _ _ _ _ _ _ _ _ _ _ => sourceOk src
  | .writeEntrySign src _ _ _ _ _ _ _ => sourceOk src
  | .writeEntrySlot src _ _ _ _ _ _ => sourceOk src
  | .writeEntryParam src _ _ _ _ _ _ _ _ _ _ _ _ => sourceOk src
  | .pageOpen src _ _ _ _ => sourceOk src
  | .pageData src _ _ _ _ data => sourceOk src && pageBytesOk data
  | .pageDiscard src _ _ _ => sourceOk src
  | .signSet src _ _ _ _ _ => sourceOk src
  | .signCancel src _ _ => sourceOk src
  | .status src _ _ => sourceOk src
  | .clearCounters src _ _ => sourceOk src
  | .saveConfig src _ => sourceOk src
  | .restart src _ _ => sourceOk src
  | .fullReset _ | .lightPresent _ | .lossOfLight _ | .sendCompletion _ | .creditWindowExpiry _ | .keepTimerExpiry _
  | .holdoffRepeatExpiry _ | .holdoffReceiverExpiry _ | .keepGapExpiry _ | .provingTimerExpiry _ | .stationPollDue _
  | .voiceExchangeDue _ | .pollFrameEnd _ | .replyStart _ | .brokenFrame _ | .replyTimerExpiry _ | .unsolicitedFrame _
  | .callingTimerExpiry _ | .clearingTimerExpiry _ | .isolatedTimerExpiry _ | .markWriteCompletion | .storeStepDone
  | .stepTimerExpiry | .abandonedStepCompletion | .revertTimerExpiry | .signRequestExpiry _ | .settleTimerExpiry
  | .feedLostAsserted | .feedLostNegated => true

end Sys2Proof
end

