-- ==== Sys2Proof/Machine/State.lean ====
section
/-! DEFINITION. The state of the 7240 as plain data, one structure for each block that owns it, and the state right after a
full reset. -/

namespace Sys2Proof.Machine

/-- What stops the machine. The manual gives every command of the table an effect, so no meaning raises a fault and the type
has no constructor (safe: nothing stops). -/
inductive Fault where
deriving DecidableEq, Repr

/-- Why a command has no meaning. -/
inductive Refusal where
  /-- Raised by exec's arm of a command that has no meaning yet, and by nothing else (safe). No arm raises it now. -/
  | notModelled (mnemonic : String)
deriving DecidableEq, Repr

/-! ### Pairs kept per side and per direction -/

/-- One value for each side (or port of a side). -/
structure PerSide (α : Type) where
  e : α
  w : α
deriving DecidableEq, Repr

def PerSide.get {α : Type} (p : PerSide α) : Side → α
  | .E => p.e
  | .W => p.w

def PerSide.upd {α : Type} (p : PerSide α) (x : Side) (f : α → α) : PerSide α :=
  match x with
  | .E => { p with e := f p.e }
  | .W => { p with w := f p.w }

/-- One value for each direction. -/
structure PerDir (α : Type) where
  cw : α
  ccw : α
deriving DecidableEq, Repr

def PerDir.get {α : Type} (p : PerDir α) : Dir → α
  | .CW => p.cw
  | .CCW => p.ccw

def PerDir.upd {α : Type} (p : PerDir α) (x : Dir) (f : α → α) : PerDir α :=
  match x with
  | .CW => { p with cw := f p.cw }
  | .CCW => { p with ccw := f p.ccw }

/-! ### Ring transit (chapter 1) -/

/-- The ten kinds of R182. -/
inductive BlockKind where
  | fill | ring | voice | call | toll | tollctl | wx | mgt | mgr | note
deriving DecidableEq, Repr

/-- A block with its header fields (12.1); its length is the length of `body`, and its check is formed when it is sent. -/
structure Block where
  kind : BlockKind
  subtype : BitVec 4
  wrapped : Bool
  dst : NodeId
  src : NodeId
  lane : BitVec 6
  hops : BitVec 6
  seq : Byte
  body : List Byte
deriving DecidableEq, Repr

/-- A RING block waiting in RQ with the out port it names (R15). -/
structure RingOffer where
  port : Side
  block : Block
deriving DecidableEq, Repr

/-- The insert queues served by the insertion port (1.5). -/
inductive LocalQueue where
  | eq | tq | mq | aq
deriving DecidableEq, Repr

/-- The queues that share the class credits and the rotation (R19). -/
inductive ClassQueue where
  | tq | mq | aq
deriving DecidableEq, Repr

/-- One number for each class queue: credits (R18) or weights (R170). -/
structure PerClass where
  tq : Nat
  mq : Nat
  aq : Nat
deriving DecidableEq, Repr

/-- An out port: the block on the wire, its arbiter's state (R18, R19), its credit window's deadline and its hold-off receiver
(R22; held off exactly while the expiry timer runs, whose deadline it is). -/
structure OutPort where
  sending : Block
  allowance : Nat
  credits : PerClass
  rotation : ClassQueue
  lastBuffer : Dir
  window : Nat
  heldOff : Option Nat
deriving DecidableEq, Repr

/-- The hold-off sender of a transit buffer (R21): ASSERTED or QUIET, and its repeat timer's deadline. -/
structure HoldSender where
  asserted : Bool
  timer : Option Nat
deriving DecidableEq, Repr

/-- R23, per receive port. -/
structure RxCounters where
  errored : Nat
  malformed : Nat
  notUp : Nat
deriving DecidableEq, Repr

/-- R23, per direction. -/
structure DirCounters where
  stripped : Nat
  hopsExpired : Nat
  displaced : Nat
  overflowArrival : Nat
deriving DecidableEq, Repr

/-- R23, per out port. -/
structure TxCounters where
  sent : Nat
  rqRefused : Nat
deriving DecidableEq, Repr

structure RingTransit where
  buffers : PerDir (List Block)
  senders : PerDir HoldSender
  rq : List RingOffer
  eq : List Block
  tq : List Block
  mq : List Block
  aq : List Block
  out : PerSide OutPort
  rx : PerSide RxCounters
  dirs : PerDir DirCounters
  tx : PerSide TxCounters
  restartEq : Nat
  restartTq : Nat
  restartAq : Nat
deriving DecidableEq, Repr

/-! ### The lane table (R8) -/

inductive LaneService where
  | voice | call | toll | wx
deriving DecidableEq, Repr

/-- Entries 0 to 62 use every field; entry 63, the management lane, uses its two counters. -/
structure LaneEntry where
  active : Bool
  service : LaneService
  peer : NodeId
  binding : Option (Fin 16)
  delivered : Nat
  refused : Nat
deriving DecidableEq, Repr

/-! ### Ring protection (chapter 2) -/

inductive LinkState where
  | down | proving | up
deriving DecidableEq, Repr

/-- The last down cause, and the cause of a link-change notice. -/
inductive LinkCause where
  | light | errors | keepGap | neighbour
deriving DecidableEq, Repr

inductive RingState where
  | closed | wrapE | wrapW | isolated
deriving DecidableEq, Repr

/-- A receive port with its side's far-fault flag and neighbour id; timers are deadlines. -/
structure RxPort where
  link : LinkState
  light : Bool
  run : Nat
  gap : Option Nat
  proving : Option Nat
  cause : Option LinkCause
  farFault : Bool
  neighbour : Option NodeId
  looped : Nat
  provingFailed : Nat
  linkDown : Nat
deriving DecidableEq, Repr

/-- R37, per natural out port. -/
structure WrapCounters where
  turned : Nat
  discarded : Nat
deriving DecidableEq, Repr

structure Protection where
  ports : PerSide RxPort
  keep : PerSide Nat
  ring : RingState
  changes : Nat
  wrap : PerSide WrapCounters
  isoEq : Nat
  isoTq : Nat
  isoMq : Nat
  isoAq : Nat
deriving DecidableEq, Repr

/-! ### The drop poller (chapter 3) -/

inductive StationState where
  | unused | online | silent | offline
deriving DecidableEq, Repr

inductive StationKind where
  | phone | toll | sign | weather
deriving DecidableEq, Repr

/-- A station entry (R40), with the voice due time of a seated phone (R48). `come` is the model's own (log entry 51): the due moment
whose coming was taken last, which tells at a completion in that very millisecond which of the two was taken first (R51). -/
structure Station where
  state : StationState
  drop : Fin 4
  address : BitVec 5
  kind : StationKind
  period : Nat
  link : Byte
  location : BitVec 16
  shed : Bool
  miss : Nat
  due : Option Nat
  voiceDue : Option Nat
  come : Option Nat
  good : Nat
  misses : Nat
deriving DecidableEq, Repr

inductive LineState where
  | idle | sending | awaiting | receiving
deriving DecidableEq, Repr

/-- What an exchange records of its station at its start (R42). -/
structure Snapshot where
  slot : Fin 32
  drop : Fin 4
  address : BitVec 5
  kind : StationKind
  link : Byte
deriving DecidableEq, Repr

/-- The exchange in flight: its snapshot (none for a SUPPLY broadcast), whether it is a voice exchange, the moment it began
and the frame sent. -/
structure Exchange where
  snap : Option Snapshot
  voice : Bool
  begun : Nat
  frame : List Byte
deriving DecidableEq, Repr

structure DropCounters where
  polls : Nat
  voices : Nat
  broadcasts : Nat
  good : Nat
  noReply : Nat
  bad : Nat
  mismatch : Nat
  unsolicited : Nat
  superseded : Nat
deriving DecidableEq, Repr

structure Drop where
  line : LineState
  exch : Option Exchange
  replyTimer : Option Nat
  broadcast : Bool
  ctr : DropCounters
deriving DecidableEq, Repr

structure Poller where
  stations : Vector Station 32
  drops : Vector Drop 4
deriving DecidableEq, Repr

/-! ### The call engine and the voice path (chapters 4 and 5) -/

inductive CallState where
  | free | seized | calling | queued | connected | isolated | clearing
deriving DecidableEq, Repr

/-- Clear reasons of R182; a record never holds FORCED, which only the CLEAR blocks of RESTART carry (R76). -/
inductive ClearReason where
  | onHook | lineLost | centre | forced
deriving DecidableEq, Repr

structure CallId where
  node : Byte
  counter : Byte
deriving DecidableEq, Repr

inductive PlayState where
  | prefill | playing | underrun
deriving DecidableEq, Repr

structure VoiceFrame where
  seq : Byte
  samples : List Byte
deriving DecidableEq, Repr

/-- R90, kept per record and as node totals. -/
structure VoiceCounters where
  captured : Nat
  refused : Nat
  gap : Nat
  received : Nat
  duplicate : Nat
  late : Nat
  resync : Nat
  flushed : Nat
  repeats : Nat
  underruns : Nat
  notConnected : Nat
  malformed : Nat
deriving DecidableEq, Repr

/-- The voice fields of a call record (R78). -/
structure VoiceFields where
  capture : Byte
  queue : List VoiceFrame
  next : Option Byte
  play : PlayState
  last : Option (List Byte)
  rep : Bool
  ctr : VoiceCounters
deriving DecidableEq, Repr

/-- A call record (R57); the signalling timer is its deadline. -/
structure CallRecord where
  state : CallState
  phone : Option (Fin 32)
  seized : Option Nat
  callId : Option CallId
  lane : Option (Fin 64)
  prior : Option CallState
  attempts : Nat
  timer : Option Nat
  reason : Option ClearReason
  voice : VoiceFields
deriving DecidableEq, Repr

/-- A place in the wait list (R63). -/
structure Waiting where
  slot : Fin 32
  since : Nat
deriving DecidableEq, Repr

/-- R77. -/
structure CallCounters where
  requested : Nat
  answered : Nat
  clearOnHook : Nat
  clearLineLost : Nat
  clearCentre : Nat
  clearForced : Nat
  isolations : Nat
  waitListFull : Nat
  signallingLost : Nat
  unknownId : Nat
  lateSignal : Nat
deriving DecidableEq, Repr

structure CallEngine where
  records : Vector CallRecord 16
  waitList : List Waiting
  counter : Byte
  ctr : CallCounters
  totals : VoiceCounters
  unseated : Nat
deriving DecidableEq, Repr

/-! ### The custody journal (chapter 6) -/

inductive JournalCond where
  | recovering | accepting | full | halted | fault
deriving DecidableEq, Repr

/-- The causes of journal faults, save failures and load outcomes that R182 codes together. -/
inductive StoreCause where
  | timeout | badSlots | verify | noImage | badImage
deriving DecidableEq, Repr

inductive Verdict where
  | committed | deferred | refusedFull
deriving DecidableEq, Repr

/-- PROCESSING has no verdict; READY and CARRIED have one (R92). -/
inductive EntryState where
  | processing
  | ready (v : Verdict)
  | carried (v : Verdict)
deriving DecidableEq, Repr

structure AnswerEntry where
  number : BitVec 16
  state : EntryState
deriving DecidableEq, Repr

/-- A transaction in staging or in hand; `linked` while its answer entry stands (R92). -/
structure Txn where
  slot : Fin 32
  drop : Fin 4
  address : BitVec 5
  number : BitVec 16
  body : List Byte
  linked : Bool
deriving DecidableEq, Repr

/-- The commit in hand with the serial it was given; `retry` while it awaits a retry (R100). -/
structure InHand where
  serial : Nat
  txn : Txn
  retry : Bool
deriving DecidableEq, Repr

/-- The fields a TOLL block takes from a slot (R105). -/
structure TollRecord where
  drop : Byte
  address : Byte
  number : BitVec 16
  body : List Byte
deriving DecidableEq, Repr

/-- A READING record: its READ requested, in flight, or read and waiting for TQ (6.6). -/
inductive ReadPhase where
  | waiting
  | started
  | read (record : TollRecord)
deriving DecidableEq, Repr

structure ReadAhead where
  serial : Nat
  phase : ReadPhase
deriving DecidableEq, Repr

structure InTransit where
  serial : Nat
  sentAt : Nat
deriving DecidableEq, Repr

/-- The oldest held record (R98). -/
structure Held where
  serial : Nat
  slot : Nat
deriving DecidableEq, Repr

/-- R113. -/
structure JournalCounters where
  taken : Nat
  repeatOffer : Nat
  deferred : Nat
  refusedFull : Nat
  unplaced : Nat
  delivered : Nat
  discarded : Nat
  lost : Nat
  overrun : Nat
  committed : Nat
  fullEntries : Nat
  sent : Nat
  readRetry : Nat
  reverts : Nat
  resends : Nat
  released : Nat
  staleAck : Nat
  controlDiscarded : Nat
deriving DecidableEq, Repr

/-- The custody journal with its RAM view (R98). A held record in neither `inTransit` nor `readAhead` is UNSENT; the revert
timer runs while `inTransit` is not empty, 5 s from the earliest send time in it (R106). -/
structure Journal where
  cond : JournalCond
  faultCause : Option StoreCause
  staging : List Txn
  overrun : Bool
  answers : Vector (List AnswerEntry) 32
  hand : Option InHand
  hasView : Bool
  oldest : Option Held
  held : Nat
  cursor : Nat
  nextSerial : Nat
  newestSent : Option Nat
  inTransit : List InTransit
  readAhead : List ReadAhead
  credit : Nat
  pendingMarks : List Nat
  bad : List Nat
  highSpent : Bool
  ctr : JournalCounters
deriving DecidableEq, Repr

/-! ### The store controller and the external store (chapter 7) -/

inductive CtlState where
  | idle | operating | scanning | loading
deriving DecidableEq, Repr

/-- Whether a two-step operation is in its SLOT-WRITE or in its verify READ (R115). -/
inductive WriteStep where
  | write | verify
deriving DecidableEq, Repr

/-- The operation in flight, with the client it is for (R115, R119, R125). -/
inductive StoreOp where
  | commit (slot : Nat) (bytes : List Byte) (step : WriteStep)
  | mark (slot : Nat)
  | read (serial slot : Nat) (live : Bool)
  | saveMark
  | saveSlot (slot : Nat) (bytes : List Byte) (step : WriteStep)
  | scan (slot : Nat)
  | load (slot : Nat)
deriving DecidableEq, Repr

/-- A save in flight: its next step (1 to 28), the generation it writes and the register of the image check (R123). -/
structure Save where
  next : Nat
  generation : BitVec 32
  check : BitVec 32
deriving DecidableEq, Repr

/-- What the scan found in a slot classified HELD or RELEASED (R119). -/
structure Found where
  slot : Nat
  released : Bool
  serial : Nat
deriving DecidableEq, Repr

/-- The configuration load under way: the slots read so far and whether each passed its tests (R125). -/
structure Load where
  generation : BitVec 32
  imageCheck : BitVec 32
  slots : List (List Byte)
  ok : Bool
deriving DecidableEq, Repr

inductive LoadOutcome where
  | loaded
  | failed (cause : StoreCause)
deriving DecidableEq, Repr

/-- R126. -/
structure StoreCounters where
  slotWrites : Nat
  stateWrites : Nat
  reads : Nat
  mismatches : Nat
  timeouts : Nat
  saves : Nat
  savesFailed : Nat
deriving DecidableEq, Repr

structure StoreController where
  state : CtlState
  op : Option StoreOp
  timer : Option Nat
  /-- read-ahead requests not yet started, in the order requested, by serial (R117) -/
  requests : List Nat
  save : Option Save
  found : List Found
  /-- the scan under way follows a full reset, so the configuration load follows it (R121) -/
  scanThenLoad : Bool
  load : Option Load
  generation : BitVec 32
  lastLoad : Option LoadOutcome
  orphans : Nat
  gaps : Nat
  ctr : StoreCounters
deriving DecidableEq, Repr

/-- An addressed memory: the bytes that differ from what an unlisted address reads as, by rising address. -/
abbrev Memory := List Host.Cell

/-! ### Weather reduction (chapter 8) -/

inductive Quantity where
  | surface | air | humidity | visibility | light | windMean | windGust
deriving DecidableEq, Repr

structure PrevWind where
  count : Nat
  stamp : Nat
  storedAt : Nat
deriving DecidableEq, Repr

/-- The seven derived quantities, `none` while not formed (R136). -/
structure Derived where
  surface : Option Int
  air : Option Int
  humidity : Option Int
  visibility : Option Int
  light : Option Int
  windMean : Option Int
  windGust : Option Int
deriving DecidableEq, Repr

/-- R141. -/
structure SlotCounters where
  readings : Nat
  unlinked : Nat
  invalidTs : Nat
  invalidTa : Nat
  zeroInvalid : Nat
  clamp : Nat
  saturation : Nat
  windRestart : Nat
  windGap : Nat
  windClamp : Nat
  stale : Nat
  forwarded : Nat
  forwardRefused : Nat
  forwardSkipped : Nat
deriving DecidableEq, Repr

/-- A reduction slot (R127). -/
structure ReductionSlot where
  depth : Nat
  offset : Bool
  kw : Nat
  useLight : Bool
  station : Option (Fin 32)
  surface : List Int
  air : List Int
  humidity : List Int
  visibility : List Int
  light : List Int
  wind : List Int
  gust : List Int
  prev : Option PrevWind
  derived : Derived
  fresh : Bool
  ctr : SlotCounters
deriving DecidableEq, Repr

/-! ### Advisories and signs (chapter 9) -/

inductive Sense where
  | below | above
deriving DecidableEq, Repr

inductive RuleState where
  | inactive | pendingSet | active | pendingClear
deriving DecidableEq, Repr

/-- An advisory rule (R142); `effective` is its effective state as last derived (R147). -/
structure Rule where
  enabled : Bool
  source : Fin 8
  quantity : Quantity
  sense : Sense
  setLevel : Int
  clearLevel : Int
  p : Nat
  link : Option (Fin 32)
  signs : BitVec 12
  page : Fin 8
  priority : Nat
  state : RuleState
  count : Nat
  effective : Bool
  sets : Nat
  clears : Nat
deriving DecidableEq, Repr

inductive PageState where
  | empty | filling | ready
deriving DecidableEq, Repr

/-- A page directory entry (R150). -/
structure Page where
  state : PageState
  size : Nat
  units : List Nat
  filled : Nat
deriving DecidableEq, Repr

/-- An operator request; `expiry` is its timer's deadline (R153). -/
structure Request where
  page : Fin 8
  priority : Nat
  expiry : Option Nat
deriving DecidableEq, Repr

inductive IntensityMode where
  | fixed (level : Nat)
  | ambient (slot : Fin 8) (minimum : Nat) (slope : Nat)
deriving DecidableEq, Repr

structure Chunk where
  page : Option (Fin 8)
  offset : Nat
deriving DecidableEq, Repr

/-- R160, per sign. -/
structure SignCounters where
  chunkOk : Nat
  chunkAgain : Nat
  chunkMiss : Nat
  stale : Nat
  swaps : Nat
deriving DecidableEq, Repr

/-- A sign record (R148); `none` in NEXT and LIVE is BLANK. -/
structure Sign where
  station : Option (Fin 32)
  pages : Vector Page 8
  request : Option Request
  next : Option (Fin 8)
  live : Option (Fin 8)
  cursor : Nat
  chunk : Option Chunk
  mode : IntensityMode
  lastIntensity : Nat
  ctr : SignCounters
deriving DecidableEq, Repr

/-- The sign table and the page store of 256 units of 128 bytes; unit u holds addresses 128 u to 128 u + 127. -/
structure SignService where
  signs : Vector Sign 12
  store : Memory
deriving DecidableEq, Repr

/-! ### The supply monitor (chapter 10) -/

inductive SupplyState where
  | normal | conserve | holdup
deriving DecidableEq, Repr

inductive SupplyCause where
  | level | feedLost | settled
deriving DecidableEq, Repr

/-- The four levels of R162. -/
structure Levels where
  conserveEntry : Nat
  conserveExit : Nat
  holdupEntry : Nat
  holdupExit : Nat
deriving DecidableEq, Repr

/-- R161 to R168; `levels` are the levels in force, those of the node parameters as the last sample or load found them (R162);
`feedLost` is the input, asserted or negated; timers are deadlines. -/
structure Supply where
  levels : Levels
  state : SupplyState
  cause : Option SupplyCause
  changedAt : Option Nat
  window : List Nat
  average : Option Nat
  feedLost : Bool
  settle : Option Nat
  sample : Nat
  lowest : Option Nat
  normalEntries : Nat
  conserveEntries : Nat
  holdupEntries : Nat
  feedLosses : Nat
  settleRestarts : Nat
deriving DecidableEq, Repr

/-! ### The management agent (chapter 11) -/

/-- The node parameters of R170; the last two are the control list of R169. -/
structure Params where
  ringSize : Nat
  weights : PerClass
  conserveEntry : Nat
  conserveExit : Nat
  holdupEntry : Nat
  holdupExit : Nat
  primary : NodeId
  secondary : NodeId
deriving DecidableEq, Repr

/-- A management command as its MGT block carries it (12.3). -/
structure Command where
  src : NodeId
  tag : Byte
  code : BitVec 4
  body : List Byte
deriving DecidableEq, Repr

/-- What a notice carries (11.7). -/
inductive NoticeBody where
  | link (port : Side) (state : LinkState) (neighbour : Option NodeId) (cause : Option LinkCause)
  | ring (old new : RingState)
  | station (slot : Fin 32) (drop : Fin 4) (address : BitVec 5) (kind : StationKind) (state : StationState)
  | waitList (listed : Nat)
  | highMark (held : Nat)
  | full (held : Nat)
  | fault (cause : StoreCause)
  | recovered (held nextSerial orphans bad : Nat)
  | supply (old new : SupplyState) (cause : SupplyCause) (average : Option Nat)
  | saved (generation : BitVec 32)
  | failed (cause : StoreCause)
  | rule (index : Fin 32) (effective : Bool) (own : RuleState) (value : Option Int)
  | stale (slot : Fin 8) (station : Option (Fin 32))
deriving DecidableEq, Repr

structure Notice where
  serial : BitVec 16
  time : Nat
  body : NoticeBody
deriving DecidableEq, Repr

/-- The source and tag kept with a save until its reply is formed (R177). -/
structure SaveReply where
  src : NodeId
  tag : Byte
deriving DecidableEq, Repr

structure Agent where
  params : Params
  intake : List Command
  outbox : List Block
  notices : List Notice
  serial : BitVec 16
  saveReply : Option SaveReply
  taken : Nat
  busyReplies : Nat
  overflow : Nat
  queued : Nat
  lost : Nat
deriving DecidableEq, Repr

/-! ### The whole machine -/

/-- The node: its clock in milliseconds since the last full reset, the model's count of free choices met, the strapped value
(R1), each block's state, the external store, and the commands that wait. -/
structure State where
  now : Nat
  free : Nat
  straps : BitVec 5
  ring : RingTransit
  lanes : Vector LaneEntry 64
  prot : Protection
  poll : Poller
  calls : CallEngine
  jrnl : Journal
  ctl : StoreController
  nv : Memory
  slots : Vector ReductionSlot 8
  rules : Vector Rule 32
  sign : SignService
  sup : Supply
  agent : Agent
  pending : List Instr
deriving DecidableEq, Repr

/-! ### Values after a full reset -/

/-- FILL: every header field 0 but the kind, length 0 (R181). -/
def Block.fill : Block :=
  { kind := .fill, subtype := 0, wrapped := false, dst := 0, src := 0, lane := 0, hops := 0, seq := 0, body := [] }

/-- An out port after a full reset: its first choice finds nothing but FILL (R19, 1.9). -/
def OutPort.reset (served : Dir) : OutPort :=
  { sending := Block.fill, allowance := 24, credits := { tq := 8, mq := 4, aq := 4 }, rotation := .aq, lastBuffer := served,
    window := 1, heldOff := none }

/-- R15, R18, R19, R21 to R23, 1.9. -/
def RingTransit.reset : RingTransit :=
  let rx : RxCounters := { errored := 0, malformed := 0, notUp := 0 }
  let dir : DirCounters := { stripped := 0, hopsExpired := 0, displaced := 0, overflowArrival := 0 }
  let tx : TxCounters := { sent := 0, rqRefused := 0 }
  let quiet : HoldSender := { asserted := false, timer := none }
  { buffers := ⟨[], []⟩, senders := ⟨quiet, quiet⟩, rq := [], eq := [], tq := [], mq := [], aq := [],
    out := ⟨OutPort.reset .CW, OutPort.reset .CCW⟩, rx := ⟨rx, rx⟩, dirs := ⟨dir, dir⟩, tx := ⟨tx, tx⟩,
    restartEq := 0, restartTq := 0, restartAq := 0 }

/-- R8: UNUSED, binding none, counters 0. DESIGN CHOICE (log entry 1): service VOICE and peer 0 in an unused entry. -/
def LaneEntry.reset : LaneEntry :=
  { active := false, service := .voice, peer := 0, binding := none, delivered := 0, refused := 0 }

/-- R25, R26: DOWN, run 0, no timer, cause none, far-fault 0, neighbour absent. `light` is what the receiver shows. -/
def RxPort.reset (light : Bool) : RxPort :=
  { link := .down, light := light, run := 0, gap := none, proving := none, cause := none, farFault := false,
    neighbour := none, looped := 0, provingFailed := 0, linkDown := 0 }

/-- R24, R29, R37. -/
def Protection.reset (lightE lightW : Bool) : Protection :=
  { ports := ⟨RxPort.reset lightE, RxPort.reset lightW⟩, keep := ⟨1, 1⟩, ring := .isolated, changes := 0,
    wrap := ⟨⟨0, 0⟩, ⟨0, 0⟩⟩, isoEq := 0, isoTq := 0, isoMq := 0, isoAq := 0 }

/-- R40: UNUSED, miss count 0, no next-due time, counters 0. DESIGN CHOICE (log entry 1): the configured fields of an unused
entry. -/
def Station.reset : Station :=
  { state := .unused, drop := 0, address := 1, kind := .phone, period := 10, link := 0, location := 0, shed := false,
    miss := 0, due := none, voiceDue := none, come := none, good := 0, misses := 0 }

def DropCounters.zero : DropCounters :=
  { polls := 0, voices := 0, broadcasts := 0, good := 0, noReply := 0, bad := 0, mismatch := 0, unsolicited := 0,
    superseded := 0 }

/-- R38, R52: IDLE, no exchange, broadcast pending. -/
def Drop.reset : Drop :=
  { line := .idle, exch := none, replyTimer := none, broadcast := true, ctr := DropCounters.zero }

def Poller.reset : Poller := { stations := Vector.replicate 32 Station.reset, drops := Vector.replicate 4 Drop.reset }

def VoiceCounters.zero : VoiceCounters :=
  { captured := 0, refused := 0, gap := 0, received := 0, duplicate := 0, late := 0, resync := 0, flushed := 0, repeats := 0,
    underruns := 0, notConnected := 0, malformed := 0 }

/-- R78, the column In FREE. -/
def VoiceFields.free : VoiceFields :=
  { capture := 0, queue := [], next := none, play := .prefill, last := none, rep := false, ctr := VoiceCounters.zero }

/-- R57, the column In FREE. -/
def CallRecord.free : CallRecord :=
  { state := .free, phone := none, seized := none, callId := none, lane := none, prior := none, attempts := 0, timer := none,
    reason := none, voice := VoiceFields.free }

/-- R76. -/
def CallEngine.reset : CallEngine :=
  { records := Vector.replicate 16 CallRecord.free, waitList := [], counter := 1,
    ctr := { requested := 0, answered := 0, clearOnHook := 0, clearLineLost := 0, clearCentre := 0, clearForced := 0,
             isolations := 0, waitListFull := 0, signallingLost := 0, unknownId := 0, lateSignal := 0 },
    totals := VoiceCounters.zero, unseated := 0 }

def JournalCounters.zero : JournalCounters :=
  { taken := 0, repeatOffer := 0, deferred := 0, refusedFull := 0, unplaced := 0, delivered := 0, discarded := 0, lost := 0,
    overrun := 0, committed := 0, fullEntries := 0, sent := 0, readRetry := 0, reverts := 0, resends := 0, released := 0,
    staleAck := 0, controlDiscarded := 0 }

/-- R112: RECOVERING with no RAM view. DESIGN CHOICE (log entry 1): what the view's fields hold while there is no view. -/
def Journal.reset : Journal :=
  { cond := .recovering, faultCause := none, staging := [], overrun := false, answers := Vector.replicate 32 [],
    hand := none, hasView := false, oldest := none, held := 0, cursor := 0, nextSerial := 1, newestSent := none,
    inTransit := [], readAhead := [], credit := 0, pendingMarks := [], bad := [], highSpent := false,
    ctr := JournalCounters.zero }

/-- R115, R119, R126: SCANNING with the scan's first READ in flight and its 50 ms timer running; in REPEATER condition IDLE. DESIGN
CHOICE (log entry 1): no load outcome before the first load has ended, and an orphan count and a gap count of 0 before the first
scan has, since R126 only says what sets them. -/
def StoreController.reset (repeater : Bool) : StoreController :=
  { state := if repeater then .idle else .scanning, op := if repeater then none else some (.scan 0),
    timer := if repeater then none else some 50, requests := [], save := none, found := [], scanThenLoad := !repeater,
    load := none, generation := 0, lastLoad := none, orphans := 0, gaps := 0,
    ctr := { slotWrites := 0, stateWrites := 0, reads := if repeater then 0 else 1, mismatches := 0, timeouts := 0,
             saves := 0, savesFailed := 0 } }

def Derived.none : Derived :=
  { surface := .none, air := .none, humidity := .none, visibility := .none, light := .none, windMean := .none,
    windGust := .none }

def SlotCounters.zero : SlotCounters :=
  { readings := 0, unlinked := 0, invalidTs := 0, invalidTa := 0, zeroInvalid := 0, clamp := 0, saturation := 0,
    windRestart := 0, windGap := 0, windClamp := 0, stale := 0, forwarded := 0, forwardRefused := 0, forwardSkipped := 0 }

/-- R127: N 1, offset cancellation off, kw 1000, light source use no, STALE, everything empty. -/
def ReductionSlot.reset : ReductionSlot :=
  { depth := 1, offset := false, kw := 1000, useLight := false, station := none, surface := [], air := [], humidity := [],
    visibility := [], light := [], wind := [], gust := [], prev := none, derived := Derived.none, fresh := false,
    ctr := SlotCounters.zero }

/-- R142, the column Reset value. -/
def Rule.reset : Rule :=
  { enabled := false, source := 0, quantity := .surface, sense := .below, setLevel := 0, clearLevel := 0, p := 1,
    link := none, signs := 0, page := 0, priority := 15, state := .inactive, count := 0, effective := false, sets := 0,
    clears := 0 }

def Page.empty : Page := { state := .empty, size := 0, units := [], filled := 0 }

/-- R148, the column After full reset. -/
def Sign.reset : Sign :=
  { station := none, pages := Vector.replicate 8 Page.empty, request := none, next := none, live := none, cursor := 0,
    chunk := none, mode := .fixed 100, lastIntensity := 100,
    ctr := { chunkOk := 0, chunkAgain := 0, chunkMiss := 0, stale := 0, swaps := 0 } }

def SignService.reset : SignService := { signs := Vector.replicate 12 Sign.reset, store := [] }

/-- R162, R167: the levels at their reset values, NORMAL, nothing sampled, the sample timer started; `feedLost` is what the input
shows. -/
def Supply.reset (feedLost : Bool) : Supply :=
  { levels := { conserveEntry := 2150, conserveExit := 2300, holdupEntry := 1900, holdupExit := 2300 }
    state := .normal, cause := none, changedAt := none, window := [], average := none, feedLost := feedLost, settle := none,
    sample := 1, lowest := none, normalEntries := 0, conserveEntries := 0, holdupEntries := 0, feedLosses := 0,
    settleRestarts := 0 }

/-- R162, R170. -/
def Params.reset : Params :=
  { ringSize := 24, weights := { tq := 8, mq := 4, aq := 4 }, conserveEntry := 2150, conserveExit := 2300,
    holdupEntry := 1900, holdupExit := 2300, primary := 0, secondary := 1 }

/-- R169 to R171, R179, R180. -/
def Agent.reset : Agent :=
  { params := Params.reset, intake := [], outbox := [], notices := [], serial := 0, saveReply := none, taken := 0,
    busyReplies := 0, overflow := 0, queued := 0, lost := 0 }

/-- The state a full reset gives from what stands outside it: the straps, the light each receiver shows, the feed-lost input,
the store's contents, the model's count of free choices and the commands that wait. -/
def State.afterReset (straps : BitVec 5) (lightE lightW feedLost : Bool) (nv : Memory) (free : Nat) (pending : List Instr) :
    State :=
  { now := 0, free := free, straps := straps, ring := RingTransit.reset, lanes := Vector.replicate 64 LaneEntry.reset,
    prot := Protection.reset lightE lightW, poll := Poller.reset, calls := CallEngine.reset, jrnl := Journal.reset,
    ctl := StoreController.reset (24 ≤ straps.toNat), nv := nv, slots := Vector.replicate 8 ReductionSlot.reset,
    rules := Vector.replicate 32 Rule.reset, sign := SignService.reset, sup := Supply.reset feedLost, agent := Agent.reset,
    pending := pending }

/-- The machine right after a full reset. DESIGN CHOICE (log entry 1): strapped value 0, no light yet on either receiver,
feed-lost negated, an erased store, no choice met, no command waiting. -/
def State.reset : State := State.afterReset 0 false false false [] 0 []

end Sys2Proof.Machine
end

