-- ==== Sys2Proof/Machine/Operands.lean ====
section
/-! DEFINITION. The layouts and codes of chapter 12: byte order, checks, the ring block, the drop frame, the entry records,
the store slots and the enumerated values of R182. Nothing here reads or writes State. -/

namespace Sys2Proof.Machine

/-! ### Bytes: most significant byte first (chapter 12) -/

def byteAt (l : List Byte) (i : Nat) : Byte := l.getD i 0

def byte (n : Nat) : Byte := BitVec.ofNat 8 n

def be16 (x : BitVec 16) : List Byte := [x.extractLsb' 8 8, x.extractLsb' 0 8]

def be32 (x : BitVec 32) : List Byte :=
  [x.extractLsb' 24 8, x.extractLsb' 16 8, x.extractLsb' 8 8, x.extractLsb' 0 8]

def word16At (l : List Byte) (i : Nat) : BitVec 16 := byteAt l i ++ byteAt l (i + 1)

def word32At (l : List Byte) (i : Nat) : BitVec 32 := word16At l i ++ word16At l (i + 2)

def nat16 (n : Nat) : List Byte := be16 (BitVec.ofNat 16 n)

def nat32 (n : Nat) : List Byte := be32 (BitVec.ofNat 32 n)

/-- A signed 16-bit field, two's complement. -/
def int16 (i : Int) : List Byte := be16 (BitVec.ofInt 16 i)

/-- A field that may hold none: every bit set (chapter 12). -/
def byteOr (o : Option Nat) : List Byte := [match o with | some n => byte n | none => 255]

def nat16Or (o : Option Nat) : List Byte := match o with | some n => nat16 n | none => be16 65535

def nat32Or (o : Option Nat) : List Byte := match o with | some n => nat32 n | none => be32 4294967295

def int16Or (o : Option Int) : List Byte := match o with | some i => int16 i | none => be16 65535

/-- yes, on, enabled 1 and no, off 0 (R182). -/
def flagByte (b : Bool) : Byte := if b then 1 else 0

def flagOf? (b : Byte) : Option Bool := if b = 0 then some false else if b = 1 then some true else none

/-- Pad with zeros, or cut, to n bytes. -/
def sized (n : Nat) (l : List Byte) : List Byte := l.take n ++ List.replicate (n - l.length) 0

def fin? (n i : Nat) : Option (Fin n) := if h : i < n then some ⟨i, h⟩ else none

/-! ### Checks -/

/-- One bit of the 32-bit cyclic check of 12.1, most significant bit first. -/
def crc32Bit (r : BitVec 32) (b : Bool) : BitVec 32 := if r.msb != b then (r <<< 1) ^^^ 0x04C11DB7#32 else r <<< 1

def bitsOf (x : Byte) : List Bool := [7, 6, 5, 4, 3, 2, 1, 0].map x.getLsbD

def crc32Feed (r : BitVec 32) (l : List Byte) : BitVec 32 := l.foldl (fun r x => (bitsOf x).foldl crc32Bit r) r

/-- The ring check: preset to all ones, remainder inverted (12.1). -/
def crc32 (l : List Byte) : BitVec 32 := ~~~ crc32Feed (BitVec.allOnes 32) l

/-- One bit of the 16-bit check of 12.4. -/
def crc16Bit (r : BitVec 16) (b : Bool) : BitVec 16 := if r.msb != b then (r <<< 1) ^^^ 0x1021#16 else r <<< 1

/-- The drop frame's and the slots' check: preset to all ones (12.4, 12.5). -/
def crc16 (l : List Byte) : BitVec 16 := l.foldl (fun r x => (bitsOf x).foldl crc16Bit r) (BitVec.allOnes 16)

/-! ### Codes of R182 -/

def BlockKind.code : BlockKind → BitVec 4
  | .fill => 0 | .ring => 1 | .voice => 2 | .call => 3 | .toll => 4 | .tollctl => 5 | .wx => 6 | .mgt => 7 | .mgr => 8
  | .note => 9

def BlockKind.ofCode? (c : BitVec 4) : Option BlockKind :=
  [BlockKind.fill, .ring, .voice, .call, .toll, .tollctl, .wx, .mgt, .mgr, .note].find? (·.code == c)

/-- RING subtypes. -/
def subKeep : BitVec 4 := 1
def subHoldoff : BitVec 4 := 2
def subRelease : BitVec 4 := 3

/-- CALL subtypes. -/
def subRequest : BitVec 4 := 1
def subHeld : BitVec 4 := 2
def subAnswer : BitVec 4 := 3
def subClear : BitVec 4 := 4
def subCleared : BitVec 4 := 5
def subResume : BitVec 4 := 6

/-- TOLLCTL subtypes. -/
def subPull : BitVec 4 := 1
def subAck : BitVec 4 := 2
def subEnd : BitVec 4 := 3

/-- MGT and MGR subtypes. -/
def cmdReadEntry : BitVec 4 := 1
def cmdWriteEntry : BitVec 4 := 2
def cmdPageOpen : BitVec 4 := 3
def cmdPageData : BitVec 4 := 4
def cmdPageDiscard : BitVec 4 := 5
def cmdSignSet : BitVec 4 := 6
def cmdSignCancel : BitVec 4 := 7
def cmdStatus : BitVec 4 := 8
def cmdClearCounters : BitVec 4 := 9
def cmdSaveConfig : BitVec 4 := 10
def cmdRestart : BitVec 4 := 11

/-- The statuses of a reply. -/
inductive Status where
  | done | badIndex | badValue | state | busy | full | notReady | unknown
deriving DecidableEq, Repr

def Status.code : Status → Byte
  | .done => 0 | .badIndex => 1 | .badValue => 2 | .state => 3 | .busy => 4 | .full => 5 | .notReady => 6 | .unknown => 7

inductive Table where
  | lane | station | rule | sign | slot | param
deriving DecidableEq, Repr

def Table.code : Table → Byte
  | .lane => 0 | .station => 1 | .rule => 2 | .sign => 3 | .slot => 4 | .param => 5

def Table.ofCode? (c : Byte) : Option Table :=
  [Table.lane, .station, .rule, .sign, .slot, .param].find? (·.code == c)

/-- How many indexes each table has (R174). -/
def Table.size : Table → Nat
  | .lane => 64 | .station => 32 | .rule => 32 | .sign => 12 | .slot => 8 | .param => 1

/-- The bytes of each table's entry record (12.3). -/
def Table.recordSize : Table → Nat
  | .lane => 3 | .station => 10 | .rule => 14 | .sign => 6 | .slot => 5 | .param => 14

inductive Group where
  | ring | drop | calls | journal | supply | lanes | signs | counters
deriving DecidableEq, Repr

def Group.code : Group → Byte
  | .ring => 0 | .drop => 1 | .calls => 2 | .journal => 3 | .supply => 4 | .lanes => 5 | .signs => 6 | .counters => 7

def Group.ofCode? (c : Byte) : Option Group :=
  [Group.ring, .drop, .calls, .journal, .supply, .lanes, .signs, .counters].find? (·.code == c)

/-- Drop frame types. -/
def typePoll : Byte := 1
def typeSupply : Byte := 2
def typeNil : Byte := 8
def typeHook : Byte := 9
def typeVoice : Byte := 10
def typeTxn : Byte := 11
def typeReading : Byte := 12
def typeChunkOk : Byte := 13
def typeChunkAgain : Byte := 14

inductive Tone where
  | none | ringback | hold | cleared
deriving DecidableEq, Repr

def Tone.code : Tone → Byte
  | .none => 0 | .ringback => 1 | .hold => 2 | .cleared => 3

def Verdict.code : Verdict → Byte
  | .committed => 1 | .deferred => 2 | .refusedFull => 3

def ClearReason.code : ClearReason → Byte
  | .onHook => 1 | .lineLost => 2 | .centre => 3 | .forced => 4

def SupplyState.code : SupplyState → Byte
  | .normal => 0 | .conserve => 1 | .holdup => 2

def LaneService.code : LaneService → Byte
  | .voice => 0 | .call => 1 | .toll => 2 | .wx => 3

def LaneService.ofCode? (c : Byte) : Option LaneService :=
  [LaneService.voice, .call, .toll, .wx].find? (·.code == c)

def StationState.code : StationState → Byte
  | .unused => 0 | .online => 1 | .silent => 2 | .offline => 3

def StationState.ofCode? (c : Byte) : Option StationState :=
  [StationState.unused, .online, .silent, .offline].find? (·.code == c)

def StationKind.code : StationKind → Byte
  | .phone => 0 | .toll => 1 | .sign => 2 | .weather => 3

def StationKind.ofCode? (c : Byte) : Option StationKind :=
  [StationKind.phone, .toll, .sign, .weather].find? (·.code == c)

def Quantity.code : Quantity → Byte
  | .surface => 0 | .air => 1 | .humidity => 2 | .visibility => 3 | .light => 4 | .windMean => 5 | .windGust => 6

def Quantity.ofCode? (c : Byte) : Option Quantity :=
  [Quantity.surface, .air, .humidity, .visibility, .light, .windMean, .windGust].find? (·.code == c)

def Sense.code : Sense → Byte
  | .below => 0 | .above => 1

def Sense.ofCode? (c : Byte) : Option Sense := [Sense.below, .above].find? (·.code == c)

def LinkState.code : LinkState → Byte
  | .down => 0 | .proving => 1 | .up => 2

def LinkCause.code : LinkCause → Byte
  | .light => 1 | .errors => 2 | .keepGap => 3 | .neighbour => 4

def StoreCause.code : StoreCause → Byte
  | .timeout => 1 | .badSlots => 2 | .verify => 3 | .noImage => 4 | .badImage => 5

def SupplyCause.code : SupplyCause → Byte
  | .level => 1 | .feedLost => 2 | .settled => 3

def RingState.code : RingState → Byte
  | .closed => 0 | .wrapE => 1 | .wrapW => 2 | .isolated => 3

def RuleState.code : RuleState → Byte
  | .inactive => 0 | .pendingSet => 1 | .active => 2 | .pendingClear => 3

def CallState.code : CallState → Byte
  | .free => 0 | .seized => 1 | .calling => 2 | .queued => 3 | .connected => 4 | .isolated => 5 | .clearing => 6

/-- Journal slot marks. -/
def markEmpty : Byte := 255
def markHeld : Byte := 240
def markReleased : Byte := 0

/-- R182, R119: the mark of a slot with a valid check is read as HELD when it is HELD or unrecognisable, none of the three codes. -/
def markReadsHeld (mark : Byte) : Bool := mark != markEmpty && mark != markReleased

/-- Image and header marks. -/
def markValid : Byte := 240
def markInvalid : Byte := 0

/-- The silence value of a sample (12.2). -/
def silence : Byte := 128

def silentFrame : List Byte := List.replicate 32 silence

/-! Codes that R182 does not list (free, log entry 2). -/

def sideCode (x : Side) : Byte := Config.unlistedCode .port (match x with | .E => 0 | .W => 1)

def LineState.code (x : LineState) : Byte :=
  Config.unlistedCode .lineState (match x with | .idle => 0 | .sending => 1 | .awaiting => 2 | .receiving => 3)

def PlayState.code (x : PlayState) : Byte :=
  Config.unlistedCode .playState (match x with | .prefill => 0 | .playing => 1 | .underrun => 2)

def JournalCond.code (x : JournalCond) : Byte :=
  Config.unlistedCode .journalCond
    (match x with | .recovering => 0 | .accepting => 1 | .full => 2 | .halted => 3 | .fault => 4)

def EntryState.code (x : EntryState) : Byte :=
  Config.unlistedCode .entryState (match x with | .processing => 0 | .ready _ => 1 | .carried _ => 2)

def CtlState.code (x : CtlState) : Byte :=
  Config.unlistedCode .ctlState (match x with | .idle => 0 | .operating => 1 | .scanning => 2 | .loading => 3)

def PageState.code (x : PageState) : Byte :=
  Config.unlistedCode .pageState (match x with | .empty => 0 | .filling => 1 | .ready => 2)

def LoadOutcome.code : LoadOutcome → Byte
  | .loaded => Config.unlistedCode .loadLoaded 0
  | .failed c => c.code

/-! ### The ring block (12.1) -/

/-- Header bytes 0 to 7 and the body padded to byte 59. -/
def Block.front (b : Block) : List Byte :=
  [b.kind.code ++ b.subtype,
   BitVec.ofBool b.wrapped ++ 0#2 ++ b.dst,
   0#3 ++ b.src,
   0#2 ++ b.lane,
   0#2 ++ b.hops,
   b.seq,
   byte b.body.length,
   0#8] ++ sized 52 b.body

/-- The 64 bytes a block is sent as (R181). -/
def Block.bytes (b : Block) : List Byte := b.front ++ be32 (crc32 b.front)

/-- A received block, read field by field (R181); the kind is absent for a code 10 to 15. -/
structure Received where
  checkOk : Bool
  kind : Option BlockKind
  subtype : BitVec 4
  wrapped : Bool
  dst : NodeId
  src : NodeId
  lane : BitVec 6
  hops : BitVec 6
  seq : Byte
  length : Nat
  content : List Byte
deriving DecidableEq, Repr

/-- R3, R181: what arrives is 64 bytes whose last four are the check of the others. -/
def Received.ofBytes (l : List Byte) : Received :=
  { checkOk := l.length == 64 && crc32 (l.take 60) == word32At l 60,
    kind := BlockKind.ofCode? ((byteAt l 0).extractLsb' 4 4),
    subtype := (byteAt l 0).extractLsb' 0 4,
    wrapped := (byteAt l 1).msb,
    dst := (byteAt l 1).extractLsb' 0 5,
    src := (byteAt l 2).extractLsb' 0 5,
    lane := (byteAt l 3).extractLsb' 0 6,
    hops := (byteAt l 4).extractLsb' 0 6,
    seq := byteAt l 5,
    length := ((byteAt l 6).extractLsb' 0 6).toNat,
    content := (l.drop 8).take 52 }

/-- The block a received one is, for a kind that is one of the ten: its body is the bytes its length covers. -/
def Received.block (r : Received) (k : BlockKind) : Block :=
  { kind := k, subtype := r.subtype, wrapped := r.wrapped, dst := r.dst, src := r.src, lane := r.lane, hops := r.hops,
    seq := r.seq, body := r.content.take r.length }

/-- The blocks that ring transit can hold or send: a body of at most 52 bytes. -/
def Block.fits (b : Block) : Bool := b.body.length ≤ 52

/-! ### The drop frame (12.4) -/

def frameFront (reply : Bool) (address : BitVec 5) (type : Byte) (body : List Byte) : List Byte :=
  [BitVec.ofBool reply ++ 0#2 ++ address, type, byte body.length] ++ body

def frameBytes (reply : Bool) (address : BitVec 5) (type : Byte) (body : List Byte) : List Byte :=
  frameFront reply address type body ++ be16 (crc16 (frameFront reply address type body))

/-- A reading's channels as received (12.4, R130). -/
structure Reading where
  ts : Int
  ta : Int
  z : Int
  rh : Nat
  vis : Nat
  lux : Nat
  wc : Nat
  tm : Nat
  flags : Byte
  raw : List Byte
deriving DecidableEq, Repr

/-- What a good reply carries. A hook state is kept raw, since an unlisted code is a type mismatch and not a bad reply. -/
inductive Reply where
  | nil
  | hook (h : Byte)
  | voice (h : Byte) (samples : List Byte)
  | txn (number : BitVec 16) (body : List Byte)
  | reading (r : Reading)
  | chunkOk
  | chunkAgain
deriving DecidableEq, Repr

def Reading.ofBody (l : List Byte) : Reading :=
  { ts := (word16At l 0).toInt, ta := (word16At l 2).toInt, z := (word16At l 4).toInt, rh := (word16At l 6).toNat,
    vis := (word16At l 8).toNat, lux := (word16At l 10).toNat, wc := (word16At l 12).toNat, tm := (word16At l 14).toNat,
    flags := byteAt l 16, raw := l }

/-- The body of a frame by its type, when the size fits the type (R39, 12.4). -/
def Reply.ofBody? (type : Byte) (body : List Byte) : Option Reply :=
  if type = typeNil then (if body.length = 0 then some .nil else none)
  else if type = typeHook then (if body.length = 1 then some (.hook (byteAt body 0)) else none)
  else if type = typeVoice then (if body.length = 33 then some (.voice (byteAt body 0) (body.drop 1)) else none)
  else if type = typeTxn then (if body.length = 42 then some (.txn (word16At body 0) (body.drop 2)) else none)
  else if type = typeReading then (if body.length = 17 then some (.reading (Reading.ofBody body)) else none)
  else if type = typeChunkOk then (if body.length = 0 then some .chunkOk else none)
  else if type = typeChunkAgain then (if body.length = 0 then some .chunkAgain else none)
  else none

/-- R39: the good reply a frame is, from the station at this address, or none when it is a bad reply. -/
def Reply.ofFrame? (address : BitVec 5) (l : List Byte) : Option Reply :=
  let n := (byteAt l 2).toNat
  if l.length = n + 5 ∧ crc16 (l.take (n + 3)) = word16At l (n + 3) ∧ (byteAt l 0).msb = true
      ∧ (byteAt l 0).extractLsb' 0 5 = address ∧ n ≤ 64 then
    Reply.ofBody? (byteAt l 1) ((l.drop 3).take n)
  else none

/-! ### Entry records (12.3) -/

structure LaneRecord where
  active : Bool
  service : LaneService
  peer : NodeId
deriving DecidableEq, Repr

def LaneRecord.ofBytes? (l : List Byte) : Option LaneRecord :=
  match flagOf? (byteAt l 0), LaneService.ofCode? (byteAt l 1) with
  | some a, some sv => if (byteAt l 2).toNat ≤ 23 then some ⟨a, sv, (byteAt l 2).extractLsb' 0 5⟩ else none
  | _, _ => none

def LaneEntry.record (e : LaneEntry) : List Byte := [flagByte e.active, e.service.code, 0#3 ++ e.peer]

/-- The configured fields a write carries for a station (R40). -/
structure StationRecord where
  state : StationState
  drop : Fin 4
  address : BitVec 5
  kind : StationKind
  period : Nat
  link : Byte
  location : BitVec 16
  shed : Bool
deriving DecidableEq, Repr

/-- R41: whether a kind link is in its range; it is not used for a TOLL or PHONE entry. -/
def linkInRange (k : StationKind) (link : Byte) : Bool :=
  match k with
  | .sign => link.toNat ≤ 11
  | .weather => link.toNat ≤ 7
  | .phone | .toll => true

/-- R41, R182: the fields of a station write, or none when one lies outside its range. -/
def StationRecord.ofBytes? (l : List Byte) : Option StationRecord :=
  let period := (word16At l 4).toNat * 10
  match StationState.ofCode? (byteAt l 0), fin? 4 (byteAt l 1).toNat, StationKind.ofCode? (byteAt l 3),
      flagOf? (byteAt l 9) with
  | some st, some d, some k, some sh =>
    if 1 ≤ (byteAt l 2).toNat ∧ (byteAt l 2).toNat ≤ 30 ∧ 10 ≤ period ∧ period ≤ 10000 ∧ linkInRange k (byteAt l 6) then
      some { state := st, drop := d, address := (byteAt l 2).extractLsb' 0 5, kind := k, period := period,
             link := byteAt l 6, location := word16At l 7, shed := sh }
    else none
  | _, _, _, _ => none

/-- The kind link as a record shows it: PHONE none, TOLL the slot's own answer list (R40). -/
def Station.linkByte (e : Station) (slot : Nat) : Byte :=
  match e.kind with
  | .phone => 255
  | .toll => byte slot
  | .sign | .weather => e.link

/-- 12.3: a station record. Its use in the image (12.5) writes the state byte, too, as the run-time state stands, ONLINE, SILENT or
OFFLINE: DESIGN CHOICE (log entry 49). -/
def Station.record (e : Station) (slot : Nat) : List Byte :=
  [e.state.code, byte e.drop.val, 0#3 ++ e.address, e.kind.code] ++ nat16 (e.period / 10) ++ [e.linkByte slot]
    ++ (if e.kind = .phone then be16 e.location else be16 65535) ++ [flagByte e.shed]

/-- The range of a quantity when formed (R136). -/
def Quantity.lowest : Quantity → Int
  | .surface | .air => -4000
  | .humidity | .visibility | .light | .windMean | .windGust => 0

def Quantity.highest : Quantity → Int
  | .surface | .air => 8000
  | .humidity => 1000
  | .visibility => 20000
  | .light => 65535
  | .windMean | .windGust => 999

/-- SURFACE and AIR are signed, the others unsigned (chapter 12). -/
def Quantity.ofWord (q : Quantity) (x : BitVec 16) : Int :=
  match q with
  | .surface | .air => x.toInt
  | .humidity | .visibility | .light | .windMean | .windGust => x.toNat

structure RuleRecord where
  enabled : Bool
  source : Fin 8
  quantity : Quantity
  sense : Sense
  setLevel : Int
  clearLevel : Int
  p : Nat
  link : Option (Fin 32)
  signs : BitVec 12
  page : Fin 8
  priority : Nat
deriving DecidableEq, Repr

/-- A rule's levels: each in its quantity's range, in the order its sense needs (R142). -/
def levelsOk (q : Quantity) (sn : Sense) (set clear : Int) : Bool :=
  q.lowest ≤ set && set ≤ q.highest && q.lowest ≤ clear && clear ≤ q.highest &&
    (match sn with
     | .below => set ≤ clear
     | .above => clear ≤ set)

/-- A rule's link byte: an index 0 to 31, or 255 for none. -/
def ruleLink? (b : Byte) : Option (Option (Fin 32)) :=
  if b = 255 then some none else (fin? 32 b.toNat).map some

/-- R142: the fields of a rule write, or none when one lies outside its range. -/
def RuleRecord.ofBytes? (l : List Byte) : Option RuleRecord :=
  match flagOf? (byteAt l 0), fin? 8 (byteAt l 1).toNat, Quantity.ofCode? (byteAt l 2), Sense.ofCode? (byteAt l 3),
      ruleLink? (byteAt l 9), fin? 8 (byteAt l 12).toNat with
  | some en, some src, some q, some sn, some lk, some pg =>
    let set := q.ofWord (word16At l 4)
    let clear := q.ofWord (word16At l 6)
    if levelsOk q sn set clear ∧ 1 ≤ (byteAt l 8).toNat ∧ (byteAt l 8).toNat ≤ 15 ∧ (word16At l 10).toNat < 4096
        ∧ 1 ≤ (byteAt l 13).toNat ∧ (byteAt l 13).toNat ≤ 15 then
      some { enabled := en, source := src, quantity := q, sense := sn, setLevel := set, clearLevel := clear,
             p := (byteAt l 8).toNat, link := lk, signs := (word16At l 10).extractLsb' 0 12, page := pg,
             priority := (byteAt l 13).toNat }
    else none
  | _, _, _, _, _, _ => none

def Rule.record (r : Rule) : List Byte :=
  [flagByte r.enabled, byte r.source.val, r.quantity.code, r.sense.code] ++ int16 r.setLevel ++ int16 r.clearLevel
    ++ [byte r.p] ++ byteOr (r.link.map (·.val)) ++ be16 (0#4 ++ r.signs) ++ [byte r.page.val, byte r.priority]

/-- R149: the intensity mode a SIGN record carries (its station slot is ignored), or none when out of range. -/
def IntensityMode.ofBytes? (l : List Byte) : Option IntensityMode :=
  if byteAt l 1 = 0 then
    if (byteAt l 2).toNat ≤ 100 then some (.fixed (byteAt l 2).toNat) else none
  else if byteAt l 1 = 1 then
    match fin? 8 (byteAt l 2).toNat with
    | some k =>
      if (byteAt l 3).toNat ≤ 50 ∧ (word16At l 4).toNat ≤ 4095 then
        some (.ambient k (byteAt l 3).toNat (word16At l 4).toNat)
      else none
    | none => none
  else none

/-- A SIGN record with this station slot byte; a FIXED mode has no minimum and no slope, and both are sent as 0. -/
def IntensityMode.record (m : IntensityMode) (station : List Byte) : List Byte :=
  station ++
    (match m with
     | .fixed level => [0, byte level, 0] ++ nat16 0
     | .ambient k minimum slope => [1, byte k.val, byte minimum] ++ nat16 slope)

structure SlotRecord where
  depth : Nat
  offset : Bool
  kw : Nat
  useLight : Bool
deriving DecidableEq, Repr

/-- The averaging depths of R127. -/
def depthOk (n : Nat) : Bool := n == 1 || n == 2 || n == 4 || n == 8

/-- R129. -/
def SlotRecord.ofBytes? (l : List Byte) : Option SlotRecord :=
  match flagOf? (byteAt l 1), flagOf? (byteAt l 4) with
  | some off, some lt =>
    if depthOk (byteAt l 0).toNat ∧ 1 ≤ (word16At l 2).toNat ∧ (word16At l 2).toNat ≤ 4000 then
      some ⟨(byteAt l 0).toNat, off, (word16At l 2).toNat, lt⟩
    else none
  | _, _ => none

def ReductionSlot.record (r : ReductionSlot) : List Byte :=
  [byte r.depth, flagByte r.offset] ++ nat16 r.kw ++ [flagByte r.useLight]

/-- The order R162 asks of the four levels. -/
def feedLevelsOk (ce cx he hx : Nat) : Bool :=
  ce ≤ 4000 && cx ≤ 4000 && he ≤ 4000 && hx ≤ 4000 && ce < cx && he < hx && he ≤ ce

/-- R162, R170: every node parameter, or none when one is out of range or the levels break their order. -/
def Params.ofBytes? (l : List Byte) : Option Params :=
  let p : Params :=
    { ringSize := (byteAt l 0).toNat,
      weights := { tq := (byteAt l 1).toNat, mq := (byteAt l 2).toNat, aq := (byteAt l 3).toNat },
      conserveEntry := (word16At l 4).toNat, conserveExit := (word16At l 6).toNat, holdupEntry := (word16At l 8).toNat,
      holdupExit := (word16At l 10).toNat, primary := (byteAt l 12).extractLsb' 0 5,
      secondary := (byteAt l 13).extractLsb' 0 5 }
  if 1 ≤ p.ringSize ∧ p.ringSize ≤ 24 ∧ p.weights.tq ≤ 32 ∧ p.weights.mq ≤ 32 ∧ p.weights.aq ≤ 32
      ∧ feedLevelsOk p.conserveEntry p.conserveExit p.holdupEntry p.holdupExit
      ∧ (byteAt l 12).toNat ≤ 23 ∧ (byteAt l 13).toNat ≤ 23 then some p else none

def Params.record (p : Params) : List Byte :=
  [byte p.ringSize, byte p.weights.tq, byte p.weights.mq, byte p.weights.aq] ++ nat16 p.conserveEntry
    ++ nat16 p.conserveExit ++ nat16 p.holdupEntry ++ nat16 p.holdupExit ++ [0#3 ++ p.primary, 0#3 ++ p.secondary]

/-! ### Store slots (12.5) -/

/-- A slot with this mark over these bytes 3 to 63. -/
def slotBytes (mark : Byte) (rest : List Byte) : List Byte :=
  mark :: (be16 (crc16 (sized 61 rest)) ++ sized 61 rest)

/-- R114: a slot is valid when its check is correct over bytes 3 to 63. -/
def slotValid (l : List Byte) : Bool := l.length == 64 && crc16 (l.drop 3) == word16At l 1

/-- The journal slot of a record (R99, 12.5). -/
def journalSlot (serial : Nat) (node : NodeId) (t : Txn) : List Byte :=
  slotBytes markHeld
    (nat32 serial ++ [0#3 ++ node, byte t.drop.val, 0#3 ++ t.address] ++ be16 t.number ++ sized 40 t.body)

def slotSerial (l : List Byte) : Nat := (word32At l 3).toNat

/-- The fields of a journal slot that its TOLL block carries. -/
def TollRecord.ofSlot (l : List Byte) : TollRecord :=
  { drop := byteAt l 8, address := byteAt l 9, number := word16At l 10, body := (l.drop 12).take 40 }

/-- An image slot of this generation with its entries (R122). -/
def imageSlot (generation : BitVec 32) (entries : List Byte) : List Byte :=
  slotBytes markValid (be32 generation ++ sized 57 entries)

/-- The header of slot 8064 (R122). -/
def headerSlot (generation : BitVec 32) (imageCheck : BitVec 32) : List Byte :=
  slotBytes markValid (be32 generation ++ [26] ++ be32 imageCheck)

def slotGeneration (l : List Byte) : BitVec 32 := word32At l 3

/-- R122: a header is valid when its mark is VALID, its check is correct and its slot count is 26. -/
def headerValid (l : List Byte) : Bool := slotValid l && byteAt l 0 == markValid && byteAt l 7 == 26

def headerImageCheck (l : List Byte) : BitVec 32 := word32At l 8

end Sys2Proof.Machine
end

