-- ==== Sys2Proof/Machine/Flags.lean ====
section
/-! DEFINITION. The conditions the blocks read from state: link and ring derivations, port assignments, what the journal holds,
seats, and the free units of the page store. Nothing here changes State. -/

namespace Sys2Proof.Machine

/-! ### Identity (R1) -/

/-- REPEATER condition: a strapped value of 24 to 31. -/
def State.repeater (s : State) : Bool := 24 ≤ s.straps.toNat

/-- The node id as the record and call id byte. -/
def State.nodeByte (s : State) : Byte := 0#3 ++ s.straps

/-! ### Directions and sides (R2) -/

def otherSide : Side → Side
  | .E => .W
  | .W => .E

/-- The ring a block arriving on this side travels. -/
def directionOn : Side → Dir
  | .W => .CW
  | .E => .CCW

/-- The side a buffer is fed from, where its HOLDOFF is sent (1.7). -/
def fedFrom : Dir → Side
  | .CW => .W
  | .CCW => .E

/-- The natural out port of a buffer's blocks (R30); local blocks have E. -/
def naturalPort : Dir → Side
  | .CW => .E
  | .CCW => .W

/-! ### Ring protection (R29 to R31) -/

/-- R29: a side is faulted when its receive port is not UP or its far-fault flag is 1. -/
def RxPort.faulted (p : RxPort) : Bool := p.link != .up || p.farFault

/-- R29. -/
def ringOf (faultE faultW : Bool) : RingState :=
  match faultE, faultW with
  | false, false => .closed
  | true, false => .wrapE
  | false, true => .wrapW
  | true, true => .isolated

def Protection.derived (p : Protection) : RingState := ringOf p.ports.e.faulted p.ports.w.faulted

/-- R31: the transit buffers an out port serves. -/
def RingState.serves : RingState → Side → List Dir
  | .closed, .E => [.CW]
  | .closed, .W => [.CCW]
  | .wrapE, .W => [.CW, .CCW]
  | .wrapE, .E => []
  | .wrapW, .E => [.CW, .CCW]
  | .wrapW, .W => []
  | .isolated, _ => []

/-- R31. -/
def RingState.insertion : RingState → Option Side
  | .closed => some .E
  | .wrapE => some .W
  | .wrapW => some .E
  | .isolated => none

/-- R30: a block of this natural port reaches the wrap point. -/
def RingState.wraps : RingState → Side → Bool
  | .wrapE, .E => true
  | .wrapW, .W => true
  | _, _ => false

/-! ### The lane table (R9, R11) -/

def laneIndex (lane : BitVec 6) : Fin 64 := lane.toFin

/-- The lanes 0 to 62, lowest first. -/
def ordinaryLanes : List (Fin 64) := (List.finRange 64).take 63

/-- R11: the lowest-numbered ACTIVE lane of a service. -/
def State.laneFor (s : State) (sv : LaneService) : Option (Fin 64) :=
  ordinaryLanes.find? fun i => s.lanes[i].active && s.lanes[i].service == sv

/-- R66: the lowest-numbered ACTIVE VOICE lane with no binding. -/
def State.freeVoiceLane (s : State) : Option (Fin 64) :=
  ordinaryLanes.find? fun i => s.lanes[i].active && s.lanes[i].service == .voice && s.lanes[i].binding.isNone

/-- R9: the kind fits an ordinary lane. -/
def LaneEntry.fits (e : LaneEntry) (k : BlockKind) : Bool :=
  match e.service, k with
  | .voice, .voice => e.binding.isSome
  | .call, .call => true
  | .toll, .tollctl => true
  | _, _ => false

/-- R9: the three conditions on a block offered for local delivery. -/
def State.acceptsLocal (s : State) (b : Block) : Bool :=
  let i := laneIndex b.lane
  if i.val = 63 then
    (b.src == s.agent.params.primary || b.src == s.agent.params.secondary) && b.kind == .mgt
  else
    s.lanes[i].active && b.src == s.lanes[i].peer && s.lanes[i].fits b.kind

/-! ### Insert queues (R15, R16) -/

def LocalQueue.capacity : LocalQueue → Nat
  | .eq => 32
  | .tq => 16
  | .mq => 16
  | .aq => 16

def RingTransit.queue (r : RingTransit) : LocalQueue → List Block
  | .eq => r.eq
  | .tq => r.tq
  | .mq => r.mq
  | .aq => r.aq

/-- Whether an offer to a local insert queue is taken (R1, R15, R16). -/
def State.takes (s : State) (q : LocalQueue) : Bool :=
  !s.repeater && s.prot.ring != .isolated && decide ((s.ring.queue q).length < q.capacity)

/-! ### Stations and drops -/

def Station.inUse (e : Station) : Bool := e.state != .unused

/-- The sign record a station's link names (R40). -/
def signOf? (link : Byte) : Option (Fin 12) := fin? 12 link.toNat

/-- The reduction slot a station's link names (R40). -/
def slotOf? (link : Byte) : Option (Fin 8) := fin? 8 link.toNat

/-- R42: the entry is still in use with the snapshot's drop, address and kind. -/
def Station.matches (e : Station) (x : Snapshot) : Bool :=
  e.inUse && e.drop == x.drop && e.address == x.address && e.kind == x.kind

/-- R46. -/
def Station.effectivePeriod (e : Station) (sup : SupplyState) : Nat :=
  match e.state with
  | .offline => 1000
  | _ => if e.kind = .weather ∧ sup = .conserve then 4 * e.period else e.period

/-- R50: a station poll that has fallen due is skipped. -/
def State.skips (s : State) (e : Station) : Bool :=
  (s.sup.state == .conserve && e.shed) || (s.sup.state == .holdup && e.kind != .phone) ||
    (e.kind == .toll && s.jrnl.cond == .recovering)

/-- Entries in use on a drop (R41). -/
def State.inUseOn (s : State) (d : Fin 4) : Nat :=
  ((List.finRange 32).filter fun i => s.poll.stations[i].inUse && s.poll.stations[i].drop == d).length

/-! ### Calls (R57 to R66) -/

/-- R57: a record is seated from SEIZED until CLEARING or FREE. -/
def CallState.seated : CallState → Bool
  | .free | .clearing => false
  | .seized | .calling | .queued | .connected | .isolated => true

/-- The record that holds a phone. -/
def State.recordOf (s : State) (slot : Fin 32) : Option (Fin 16) :=
  (List.finRange 16).find? fun r => s.calls.records[r].state != .free && s.calls.records[r].phone == some slot

/-- The seated record that holds a phone. -/
def State.seatedRecordOf (s : State) (slot : Fin 32) : Option (Fin 16) :=
  (List.finRange 16).find? fun r => s.calls.records[r].state.seated && s.calls.records[r].phone == some slot

def State.onWaitList (s : State) (slot : Fin 32) : Bool := s.calls.waitList.any (·.slot == slot)

/-- Whether a record holds a voice seat on a drop (R58). -/
def State.seatedOn (s : State) (d : Fin 4) (r : Fin 16) : Bool :=
  s.calls.records[r].state.seated &&
    (match s.calls.records[r].phone with
     | some slot => s.poll.stations[slot].drop == d
     | none => false)

/-- R58: the voice seats taken on a drop. -/
def State.seats (s : State) (d : Fin 4) : Nat := ((List.finRange 16).filter (s.seatedOn d)).length

def State.seatFree (s : State) (d : Fin 4) : Bool := decide (s.seats d < 4)

/-- The lowest-indexed FREE record. -/
def State.freeRecord (s : State) : Option (Fin 16) :=
  (List.finRange 16).find? fun r => s.calls.records[r].state == .free

/-- The non-FREE record that holds a call id (R68 to R70). -/
def State.recordWithId (s : State) (c : CallId) : Option (Fin 16) :=
  (List.finRange 16).find? fun r => s.calls.records[r].state != .free && s.calls.records[r].callId == some c

/-- R66: the signalling path is available. -/
def State.pathAvailable (s : State) : Bool :=
  s.prot.ring != .isolated && (s.laneFor .call).isSome && s.freeVoiceLane.isSome

/-- A record clearing for a local reason, ON-HOOK or LINE-LOST. -/
def CallRecord.clearingLocal (r : CallRecord) : Bool :=
  r.state == .clearing && (r.reason == some .onHook || r.reason == some .lineLost)

/-- R60: the hook state a phone is expected in; true is OFF-HOOK. -/
def State.expectsOffHook (s : State) (slot : Fin 32) : Bool :=
  match s.recordOf slot with
  | some r => !s.calls.records[r].clearingLocal
  | none => s.onWaitList slot

/-- R61: the tone a phone hears. -/
def State.toneOf (s : State) (slot : Fin 32) : Tone :=
  match s.recordOf slot with
  | none => .hold
  | some r =>
    match s.calls.records[r].state with
    | .free => .hold
    | .seized | .calling => .ringback
    | .queued => .hold
    | .connected => .none
    | .isolated => .hold
    | .clearing => .cleared

/-! ### The journal's RAM view (R98) -/

/-- The journal region's slots, in cyclic order. -/
def journalSlots : Nat := 8064

def nextSlot (slot : Nat) : Nat := (slot + 1) % journalSlots

/-- The next slot in cyclic order that is not bad; a list of n bad slots is passed over in at most n steps. -/
def nextGoodFrom (bad : List Nat) : Nat → Nat → Nat
  | 0, slot => slot
  | n + 1, slot => if bad.contains slot then nextGoodFrom bad n (nextSlot slot) else slot

def nextGood (bad : List Nat) (slot : Nat) : Nat := nextGoodFrom bad bad.length (nextSlot slot)

/-- The slots of n held records from this slot on, oldest first. -/
def heldRun (bad : List Nat) : Nat → Nat → List Nat
  | 0, _ => []
  | n + 1, slot => slot :: heldRun bad n (nextGood bad slot)

def Journal.heldSlots (j : Journal) : List Nat :=
  match j.oldest with
  | none => []
  | some h => heldRun j.bad j.held h.slot

def Journal.holdsSlot (j : Journal) (slot : Nat) : Bool := j.heldSlots.contains slot

/-- The slot of a held serial. -/
def Journal.slotOf (j : Journal) (serial : Nat) : Option Nat :=
  match j.oldest with
  | none => none
  | some h => if serial < h.serial then none else j.heldSlots[serial - h.serial]?

def Journal.holdsSerial (j : Journal) (serial : Nat) : Bool :=
  match j.oldest with
  | none => false
  | some h => h.serial ≤ serial && serial < h.serial + j.held

/-- R98. -/
def Journal.freeCount (j : Journal) : Nat := journalSlots - j.held - j.bad.length

def Journal.isInTransit (j : Journal) (serial : Nat) : Bool := j.inTransit.any (·.serial == serial)

def Journal.isReading (j : Journal) (serial : Nat) : Bool := j.readAhead.any (·.serial == serial)

/-- The first serial of n from k that is neither READING nor IN-TRANSIT. -/
def Journal.firstUnsent (j : Journal) : Nat → Nat → Option Nat
  | 0, _ => none
  | n + 1, k => if j.isInTransit k || j.isReading k then j.firstUnsent n (k + 1) else some k

/-- R104: the send cursor. -/
def Journal.sendCursor (j : Journal) : Option Nat :=
  match j.oldest with
  | none => none
  | some h => j.firstUnsent j.held h.serial

/-- R96, R103, R117: ACCEPTING, FULL or HALTED. -/
def JournalCond.drains : JournalCond → Bool
  | .accepting | .full | .halted => true
  | .recovering | .fault => false

/-- The earliest send time of an IN-TRANSIT record. -/
def earliestSend : List InTransit → Option Nat
  | [] => none
  | x :: l =>
    match earliestSend l with
    | none => some x.sentAt
    | some t => some (min x.sentAt t)

/-- R106: the revert timer's deadline, none while no record is IN-TRANSIT. -/
def Journal.revertAt (j : Journal) : Option Nat := (earliestSend j.inTransit).map (· + 5000)

/-- R104: the terms under which a further READ is requested. -/
def Journal.mayRequest (j : Journal) : Bool :=
  j.cond.drains && decide (j.readAhead.length < j.credit) && decide (j.readAhead.length < 4) &&
    decide (j.inTransit.length + j.readAhead.length < 64)

/-- R99, R117 step 3: a commit may start. -/
def Journal.mayCommit (j : Journal) : Bool :=
  j.cond == .accepting &&
    (match j.hand with
     | some h => h.retry
     | none => !j.staging.isEmpty && decide (j.nextSerial < 4294967295))

/-! ### The management agent (R173) -/

/-- NOT-READY while the store controller is SCANNING or LOADING. -/
def State.notReady (s : State) : Bool := s.ctl.state == .scanning || s.ctl.state == .loading

/-! ### Weather, rules and signs -/

def Derived.get (d : Derived) : Quantity → Option Int
  | .surface => d.surface
  | .air => d.air
  | .humidity => d.humidity
  | .visibility => d.visibility
  | .light => d.light
  | .windMean => d.windMean
  | .windGust => d.windGust

/-- R147: a rule's own state is ACTIVE or PENDING-CLEAR. -/
def Rule.holds (r : Rule) : Bool := r.state == .active || r.state == .pendingClear

/-- R147: the effective state of a rule, its link read one level deep. -/
def ruleEffective (rules : Vector Rule 32) (i : Fin 32) : Bool :=
  rules[i].holds &&
    (match rules[i].link with
     | none => true
     | some k => rules[k].holds)

/-- The value a rule watches, when formed. -/
def State.ruleValue (s : State) (i : Fin 32) : Option Int :=
  s.slots[s.rules[i].source].derived.get s.rules[i].quantity

/-- R150: the units no page holds, lowest first. -/
def SignService.freeUnits (g : SignService) : List Nat :=
  let held := (List.finRange 12).flatMap fun k => (List.finRange 8).flatMap fun p => g.signs[k].pages[p].units
  (List.range 256).filter fun u => !held.contains u

end Sys2Proof.Machine
end

