-- ==== Sys2Proof/Machine/Ops.lean ====
section
/-! DEFINITION. The named operations that every block shares: the clock, counters, updates of one block's state, free choices,
memory, offers to the insert queues and to RQ, and the queuing of notices. -/

namespace Sys2Proof.Machine

/-! ### Updates of one block's state -/

def State.modRing (s : State) (f : RingTransit → RingTransit) : State := { s with ring := f s.ring }
def State.modLanes (s : State) (f : Vector LaneEntry 64 → Vector LaneEntry 64) : State := { s with lanes := f s.lanes }
def State.modProt (s : State) (f : Protection → Protection) : State := { s with prot := f s.prot }
def State.modPoll (s : State) (f : Poller → Poller) : State := { s with poll := f s.poll }
def State.modCalls (s : State) (f : CallEngine → CallEngine) : State := { s with calls := f s.calls }
def State.modJrnl (s : State) (f : Journal → Journal) : State := { s with jrnl := f s.jrnl }
def State.modCtl (s : State) (f : StoreController → StoreController) : State := { s with ctl := f s.ctl }
def State.modNv (s : State) (f : Memory → Memory) : State := { s with nv := f s.nv }
def State.modSlots (s : State) (f : Vector ReductionSlot 8 → Vector ReductionSlot 8) : State := { s with slots := f s.slots }
def State.modRules (s : State) (f : Vector Rule 32 → Vector Rule 32) : State := { s with rules := f s.rules }
def State.modSign (s : State) (f : SignService → SignService) : State := { s with sign := f s.sign }
def State.modSup (s : State) (f : Supply → Supply) : State := { s with sup := f s.sup }
def State.modAgent (s : State) (f : Agent → Agent) : State := { s with agent := f s.agent }

/-- Replace one element of a table. -/
def updAt {α : Type} {n : Nat} (v : Vector α n) (i : Fin n) (f : α → α) : Vector α n := v.set i (f v[i])

def State.modLane (s : State) (i : Fin 64) (f : LaneEntry → LaneEntry) : State := s.modLanes (updAt · i f)
def State.modStation (s : State) (i : Fin 32) (f : Station → Station) : State :=
  s.modPoll fun p => { p with stations := updAt p.stations i f }
def State.modDrop (s : State) (d : Fin 4) (f : Drop → Drop) : State :=
  s.modPoll fun p => { p with drops := updAt p.drops d f }
def State.modRecord (s : State) (r : Fin 16) (f : CallRecord → CallRecord) : State :=
  s.modCalls fun c => { c with records := updAt c.records r f }
def State.modAnswers (s : State) (i : Fin 32) (f : List AnswerEntry → List AnswerEntry) : State :=
  s.modJrnl fun j => { j with answers := updAt j.answers i f }
def State.modSlot (s : State) (k : Fin 8) (f : ReductionSlot → ReductionSlot) : State := s.modSlots (updAt · k f)
def State.modRule (s : State) (i : Fin 32) (f : Rule → Rule) : State := s.modRules (updAt · i f)
def State.modSignRec (s : State) (k : Fin 12) (f : Sign → Sign) : State :=
  s.modSign fun g => { g with signs := updAt g.signs k f }
def State.modPort (s : State) (p : Side) (f : RxPort → RxPort) : State :=
  s.modProt fun x => { x with ports := x.ports.upd p f }
def State.modOut (s : State) (p : Side) (f : OutPort → OutPort) : State :=
  s.modRing fun x => { x with out := x.out.upd p f }

/-! ### Counters, the clock and free choices -/

/-- Every counter counts from 0 and stops at 4294967295 (R23, R37, R56 and the other chapters' counter rules). -/
def bumpBy (n k : Nat) : Nat := min 4294967295 (n + k)

def bump (n : Nat) : Nat := bumpBy n 1

/-- An expiry is the moment a timer reaches its duration: the clock stands at the timer's deadline or later (log entry 11). -/
def State.reach (s : State) (t : Nat) : State := { s with now := max s.now t }

/-- The next free choice between two events that may be taken in either order. -/
def State.choice (s : State) : Bool := Config.freeChoice s.free

def State.spend (s : State) (n : Nat) : State := { s with free := s.free + n }

/-! ### Memory: sorted by address, listing no byte equal to what an unlisted address reads as -/

/-- What an unlisted byte of the external store reads as: erased (R114; log entry 12). -/
def storeBlank : Byte := 255

/-- What an unlisted byte of the page store reads as (R150 zeroes every unit taken; log entry 12). -/
def pageBlank : Byte := 0

/-- The byte at an address of a memory whose unlisted bytes read as d. -/
def Memory.read (d : Byte) : Memory → Nat → Byte
  | [], _ => d
  | (k, b) :: m, a => if k = a then b else Memory.read d m a

/-- The memory with one byte written, in canonical form when it was. -/
def Memory.write (d : Byte) : Memory → Nat → Byte → Memory
  | [], a, b => if b = d then [] else [(a, b)]
  | (k, c) :: m, a, b =>
    if a < k then (if b = d then (k, c) :: m else (a, b) :: (k, c) :: m)
    else if a = k then (if b = d then m else (a, b) :: m)
    else (k, c) :: Memory.write d m a b

/-- Bytes written from an address on. -/
def Memory.writeList (d : Byte) (m : Memory) (a : Nat) : List Byte → Memory
  | [] => m
  | b :: l => Memory.writeList d (Memory.write d m a b) (a + 1) l

/-- n bytes from an address on. -/
def Memory.readList (d : Byte) (m : Memory) (a : Nat) : Nat → List Byte
  | 0 => []
  | n + 1 => Memory.read d m a :: Memory.readList d m (a + 1) n

/-- The canonical form: addresses strictly rising, and no entry equal to what an unlisted address reads as. -/
def Memory.wf (d : Byte) : Memory → Bool
  | [] => true
  | (k, b) :: m => b != d && (match m with | [] => true | (k', _) :: _ => decide (k < k')) && Memory.wf d m

/-- The 64 bytes of a store slot. -/
def State.storeSlot (s : State) (slot : Nat) : List Byte := Memory.readList storeBlank s.nv (64 * slot) 64

/-- A store slot holding these bytes. -/
def State.putSlot (s : State) (slot : Nat) (l : List Byte) : State :=
  s.modNv fun m => Memory.writeList storeBlank m (64 * slot) (l.take 64)

/-- STATE-WRITE: the mark alone is rewritten (7.1). -/
def State.putMark (s : State) (slot : Nat) (mark : Byte) : State :=
  s.modNv fun m => Memory.write storeBlank m (64 * slot) mark

/-- What a READ of a slot returns: the slot as the store keeps it, or what the store is found to hold there instead. -/
def State.readBack (s : State) (slot : Nat) (got : ReadBack) : List Byte :=
  match got with
  | none => s.storeSlot slot
  | some l => l

/-- The store after that READ: the slot holds what it was found to hold. -/
def State.afterRead (s : State) (slot : Nat) (got : ReadBack) : State :=
  match got with
  | none => s
  | some l => s.putSlot slot l

/-! ### Offers to the insert queues (R11, R15, R16) -/

def RingTransit.push (r : RingTransit) (q : LocalQueue) (b : Block) : RingTransit :=
  match q with
  | .eq => { r with eq := r.eq ++ [b] }
  | .tq => { r with tq := r.tq ++ [b] }
  | .mq => { r with mq := r.mq ++ [b] }
  | .aq => { r with aq := r.aq ++ [b] }

/-- R11: ring transit completes the header of a local block with src, wrapped and hops. -/
def State.completed (s : State) (b : Block) : Block :=
  { b with src := s.straps, wrapped := false, hops := BitVec.ofNat 6 (2 * s.agent.params.ringSize) }

/-- A local block joins its queue; used where `takes` holds. -/
def State.join (s : State) (q : LocalQueue) (b : Block) : State := s.modRing (·.push q (s.completed b))

/-- R181: the fixed RING blocks. -/
def State.ringBlock (s : State) (subtype : BitVec 4) (body : List Byte) : Block :=
  { kind := .ring, subtype := subtype, wrapped := false, dst := 31, src := s.straps, lane := 0, hops := 0, seq := 0,
    body := body }

/-- R15: a RING block is offered to RQ naming its out port; a refused one is discarded and counted. -/
def State.offerRing (s : State) (port : Side) (subtype : BitVec 4) (body : List Byte) : State :=
  if s.ring.rq.length < 4 then
    s.modRing fun r => { r with rq := r.rq ++ [{ port := port, block := s.ringBlock subtype body }] }
  else
    s.modRing fun r => { r with tx := r.tx.upd port fun c => { c with rqRefused := bump c.rqRefused } }

/-- A block for lane 63 or for an ordinary lane, before its header is completed. -/
def localBlock (kind : BlockKind) (subtype : BitVec 4) (lane : Fin 64) (dst : NodeId) (seq : Byte) (body : List Byte) : Block :=
  { kind := kind, subtype := subtype, wrapped := false, dst := dst, src := 0, lane := BitVec.ofFin lane, hops := 0,
    seq := seq, body := body }

/-- The management lane. -/
def lane63 : Fin 64 := 63

/-! ### Notices (R179) -/

def NoticeBody.code : NoticeBody → Byte
  | .link .. => 1 | .ring .. => 2 | .station .. => 3 | .waitList .. => 4 | .highMark .. => 5 | .full .. => 6
  | .fault .. => 7 | .recovered .. => 8 | .supply .. => 9 | .saved .. => 10 | .failed .. => 11 | .rule .. => 12
  | .stale .. => 13

/-- The object content of a notice: its fields in the order of the notice table (11.7, 12.6). A link change with no cause, at entry
to UP, carries 255 in the cause's place (DESIGN CHOICE, log entry 42). -/
def NoticeBody.bytes : NoticeBody → List Byte
  | .link port state neighbour cause =>
    [sideCode port, state.code] ++ byteOr (neighbour.map (·.toNat)) ++ [match cause with | some c => c.code | none => 255]
  | .ring old new => [old.code, new.code]
  | .station slot drop address kind state => [byte slot.val, byte drop.val, 0#3 ++ address, kind.code, state.code]
  | .waitList listed => [Config.unlistedCode .waitList (if listed = 0 then 0 else 1), byte listed]
  | .highMark held => nat16 held
  | .full held => nat16 held
  | .fault cause => [cause.code]
  | .recovered held nextSerial orphans bad => nat16 held ++ nat32 nextSerial ++ nat16 orphans ++ [byte bad]
  | .supply old new cause average => [old.code, new.code, cause.code] ++ nat16Or average
  | .saved generation => be32 generation
  | .failed cause => [cause.code]
  | .rule i effective own value => [byte i.val, flagByte effective, own.code] ++ int16Or value
  | .stale slot fed => [byte slot.val] ++ byteOr (fed.map (·.val))

/-- The NOTE block of a notice, to the primary control node as the control list stands (R179, 12.2). -/
def State.noteBlock (s : State) (n : Notice) : Block :=
  localBlock .note (Config.plainSubtype 9) lane63 s.agent.params.primary (Config.plainSeq 9) (be16 n.serial ++ nat32 n.time ++ [n.body.code] ++ n.body.bytes)

/-- The head of the notice queue passes to MQ; used where MQ takes it. -/
def State.passNotice (s : State) : State :=
  match s.agent.notices with
  | [] => s
  | n :: rest => (s.join .mq (s.noteBlock n)).modAgent fun a => { a with notices := rest }

/-- The offer of the notice queue's head (R179). -/
def State.offerNotice (s : State) : State := if s.takes .mq then s.passNotice else s

/-- R179: a notice takes the next serial and its time, and joins the queue or is lost; joining an empty queue offers it. No
notice is queued in REPEATER condition (R36, R169). -/
def State.notify (s : State) (body : NoticeBody) : State :=
  if s.repeater then s
  else
    let n : Notice := { serial := s.agent.serial, time := s.now % 4294967296, body := body }
    if s.agent.notices.length < 16 then
      let s1 := s.modAgent fun a =>
        { a with serial := a.serial + 1, notices := a.notices ++ [n], queued := bump a.queued }
      if s.agent.notices.isEmpty then s1.offerNotice else s1
    else
      s.modAgent fun a => { a with serial := a.serial + 1, lost := bump a.lost }

/-! ### Shared loops -/

/-- Apply a step for each member of a list, in order. -/
def State.forEach {α : Type} (s : State) (l : List α) (f : α → State → State) : State := l.foldl (fun s x => f x s) s

end Sys2Proof.Machine
end

