-- ==== Sys2Proof/Machine/Store.lean ====
section
/-! DEFINITION. The store controller and its arbiter (7.2, 7.3), and the content of the configuration image (R122). -/

namespace Sys2Proof.Machine

/-! ### The image's sections (R122) -/

/-- The records of a run of table entries. -/
def records {n : Nat} (l : List (Fin n)) (start count : Nat) (f : Fin n → List Byte) : List Byte :=
  ((l.drop start).take count).flatMap f

/-- The entries of image slot k, k from 0 for slot 8065, as their tables stand (R122, R123). A sign's station slot byte is
saved as 255 (12.5). DESIGN CHOICE (log entry 49): a station's state byte is saved as the run-time state stands. -/
def State.imageEntries (s : State) (k : Nat) : List Byte :=
  if k < 4 then records ordinaryLanes (16 * k) 16 fun i => s.lanes[i].record
  else if k < 12 then records (List.finRange 32) (4 * (k - 4)) 4 fun i => s.poll.stations[i].record i.val
  else if k < 20 then records (List.finRange 32) (4 * (k - 12)) 4 fun i => s.rules[i].record
  else if k < 23 then records (List.finRange 12) (4 * (k - 20)) 4 fun k => s.sign.signs[k].mode.record [255]
  else if k < 25 then records (List.finRange 8) (4 * (k - 23)) 4 fun k => s.slots[k].record
  else s.agent.params.record

/-- The slot written by save step n, and its content as the tables stand now (R123, steps 2 to 28). -/
def State.saveContent (s : State) (sv : Save) : Nat × List Byte :=
  if sv.next < 28 then (8063 + sv.next, imageSlot sv.generation (s.imageEntries (sv.next - 2)))
  else (8064, headerSlot sv.generation (~~~ sv.check))

/-! ### Starting an operation -/

/-- The counters an operation's start moves (R126). -/
def StoreCounters.started (c : StoreCounters) : StoreOp → StoreCounters
  | .commit _ _ .write | .saveSlot _ _ .write => { c with slotWrites := bump c.slotWrites }
  | .mark _ | .saveMark => { c with stateWrites := bump c.stateWrites }
  | .commit _ _ .verify | .saveSlot _ _ .verify | .read .. | .scan _ | .load _ => { c with reads := bump c.reads }

/-- A step starts: its 50 ms timer runs (R116). The controller's state is set by the caller. -/
def State.startStep (s : State) (op : StoreOp) : State :=
  s.modCtl fun c => { c with op := some op, timer := some (s.now + 50), ctr := c.ctr.started op }

/-- The arbiter starts an operation for a client: OPERATING (R115). -/
def State.startOp (s : State) (op : StoreOp) : State :=
  (s.startStep op).modCtl fun c => { c with state := .operating }

/-- A departure from staging that leaves 16 or fewer ends overrun (R95). -/
def Journal.takeHead (j : Journal) (rest : List Txn) : Journal :=
  { j with staging := rest, overrun := j.overrun && decide (16 < rest.length) }

/-- R99: the commit in hand that a commit's start makes of the journal: the one awaiting a retry, or the head of staging with
the next serial. -/
def Journal.takeCommit (j : Journal) : Journal :=
  match j.hand with
  | some h => { j with hand := some { h with retry := false } }
  | none =>
    match j.staging with
    | [] => j
    | t :: rest =>
      { j.takeHead rest with hand := some { serial := j.nextSerial, txn := t, retry := false }, nextSerial := j.nextSerial + 1 }

/-- R99, R108, R118: a commit write starts at the write cursor, and that slot leaves the pending marks. -/
def State.startCommit (s : State) : State :=
  let s1 := s.modJrnl fun j =>
    let j1 := j.takeCommit
    { j1 with pendingMarks := j1.pendingMarks.filter (· != j1.cursor) }
  match s1.jrnl.hand with
  | none => s1
  | some h => s1.startOp (.commit s1.jrnl.cursor (journalSlot h.serial s1.straps h.txn) .write)

/-- R117 step 1: the oldest read-ahead request starts. -/
def State.startRead (s : State) (serial : Nat) (rest : List Nat) : State :=
  let s1 := s.modCtl fun c => { c with requests := rest }
  match s1.jrnl.slotOf serial with
  | none => s1
  | some slot =>
    (s1.modJrnl fun j =>
      { j with readAhead := j.readAhead.map fun x => if x.serial = serial then { x with phase := .started } else x }).startOp
      (.read serial slot true)

/-- R117 step 5: the next step of the save in flight (R123). -/
def State.startSave (s : State) (sv : Save) : State :=
  if sv.next ≤ 1 then s.startOp .saveMark
  else s.startOp (.saveSlot (s.saveContent sv).1 (s.saveContent sv).2 .write)

/-- R117: with the controller IDLE, the arbiter starts the first work that applies. -/
def State.storeKick (s : State) : State :=
  if s.ctl.state != .idle then s
  else
    match s.jrnl.cond.drains, s.ctl.requests with
    | true, serial :: rest => s.startRead serial rest
    | drains, _ =>
      match drains, s.jrnl.pendingMarks with
      | true, slot :: _ =>
        if s.jrnl.freeCount < 128 then s.startOp (.mark slot)
        else if s.jrnl.mayCommit then s.startCommit
        else s.startOp (.mark slot)
      | _, _ =>
        if s.jrnl.mayCommit then s.startCommit
        else
          match s.ctl.save with
          | some sv => s.startSave sv
          | none => s

/-! ### Ending an operation -/

/-- The scan's READ of a slot starts (R119). -/
def State.scanRead (s : State) (slot : Nat) : State := s.startStep (.scan slot)

/-- The operation in flight is over: the controller returns to IDLE, or, when a RESTART from FAULT put it in SCANNING meanwhile,
starts the scan's first READ (R115). -/
def State.endOp (s : State) : State :=
  let s1 := s.modCtl fun c => { c with op := none, timer := none }
  if s.ctl.state = .scanning then s1.scanRead 0
  else s1.modCtl fun c => { c with state := .idle }

/-- R115: the first step of a two-step operation is done; the verify READ starts without a return to IDLE. -/
def State.startVerify (s : State) (slot : Nat) (bytes : List Byte) (op : StoreOp) : State :=
  (s.putSlot slot bytes).startStep op

end Sys2Proof.Machine
end

