-- ==== Sys2Proof/Machine/Journal.lean ====
section
/-! DEFINITION. The custody journal (chapter 6): answer lists, staging, conditions, commits, the drain and its reverts. -/

namespace Sys2Proof.Machine

/-! ### Answer lists (R92) -/

def EntryState.isCarried : EntryState → Bool
  | .carried _ => true
  | .processing | .ready _ => false

/-- The PROCESSING entry of a record number becomes READY with a verdict. -/
def settleEntry (number : BitVec 16) (v : Verdict) (l : List AnswerEntry) : List AnswerEntry :=
  l.map fun e => if e.number = number ∧ e.state = .processing then { e with state := .ready v } else e

/-- A verdict due for a transaction reaches its entry, or is lost through a cut link (R92). -/
def State.deliverVerdict (s : State) (t : Txn) (v : Verdict) : State :=
  if t.linked then s.modAnswers t.slot (settleEntry t.number v)
  else s.modJrnl fun j => { j with ctr := { j.ctr with lost := bump j.ctr.lost } }

/-- Cut the links of a station's transactions. -/
def cutLink (slot : Fin 32) (t : Txn) : Txn := if t.slot = slot then { t with linked := false } else t

/-- R92: a write removed a TOLL station or set its slot up anew, so its list is emptied and its links are cut. -/
def State.emptyAnswers (s : State) (slot : Fin 32) : State :=
  (s.modAnswers slot fun _ => []).modJrnl fun j =>
    { j with staging := j.staging.map (cutLink slot), hand := j.hand.map fun h => { h with txn := cutLink slot h.txn } }

/-! ### READING records leave (R104) -/

/-- A READ in flight for one of these serials is discarded at its completion, and requests not yet started are withdrawn. -/
def StoreController.withdraw (c : StoreController) (gone : Nat → Bool) : StoreController :=
  { c with
    requests := c.requests.filter fun k => !gone k
    op := match c.op with
      | some (.read serial slot live) => some (.read serial slot (live && !gone serial))
      | op => op }

/-- The read-ahead buffer is emptied and its records become UNSENT. -/
def State.emptyReadAhead (s : State) : State :=
  (s.modCtl (·.withdraw fun _ => true)).modJrnl fun j => { j with readAhead := [] }

/-! ### Requests and offers of the drain (R104, R105) -/

/-- One further READ is requested, of the record at the send cursor, and the arbiter is told. -/
def State.requestRead (s : State) (serial : Nat) : State :=
  ((s.modJrnl fun j => { j with readAhead := j.readAhead ++ [{ serial := serial, phase := .waiting }] }).modCtl fun c =>
    { c with requests := c.requests ++ [serial] }).storeKick

/-- As many READs as the terms of R104 allow, at most n. -/
def State.requestReadsUpTo (s : State) : Nat → State
  | 0 => s
  | n + 1 =>
    if s.jrnl.mayRequest then
      match s.jrnl.sendCursor with
      | none => s
      | some k => (s.requestRead k).requestReadsUpTo n
    else s

/-- R104: the read-ahead buffer holds at most 4 records, so at most 4 are requested at a time. -/
def State.requestReads (s : State) : State := s.requestReadsUpTo 4

/-- The TOLL block of a record read (R105, 12.2). -/
def tollBlock (lane : Fin 64) (dst : NodeId) (serial : Nat) (r : TollRecord) : Block :=
  localBlock .toll (Config.plainSubtype 4) lane dst (Config.plainSeq 4)
    (nat32 serial ++ [r.drop, r.address] ++ be16 r.number ++ r.body)

/-- R105: TQ has taken a record's block. -/
def Journal.sentOne (j : Journal) (serial : Nat) (rest : List ReadAhead) (now : Nat) : Journal :=
  { j with
    readAhead := rest
    inTransit := j.inTransit ++ [{ serial := serial, sentAt := now }]
    credit := j.credit - 1
    newestSent := some (match j.newestSent with | none => serial | some k => max k serial)
    ctr := { j.ctr with sent := bump j.ctr.sent } }

/-- The head of the read-ahead buffer is offered to TQ while it has been read and TQ takes it, at most n times. A joining
record may let a further READ be requested (R104). -/
def State.offerTollsUpTo (s : State) : Nat → State
  | 0 => s
  | n + 1 =>
    match s.jrnl.readAhead with
    | [] => s
    | x :: rest =>
      match x.phase, s.laneFor .toll with
      | .read r, some lane =>
        if s.takes .tq then
          (((s.join .tq (tollBlock lane s.lanes[lane].peer x.serial r)).modJrnl
            fun j => j.sentOne x.serial rest s.now).requestReads).offerTollsUpTo n
        else s
      | _, _ => s

/-- R105: the offers to TQ. -/
def State.offerTolls (s : State) : State := s.offerTollsUpTo 4

/-! ### Reverts (R106) -/

def Journal.revert (j : Journal) : Journal :=
  { j with
    inTransit := []
    readAhead := []
    ctr := { j.ctr with reverts := bump j.ctr.reverts, resends := bumpBy j.ctr.resends j.inTransit.length } }

/-- R106: every IN-TRANSIT and read-ahead record becomes UNSENT; sends start again while credit remains. -/
def State.revert (s : State) : State :=
  ((s.modCtl (·.withdraw fun _ => true)).modJrnl (·.revert)).requestReads

/-- R106: the revert timer, re-timed, expires at once when its expiry has already passed. DESIGN CHOICE (log entry 11): an expiry
of this very millisecond has not passed; it comes with REVERT_TIMER_EXPIRY, before or after what else the moment holds. -/
def State.retime (s : State) : State :=
  match s.jrnl.revertAt with
  | none => s
  | some t => if t < s.now then s.revert else s

/-! ### Conditions (R96, R97, R101, R102, R111) -/

/-- R101: the write cursor has advanced; an ACCEPTING journal that is full becomes FULL. -/
def State.testFull (s : State) : State :=
  if s.jrnl.cond = .accepting ∧ s.jrnl.holdsSlot s.jrnl.cursor then
    (s.modJrnl fun j => { j with cond := .full, ctr := { j.ctr with fullEntries := bump j.ctr.fullEntries } }).notify
      (.full s.jrnl.held)
  else s

/-- R102: a commit's success makes the held count 7000 while the flag is ARMED. -/
def State.testHighMark (s : State) : State :=
  if s.jrnl.held = 7000 ∧ s.jrnl.highSpent = false then
    (s.modJrnl fun j => { j with highSpent := true }).notify (.highMark s.jrnl.held)
  else s

/-- R96: the condition at the end of HOLDUP, or at the end of a scan outside HOLDUP. -/
def Journal.openCond (j : Journal) : JournalCond := if j.holdsSlot j.cursor then .full else .accepting

/-- The commit in hand's own entry, the one PROCESSING entry that outlives the emptying of staging (R97). -/
def Journal.keepsEntry (j : Journal) (slot : Fin 32) (e : AnswerEntry) : Bool :=
  e.state == .processing &&
    (match j.hand with
     | some h => h.txn.linked && h.txn.slot == slot && h.txn.number == e.number
     | none => false)

/-- How many entries the emptying removes. -/
def Journal.entriesDropped (j : Journal) : Nat :=
  ((List.finRange 32).map fun i => (j.answers[i].filter fun e => !j.keepsEntry i e).length).sum

/-- R97: entry into HALTED. DESIGN CHOICE (log entry 40): the emptying of staging ends overrun, as R95 says for RESTART. -/
def Journal.halt (j : Journal) : Journal :=
  { j with
    cond := .halted
    staging := []
    overrun := false
    answers := Vector.ofFn fun i => j.answers[i].filter (j.keepsEntry i)
    ctr := { j.ctr with discarded := bumpBy j.ctr.discarded j.entriesDropped } }

/-- R96: the supply monitor's change into HOLDUP. -/
def State.journalHoldup (s : State) : State :=
  if s.jrnl.cond = .accepting ∨ s.jrnl.cond = .full then s.modJrnl (·.halt) else s

/-- R96: the supply monitor's change out of HOLDUP. -/
def State.journalHoldupEnds (s : State) : State :=
  if s.jrnl.cond = .halted then (s.modJrnl fun j => { j with cond := j.openCond }).storeKick else s

/-- R111: entry into FAULT, from any other condition. The caller has ended the operation in flight. DESIGN CHOICE (log entry 40):
the emptying of staging ends overrun. DESIGN CHOICE (log entry 44): a journal already in FAULT keeps its cause and queues no second
notice, whatever is reported. -/
def State.journalFault (s : State) (cause : StoreCause) : State :=
  if s.jrnl.cond = .fault then s
  else
    let s1 := s.forEach s.jrnl.staging fun t s => s.deliverVerdict t .deferred
    let s2 := match s1.jrnl.hand with
      | some h => s1.deliverVerdict h.txn .deferred
      | none => s1
    ((s2.emptyReadAhead).modJrnl fun j =>
      { j with cond := .fault, faultCause := some cause, staging := [], overrun := false, hand := none, credit := 0,
               inTransit := [] }).notify (.fault cause)

/-! ### Transactions (R93, R95) -/

/-- A verdict given at once: placed READY when the list has a free place, counted in either case. -/
def State.giveVerdict (s : State) (slot : Fin 32) (number : BitVec 16) (v : Verdict) : State :=
  let s1 := s.modJrnl fun j =>
    { j with ctr := match v with
        | .refusedFull => { j.ctr with refusedFull := bump j.ctr.refusedFull }
        | _ => { j.ctr with deferred := bump j.ctr.deferred } }
  if (s1.jrnl.answers[slot]).length < 4 then
    s1.modAnswers slot (· ++ [{ number := number, state := .ready v }])
  else s1.modJrnl fun j => { j with ctr := { j.ctr with unplaced := bump j.ctr.unplaced } }

/-- A transaction joins the tail of staging; the join that fills it enters overrun (R95). -/
def Journal.stage (j : Journal) (t : Txn) : Journal :=
  let full := j.staging.length + 1 == 32
  { j with
    staging := j.staging ++ [t]
    overrun := j.overrun || full
    ctr := { j.ctr with taken := bump j.ctr.taken, overrun := if full then bump j.ctr.overrun else j.ctr.overrun } }

/-- A transaction is judged afresh, its number matching no entry in hand (R93). -/
def State.judgeTxn (s : State) (slot : Fin 32) (drop : Fin 4) (address : BitVec 5) (number : BitVec 16) (body : List Byte) :
    State :=
  match s.jrnl.cond with
  | .full => s.giveVerdict slot number .refusedFull
  | .recovering | .halted | .fault => s.giveVerdict slot number .deferred
  | .accepting =>
    if s.jrnl.staging.length < 32 ∧ s.jrnl.overrun = false ∧ (s.jrnl.answers[slot]).length < 4 then
      ((s.modAnswers slot (· ++ [{ number := number, state := .processing }])).modJrnl (·.stage
        { slot := slot, drop := drop, address := address, number := number, body := body, linked := true })).storeKick
    else s.giveVerdict slot number .deferred

/-- R93: an entry that shows the transaction already in the node's hands. -/
def AnswerEntry.inHand (e : AnswerEntry) : Bool :=
  match e.state with
  | .processing | .carried _ | .ready .committed => true
  | .ready .deferred | .ready .refusedFull => false

/-- R91, R93: a TXN from a station. -/
def State.takeTxn (s : State) (slot : Fin 32) (drop : Fin 4) (address : BitVec 5) (number : BitVec 16) (body : List Byte) :
    State :=
  if (s.jrnl.answers[slot]).any (fun e => e.number == number && e.inHand) then
    s.modJrnl fun j => { j with ctr := { j.ctr with repeatOffer := bump j.ctr.repeatOffer } }
  else
    (s.modAnswers slot (·.filter fun e => e.number != number)).judgeTxn slot drop address number body

/-! ### The answers of a poll (R94) -/

def EntryState.carry : EntryState → EntryState
  | .ready v => .carried v
  | e => e

def EntryState.uncarry : EntryState → EntryState
  | .carried v => .ready v
  | e => e

/-- The READY entries of a list, as a poll's answers: at most 4, in list order. -/
def readyAnswers (l : List AnswerEntry) : List (BitVec 16 × Verdict) :=
  (l.filterMap fun e => match e.state with | .ready v => some (e.number, v) | _ => none).take 4

/-- R94: a poll to a TOLL station begins. -/
def State.carryAnswers (s : State) (slot : Fin 32) : State :=
  s.modAnswers slot (·.map fun e => { e with state := e.state.carry })

/-- R94: the outcome of a TOLL poll. -/
def State.answersOutcome (s : State) (slot : Fin 32) (good : Bool) : State :=
  if good then
    let n := ((s.jrnl.answers[slot]).filter (·.state.isCarried)).length
    (s.modAnswers slot (·.filter fun e => !e.state.isCarried)).modJrnl fun j =>
      { j with ctr := { j.ctr with delivered := bumpBy j.ctr.delivered n } }
  else s.modAnswers slot (·.map fun e => { e with state := e.state.uncarry })

/-! ### Commits (R100) -/

/-- The record in hand is held in the slot at the write cursor. -/
def Journal.hold (j : Journal) (serial : Nat) : Journal :=
  { j with
    oldest := match j.oldest with | none => some { serial := serial, slot := j.cursor } | some h => some h
    held := j.held + 1
    cursor := nextGood j.bad j.cursor
    hand := none
    ctr := { j.ctr with committed := bump j.ctr.committed } }

/-- R100, success. -/
def State.commitSucceeds (s : State) (h : InHand) : State :=
  ((((s.modJrnl (·.hold h.serial)).deliverVerdict h.txn .committed).testFull).testHighMark).requestReads

/-- R100, verify mismatch: the slot is bad and the record waits for a retry, or the list overflows into FAULT (R111). -/
def State.commitMismatches (s : State) (h : InHand) : State :=
  if 64 ≤ s.jrnl.bad.length then s.journalFault .badSlots
  else
    (s.modJrnl fun j =>
      let bad := j.bad ++ [j.cursor]
      { j with bad := bad, cursor := nextGood bad j.cursor, hand := some { h with retry := true } }).testFull

/-! ### Read-ahead READs (R105) -/

/-- R105: the mark is HELD, as R182 and R119 read it, or its slot's release is pending. R182 has a mark that is none of the three
codes handled by R119, whose table takes it as HELD, so that its record is sent again (R100, R118). DEDUCED (log entry 14). -/
def Journal.markReads (j : Journal) (slot : Nat) (mark : Byte) : Bool :=
  markReadsHeld mark || j.pendingMarks.contains slot

/-- R105: the slot's contents are those of the record expected. -/
def Journal.readPasses (j : Journal) (serial slot : Nat) (l : List Byte) : Bool :=
  slotValid l && j.markReads slot (byteAt l 0) && slotSerial l == serial

def Journal.setPhase (j : Journal) (serial : Nat) (p : ReadPhase) : Journal :=
  { j with readAhead := j.readAhead.map fun x => if x.serial = serial then { x with phase := p } else x }

/-- R105: the completion of a read-ahead READ that is its record's current request. -/
def State.readDone (s : State) (serial slot : Nat) (l : List Byte) : State :=
  if s.jrnl.readPasses serial slot l then
    (s.modJrnl (·.setPhase serial (.read (TollRecord.ofSlot l)))).offerTolls
  else
    ((s.modJrnl fun j => { j.setPhase serial .waiting with ctr := { j.ctr with readRetry := bump j.ctr.readRetry } }).modCtl
      fun c => { c with requests := c.requests ++ [serial] }).storeKick

/-! ### Control from the toll centre (R103, R107, R109) -/

/-- R107: the oldest held record is released; its slot joins the pending marks, which is new work for the arbiter. -/
def State.releaseOldest (s : State) : State :=
  match s.jrnl.oldest with
  | none => s
  | some h =>
    ((s.modCtl (·.withdraw (· == h.serial))).modJrnl fun j =>
      { j with
        held := j.held - 1
        oldest := if j.held ≤ 1 then none else some { serial := h.serial + 1, slot := nextGood j.bad h.slot }
        inTransit := j.inTransit.filter fun x => x.serial != h.serial
        readAhead := j.readAhead.filter fun x => x.serial != h.serial
        pendingMarks := j.pendingMarks ++ [h.slot]
        ctr := { j.ctr with released := bump j.ctr.released } }).storeKick

def State.release (s : State) : Nat → State
  | 0 => s
  | n + 1 => s.releaseOldest.release n

/-- R101: a release freed the write cursor's slot, so a FULL journal becomes ACCEPTING. -/
def State.testReopened (s : State) : State :=
  if s.jrnl.cond = .full ∧ s.jrnl.holdsSlot s.jrnl.cursor = false then
    (s.modJrnl fun j => { j with cond := .accepting }).storeKick
  else s

/-- R102: a release made the held count fall below 6000. -/
def Journal.rearm (j : Journal) : Journal := if j.held < 6000 then { j with highSpent := false } else j

/-- How many records an ACK of serial k releases: those from the oldest held serial through k clamped to the newest sent. -/
def Journal.ackCovers (j : Journal) (k : Nat) : Nat :=
  match j.oldest, j.newestSent with
  | some h, some newest => if min k newest < h.serial then 0 else min (min k newest - h.serial + 1) j.held
  | _, _ => 0

/-- R107; R105: a release that makes a record already read the head of the read-ahead buffer lets it be offered. -/
def State.ack (s : State) (k : Nat) : State :=
  if s.jrnl.ackCovers k = 0 then s.modJrnl fun j => { j with ctr := { j.ctr with staleAck := bump j.ctr.staleAck } }
  else ((((s.release (s.jrnl.ackCovers k)).retime).testReopened).modJrnl (·.rearm)).requestReads.offerTolls

/-- R103: a PULL of 1 to 64. -/
def State.pull (s : State) (c : Nat) : State :=
  (s.modJrnl fun j => { j with credit := min 64 (j.credit + c) }).requestReads

/-- R109. -/
def State.drainEnd (s : State) : State := (s.emptyReadAhead).modJrnl fun j => { j with credit := 0 }

def State.controlDiscarded (s : State) : State :=
  s.modJrnl fun j => { j with ctr := { j.ctr with controlDiscarded := bump j.ctr.controlDiscarded } }

/-- R103: a TOLLCTL block handed to the journal. -/
def State.takeTollControl (s : State) (b : Block) : State :=
  if s.jrnl.cond.drains = false then s.controlDiscarded
  else if b.subtype = subPull ∧ b.body.length = 1 ∧ 1 ≤ (byteAt b.body 0).toNat ∧ (byteAt b.body 0).toNat ≤ 64 then
    s.pull (byteAt b.body 0).toNat
  else if b.subtype = subAck ∧ b.body.length = 4 then s.ack (word32At b.body 0).toNat
  else if b.subtype = subEnd ∧ b.body.length = 0 then s.drainEnd
  else s.controlDiscarded

/-! ### The ring's isolation (R110) and RESTART (R112) -/

/-- R110: entry into ISOLATED, with the serials of the TOLL blocks emptied from TQ. -/
def State.journalIsolated (s : State) (handed : List Nat) : State :=
  ((s.emptyReadAhead).modJrnl fun j =>
    { j with
      credit := 0
      inTransit := j.inTransit.filter fun x => !(handed.contains x.serial && j.holdsSerial x.serial) }).retime

/-- R98, R121: no RAM view is held. -/
def Journal.dropView (j : Journal) : Journal :=
  { j with
    hasView := false, oldest := none, held := 0, cursor := 0, nextSerial := 1, newestSent := none, inTransit := []
    readAhead := [], pendingMarks := [], bad := [] }

/-- R96, R112: a RESTART from FAULT makes the journal RECOVERING with no view; in any other condition both are kept. -/
def Journal.reopen (j : Journal) : Journal :=
  if j.cond = .fault then { j.dropView with cond := .recovering, faultCause := none } else j

/-- R112: the journal's part of RESTART. -/
def State.restartJournal (s : State) : State :=
  (s.emptyReadAhead).modJrnl fun j =>
    { j.reopen with
      staging := []
      overrun := false
      answers := Vector.replicate 32 []
      hand := j.hand.map fun h => { h with txn := { h.txn with linked := false } }
      credit := 0
      inTransit := [] }

end Sys2Proof.Machine
end

