-- ==== Sys2Proof/Machine/Weather.lean ====
section
/-! DEFINITION. Weather reduction (chapter 8): parameter writes, links, the four stages of a reading, freshness and the WX
block. The advisory engine's evaluation of a finished reading stands in Signs.lean. -/

namespace Sys2Proof.Machine

def State.countSlot (s : State) (k : Fin 8) (f : SlotCounters → SlotCounters) : State :=
  s.modSlot k fun r => { r with ctr := f r.ctr }

/-- R140: windows, previous wind values and derived quantities emptied. -/
def ReductionSlot.emptied (r : ReductionSlot) : ReductionSlot :=
  { r with surface := [], air := [], humidity := [], visibility := [], light := [], wind := [], gust := [], prev := none,
           derived := Derived.none }

/-- R128: the station that feeds the slot has changed. -/
def ReductionSlot.relink (station : Option (Fin 32)) (r : ReductionSlot) : ReductionSlot :=
  { r.emptied with station := station, fresh := false }

/-! ### Parameter writes (R129) -/

/-- R129: the new parameters, with the windows emptied whose meaning the change alters. -/
def ReductionSlot.configure (r : ReductionSlot) (p : SlotRecord) : ReductionSlot :=
  let r1 :=
    if p.depth = r.depth then r
    else { r with depth := p.depth, surface := [], air := [], humidity := [], visibility := [], light := [], wind := [],
                  derived := { Derived.none with windGust := r.derived.windGust } }
  let r2 :=
    if p.offset = r.offset then r1
    else { r1 with offset := p.offset, surface := [], air := [],
                   derived := { r1.derived with surface := none, air := none } }
  let r3 :=
    if p.kw = r.kw then r2
    else { r2 with kw := p.kw, wind := [], gust := [],
                   derived := { r2.derived with windMean := none, windGust := none } }
  if p.useLight = r.useLight then r3
  else { r3 with useLight := p.useLight, light := [], derived := { r3.derived with light := none } }

/-! ### Stages 1 and 2 (R131, R132) -/

/-- R131: a value above its range's top is clamped to it. -/
def clampTop (top n : Nat) : Nat := min n top

/-- R132: the corrected temperature, saturated to -4000 to 8000. -/
def corrected (t z : Int) : Int := max (-4000) (min 8000 (t - z))

def saturates (t z : Int) : Bool := t - z < -4000 || 8000 < t - z

def tempValid (t : Int) : Bool := -4000 ≤ t && t ≤ 8000

def zeroValid (z : Int) : Bool := -500 ≤ z && z ≤ 500

/-- The temperature that reaches Stage 3: none when INVALID, corrected when offset cancellation is on and z is valid. -/
def staged (offset : Bool) (z t : Int) : Option Int :=
  if tempValid t then some (if offset && zeroValid z then corrected t z else t) else none

/-- The counters Stages 1 and 2 move. -/
def ReductionSlot.countStages (r : ReductionSlot) (x : Reading) : SlotCounters :=
  let c := r.ctr
  let sat := fun t : Int => if r.offset && zeroValid x.z && tempValid t && saturates t x.z then 1 else 0
  { c with
    invalidTs := if tempValid x.ts then c.invalidTs else bump c.invalidTs
    invalidTa := if tempValid x.ta then c.invalidTa else bump c.invalidTa
    zeroInvalid := if r.offset && !zeroValid x.z then bump c.zeroInvalid else c.zeroInvalid
    clamp := bumpBy c.clamp ((if 1000 < x.rh then 1 else 0) + (if 20000 < x.vis then 1 else 0))
    saturation := bumpBy c.saturation (sat x.ts + sat x.ta) }

/-! ### Stage 3 (R133) -/

/-- A push into a window of n values removes the oldest first when it is full. -/
def pushWindow (n : Nat) (w : List Int) (x : Int) : List Int := (w ++ [x]).drop (w.length + 1 - n)

/-- The floor of the mean of a window of exactly n values. -/
def averageOf (n : Nat) (w : List Int) : Option Int := if w.length = n then some (w.sum.fdiv n) else none

/-- A channel's window and average after a reading: both hold when no value was pushed. -/
def pushChannel (n : Nat) (w : List Int) (avg : Option Int) : Option Int → List Int × Option Int
  | none => (w, avg)
  | some x =>
    let w' := pushWindow n w x
    (w', averageOf n w')

/-- Stages 1 to 3 of a reading. -/
def ReductionSlot.average (r : ReductionSlot) (x : Reading) : ReductionSlot :=
  let surface := pushChannel r.depth r.surface r.derived.surface (staged r.offset x.z x.ts)
  let air := pushChannel r.depth r.air r.derived.air (staged r.offset x.z x.ta)
  let humidity := pushChannel r.depth r.humidity r.derived.humidity (some (clampTop 1000 x.rh))
  let visibility := pushChannel r.depth r.visibility r.derived.visibility (some (clampTop 20000 x.vis))
  let light := pushChannel r.depth r.light r.derived.light (if r.useLight then some (x.lux : Int) else none)
  { r with
    surface := surface.1, air := air.1, humidity := humidity.1, visibility := visibility.1, light := light.1
    derived := { r.derived with surface := surface.2, air := air.2, humidity := humidity.2, visibility := visibility.2,
                                light := light.2 }
    ctr := r.countStages x }

/-! ### Stage 4 (R134, R135) -/

/-- What Stage 4 makes of a reading. -/
inductive WindCase where
  | restart
  | noPrevious
  | gap
  | speed (dmPerS : Nat) (clamped : Bool)
deriving DecidableEq, Repr

def Reading.restarted (x : Reading) : Bool := x.flags.getLsbD 0

/-- R135: the floor of d × kw × 10 ÷ dt. -/
def windSpeed (d kw dt : Nat) : Nat := d * kw * 10 / dt

/-- R134: the cases, in their order. -/
def ReductionSlot.windCase (r : ReductionSlot) (x : Reading) (now : Nat) : WindCase :=
  if x.restarted then .restart
  else
    match r.prev with
    | none => .noPrevious
    | some p =>
      let dt := (x.tm + 65536 - p.stamp) % 65536
      if p.storedAt + 30000 < now then .gap
      else if dt = 0 ∨ 30000 < dt then .gap
      else
        let v := windSpeed ((x.wc + 65536 - p.count) % 65536) r.kw dt
        .speed (min v 999) (decide (999 < v))

/-- The largest speed of the gust window. -/
def largest : List Int → Option Int
  | [] => none
  | x :: l =>
    match largest l with
    | none => some x
    | some y => some (max x y)

/-- A speed enters the wind and gust windows (R135). -/
def ReductionSlot.pushSpeed (r : ReductionSlot) (v : Nat) : ReductionSlot :=
  let wind := pushWindow r.depth r.wind v
  let gust := pushWindow 8 r.gust v
  { r with wind := wind, gust := gust,
           derived := { r.derived with windMean := averageOf r.depth wind, windGust := largest gust } }

/-- R134, R135: Stage 4; in every case the reading's count and time stamp become the previous wind values. -/
def ReductionSlot.windStage (r : ReductionSlot) (x : Reading) (now : Nat) : ReductionSlot :=
  let r1 :=
    match r.windCase x now with
    | .restart => { r with ctr := { r.ctr with windRestart := bump r.ctr.windRestart } }
    | .noPrevious => r
    | .gap => { r with ctr := { r.ctr with windGap := bump r.ctr.windGap } }
    | .speed v clamped =>
      let r' := r.pushSpeed v
      if clamped then { r' with ctr := { r'.ctr with windClamp := bump r'.ctr.windClamp } } else r'
  { r1 with prev := some { count := x.wc, stamp := x.tm, storedAt := now } }

/-- R130: the four stages, after which the slot is FRESH and the reading counted. -/
def ReductionSlot.process (r : ReductionSlot) (x : Reading) (now : Nat) : ReductionSlot :=
  let r1 := (r.average x).windStage x now
  { r1 with fresh := true, ctr := { r1.ctr with readings := bump r1.ctr.readings } }

/-- The speed this reading forms, or none. -/
def ReductionSlot.speedOf (r : ReductionSlot) (x : Reading) (now : Nat) : Option Nat :=
  match r.windCase x now with
  | .speed v _ => some v
  | _ => none

/-! ### Forwarding (R138) -/

/-- Bits set, lowest first, from a list of conditions. -/
def bitsByte (l : List Bool) : Byte := byte (l.foldr (fun b n => 2 * n + b.toNat) 0)

/-- The body of a WX block (12.2): a derived value not formed is sent as 0 with its formed bit clear. -/
def wxBody (k : Fin 8) (drop : Fin 4) (address : BitVec 5) (x : Reading) (d : Derived) (speed : Option Nat) : List Byte :=
  let ds := [d.surface, d.air, d.humidity, d.visibility, d.light, d.windMean, d.windGust]
  [byte k.val, byte drop.val, 0#3 ++ address] ++ x.raw ++ [bitsByte [tempValid x.ts, tempValid x.ta, zeroValid x.z]]
    ++ [bitsByte (ds.map Option.isSome)] ++ ds.flatMap (fun o => int16 (o.getD 0)) ++ nat16Or speed

/-- R138: one WX block is formed and offered to AQ, or skipped when no WX lane is ACTIVE. -/
def State.forwardReading (s : State) (k : Fin 8) (drop : Fin 4) (address : BitVec 5) (x : Reading) (speed : Option Nat) : State :=
  match s.laneFor .wx with
  | none => s.countSlot k fun c => { c with forwardSkipped := bump c.forwardSkipped }
  | some lane =>
    if s.takes .aq then
      (s.join .aq (localBlock .wx (Config.plainSubtype 6) lane s.lanes[lane].peer (Config.plainSeq 6)
        (wxBody k drop address x s.slots[k].derived speed))).countSlot k fun c => { c with forwarded := bump c.forwarded }
    else s.countSlot k fun c => { c with forwardRefused := bump c.forwardRefused }

/-! ### Freshness (R137) -/

/-- R137: a WEATHER station that names the slot has moved to OFFLINE; the notice names the station linked to the slot. DESIGN CHOICE
(log entry 45): of two such stations, which only an image can hold, the one that does not feed the slot does the same. -/
def State.weatherOffline (s : State) (k : Fin 8) : State :=
  if s.slots[k].fresh then
    (s.modSlot k fun r => { r with fresh := false, ctr := { r.ctr with stale := bump r.ctr.stale } }).notify
      (.stale k s.slots[k].station)
  else s

end Sys2Proof.Machine
end

