-- ==== Sys2Proof/Machine/Signs.lean ====
section
/-! DEFINITION. The advisory engine and sign service (chapter 9): rules, the page store, operator requests, arbitration, chunks
and intensity. -/

namespace Sys2Proof.Machine

def State.countSign (s : State) (k : Fin 12) (f : SignCounters → SignCounters) : State :=
  s.modSignRec k fun r => { r with ctr := f r.ctr }

/-! ### Arbitration (R154, R155) -/

/-- R155: NEXT takes a value; a BLANK LIVE follows a change at once with the cursor at 0. -/
def Sign.setNext (r : Sign) (n : Option (Fin 8)) : Sign :=
  if n = r.next then r
  else
    match r.live with
    | none => { r with next := n, live := n, cursor := 0 }
    | some _ => { r with next := n }

/-- R154: a candidate whose page is not READY is skipped. -/
def Sign.isReady (r : Sign) (p : Fin 8) : Bool := r.pages[p].state == .ready

/-- A candidate of R154: the page it asks for and its priority. -/
structure Candidate where
  page : Fin 8
  priority : Nat
deriving DecidableEq, Repr

/-- The winner: the lowest priority number, the earlier candidate on equal priority. -/
def winner : List Candidate → Option Candidate
  | [] => none
  | c :: l =>
    match winner l with
    | none => some c
    | some d => if c.priority ≤ d.priority then some c else some d

/-- R154: the sign's candidates, its operator request first and then the effective rules by index. -/
def State.candidates (s : State) (k : Fin 12) : List Candidate :=
  (match s.sign.signs[k].request with
   | none => []
   | some q => [{ page := q.page, priority := q.priority }]) ++
  (List.finRange 32).filterMap fun i =>
    if s.rules[i].effective && s.rules[i].signs.getLsbD k then
      some { page := s.rules[i].page, priority := s.rules[i].priority }
    else none

/-- R154: the outcome of a sign's arbitration. -/
def State.arbitrated (s : State) (k : Fin 12) : Option (Fin 8) :=
  (winner ((s.candidates k).filter fun c => s.sign.signs[k].isReady c.page)).map (·.page)

def State.arbitrate (s : State) (k : Fin 12) : State := s.modSignRec k (·.setNext (s.arbitrated k))

/-- Arbitration for each sign of a set, in index order. -/
def State.arbitrateSet (s : State) (m : BitVec 12) : State :=
  s.forEach ((List.finRange 12).filter fun k : Fin 12 => m.getLsbD k.val) fun k s => s.arbitrate k

/-! ### Rules (R143 to R147) -/

/-- R145: which level a formed value meets. -/
inductive Meets where
  | set | clear | neither
deriving DecidableEq, Repr

/-- R145: a value equal to both levels meets the one toward which the rule's state leads. -/
def Rule.meets (r : Rule) (v : Int) : Meets :=
  let metSet := match r.sense with | .below => decide (v ≤ r.setLevel) | .above => decide (r.setLevel ≤ v)
  let metClear := match r.sense with | .below => decide (r.clearLevel ≤ v) | .above => decide (v ≤ r.clearLevel)
  match metSet, metClear with
  | true, true => if r.state = .inactive ∨ r.state = .pendingSet then .set else .clear
  | true, false => .set
  | false, true => .clear
  | false, false => .neither

/-- Entry into ACTIVE. -/
def Rule.activate (r : Rule) : Rule := { r with state := .active, count := 0, sets := bump r.sets }

/-- Entry into INACTIVE from ACTIVE or PENDING-CLEAR. -/
def Rule.deactivate (r : Rule) : Rule := { r with state := .inactive, count := 0, clears := bump r.clears }

/-- R146. -/
def Rule.move (r : Rule) (v : Int) : Rule :=
  match r.state, r.meets v with
  | .inactive, .set => if r.p = 1 then r.activate else { r with state := .pendingSet, count := 1 }
  | .pendingSet, .set => if r.p ≤ r.count + 1 then r.activate else { r with count := r.count + 1 }
  | .pendingSet, .clear => { r with state := .inactive, count := 0 }
  | .active, .clear => if r.p = 1 then r.deactivate else { r with state := .pendingClear, count := 1 }
  | .pendingClear, .set => r.activate
  | .pendingClear, .clear => if r.p ≤ r.count + 1 then r.deactivate else { r with count := r.count + 1 }
  | .inactive, .clear | .inactive, .neither | .pendingSet, .neither | .active, .set | .active, .neither
  | .pendingClear, .neither => r

/-- The rules whose effective state is no longer what was last derived. -/
def State.changedRules (s : State) : List (Fin 32) :=
  (List.finRange 32).filter fun i => ruleEffective s.rules i != s.rules[i].effective

/-- R147: every effective state derived again. -/
def settleRules (rules : Vector Rule 32) : Vector Rule 32 :=
  Vector.ofFn fun i => { rules[i] with effective := ruleEffective rules i }

/-- R147: the rule-effective notice of a rule. -/
def State.noticeRule (s : State) (i : Fin 32) : State :=
  s.notify (.rule i s.rules[i].effective s.rules[i].state (s.ruleValue i))

/-- R143, R144, R147: effective states are derived again, a notice is queued for each that changed, and arbitration is rerun for
each sign of `also` and of the changed rules other than `but`. The notices are queued by rule index, which is the model's choice of
an order the rules do not give (DESIGN CHOICE, log entry 47). -/
def State.settle (s : State) (also : BitVec 12) (but : Option (Fin 32)) : State :=
  let changed := s.changedRules
  let s1 := s.modRules settleRules
  let s2 := s1.forEach changed fun i s => s.noticeRule i
  let m := (changed.filter fun i => some i != but).foldl (fun m i => m ||| s.rules[i].signs) also
  s2.arbitrateSet m

/-- R144: one evaluation of a slot's finished reading. -/
def State.evaluate (s : State) (k : Fin 8) : State :=
  let d := s.slots[k].derived
  (s.modRules fun rules => Vector.ofFn fun i =>
    if rules[i].enabled ∧ rules[i].source = k then
      match d.get rules[i].quantity with
      | none => rules[i]
      | some v => rules[i].move v
    else rules[i]).settle 0 none

/-- R143: the configured fields a rule write sets; the rule becomes INACTIVE with count 0. The write moves no counter of the rule,
whatever state it leaves (DESIGN CHOICE, log entry 46). -/
def Rule.configure (r : Rule) (x : RuleRecord) : Rule :=
  { r with
    enabled := x.enabled, source := x.source, quantity := x.quantity, sense := x.sense, setLevel := x.setLevel
    clearLevel := x.clearLevel, p := x.p, link := x.link, signs := x.signs, page := x.page, priority := x.priority
    state := .inactive, count := 0 }

/-- R143: a rule write that passes. -/
def State.writeRule (s : State) (i : Fin 32) (x : RuleRecord) : State :=
  (s.modRule i (·.configure x)).settle (s.rules[i].signs ||| x.signs) (some i)

/-- R159: every effective state derived with no notice, and arbitration for every sign. -/
def State.settleAll (s : State) : State := (s.modRules settleRules).arbitrateSet (BitVec.allOnes 12)

/-- R159: the advisory engine's and sign service's part of RESTART. -/
def State.restartSigns (s : State) : State :=
  (s.modRules fun rules => rules.map fun r => { r with state := .inactive, count := 0 }).settleAll

/-! ### The page store (R150 to R152) -/

/-- The address in the page store of a byte of a page. -/
def Page.address (p : Page) (offset : Nat) : Nat := 128 * p.units.getD (offset / 128) 0 + offset % 128

/-- Bytes written into a page's units from an offset on. -/
def writePage (p : Page) (m : Memory) (offset : Nat) : List Byte → Memory
  | [] => m
  | b :: l => writePage p (Memory.write pageBlank m (p.address offset) b) (offset + 1) l

def State.modPage (s : State) (k : Fin 12) (p : Fin 8) (f : Page → Page) : State :=
  s.modSignRec k fun r => { r with pages := updAt r.pages p f }

/-- R152: the page is its sign's LIVE or NEXT. -/
def Sign.shows (r : Sign) (p : Fin 8) : Bool := r.live == some p || r.next == some p

/-- Each unit of a list zeroed. -/
def zeroUnits (m : Memory) (units : List Nat) : Memory :=
  units.foldl (fun m u => Memory.writeList pageBlank m (128 * u) (List.replicate 128 0)) m

/-- The size a size code names (12.3). -/
def pageSize? (code : Byte) : Option Nat := if code = 1 then some 128 else if code = 2 then some 256 else none

/-- R150: PAGE-OPEN, its sign and page in range. -/
def State.pageOpen (s : State) (k : Fin 12) (p : Fin 8) (code : Byte) : Status × State :=
  match pageSize? code with
  | none => (.badValue, s)
  | some size =>
    if s.sign.signs[k].shows p then (.state, s)
    else
      let s1 := s.modPage k p fun _ => Page.empty
      let free := s1.sign.freeUnits
      if free.length < size / 128 then (.full, s)
      else
        let units := free.take (size / 128)
        (.done, (s1.modPage k p fun _ => { state := .filling, size := size, units := units, filled := 0 }).modSign fun g =>
          { g with store := zeroUnits g.store units })

/-- R151: the page after a write that ends at `last`. -/
def Page.extend (p : Page) (last : Nat) : Page :=
  let filled := if p.state = .ready then last else max p.filled last
  { p with filled := filled, state := if filled = p.size then .ready else .filling }

/-- R151: PAGE-DATA, its sign and page in range and its data of 1 to 48 bytes. -/
def State.pageData (s : State) (k : Fin 12) (p : Fin 8) (offset : Nat) (data : List Byte) : Status × State :=
  let page := s.sign.signs[k].pages[p]
  if page.state = .empty ∨ s.sign.signs[k].shows p then (.state, s)
  else if page.size < offset + data.length then (.badValue, s)
  else
    let s1 := (s.modSign fun g => { g with store := writePage page g.store offset data }).modPage k p
      (·.extend (offset + data.length))
    (.done, if s1.sign.signs[k].isReady p then s1.arbitrate k else s1)

/-- R152: PAGE-DISCARD, its sign and page in range. -/
def State.pageDiscard (s : State) (k : Fin 12) (p : Fin 8) : Status × State :=
  if s.sign.signs[k].shows p then (.state, s)
  else if s.sign.signs[k].pages[p].state = .empty then (.done, s)
  else (.done, (s.modPage k p fun _ => Page.empty).arbitrate k)

/-! ### Operator requests (R153) -/

/-- R153: SIGN-SET, its sign and page in range. -/
def State.signSet (s : State) (k : Fin 12) (p : Fin 8) (priority minutes : Nat) : Status × State :=
  if 15 < priority ∨ 1440 < minutes then (.badValue, s)
  else
    let q : Request :=
      { page := p, priority := priority, expiry := if minutes = 0 then none else some (s.now + 60000 * minutes) }
    (.done, (s.modSignRec k fun r => { r with request := some q }).arbitrate k)

/-- The request and its timer removed, and arbitration rerun (R153). -/
def State.dropRequest (s : State) (k : Fin 12) : State :=
  (s.modSignRec k fun r => { r with request := none }).arbitrate k

/-- R153: SIGN-CANCEL. -/
def State.signCancel (s : State) (k : Fin 12) : Status × State :=
  if s.sign.signs[k].request.isNone then (.done, s) else (.done, s.dropRequest k)

/-! ### Intensity (R158) -/

/-- R158: the computed intensity of a sign. -/
def State.computedIntensity (s : State) (k : Fin 12) : Nat :=
  match s.sign.signs[k].mode with
  | .fixed level => level
  | .ambient slot minimum slope =>
    match s.slots[slot].derived.light with
    | some light => max minimum (min 100 (minimum + light.toNat * slope / 4096))
    | none => max minimum (min 100 s.sign.signs[k].lastIntensity)

/-- R158: the intensity sent, capped in CONSERVE. -/
def sentIntensity (sup : SupplyState) (n : Nat) : Nat := if sup = .conserve then min n 50 else n

/-! ### Chunks (R156, R157) -/

/-- R156: what is supplied for a sign: its chunk in flight and the 32 bytes. -/
def State.chunkOf (s : State) (k : Fin 12) : Chunk × List Byte :=
  let r := s.sign.signs[k]
  match r.live with
  | none => ({ page := none, offset := 0 }, List.replicate 32 0)
  | some p =>
    ({ page := some p, offset := r.cursor }, Memory.readList pageBlank s.sign.store (r.pages[p].address r.cursor) 32)

/-- R156, R158: the payload of a poll of a sign (12.4), and the record it leaves. -/
def State.signPayload (s : State) (k : Fin 12) : List Byte × State :=
  let n := s.computedIntensity k
  let c := s.chunkOf k
  (byteOr (c.1.page.map (·.val)) ++ [byte c.1.offset, byte (sentIntensity s.sup.state n)] ++ c.2,
   s.modSignRec k fun r => { r with chunk := some c.1, lastIntensity := n })

/-- R54, R157: the outcomes of a sign's poll; a type mismatch counts as a miss. -/
inductive SignOutcome where
  | ok | again | miss
deriving DecidableEq, Repr

/-- R157: the counter of an outcome. -/
def SignCounters.outcome (c : SignCounters) : SignOutcome → SignCounters
  | .ok => { c with chunkOk := bump c.chunkOk }
  | .again => { c with chunkAgain := bump c.chunkAgain }
  | .miss => { c with chunkMiss := bump c.chunkMiss }

/-- R155: the refresh boundary. -/
def Sign.boundary (r : Sign) : Sign :=
  if r.next = r.live then { r with cursor := 0 }
  else { r with live := r.next, cursor := 0, ctr := { r.ctr with swaps := bump r.ctr.swaps } }

/-- R157: a CHUNK-OK that is not stale. -/
def Sign.advance (r : Sign) : Sign :=
  match r.live with
  | none => r
  | some p => if r.cursor + 32 = r.pages[p].size then r.boundary else { r with cursor := r.cursor + 32 }

/-- R157: an outcome is stale when no chunk is in flight or its page is not the present LIVE. -/
def Sign.staleOutcome (r : Sign) : Bool :=
  match r.chunk with
  | none => true
  | some c => c.page != r.live

/-- R157. -/
def Sign.outcome (r : Sign) (o : SignOutcome) : Sign :=
  let r1 := { r with chunk := none, ctr := r.ctr.outcome o }
  if r.staleOutcome then { r1 with ctr := { r1.ctr with stale := bump r1.ctr.stale } }
  else
    match o with
    | .ok => r1.advance
    | .again | .miss => r1

def State.signOutcome (s : State) (k : Fin 12) (o : SignOutcome) : State := s.modSignRec k (·.outcome o)

/-! ### Links and modes (R148, R149) -/

/-- R148: the SIGN entry that names the record has changed. -/
def State.relinkSign (s : State) (k : Fin 12) (station : Option (Fin 32)) : State :=
  s.modSignRec k fun r => { r with station := station, chunk := none }

/-- R149: a write of a sign record that passes. -/
def State.writeSign (s : State) (k : Fin 12) (m : IntensityMode) : State :=
  (s.modSignRec k fun r => { r with mode := m }).arbitrate k

end Sys2Proof.Machine
end

