-- ==== Sys2Proof/Machine/Voice.lean ====
section
/-! DEFINITION. The voice path (chapter 5): capture at the completion of a voice exchange, play-out at its start, and the
placing of arriving VOICE blocks. -/

namespace Sys2Proof.Machine

/-- R90: a voice counter is kept per record and, with it, as a node total. -/
def State.countVoice (s : State) (r : Fin 16) (f : VoiceCounters → VoiceCounters) : State :=
  (s.modRecord r fun x => { x with voice := { x.voice with ctr := f x.voice.ctr } }).modCalls fun c =>
    { c with totals := f c.totals }

def State.modVoice (s : State) (r : Fin 16) (f : VoiceFields → VoiceFields) : State :=
  s.modRecord r fun x => { x with voice := f x.voice }

/-! ### Capture (R80 to R82) -/

/-- The outcome of a voice exchange: a VOICE reply with its samples, or anything else (a HOOK reply, a type mismatch, a miss). -/
abbrev VoiceOutcome := Option (List Byte)

/-- R82: a CONNECTED completion offers its samples to EQ, or counts a gap. -/
def State.captureBlock (s : State) (r : Fin 16) (samples : List Byte) : State :=
  match s.calls.records[r].lane with
  | none => s.countVoice r fun c => { c with refused := bump c.refused }
  | some lane =>
    if s.takes .eq then
      (s.join .eq (localBlock .voice (Config.plainSubtype 2) lane s.lanes[lane].peer s.calls.records[r].voice.capture
        samples)).countVoice r fun c => { c with captured := bump c.captured }
    else s.countVoice r fun c => { c with refused := bump c.refused }

/-- R80 to R82: a voice exchange with a phone has completed. -/
def State.voiceOutcome (s : State) (slot : Fin 32) (o : VoiceOutcome) : State :=
  match s.seatedRecordOf slot with
  | none => s.modCalls fun c => { c with unseated := bump c.unseated }
  | some r =>
    let s1 :=
      if s.calls.records[r].state = .connected then
        match o with
        | some samples => s.captureBlock r samples
        | none => s.countVoice r fun c => { c with gap := bump c.gap }
      else s
    s1.modVoice r fun v => { v with capture := v.capture + 1 }

/-! ### Play-out at the start of a voice exchange (R79, R86, R87) -/

/-- R87, while PLAYING: the samples given and the fields after. DESIGN CHOICE (log entry 15): a record that so enters UNDERRUN with 2
or more frames queued ahead of next gives silence until the next insertion starts the play. -/
def VoiceFields.playOut (v : VoiceFields) (next : Byte) : List Byte × VoiceFields :=
  match v.queue.find? (·.seq == next) with
  | some f =>
    (f.samples, { v with queue := v.queue.filter (·.seq != next), last := some f.samples, rep := false,
                         next := some (next + 1) })
  | none =>
    if v.rep then (silentFrame, { v with rep := false, play := .underrun, next := some (next + 1) })
    else (v.last.getD Config.absentFrame, { v with rep := true, next := some (next + 1) })

/-- R79: the samples of a voice exchange with the phone of record r. -/
def State.playStep (s : State) (r : Fin 16) : List Byte × State :=
  let v := s.calls.records[r].voice
  if s.calls.records[r].state = .connected ∧ v.play = .playing then
    match v.next with
    | none => (silentFrame, s)
    | some next =>
      let (samples, v') := v.playOut next
      let s1 := s.modVoice r fun _ => v'
      match v.queue.any (·.seq == next), v.rep with
      | true, _ => (samples, s1)
      | false, false => (samples, s1.countVoice r fun c => { c with repeats := bump c.repeats })
      | false, true => (samples, s1.countVoice r fun c => { c with underruns := bump c.underruns })
  else (silentFrame, s)

/-! ### Arrivals (R83 to R86) -/

/-- The distance of a seq from next (R84). -/
def distance (next seq : Byte) : Nat := (seq - next).toNat

/-- A frame takes its place in sequence order from next. -/
def insertFrame (next : Byte) (f : VoiceFrame) : List VoiceFrame → List VoiceFrame
  | [] => [f]
  | g :: l => if distance next f.seq < distance next g.seq then f :: g :: l else g :: insertFrame next f l

/-- R86: with 2 frames queued after an insertion (or more, log entry 15), PREFILL and UNDERRUN become PLAYING from the queued
frame nearest to next, the first. -/
def VoiceFields.start (v : VoiceFields) : VoiceFields :=
  if v.play ≠ .playing ∧ 2 ≤ v.queue.length then
    match v.queue with
    | f :: _ => { v with play := .playing, next := some f.seq, rep := false }
    | [] => v
  else v

/-- R84: an insertion, counted as received. -/
def State.insertVoice (s : State) (r : Fin 16) (next : Byte) (f : VoiceFrame) : State :=
  (s.modVoice r fun v => VoiceFields.start { v with next := some next, queue := insertFrame next f v.queue }).countVoice r
    fun c => { c with received := bump c.received }

/-- R85: a block far ahead restarts the queue. -/
def State.resyncVoice (s : State) (r : Fin 16) (f : VoiceFrame) : State :=
  let n := s.calls.records[r].voice.queue.length
  (s.modVoice r fun v => { v with queue := [f], next := some f.seq, play := .prefill, rep := false }).countVoice r
    fun c => { c with resync := bump c.resync, flushed := bumpBy c.flushed n }

/-- R84: a frame of 32 samples judged against the play-out queue of a CONNECTED record. -/
def State.placeVoice (s : State) (r : Fin 16) (f : VoiceFrame) : State :=
  let v := s.calls.records[r].voice
  match v.next with
  | none => s.insertVoice r f.seq f
  | some next =>
    if distance next f.seq ≤ 7 then
      if v.queue.any (·.seq == f.seq) then s.countVoice r fun c => { c with duplicate := bump c.duplicate }
      else s.insertVoice r next f
    else if distance next f.seq ≤ 127 then s.resyncVoice r f
    else s.countVoice r fun c => { c with late := bump c.late }

/-- R83: a VOICE block handed to the record bound to its lane. -/
def State.takeVoice (s : State) (r : Fin 16) (b : Block) : State :=
  if b.body.length ≠ 32 then s.countVoice r fun c => { c with malformed := bump c.malformed }
  else if s.calls.records[r].state ≠ .connected then
    s.countVoice r fun c => { c with notConnected := bump c.notConnected }
  else s.placeVoice r { seq := b.seq, samples := b.body }

/-- R89: the voice fields at an entry into CONNECTED. -/
def VoiceFields.connect (v : VoiceFields) : VoiceFields :=
  { v with queue := [], next := none, play := .prefill, rep := false, last := none }

end Sys2Proof.Machine
end

