-- ==== Sys2Proof/Machine/Poller.lean ====
section
/-! DEFINITION. The drop poller's arbiter (3.4, 3.5): which exchange a drop begins, with the payload its engine supplies. How
an exchange completes stands in Exchange.lean. -/

namespace Sys2Proof.Machine

/-! ### Payloads (R55) -/

/-- The POLL of a TOLL station: its answers (12.4). -/
def tollPollBody (answers : List (BitVec 16 × Verdict)) : List Byte :=
  byte answers.length :: answers.flatMap fun a => be16 a.1 ++ [a.2.code]

/-- The POLL of a PHONE: tone, hook state expected and samples (R61, 12.4). -/
def State.phonePollBody (s : State) (slot : Fin 32) (samples : List Byte) : List Byte :=
  [(s.toneOf slot).code, flagByte (s.expectsOffHook slot)] ++ sized 32 samples

/-- R55: the payload of a station poll, and what its engine makes of giving it. -/
def State.stationPayload (s : State) (slot : Fin 32) : List Byte × State :=
  let e := s.poll.stations[slot]
  match e.kind with
  | .phone => (s.phonePollBody slot silentFrame, s)
  | .toll => (tollPollBody (readyAnswers s.jrnl.answers[slot]), s.carryAnswers slot)
  | .sign =>
    match signOf? e.link with
    | some k => s.signPayload k
    | none => (sized 35 [255], s)
  | .weather => ([], s)

/-- R55: the payload of a voice exchange. -/
def State.voicePayload (s : State) (slot : Fin 32) : List Byte × State :=
  match s.seatedRecordOf slot with
  | some r => (s.phonePollBody slot (s.playStep r).1, (s.playStep r).2)
  | none => (s.phonePollBody slot silentFrame, s)

/-! ### Beginning an exchange (R38, R42, R49) -/

/-- R42: what an exchange records of its station. -/
def State.snapshotOf (s : State) (slot : Fin 32) : Snapshot :=
  let e := s.poll.stations[slot]
  { slot := slot, drop := e.drop, address := e.address, kind := e.kind, link := e.link }

/-- The line enters SENDING with an exchange in flight. -/
def State.beginExchange (s : State) (d : Fin 4) (x : Exchange) (count : DropCounters → DropCounters) : State :=
  s.modDrop d fun l => { l with line := .sending, exch := some x, ctr := count l.ctr }

/-- R49 step 1, R52: the SUPPLY broadcast to address 31, counted as its frame begins (log entry 34). -/
def State.beginBroadcast (s : State) (d : Fin 4) : State :=
  (s.modDrop d fun l => { l with broadcast := false }).beginExchange d
    { snap := none, voice := false, begun := s.now, frame := frameBytes false 31 typeSupply [s.sup.state.code] }
    fun c => { c with broadcasts := bump c.broadcasts }

/-- R49 step 2. -/
def State.beginVoice (s : State) (d : Fin 4) (slot : Fin 32) : State :=
  let p := s.voicePayload slot
  p.2.beginExchange d
    { snap := some (s.snapshotOf slot), voice := true, begun := s.now,
      frame := frameBytes false s.poll.stations[slot].address typePoll p.1 }
    fun c => { c with voices := bump c.voices }

/-- R49 step 3. -/
def State.beginPoll (s : State) (d : Fin 4) (slot : Fin 32) : State :=
  let p := s.stationPayload slot
  p.2.beginExchange d
    { snap := some (s.snapshotOf slot), voice := false, begun := s.now,
      frame := frameBytes false s.poll.stations[slot].address typePoll p.1 }
    fun c => { c with polls := bump c.polls }

/-! ### The choice (R49, R51) -/

/-- The earliest time, the lower slot among equal times (slots given in rising order). -/
def earliest : List (Fin 32 × Nat) → Option (Fin 32 × Nat)
  | [] => none
  | x :: l =>
    match earliest l with
    | none => some x
    | some y => if x.2 ≤ y.2 then some x else some y

/-- The voice exchanges that are due on a drop. -/
def State.dueVoices (s : State) (d : Fin 4) : List (Fin 32 × Nat) :=
  (List.finRange 32).filterMap fun i =>
    let e := s.poll.stations[i]
    match e.voiceDue with
    | some t => if e.drop = d ∧ t ≤ s.now then some (i, t) else none
    | none => none

/-- The station polls that are due on a drop and not skipped (R50). -/
def State.duePolls (s : State) (d : Fin 4) : List (Fin 32 × Nat) :=
  (List.finRange 32).filterMap fun i =>
    let e := s.poll.stations[i]
    match e.due with
    | some t => if e.inUse ∧ e.drop = d ∧ t ≤ s.now ∧ s.skips e = false then some (i, t) else none
    | none => none

/-- R49: the choice of an IDLE line among the demands it weighs; a busy line waits for its completion, and REPEATER condition runs
no poller. -/
def State.chooseFrom (s : State) (d : Fin 4) (voices polls : List (Fin 32 × Nat)) : State :=
  if s.repeater || s.poll.drops[d].line != .idle then s
  else if s.poll.drops[d].broadcast then s.beginBroadcast d
  else
    match earliest voices with
    | some x => s.beginVoice d x.1
    | none =>
      match earliest polls with
      | some x => s.beginPoll d x.1
      | none => s

/-- R49, R51: the choice at an event while the line is IDLE weighs every demand whose moment has come. -/
def State.dropChoose (s : State) (d : Fin 4) : State := s.chooseFrom d (s.dueVoices d) (s.duePolls d)

/-- R51: a demand was taken before this moment's completion: its due time is past, or its coming was taken first
(log entry 51). -/
def State.isCome (s : State) (x : Fin 32 × Nat) : Bool := decide (x.2 < s.now) || s.poll.stations[x.1].come == some x.2

/-- R51: the choice at a completion weighs the demands taken before it; one that falls due in the same millisecond and is taken
after it waits for the next choice. -/
def State.endChoose (s : State) (d : Fin 4) : State :=
  s.chooseFrom d ((s.dueVoices d).filter s.isCome) ((s.duePolls d).filter s.isCome)

/-- R51: a due moment of a station has come. -/
def State.dueComes (s : State) (slot : Fin 32) (due : Option Nat) : State := s.modStation slot fun e => { e with come := due }

/-- R51: a choice on every drop. -/
def State.dropsChoose (s : State) : State := s.forEach (List.finRange 4) fun d s => s.dropChoose d

/-! ### Seats (R47, R48) -/

/-- R47, R48: a voice seat is taken: the phone's first voice exchange is due at once and its station polls stop. -/
def State.seatTaken (s : State) (slot : Fin 32) : State :=
  (s.modStation slot fun e => { e with voiceDue := some s.now, due := none, come := some s.now }).dropChoose s.poll.stations[slot].drop

/-- R47, R48: a voice seat is released: the phone's station poll is due at once. -/
def State.seatReleased (s : State) (slot : Fin 32) : State :=
  s.modStation slot fun e => { e with voiceDue := none, due := some s.now, come := some s.now }

end Sys2Proof.Machine
end

