-- ==== Sys2Proof/Machine/Calls.lean ====
section
/-! DEFINITION. The call engine (chapter 4): seats, the wait list, signalling with the phone centre, clearing and isolation. -/

namespace Sys2Proof.Machine

def State.countCalls (s : State) (f : CallCounters → CallCounters) : State := s.modCalls fun c => { c with ctr := f c.ctr }

/-! ### Signalling blocks (R65) -/

/-- R65: a CALL block offered to EQ on the lowest-numbered ACTIVE CALL lane, or lost. -/
def State.sendCall (s : State) (subtype : BitVec 4) (seq : Byte) (body : List Byte) : State :=
  match s.laneFor .call with
  | none => s.countCalls fun c => { c with signallingLost := bump c.signallingLost }
  | some lane =>
    if s.takes .eq then s.join .eq (localBlock .call subtype lane s.lanes[lane].peer seq body)
    else s.countCalls fun c => { c with signallingLost := bump c.signallingLost }

def callIdBytes (c : CallId) : List Byte := [c.node, c.counter]

/-- The call id bytes of a record; a record that signals holds one (R57). -/
def CallRecord.idBytes (r : CallRecord) : List Byte :=
  match r.callId with
  | some c => callIdBytes c
  | none => [255, 255]

/-- The drop, address and VOICE lane bytes of a REQUEST or RESUME (12.2). -/
def State.placeBytes (s : State) (r : Fin 16) : List Byte :=
  (match s.calls.records[r].phone with
   | some slot => [byte s.poll.stations[slot].drop.val, 0#3 ++ s.poll.stations[slot].address]
   | none => [255, 255]) ++ byteOr (s.calls.records[r].lane.map (·.val))

/-- The location code bytes of a REQUEST. -/
def State.locationBytes (s : State) (r : Fin 16) : List Byte :=
  match s.calls.records[r].phone with
  | some slot => be16 s.poll.stations[slot].location
  | none => be16 65535

/-- REQUEST and RESUME carry the attempt count after the send is counted as their seq (R65). -/
def State.sendRequest (s : State) (r : Fin 16) : State :=
  s.sendCall subRequest (byte s.calls.records[r].attempts)
    (s.calls.records[r].idBytes ++ s.placeBytes r ++ s.locationBytes r)

def State.sendResume (s : State) (r : Fin 16) : State :=
  s.sendCall subResume (byte s.calls.records[r].attempts) (s.calls.records[r].idBytes ++ s.placeBytes r)

/-- CLEAR for the record's own call id. -/
def State.sendClear (s : State) (r : Fin 16) (reason : ClearReason) : State :=
  s.sendCall subClear (byte s.calls.records[r].attempts) (s.calls.records[r].idBytes ++ [reason.code])

/-! ### Call ids (R59) -/

/-- The counter advances by 1, from 255 to 1. -/
def nextCounter (c : Byte) : Byte := if c = 255 then 1 else c + 1

/-- The counter advanced past the values held, at most n of them. -/
def skipHeld (held : List Byte) : Nat → Byte → Byte
  | 0, c => c
  | n + 1, c => if held.contains c then skipHeld held n (nextCounter c) else c

/-- The counter values that non-FREE records hold as call ids of this node. -/
def State.heldCounters (s : State) : List Byte :=
  (List.finRange 16).filterMap fun r =>
    match s.calls.records[r].callId with
    | some c => if s.calls.records[r].state ≠ .free ∧ c.node = s.nodeByte then some c.counter else none
    | none => none

/-- R59: the counter value a new call id takes. -/
def State.freshCounter (s : State) : Byte := skipHeld s.heldCounters 16 s.calls.counter

/-! ### SEIZED to CALLING (R66) -/

/-- R66: the record binds its lane, takes its call id, enters CALLING and sends REQUEST. -/
def State.enterCalling (s : State) (r : Fin 16) (lane : Fin 64) : State :=
  let c := s.freshCounter
  ((((s.modLane lane fun e => { e with binding := some r }).modCalls fun e => { e with counter := nextCounter c }).modRecord r
    fun x =>
      { x with state := .calling, lane := some lane, callId := some { node := s.nodeByte, counter := c }, attempts := 1,
               timer := some (s.now + 2000) }).countCalls
    fun k => { k with requested := bump k.requested }).sendRequest r

/-- A place in a list of records by time, the lower index first among equal times. -/
def insertByTime (x : Fin 16 × Nat) : List (Fin 16 × Nat) → List (Fin 16 × Nat)
  | [] => [x]
  | y :: l => if x.2 < y.2 ∨ (x.2 = y.2 ∧ x.1 < y.1) then x :: y :: l else y :: insertByTime x l

/-- The SEIZED records in order of seized time (R66). -/
def State.seizedRecords (s : State) : List (Fin 16) :=
  (((List.finRange 16).filterMap fun r =>
    if s.calls.records[r].state = .seized then some (r, s.calls.records[r].seized.getD 0) else none).foldr insertByTime
      []).map (·.1)

/-- R66: one record's test. -/
def State.tryCalling (s : State) (r : Fin 16) : State :=
  if s.pathAvailable then
    match s.freeVoiceLane with
    | some lane => s.enterCalling r lane
    | none => s
  else s

/-- R66: the test of the SEIZED records. -/
def State.testSeized (s : State) : State := s.forEach s.seizedRecords fun r s => s.tryCalling r

/-! ### Seizing, the wait list and the refill (R62 to R64) -/

/-- A FREE record becomes SEIZED with its seat taken (R58, R62). -/
def State.seize (s : State) (r : Fin 16) (slot : Fin 32) : State :=
  (s.modRecord r fun x => { x with state := .seized, phone := some slot, seized := some s.now }).seatTaken slot

/-- R63: a phone leaves the wait list; the list emptied queues a notice. -/
def State.leaveWaitList (s : State) (slot : Fin 32) : State :=
  let s1 := s.modCalls fun c => { c with waitList := c.waitList.filter (·.slot != slot) }
  if s1.calls.waitList.isEmpty && !s.calls.waitList.isEmpty then s1.notify (.waitList 0) else s1

/-- R64: one phone found by the walk. -/
def State.refillOne (s : State) (slot : Fin 32) : State :=
  match s.freeRecord with
  | some r => if s.seatFree s.poll.stations[slot].drop then (s.leaveWaitList slot).seize r slot else s
  | none => s

/-- R64: the walk of the wait list from its head. -/
def State.refillWalk (s : State) : State := s.forEach s.calls.waitList fun w s => s.refillOne w.slot

/-- R64: the refill; the records it filled are then taken by R66. -/
def State.refill (s : State) : State :=
  let s1 := s.refillWalk
  if s1.calls.waitList.length < s.calls.waitList.length then s1.testSeized else s1

/-- R62: an off-hook from a phone in no record and not on the wait list. -/
def State.offHook (s : State) (slot : Fin 32) : State :=
  let free := if s.seatFree s.poll.stations[slot].drop then s.freeRecord else none
  match free with
  | some r => (s.seize r slot).testSeized
  | none =>
    if s.calls.waitList.length < 32 then
      let s1 := s.modCalls fun c => { c with waitList := c.waitList ++ [{ slot := slot, since := s.now }] }
      if s.calls.waitList.isEmpty then s1.notify (.waitList 1) else s1
    else s.countCalls fun c => { c with waitListFull := bump c.waitListFull }

/-! ### Becoming FREE (R73) -/

/-- A record's seat is released, when it still holds one (R58). -/
def State.releaseSeat (s : State) (r : Fin 16) : State :=
  if s.calls.records[r].state.seated then
    match s.calls.records[r].phone with
    | some slot => s.seatReleased slot
    | none => s
  else s

/-- The binding is removed from a record's lane, when it has one. -/
def State.unbind (s : State) (r : Fin 16) : State :=
  match s.calls.records[r].lane with
  | some lane => s.modLane lane fun e => { e with binding := none }
  | none => s

/-- R73: the four steps, the seat's release reported and every field at its FREE value. -/
def State.clearRecord (s : State) (r : Fin 16) : State :=
  ((s.releaseSeat r).unbind r).modRecord r fun _ => CallRecord.free

/-- R73: a record becomes FREE; the refill runs, and then the SEIZED records are tested. -/
def State.freeCall (s : State) (r : Fin 16) : State := ((s.clearRecord r).refill).testSeized

/-! ### Clearing (R69, R71, R72) -/

def CallCounters.cleared (c : CallCounters) : ClearReason → CallCounters
  | .onHook => { c with clearOnHook := bump c.clearOnHook }
  | .lineLost => { c with clearLineLost := bump c.clearLineLost }
  | .centre => { c with clearCentre := bump c.clearCentre }
  | .forced => { c with clearForced := bump c.clearForced }

/-- R72: CLEARING with reason ON-HOOK or LINE-LOST; the release's refill follows the record's own transition. -/
def State.clearLocal (s : State) (r : Fin 16) (reason : ClearReason) : State :=
  (((((s.releaseSeat r).modRecord r fun x =>
    { x with state := .clearing, reason := some reason, attempts := 1, timer := some (s.now + 2000) }).countCalls
    (·.cleared reason)).sendClear r reason)).refill

/-- R69: CLEARING with reason CENTRE, the CLEARED carrying the answered block's seq. -/
def State.clearCentre (s : State) (r : Fin 16) (seq : Byte) : State :=
  (((((s.releaseSeat r).modRecord r fun x =>
    { x with state := .clearing, reason := some .centre, attempts := 0, timer := none }).countCalls
    (·.cleared .centre)).sendCall subCleared seq s.calls.records[r].idBytes)).refill

/-- R71: an on-hook or a move to OFFLINE reaches the phone's record. -/
def State.endCall (s : State) (r : Fin 16) (reason : ClearReason) : State :=
  match s.calls.records[r].state with
  | .free => s
  | .seized => s.freeCall r
  | .calling | .queued | .connected | .isolated => s.clearLocal r reason
  | .clearing => if s.calls.records[r].reason = some .centre then s.freeCall r else s

/-- R71: an on-hook or a move to OFFLINE, by the phone's standing. -/
def State.phoneGone (s : State) (slot : Fin 32) (reason : ClearReason) : State :=
  match s.recordOf slot with
  | some r => s.endCall r reason
  | none => if s.onWaitList slot then s.leaveWaitList slot else s

/-- R60: a hook state reported by a good reply. -/
def State.takeHook (s : State) (slot : Fin 32) (offHook : Bool) : State :=
  if offHook then
    if (s.recordOf slot).isSome || s.onWaitList slot then s else s.offHook slot
  else s.phoneGone slot .onHook

/-! ### Blocks from the phone centre (R68 to R70) -/

/-- R70: a CALL block whose call id no record holds, or one of no use to the node. -/
def State.unknownCall (s : State) : State := s.countCalls fun c => { c with unknownId := bump c.unknownId }

def State.lateSignal (s : State) : State := s.countCalls fun c => { c with lateSignal := bump c.lateSignal }

/-- R68, R89: entry into CONNECTED. -/
def State.connectCall (s : State) (r : Fin 16) : State :=
  (s.modRecord r fun x =>
    { x with state := .connected, attempts := 0, timer := none, prior := none, voice := x.voice.connect }).countCalls fun c =>
      { c with answered := bump c.answered }

/-- R68: entry into QUEUED. -/
def State.queueCall (s : State) (r : Fin 16) : State :=
  s.modRecord r fun x => { x with state := .queued, attempts := 0, timer := none, prior := none }

/-- R68. -/
def State.takeHeld (s : State) (r : Fin 16) : State :=
  match s.calls.records[r].state with
  | .calling | .connected | .isolated => s.queueCall r
  | .clearing => s.lateSignal
  | .queued | .free | .seized => s

/-- R68. -/
def State.takeAnswer (s : State) (r : Fin 16) : State :=
  match s.calls.records[r].state with
  | .calling | .queued | .isolated => s.connectCall r
  | .clearing => s.lateSignal
  | .connected | .free | .seized => s

/-- R69: a CLEAR from the centre. -/
def State.takeClear (s : State) (r : Fin 16) (seq : Byte) : State :=
  match s.calls.records[r].state with
  | .calling | .queued | .connected | .isolated => s.clearCentre r seq
  | .clearing =>
    let s1 := s.sendCall subCleared seq s.calls.records[r].idBytes
    if s.calls.records[r].reason = some .centre then s1 else s1.freeCall r
  | .free | .seized => s

/-- R72: a CLEARED whose call id is the record's. -/
def State.takeCleared (s : State) (r : Fin 16) : State :=
  if s.calls.records[r].clearingLocal then s.freeCall r else s.lateSignal

/-- R181: the body length of each CALL subtype; none for a subtype that is not one. -/
def callLength? (subtype : BitVec 4) : Option Nat :=
  if subtype = subRequest then some 7
  else if subtype = subHeld then some 2
  else if subtype = subAnswer then some 2
  else if subtype = subClear then some 3
  else if subtype = subCleared then some 2
  else if subtype = subResume then some 5
  else none

/-- R68 to R70: a CALL block handed to the call engine. -/
def State.takeCallBlock (s : State) (b : Block) : State :=
  if callLength? b.subtype ≠ some b.body.length then s.unknownCall
  else if b.subtype = subRequest ∨ b.subtype = subResume then s.unknownCall
  else
    let id : CallId := { node := byteAt b.body 0, counter := byteAt b.body 1 }
    match s.recordWithId id with
    | some r =>
      if b.subtype = subHeld then s.takeHeld r
      else if b.subtype = subAnswer then s.takeAnswer r
      else if b.subtype = subClear then s.takeClear r b.seq
      else s.takeCleared r
    | none =>
      if b.subtype = subHeld ∨ b.subtype = subAnswer then
        (s.sendCall subClear b.seq (callIdBytes id ++ [ClearReason.lineLost.code])).unknownCall
      else if b.subtype = subClear then (s.sendCall subCleared b.seq (callIdBytes id)).unknownCall
      else s.unknownCall

/-! ### Timers (R67, R72, R75) -/

/-- R67: the 2 s timer of a CALLING record. -/
def State.callingExpires (s : State) (r : Fin 16) : State :=
  if s.calls.records[r].attempts < 15 then
    (s.modRecord r fun x => { x with attempts := x.attempts + 1, timer := some (s.now + 2000) }).sendRequest r
  else
    s.modRecord r fun x =>
      { x with state := .isolated, prior := some .calling, attempts := 0, timer := some (s.now + 30000) }

/-- R72: the 2 s timer of a record CLEARING for a local reason. -/
def State.clearingExpires (s : State) (r : Fin 16) : State :=
  if s.calls.records[r].attempts < 4 then
    let s1 := s.modRecord r fun x => { x with attempts := x.attempts + 1, timer := some (s.now + 2000) }
    s1.sendClear r (s.calls.records[r].reason.getD .lineLost)
  else s.freeCall r

/-- R75: an ISOLATED record signals again. -/
def State.isolatedSignals (s : State) (r : Fin 16) : State :=
  let s1 := s.modRecord r fun x => { x with attempts := min 255 (x.attempts + 1), timer := some (s.now + 30000) }
  if s.calls.records[r].prior = some .calling then s1.sendRequest r else s1.sendResume r

/-! ### The ring's isolation (R74, R75) -/

/-- R74: the states a record leaves when the ring isolates the node. -/
def CallState.isolates : CallState → Bool
  | .calling | .queued | .connected => true
  | .free | .seized | .isolated | .clearing => false

/-- R74: entry of the ring state into ISOLATED. -/
def State.callsIsolated (s : State) : State :=
  s.forEach ((List.finRange 16).filter fun r => s.calls.records[r].state.isolates) fun r s =>
    (s.modRecord r fun x =>
      { x with state := .isolated, prior := some x.state, attempts := 0, timer := some (s.now + 30000) }).countCalls fun c =>
        { c with isolations := bump c.isolations }

/-- R75, R66: departure of the ring state from ISOLATED. -/
def State.callsHealed (s : State) : State :=
  (s.forEach ((List.finRange 16).filter fun r => s.calls.records[r].state == .isolated) fun r s =>
    s.isolatedSignals r).testSeized

/-! ### RESTART (R76) -/

/-- R76: one CLEAR with reason FORCED for a record that holds a call id. -/
def State.forceClear (s : State) (r : Fin 16) : State :=
  if s.calls.records[r].callId.isSome then
    ((s.modRecord r fun x => { x with attempts := min 255 (x.attempts + 1) }).sendClear r .forced).countCalls
      (·.cleared .forced)
  else s

/-- R76: the call engine's part of RESTART, after ring transit's. The records offer their CLEARs by record index (log entry 26). -/
def State.restartCalls (s : State) : State :=
  let s1 := s.forEach (List.finRange 16) fun r s => s.forceClear r
  let s2 := s1.forEach (List.finRange 16) fun r s => s.clearRecord r
  let s3 := s2.modCalls fun c => { c with waitList := [] }
  if s2.calls.waitList.isEmpty then s3 else s3.notify (.waitList 0)

end Sys2Proof.Machine
end

