-- ==== Sys2Proof/Machine/Exchange.lean ====
section
/-! DEFINITION. How an exchange of the drop poller completes (3.1 to 3.3, 3.6): the reply judged, the station's state kept, the
outcome reported and the reply dispatched, and the arbiter's next choice. -/

namespace Sys2Proof.Machine

def State.countDrop (s : State) (d : Fin 4) (f : DropCounters → DropCounters) : State :=
  s.modDrop d fun l => { l with ctr := f l.ctr }

/-- How an exchange with a station ends (R43). -/
inductive ExchangeEnd where
  | good (r : Reply)
  | bad
  | noReply
deriving DecidableEq, Repr

def ExchangeEnd.isGood : ExchangeEnd → Bool
  | .good _ => true
  | .bad | .noReply => false

/-! ### Station state (R43, R44, R47, R48) -/

/-- R43: the entry after a good reply. -/
def Station.answered (e : Station) : Station := { e with state := .online, miss := 0, good := bump e.good }

/-- R43: the entry after a miss. -/
def Station.missed (e : Station) : Station :=
  { e with state := if e.miss + 1 < 3 then .silent else .offline, miss := min 3 (e.miss + 1), misses := bump e.misses }

def Station.outcome (e : Station) (o : ExchangeEnd) : Station := if o.isGood then e.answered else e.missed

/-- R43: the drop's own counters of the outcome; a bad reply was counted when it was judged (R39). -/
def DropCounters.outcome (c : DropCounters) : ExchangeEnd → DropCounters
  | .good _ => { c with good := bump c.good }
  | .bad => c
  | .noReply => { c with noReply := bump c.noReply }

/-- R47, R48: the due time the completed exchange sets. -/
def Station.nextDue (e : Station) (voice : Bool) (begun : Nat) (sup : SupplyState) : Station :=
  if voice then { e with voiceDue := e.voiceDue.map fun _ => begun + 4 }
  else if e.voiceDue.isSome then e
  else { e with due := some (begun + e.effectivePeriod sup) }

/-- R44: the notice of a move into OFFLINE, or out of it. -/
def State.noticeStation (s : State) (x : Snapshot) (before : StationState) : State :=
  let e := s.poll.stations[x.slot]
  if before ≠ .offline ∧ e.state = .offline then s.notify (.station x.slot e.drop e.address e.kind .offline)
  else if before = .offline ∧ e.state = .online then s.notify (.station x.slot e.drop e.address e.kind .online)
  else s

/-! ### Reports and dispatch (R45, R53, R54) -/

/-- R45: a station has moved into OFFLINE; a WEATHER entry reports to the slot it names, whether or not it is the one linked there
(DESIGN CHOICE, log entry 45). -/
def State.reportOffline (s : State) (x : Snapshot) (before : StationState) : State :=
  let e := s.poll.stations[x.slot]
  if before ≠ .offline ∧ e.state = .offline then
    match e.kind with
    | .phone => s.phoneGone x.slot .lineLost
    | .weather =>
      match slotOf? e.link with
      | some k => s.weatherOffline k
      | none => s
    | .toll | .sign => s
  else s

/-- R54, R80: the outcome a voice exchange reports; a hook state that is neither code makes the reply a type mismatch. -/
def ExchangeEnd.voice : ExchangeEnd → VoiceOutcome
  | .good (.voice h samples) => if (flagOf? h).isSome then some samples else none
  | _ => none

/-- R53: a type that fits the station's kind and the exchange, with a hook state that is one of its codes. -/
def Reply.fits (k : StationKind) (voice : Bool) : Reply → Bool
  | .nil => !voice && k != .sign
  | .hook h => k == .phone && (flagOf? h).isSome
  | .voice h _ => k == .phone && voice && (flagOf? h).isSome
  | .txn _ _ => k == .toll
  | .reading _ => k == .weather
  | .chunkOk | .chunkAgain => k == .sign

/-- R54: the outcome of a SIGN poll. -/
def ExchangeEnd.sign : ExchangeEnd → SignOutcome
  | .good .chunkOk => .ok
  | .good .chunkAgain => .again
  | _ => .miss

/-- R128, R130, R138, R139: a READING handed to a reduction slot. -/
def State.takeReading (s : State) (x : Snapshot) (k : Fin 8) (rd : Reading) : State :=
  if s.slots[k].station = some x.slot then
    let speed := s.slots[k].speedOf rd s.now
    (((s.modSlot k fun r => r.process rd s.now).forwardReading k x.drop x.address rd speed).evaluate k)
  else s.countSlot k fun c => { c with unlinked := bump c.unlinked }

/-- R53: a fitting reply handed to the engine of the station's kind. -/
def State.handOver (s : State) (x : Snapshot) : Reply → State
  | .nil | .chunkOk | .chunkAgain => s
  | .hook h | .voice h _ => s.takeHook x.slot (h == 1)
  | .txn number body => s.takeTxn x.slot x.drop x.address number body
  | .reading rd =>
    match slotOf? x.link with
    | some k => s.takeReading x k rd
    | none => s

/-- R53: dispatch, or the count of a type mismatch. -/
def State.dispatch (s : State) (x : Snapshot) (voice : Bool) (r : Reply) : State :=
  if r.fits x.kind voice then s.handOver x r
  else s.countDrop x.drop fun c => { c with mismatch := bump c.mismatch }

/-- R54: the outcome reported to the engine that supplied the payload. -/
def State.reportOutcome (s : State) (x : Snapshot) (o : ExchangeEnd) : State :=
  match x.kind with
  | .toll => s.answersOutcome x.slot o.isGood
  | .sign =>
    match signOf? x.link with
    | some k => s.signOutcome k o.sign
    | none => s
  | .phone | .weather => s

/-- R80: the voice path acts on a voice exchange before the call engine does. -/
def State.reportVoice (s : State) (x : Snapshot) (voice : Bool) (o : ExchangeEnd) : State :=
  if voice then s.voiceOutcome x.slot o.voice else s

/-! ### Completion (R38, R42) -/

/-- The outcome of an exchange applied, reported and dispatched (R43 to R48, R53, R54). -/
def State.applyEnd (s : State) (x : Snapshot) (voice : Bool) (begun : Nat) (o : ExchangeEnd) : State :=
  let before := s.poll.stations[x.slot].state
  let s1 := (s.modStation x.slot fun e => (e.outcome o).nextDue voice begun s.sup.state).countDrop x.drop (·.outcome o)
  let s2 := ((((s1.noticeStation x before).reportVoice x voice o).reportOffline x before).reportOutcome x o)
  match o with
  | .good r => s2.dispatch x voice r
  | .bad | .noReply => s2

/-- R42: the outcome is applied when the entry is still the snapshot's station, and dropped otherwise. -/
def State.settleEnd (s : State) (x : Snapshot) (voice : Bool) (begun : Nat) (o : ExchangeEnd) : State :=
  if s.poll.stations[x.slot].matches x then s.applyEnd x voice begun o
  else s.countDrop x.drop fun c => { c with superseded := bump c.superseded }

/-- The line returns to IDLE. -/
def State.lineIdle (s : State) (d : Fin 4) : State :=
  s.modDrop d fun l => { l with line := .idle, exch := none, replyTimer := none }

/-- R38, R51: an exchange completes, and the arbiter makes its next choice. -/
def State.completeWith (s : State) (d : Fin 4) (o : ExchangeEnd) : State :=
  let s1 :=
    match s.poll.drops[d].exch with
    | some { snap := some x, voice := voice, begun := begun, .. } => s.settleEnd x voice begun o
    | _ => s
  (s1.lineIdle d).endChoose d

/-- R39: the frame that ends an exchange is judged against the polled station's address. -/
def State.judgeFrame (s : State) (d : Fin 4) (l : List Byte) : ExchangeEnd :=
  match s.poll.drops[d].exch with
  | some { snap := some x, .. } =>
    match Reply.ofFrame? x.address l with
    | some r => .good r
    | none => .bad
  | _ => .bad

/-- R39: a bad reply or a broken frame is counted. -/
def State.countBad (s : State) (d : Fin 4) (o : ExchangeEnd) : State :=
  match o with
  | .bad => s.countDrop d fun c => { c with bad := bump c.bad }
  | .good _ | .noReply => s

/-- The end of a frame in RECEIVING, or of a broken one: the exchange completes with it. -/
def State.frameEnds (s : State) (d : Fin 4) (o : ExchangeEnd) : State := (s.countBad d o).completeWith d o

/-- R39: a frame outside any exchange. -/
def State.countUnsolicited (s : State) (d : Fin 4) : State :=
  s.countDrop d fun c => { c with unsolicited := bump c.unsolicited }

/-- R38: what a reply frame, or a broken one, does in each line state. While AWAITING, a frame that has not started (its first
byte is REPLY_START) cannot end. -/
def State.frameArrives (s : State) (d : Fin 4) (o : ExchangeEnd) : State :=
  match s.poll.drops[d].line with
  | .receiving => s.frameEnds d o
  | .idle | .sending => s.countUnsolicited d
  | .awaiting => s

/-- R38: the reply timer's duration. -/
def replyTime (voice : Bool) : Nat := if voice then 1 else 2

/-- R38: the end of a sent frame. -/
def State.frameSent (s : State) (d : Fin 4) : State :=
  match s.poll.drops[d].line, s.poll.drops[d].exch with
  | .sending, some x =>
    if x.snap.isSome then s.modDrop d fun l => { l with line := .awaiting, replyTimer := some (s.now + replyTime x.voice) }
    else (s.lineIdle d).endChoose d
  | _, _ => s

end Sys2Proof.Machine
end

