-- ==== Sys2Proof/Machine/Supply.lean ====
section
/-! DEFINITION. The supply monitor (chapter 10): sampling, the judgement of the average, the settle timer and a change of supply
state. -/

namespace Sys2Proof.Machine

/-! ### Sampling (R161) -/

/-- R161: the window after a sample; a level above 4000 is read as 4000. -/
def pushSample (w : List Nat) (level : Nat) : List Nat := (w ++ [min level 4000]).drop (w.length + 1 - 8)

/-- R161: the average, formed when the window holds 8 samples. -/
def averageSample (w : List Nat) : Option Nat := if w.length = 8 then some (w.sum / 8) else none

/-- R161: the lowest-average record at a formed average. -/
def lowerOf (lowest : Option Nat) (avg : Option Nat) : Option Nat :=
  match avg, lowest with
  | none, l => l
  | some a, none => some a
  | some a, some b => some (min a b)

/-- R162: the levels among the node parameters. -/
def Params.levels (p : Params) : Levels :=
  { conserveEntry := p.conserveEntry, conserveExit := p.conserveExit, holdupEntry := p.holdupEntry, holdupExit := p.holdupExit }

/-- R161, R162: the monitor after a sample has joined its window, with the levels last written taken into force and the sample
timer started again. -/
def Supply.sampled (p : Supply) (lv : Levels) (level now : Nat) : Supply :=
  let w := pushSample p.window level
  { p with levels := lv, window := w, average := averageSample w, lowest := lowerOf p.lowest (averageSample w), sample := now + 1 }

/-! ### A change of supply state (R166) -/

def Supply.countEntry (p : Supply) (new : SupplyState) : Supply :=
  match new with
  | .normal => { p with normalEntries := bump p.normalEntries }
  | .conserve => { p with conserveEntries := bump p.conserveEntries }
  | .holdup => { p with holdupEntries := bump p.holdupEntries }

/-- R166, R167: the monitor's own fields at a change. -/
def Supply.enter (p : Supply) (new : SupplyState) (cause : SupplyCause) (now : Nat) : Supply :=
  { p.countEntry new with state := new, cause := some cause, changedAt := some now, settle := none }

/-- R166: the report to the custody journal (R96). -/
def State.supplyToJournal (s : State) (old new : SupplyState) : State :=
  if new = .holdup then s.journalHoldup else if old = .holdup then s.journalHoldupEnds else s

/-- R52: the broadcast-pending flag of every drop. -/
def State.setBroadcasts (s : State) : State :=
  s.modPoll fun p => { p with drops := p.drops.map fun d => { d with broadcast := true } }

/-- R166: a change of supply state. -/
def State.changeSupply (s : State) (new : SupplyState) (cause : SupplyCause) : State :=
  let old := s.sup.state
  ((((((s.modSup (·.enter new cause s.now)).notify (.supply old new cause s.sup.average)).supplyToJournal old new)).setBroadcasts)).dropsChoose

/-! ### The judgement (R163) and the settle timer (R165) -/

/-- R163: the change the judgement of a formed average makes, or none. -/
def Supply.judged (p : Supply) (avg : Nat) : Option (SupplyState × SupplyCause) :=
  match p.state with
  | .holdup => none
  | .normal | .conserve =>
    if p.feedLost then some (.holdup, .feedLost)
    else if avg < p.levels.holdupEntry then some (.holdup, .level)
    else if p.state = .normal ∧ avg < p.levels.conserveEntry ∧ avg < p.levels.conserveExit then some (.conserve, .level)
    else none

/-- R165: the condition for the settle timer. -/
def Supply.settles (p : Supply) (avg : Nat) : Bool :=
  match p.state with
  | .normal => false
  | .conserve => p.levels.conserveExit ≤ avg
  | .holdup => !p.feedLost && p.levels.holdupExit ≤ avg

/-- R165: the test of the settle timer at a formed average. -/
def Supply.testSettle (p : Supply) (avg now : Nat) : Supply :=
  if p.state = .normal then p
  else
    match p.settles avg, p.settle with
    | true, none => { p with settle := some (now + 2000) }
    | true, some _ => p
    | false, some _ => { p with settle := none, settleRestarts := bump p.settleRestarts }
    | false, none => p

/-- R163, R165: a sample that gives a formed average. -/
def State.judgeAverage (s : State) (avg : Nat) : State :=
  let s1 :=
    match s.sup.judged avg with
    | some c => s.changeSupply c.1 c.2
    | none => s
  s1.modSup (·.testSettle avg s1.now)

/-- R161, R163: a sample. -/
def State.sampleFeed (s : State) (level : Nat) : State :=
  let s1 := s.modSup (·.sampled s.agent.params.levels level s.now)
  match s1.sup.average with
  | some avg => s1.judgeAverage avg
  | none => s1

/-- R165: the settle timer expires. The levels are those in force, not those written since the last sample (R162). -/
def State.settleExpires (s : State) : State :=
  match s.sup.state with
  | .normal => s
  | .conserve => s.changeSupply .normal .settled
  | .holdup =>
    match s.sup.average with
    | some avg => if avg < s.sup.levels.conserveExit then s.changeSupply .conserve .settled else s.changeSupply .normal .settled
    | none => s.changeSupply .normal .settled

/-! ### The feed-lost input (R164) -/

/-- R164: an assertion. -/
def State.assertFeedLost (s : State) : State :=
  let s1 := s.modSup fun p => { p with feedLost := true, feedLosses := bump p.feedLosses }
  match s1.sup.state, s1.sup.average with
  | .holdup, _ => s1.modSup fun p => { p with settle := none }
  | .normal, some _ | .conserve, some _ => s1.changeSupply .holdup .feedLost
  | .normal, none | .conserve, none => s1

/-- R164: a negation, judged by the levels in force (R162). -/
def State.negateFeedLost (s : State) : State :=
  let s1 := s.modSup fun p => { p with feedLost := false }
  match s1.sup.state, s1.sup.average with
  | .holdup, some avg =>
    if s1.sup.levels.holdupExit ≤ avg then s1.modSup fun p => { p with settle := some (s.now + 2000) } else s1
  | _, _ => s1

end Sys2Proof.Machine
end

