-- ==== Sys2Proof/Machine/Status.lean ====
section
/-! DEFINITION. What STATUS and READ-ENTRY return and what CLEAR-COUNTERS clears (R23, R37, R56, R77, R90, R113, R126, R141, R160,
R168, R174, R176, R180), laid out as 12.3 says. The choices of layout are log entry 24. -/

namespace Sys2Proof.Machine

/-! ### Shapes -/

/-- A counter, a serial or a time takes four bytes (chapter 12). -/
def counters (l : List Nat) : List Byte := l.flatMap nat32

/-- A list of variable length: a count byte and its items (12.3). -/
def counted {α : Type} (l : List α) (f : α → List Byte) : List Byte := byte l.length :: l.flatMap f

/-- One value for each side, E first. -/
def bothSides {α : Type} (p : PerSide α) (f : α → List Byte) : List Byte := f p.e ++ f p.w

/-- One value for each direction, CW first. -/
def bothDirs {α : Type} (p : PerDir α) (f : α → List Byte) : List Byte := f p.cw ++ f p.ccw

/-- A value of each member of a table, in index order. -/
def eachOf {α : Type} {n : Nat} (v : Vector α n) (f : α → List Byte) : List Byte := v.toList.flatMap f

/-- An enumerated byte that may be none. -/
def codeOr (o : Option Byte) : List Byte := [o.getD 255]

/-- A time, modulo 4294967296 as a notice's (R179), or none. -/
def timeOr (o : Option Nat) : List Byte := nat32Or (o.map (· % 4294967296))

/-- Minutes left before a time: exact when the milliseconds left are whole minutes (log entry 6). -/
def minutesLeft (ms : Nat) : Nat := if ms % 60000 = 0 then ms / 60000 else Config.partMinutes ms

/-! ### RING (R23, R37) -/

/-- R23. The hold-off mark is sent set 1, clear 0 (log entry 43). -/
def OutPort.status (p : OutPort) : List Byte :=
  [byte p.allowance, byte p.credits.tq, byte p.credits.mq, byte p.credits.aq, flagByte p.heldOff.isSome]

def senderCode (h : HoldSender) : Byte := Config.unlistedCode .holdSender (if h.asserted then 1 else 0)

/-- R37. The light and far-fault flags are sent set 1, clear 0 (log entry 43). -/
def RxPort.status (p : RxPort) : List Byte :=
  [p.link.code, flagByte p.light] ++ codeOr (p.cause.map (·.code)) ++ [flagByte p.farFault]
    ++ byteOr (p.neighbour.map (·.toNat))

def State.ringStatus (s : State) : List Byte :=
  let r := s.ring
  let p := s.prot
  bothSides r.rx (fun x => nat32 x.errored) ++ bothSides r.rx (fun x => nat32 x.malformed)
    ++ bothSides r.rx (fun x => nat32 x.notUp) ++ bothDirs r.dirs (fun x => nat32 x.stripped)
    ++ bothDirs r.dirs (fun x => nat32 x.hopsExpired) ++ bothDirs r.dirs (fun x => nat32 x.displaced)
    ++ bothDirs r.dirs (fun x => nat32 x.overflowArrival) ++ bothSides r.tx (fun x => nat32 x.sent)
    ++ bothSides r.tx (fun x => nat32 x.rqRefused) ++ counters [r.restartEq, r.restartTq, r.restartAq]
    ++ bothSides r.out OutPort.status
    ++ [byte r.buffers.cw.length, senderCode r.senders.cw, byte r.buffers.ccw.length, senderCode r.senders.ccw]
    ++ bothSides p.ports (fun x => nat32 x.looped) ++ bothSides p.ports (fun x => nat32 x.provingFailed)
    ++ bothSides p.ports (fun x => nat32 x.linkDown) ++ nat32 p.changes ++ bothSides p.wrap (fun x => nat32 x.turned)
    ++ bothSides p.wrap (fun x => nat32 x.discarded) ++ counters [p.isoEq, p.isoTq, p.isoMq, p.isoAq]
    ++ [p.ring.code] ++ bothSides p.ports RxPort.status

/-! ### DROP (R56) -/

/-- The seated phones of a drop with their voice due times (R48). -/
def State.seatedPhones (s : State) (d : Fin 4) : List (Fin 32 × Nat) :=
  (List.finRange 32).filterMap fun i =>
    if s.poll.stations[i].drop = d then s.poll.stations[i].voiceDue.map fun t => (i, t) else none

def State.dropStatusOf (s : State) (d : Fin 4) : List Byte :=
  let l := s.poll.drops[d]
  [l.line.code] ++ byteOr ((l.exch.bind (·.snap)).map (·.slot.val)) ++ [flagByte l.broadcast]
    ++ counted (s.seatedPhones d) fun x => byte x.1.val :: timeOr (some x.2)

def State.dropStatus (s : State) : List Byte :=
  let each := fun f : DropCounters → Nat => eachOf s.poll.drops fun l => nat32 (f l.ctr)
  each (·.polls) ++ each (·.voices) ++ each (·.broadcasts) ++ each (·.good) ++ each (·.noReply) ++ each (·.bad)
    ++ each (·.mismatch) ++ each (·.unsolicited) ++ each (·.superseded)
    ++ eachOf s.poll.stations (fun e => counters [e.good, e.misses])
    ++ (List.finRange 4).flatMap s.dropStatusOf
    ++ counted (s.poll.stations.toList.filter Station.inUse) fun e => [e.state.code, byte e.miss] ++ timeOr e.due

/-! ### CALLS (R77, R90) -/

def VoiceCounters.bytes (c : VoiceCounters) : List Byte :=
  counters [c.captured, c.refused, c.gap, c.received, c.duplicate, c.late, c.resync, c.flushed, c.repeats, c.underruns,
    c.notConnected, c.malformed]

def CallRecord.status (r : CallRecord) : List Byte :=
  [r.state.code] ++ byteOr (r.phone.map (·.val)) ++ r.callId.elim [255, 255] (fun c => [c.node, c.counter])
    ++ byteOr (r.lane.map (·.val)) ++ codeOr (r.prior.map (·.code)) ++ [byte r.attempts]
    ++ codeOr (r.reason.map (·.code))

/-- R90. The repeat flag is sent set 1, clear 0 (log entry 43). -/
def VoiceFields.status (v : VoiceFields) : List Byte :=
  [v.capture, v.play.code] ++ codeOr v.next ++ counted v.queue (fun f => [f.seq]) ++ [flagByte v.rep]

/-- R77. The seated phones of a drop are listed by record index (log entry 24). -/
def State.callsStatus (s : State) : List Byte :=
  let c := s.calls.ctr
  counters [c.requested, c.answered, c.clearOnHook, c.clearLineLost, c.clearCentre, c.clearForced, c.isolations,
      c.waitListFull, c.signallingLost, c.unknownId, c.lateSignal]
    ++ eachOf s.calls.records CallRecord.status
    ++ (List.finRange 4).flatMap (fun d =>
        counted ((List.finRange 16).filter (s.seatedOn d)) fun r => byteOr (s.calls.records[r].phone.map (·.val)))
    ++ counted s.calls.waitList (fun w => byte w.slot.val :: timeOr (some w.since))
    ++ [s.calls.counter]
    ++ eachOf s.calls.records (fun r => r.voice.ctr.bytes) ++ s.calls.totals.bytes ++ nat32 s.calls.unseated
    ++ eachOf s.calls.records fun r => r.voice.status

/-! ### JOURNAL (R113, R126) -/

def AnswerEntry.status (e : AnswerEntry) : List Byte :=
  be16 e.number ++ [e.state.code] ++
    (match e.state with
     | .processing => [255]
     | .ready v | .carried v => [v.code])

def JournalCounters.bytes (c : JournalCounters) : List Byte :=
  counters [c.taken, c.repeatOffer, c.deferred, c.refusedFull, c.unplaced, c.delivered, c.discarded, c.lost, c.overrun,
    c.committed, c.fullEntries, c.sent, c.readRetry, c.reverts, c.resends, c.released, c.staleAck, c.controlDiscarded]

/-- A value of the RAM view, none while there is no view. -/
def Journal.seen {α : Type} (j : Journal) (x : α) : Option α := if j.hasView then some x else none

/-- R126: the operation in flight. R115 lists four; DESIGN CHOICE (log entry 50): a READ of the scan or of the load is shown too, as a
kind of its own. -/
def StoreOp.kindCode : StoreOp → Byte
  | .commit .. => Config.unlistedCode .storeOp 0
  | .mark _ => Config.unlistedCode .storeOp 1
  | .read .. => Config.unlistedCode .storeOp 2
  | .saveMark | .saveSlot .. => Config.unlistedCode .storeOp 3
  | .scan _ => Config.unlistedCode .storeOp 4
  | .load _ => Config.unlistedCode .storeOp 5

/-- R126: the client of an operation: the journal, or the agent for a save (R115). DESIGN CHOICE (log entry 50): the journal for a
READ of the scan, the agent for one of the load. -/
def StoreOp.clientCode : StoreOp → Byte
  | .commit .. | .mark _ | .read .. | .scan _ => Config.unlistedCode .opClient 0
  | .saveMark | .saveSlot .. | .load _ => Config.unlistedCode .opClient 1

/-- R126. A save's next step is the step in flight until that step has completed (DESIGN CHOICE, log entry 41). -/
def StoreController.status (c : StoreController) : List Byte :=
  counters [c.ctr.slotWrites, c.ctr.stateWrites, c.ctr.reads, c.ctr.mismatches, c.ctr.timeouts, c.ctr.saves,
      c.ctr.savesFailed]
    ++ [c.state.code] ++ codeOr (c.op.map (·.kindCode)) ++ codeOr (c.op.map (·.clientCode)) ++ [byte c.requests.length]
    ++ [flagByte c.save.isSome] ++ byteOr (c.save.map (·.next)) ++ be32 c.generation ++ codeOr (c.lastLoad.map (·.code))
    ++ nat16 c.orphans ++ nat16 c.gaps

def State.journalStatus (s : State) : List Byte :=
  let j := s.jrnl
  j.ctr.bytes ++ [j.cond.code] ++ codeOr (j.faultCause.map (·.code)) ++ nat16Or (j.seen j.held)
    ++ nat16Or (j.seen j.freeCount) ++ byteOr (j.seen j.bad.length) ++ nat32Or (j.oldest.map (·.serial))
    ++ nat16Or (j.oldest.map (·.slot)) ++ nat16Or (j.seen j.cursor) ++ nat32Or (j.seen j.nextSerial)
    ++ nat32Or j.newestSent ++ nat32Or j.sendCursor ++ [byte j.credit, byte j.inTransit.length, byte j.readAhead.length]
    ++ timeOr (earliestSend j.inTransit) ++ nat16 j.pendingMarks.length
    ++ [Config.unlistedCode .highMark (if j.highSpent then 1 else 0), byte j.staging.length, flagByte j.overrun]
    ++ (List.finRange 32).flatMap (fun i =>
        if s.poll.stations[i].inUse ∧ s.poll.stations[i].kind = .toll then counted j.answers[i] AnswerEntry.status else [])
    ++ s.ctl.status

/-! ### SUPPLY (R168) -/

/-- R168. The levels are those of the node parameters; the time left on the settle timer, 2000 ms at most, takes two bytes (log
entry 24); the feed-lost input is sent asserted 1, negated 0 (log entry 43). -/
def State.supplyStatus (s : State) : List Byte :=
  let p := s.sup
  let lv := s.agent.params
  counters [p.normalEntries, p.conserveEntries, p.holdupEntries, p.feedLosses, p.settleRestarts] ++ [p.state.code]
    ++ codeOr (p.cause.map (·.code)) ++ timeOr p.changedAt ++ nat16Or p.average ++ [byte p.window.length]
    ++ [flagByte p.feedLost, flagByte p.settle.isSome] ++ nat16Or (p.settle.map (· - s.now))
    ++ nat16 lv.conserveEntry ++ nat16 lv.conserveExit ++ nat16 lv.holdupEntry ++ nat16 lv.holdupExit
    ++ nat16Or p.lowest

/-! ### LANES, and a lane's READ-ENTRY (R174, R176) -/

/-- R174: an ordinary lane's record, binding and counters; the counters alone for lane 63. -/
def State.laneStatus (s : State) (i : Fin 64) : List Byte :=
  let e := s.lanes[i]
  (if i.val = 63 then [] else e.record ++ byteOr (e.binding.map (·.val))) ++ counters [e.delivered, e.refused]

def State.lanesStatus (s : State) : List Byte := (List.finRange 64).flatMap s.laneStatus

/-! ### SIGNS (R160) -/

/-- R160. An EMPTY page's size and bytes filled are sent as 0 (log entry 24). -/
def Page.status (p : Page) : List Byte :=
  [p.state.code] ++ nat16 p.size ++ counted p.units (fun u => [byte u]) ++ nat16 p.filled

/-- R160: the operator request with the minutes left before expiry; none for an absent request or an expiry that never
comes. -/
def requestStatus (q : Option Request) (now : Nat) : List Byte :=
  byteOr (q.map (·.page.val)) ++ byteOr (q.map (·.priority))
    ++ nat16Or ((q.bind (·.expiry)).map fun t => minutesLeft (t - now))

/-- R160: a sign's record. A LIVE or NEXT of BLANK is sent as 255, the byte with every bit set: chapter 12 gives that code to
none and absent alone, and R182 lists no code for BLANK (DESIGN CHOICE, log entry 24). -/
def Sign.status (r : Sign) (now : Nat) : List Byte :=
  byteOr (r.station.map (·.val)) ++ byteOr (r.live.map (·.val)) ++ byteOr (r.next.map (·.val))
    ++ [byte r.cursor, byte r.lastIntensity] ++ requestStatus r.request now

def State.signsStatus (s : State) : List Byte :=
  let each := fun f : SignCounters → Nat => eachOf s.sign.signs fun k => nat32 (f k.ctr)
  eachOf s.rules (fun r => nat32 r.sets) ++ eachOf s.rules (fun r => nat32 r.clears) ++ each (·.chunkOk)
    ++ each (·.chunkAgain) ++ each (·.chunkMiss) ++ each (·.stale) ++ each (·.swaps)
    ++ eachOf s.rules (fun r => [r.state.code, byte r.count, flagByte r.effective])
    ++ eachOf s.sign.signs (fun k => k.status s.now)
    ++ eachOf s.sign.signs (fun k => eachOf k.pages Page.status)
    ++ nat16 s.sign.freeUnits.length

/-! ### COUNTERS (R141, R180) -/

def SlotCounters.bytes (c : SlotCounters) : List Byte :=
  counters [c.readings, c.unlinked, c.invalidTs, c.invalidTa, c.zeroInvalid, c.clamp, c.saturation, c.windRestart,
    c.windGap, c.windClamp, c.stale, c.forwarded, c.forwardRefused, c.forwardSkipped]

def State.countersStatus (s : State) : List Byte :=
  let a := s.agent
  eachOf s.slots (fun k => k.ctr.bytes) ++ counters [a.taken, a.busyReplies, a.overflow, a.queued, a.lost]
    ++ [byte a.intake.length, byte a.outbox.length, flagByte a.saveReply.isSome]
    ++ byteOr (a.saveReply.map (·.src.toNat)) ++ [byte a.notices.length] ++ be16 a.serial ++ [flagByte s.notReady]

/-- R176: the values of a group as they stand. -/
def State.groupStatus (s : State) : Group → List Byte
  | .ring => s.ringStatus
  | .drop => s.dropStatus
  | .calls => s.callsStatus
  | .journal => s.journalStatus
  | .supply => s.supplyStatus
  | .lanes => s.lanesStatus
  | .signs => s.signsStatus
  | .counters => s.countersStatus

/-! ### READ-ENTRY (R174) -/

/-- R141: a formed value with its formed state, 1 when formed (log entry 43); one not formed is sent as none. -/
def derivedStatus (o : Option Int) : List Byte := flagByte o.isSome :: int16Or o

def ReductionSlot.status (r : ReductionSlot) : List Byte :=
  let d := r.derived
  r.record ++ byteOr (r.station.map (·.val)) ++ [Config.unlistedCode .freshness (if r.fresh then 1 else 0)]
    ++ [byte r.surface.length, byte r.air.length, byte r.humidity.length, byte r.visibility.length, byte r.light.length,
        byte r.wind.length, byte r.gust.length]
    ++ nat16Or (r.prev.map (·.count)) ++ nat16Or (r.prev.map (·.stamp)) ++ timeOr (r.prev.map (·.storedAt))
    ++ counted r.gust int16
    ++ [d.surface, d.air, d.humidity, d.visibility, d.light, d.windMean, d.windGust].flatMap derivedStatus

/-- R174: what READ-ENTRY of a table and index in its range returns. -/
def State.entryStatus (s : State) (t : Table) (i : Nat) : List Byte :=
  match t with
  | .lane => (fin? 64 i).elim [] s.laneStatus
  | .station =>
    (fin? 32 i).elim [] fun k =>
      let e := s.poll.stations[k]
      e.record i ++ [byte e.miss] ++ timeOr e.due ++ counters [e.good, e.misses]
  | .rule =>
    (fin? 32 i).elim [] fun k => s.rules[k].record ++ [s.rules[k].state.code, byte s.rules[k].count]
  | .sign =>
    (fin? 12 i).elim [] fun k =>
      let r := s.sign.signs[k]
      r.mode.record (byteOr (r.station.map (·.val))) ++ [byte r.lastIntensity]
  | .slot => (fin? 8 i).elim [] fun k => s.slots[k].status
  | .param => s.agent.params.record

/-! ### CLEAR-COUNTERS (R176) -/

def RxPort.cleared (p : RxPort) : RxPort := { p with looped := 0, provingFailed := 0, linkDown := 0 }

def State.clearRing (s : State) : State :=
  (s.modRing fun r =>
    let z := RingTransit.reset
    { r with rx := z.rx, dirs := z.dirs, tx := z.tx, restartEq := 0, restartTq := 0, restartAq := 0 }).modProt fun p =>
      { p with ports := ⟨p.ports.e.cleared, p.ports.w.cleared⟩, changes := 0, wrap := ⟨⟨0, 0⟩, ⟨0, 0⟩⟩, isoEq := 0,
               isoTq := 0, isoMq := 0, isoAq := 0 }

def State.clearDrop (s : State) : State :=
  s.modPoll fun p =>
    { p with stations := p.stations.map fun e => { e with good := 0, misses := 0 },
             drops := p.drops.map fun l => { l with ctr := DropCounters.zero } }

def State.clearCalls (s : State) : State :=
  s.modCalls fun c =>
    { c with ctr := CallEngine.reset.ctr, totals := VoiceCounters.zero, unseated := 0,
             records := c.records.map fun r => { r with voice := { r.voice with ctr := VoiceCounters.zero } } }

def State.clearJournal (s : State) : State :=
  (s.modJrnl fun j => { j with ctr := JournalCounters.zero }).modCtl fun c =>
    { c with ctr := (StoreController.reset true).ctr }

/-- R161: the lowest-average record becomes absent with the counters of SUPPLY. -/
def State.clearSupply (s : State) : State :=
  s.modSup fun p =>
    { p with normalEntries := 0, conserveEntries := 0, holdupEntries := 0, feedLosses := 0, settleRestarts := 0,
             lowest := none }

def State.clearLanes (s : State) : State := s.modLanes fun l => l.map fun e => { e with delivered := 0, refused := 0 }

def State.clearSigns (s : State) : State :=
  (s.modRules fun l => l.map fun r => { r with sets := 0, clears := 0 }).modSign fun g =>
    { g with signs := g.signs.map fun k => { k with ctr := Sign.reset.ctr } }

def State.clearSlots (s : State) : State :=
  (s.modSlots fun l => l.map fun r => { r with ctr := SlotCounters.zero }).modAgent fun a =>
    { a with taken := 0, busyReplies := 0, overflow := 0, queued := 0, lost := 0 }

/-- R176: every counter of a group becomes 0. -/
def State.clearGroup (s : State) : Group → State
  | .ring => s.clearRing
  | .drop => s.clearDrop
  | .calls => s.clearCalls
  | .journal => s.clearJournal
  | .supply => s.clearSupply
  | .lanes => s.clearLanes
  | .signs => s.clearSigns
  | .counters => s.clearSlots

end Sys2Proof.Machine
end

