-- ==== Sys2Proof/Machine/Tables.lean ====
section
/-! DEFINITION. The table writes of WRITE-ENTRY, each with its owner's checks and reports (R8, R41, R129, R142, R149, R170,
R174). -/

namespace Sys2Proof.Machine

/-! ### LANE (R8) -/

def LaneEntry.configure (e : LaneEntry) (x : LaneRecord) : LaneEntry :=
  { e with active := x.active, service := x.service, peer := x.peer }

/-- R8: a lane write, its index in 0 to 63; the write is reported to the call engine and the journal (R66, R105). -/
def State.writeLane (s : State) (i : Fin 64) (l : List Byte) : Status × State :=
  if i.val = 63 then (.badIndex, s)
  else if s.lanes[i].service = .voice ∧ s.lanes[i].binding.isSome then (.state, s)
  else
    match LaneRecord.ofBytes? l with
    | none => (.badValue, s)
    | some x => (.done, (((s.modLane i (·.configure x)).testSeized).offerTolls))

/-! ### STATION (R40, R41) -/

/-- R41: the station in the slot is a PHONE in the call table or on the wait list. -/
def State.stationBusy (s : State) (i : Fin 32) : Bool :=
  s.poll.stations[i].inUse && s.poll.stations[i].kind == .phone && ((s.recordOf i).isSome || s.onWaitList i)

/-- R41: another entry in use names the same sign record or reduction slot, or has the same drop and address. -/
def Station.clashes (e : Station) (x : StationRecord) : Bool :=
  e.inUse &&
    (((x.kind == .sign || x.kind == .weather) && e.kind == x.kind && e.link == x.link) ||
      (e.drop == x.drop && e.address == x.address))

def State.stationClashes (s : State) (i : Fin 32) (x : StationRecord) : Bool :=
  (List.finRange 32).any fun k => k != i && s.poll.stations[k].clashes x

/-- R41: the entry would be the ninth in use on its drop. -/
def State.dropFull (s : State) (i : Fin 32) (x : StationRecord) : Bool :=
  x.state != .unused &&
    decide (8 ≤ ((List.finRange 32).filter fun k =>
      k != i && s.poll.stations[k].inUse && s.poll.stations[k].drop == x.drop).length)

/-- The configured fields a write carries. -/
def Station.configure (e : Station) (x : StationRecord) : Station :=
  { e with drop := x.drop, address := x.address, kind := x.kind, period := x.period, link := x.link,
           location := x.location, shed := x.shed }

/-- The run-time fields cleared. -/
def Station.cleared (e : Station) : Station :=
  { e with state := .unused, miss := 0, due := none, voiceDue := none, come := none, good := 0, misses := 0 }

/-- R41: the write sets the entry up as a new station. -/
def Station.renewed (e : Station) (x : StationRecord) : Bool :=
  x.state != .unused && (!e.inUse || e.drop != x.drop || e.address != x.address || e.kind != x.kind)

/-- R41: the entry after a write that passes. -/
def Station.write (e : Station) (x : StationRecord) (now : Nat) : Station :=
  if x.state = .unused then (e.cleared).configure x
  else if e.renewed x then { (e.cleared).configure x with state := .online, due := some now, come := some now }
  else e.configure x

/-- The WEATHER entry in use that names a reduction slot; of two, which only an image can hold, the one of the lower station slot
(DESIGN CHOICE, log entry 45). -/
def State.feederOf (s : State) (k : Fin 8) : Option (Fin 32) :=
  (List.finRange 32).find? fun i =>
    let e := s.poll.stations[i]
    e.inUse && e.kind == .weather && slotOf? e.link == some k

/-- The SIGN entry in use that names a sign record; of two, which only an image can hold, the one of the lower station slot
(DESIGN CHOICE, log entry 45). -/
def State.signStationOf (s : State) (k : Fin 12) : Option (Fin 32) :=
  (List.finRange 32).find? fun i =>
    let e := s.poll.stations[i]
    e.inUse && e.kind == .sign && signOf? e.link == some k

/-- R128, R148: the link an entry names is reported to its engine as the table now stands. -/
def State.reportLink (s : State) (e : Station) : State :=
  match e.inUse, e.kind with
  | true, .weather =>
    match slotOf? e.link with
    | some k => s.modSlot k (·.relink (s.feederOf k))
    | none => s
  | true, .sign =>
    match signOf? e.link with
    | some k => s.relinkSign k (s.signStationOf k)
    | none => s
  | _, _ => s

/-- R92, R128, R148: the reports of a write that set up, removed or relinked a station: the old link first, then the new. -/
def State.reportStation (s : State) (i : Fin 32) (old : Station) (x : StationRecord) : State :=
  let removed := old.inUse && x.state == .unused
  let anew := old.renewed x
  let moved := old.inUse && old.link != x.link
  let s1 := if removed || anew then s.emptyAnswers i else s
  let s2 := if removed || anew || moved then s1.reportLink old else s1
  if anew || (moved && !removed) then s2.reportLink s2.poll.stations[i] else s2

/-- R50, R51: the write ends the shedding that skipped the station. -/
def State.endsShed (s : State) (old : Station) (x : StationRecord) : Bool :=
  s.sup.state == .conserve && old.inUse && x.state != .unused && old.shed && !x.shed

/-- R41: a station write. -/
def State.writeStation (s : State) (i : Fin 32) (l : List Byte) : Status × State :=
  if s.stationBusy i then (.state, s)
  else
    match StationRecord.ofBytes? l with
    | none => (.badValue, s)
    | some x =>
      if s.stationClashes i x then (.badValue, s)
      else if s.dropFull i x then (.full, s)
      else
        let old := s.poll.stations[i]
        let s1 := (s.modStation i (·.write x s.now)).reportStation i old x
        (.done, if old.renewed x || s.endsShed old x then s1.dropChoose x.drop else s1)

/-! ### The other tables -/

/-- R142, R143. -/
def State.writeRuleEntry (s : State) (i : Fin 32) (l : List Byte) : Status × State :=
  match RuleRecord.ofBytes? l with
  | none => (.badValue, s)
  | some x => (.done, s.writeRule i x)

/-- R149. -/
def State.writeSignEntry (s : State) (k : Fin 12) (l : List Byte) : Status × State :=
  match IntensityMode.ofBytes? l with
  | none => (.badValue, s)
  | some m => (.done, s.writeSign k m)

/-- R129. -/
def State.writeSlotEntry (s : State) (k : Fin 8) (l : List Byte) : Status × State :=
  match SlotRecord.ofBytes? l with
  | none => (.badValue, s)
  | some x => (.done, s.modSlot k (·.configure x))

/-- R170: every node parameter at once. -/
def State.writeParams (s : State) (l : List Byte) : Status × State :=
  match Params.ofBytes? l with
  | none => (.badValue, s)
  | some p => (.done, s.modAgent fun a => { a with params := p })

/-- R174: a write to a table at an index in its range. -/
def State.writeEntry (s : State) (t : Table) (i : Nat) (l : List Byte) : Status × State :=
  match t with
  | .lane => (fin? 64 i).elim (.badIndex, s) fun k => s.writeLane k l
  | .station => (fin? 32 i).elim (.badIndex, s) fun k => s.writeStation k l
  | .rule => (fin? 32 i).elim (.badIndex, s) fun k => s.writeRuleEntry k l
  | .sign => (fin? 12 i).elim (.badIndex, s) fun k => s.writeSignEntry k l
  | .slot => (fin? 8 i).elim (.badIndex, s) fun k => s.writeSlotEntry k l
  | .param => s.writeParams l

end Sys2Proof.Machine
end

