-- ==== Sys2Proof/Machine/Reset.lean ====
section
/-! DEFINITION. The full reset with what it leaves in the store (R114, R123), and the parts of RESTART in their order (R178). -/

namespace Sys2Proof.Machine

/-! ### What an operation cut short leaves (R114) -/

/-- n free bytes. -/
def State.freeBytes (s : State) (n : Nat) : List Byte := (List.range n).map fun i => Config.freeByte (s.free + i)

/-- Bytes that read as an invalid slot: these, or these with their check broken. -/
def invalidated (l : List Byte) : List Byte := if slotValid l then l.set 1 (byteAt l 1 ^^^ 1) else l

/-- R114: a SLOT-WRITE cut short leaves a slot that reads as invalid, whatever its bytes. -/
def State.cutSlot (s : State) (slot : Nat) : State := (s.putSlot slot (invalidated (s.freeBytes 64))).spend 64

/-- R114, R182: a STATE-WRITE clears bits alone, so that one cut short leaves the mark with some of its bits cleared. -/
def State.cutMark (s : State) (slot : Nat) : State :=
  (s.putMark slot (byteAt (s.storeSlot slot) 0 &&& Config.freeByte s.free)).spend 1

/-- R114: the store after a full reset that cut the operation in flight short. R99, R120 and R123: a commit, and the write of the
header, cut short before their verify READ completes read as invalid (log entry 37, where R114's row for a READ says otherwise). A
save whose step 1 has not started has no operation in flight, and the image of before stays (R114, R123, where R177's words say that
the store holds none: DEDUCED, log entry 37). -/
def State.cutShort (s : State) : State :=
  match s.ctl.op with
  | some (.commit slot _ _) => s.cutSlot slot
  | some (.saveSlot slot _ step) => if step = .write ∨ slot = 8064 then s.cutSlot slot else s
  | some (.mark slot) => s.cutMark slot
  | some .saveMark => s.cutMark 8064
  | some (.read ..) | some (.scan _) | some (.load _) | none => s

/-- R1: the full reset. What stands outside the node is kept: the light, the feed-lost input, the store and the commands that
wait. -/
def State.fullReset (s : State) (straps : BitVec 5) : State :=
  let c := s.cutShort
  State.afterReset straps c.prot.ports.e.light c.prot.ports.w.light c.sup.feedLost c.nv c.free c.pending

/-! ### RESTART (R178) -/

/-- R17: ring transit empties EQ, TQ and AQ. -/
def RingTransit.restart (r : RingTransit) : RingTransit :=
  { r with
    eq := [], tq := [], aq := []
    restartEq := bumpBy r.restartEq r.eq.length
    restartTq := bumpBy r.restartTq r.tq.length
    restartAq := bumpBy r.restartAq r.aq.length }

/-- R115: a RESTART from FAULT puts the controller in SCANNING; the first READ starts at once, or at the end of the operation
in flight. -/
def State.rescan (s : State) : State :=
  let s1 := s.modCtl fun c => { c with state := .scanning, found := [], scanThenLoad := false }
  if s.ctl.op.isSome then s1 else s1.scanRead 0

/-- R112, R115: the journal's and the store controller's part. -/
def State.restartCustody (s : State) : State :=
  if s.jrnl.cond = .fault then (s.restartJournal).rescan else s.restartJournal

/-- R8, R76: every lane binding is removed. -/
def State.unbindAll (s : State) : State := s.modLanes fun l => l.map fun e => { e with binding := none }

/-- R140: weather reduction's part. -/
def State.restartWeather (s : State) : State := s.modSlots fun l => l.map ReductionSlot.emptied

/-- R178: the parts of RESTART. The drop poller and the supply monitor keep what they hold (R38, R167). -/
def State.restartAll (s : State) : State :=
  ((((((s.modRing (·.restart)).restartCalls).unbindAll).restartCustody).restartWeather).restartSigns)

end Sys2Proof.Machine
end

