-- ==== Sys2Proof/Machine/Manage.lean ====
section
/-! DEFINITION. The management agent (chapter 11): how a command is judged and carried out, its reply and the offers to MQ. -/

namespace Sys2Proof.Machine

/-! ### Commands (12.3) -/

/-- A command whose body length fits and whose table, group and force arguments are defined (R172 step 3). -/
inductive Order where
  | readEntry (t : Table) (index : Nat)
  | writeEntry (t : Table) (index : Nat) (record : List Byte)
  | pageOpen (sign page : Nat) (size : Byte)
  | pageData (sign page offset : Nat) (data : List Byte)
  | pageDiscard (sign page : Nat)
  | signSet (sign page priority minutes : Nat)
  | signCancel (sign : Nat)
  | status (g : Group)
  | clearCounters (g : Group)
  | saveConfig
  | restart (force : Bool)
deriving DecidableEq, Repr

/-- An order from a body of exactly n bytes. -/
def exactly (n : Nat) (l : List Byte) (o : Option Order) : Option Order := if l.length = n then o else none

def natAt (l : List Byte) (i : Nat) : Nat := (byteAt l i).toNat

/-- A WRITE-ENTRY: table, index and the table's entry record. -/
def parseWrite (l : List Byte) : Option Order :=
  match Table.ofCode? (byteAt l 0) with
  | none => none
  | some t => exactly (2 + t.recordSize) l (some (.writeEntry t (natAt l 1) (l.drop 2)))

/-- R172 step 3: none is BAD-VALUE. The code is one of the eleven. -/
def Command.order? (c : Command) : Option Order :=
  let l := c.body
  if c.code = cmdReadEntry then exactly 2 l ((Table.ofCode? (byteAt l 0)).map fun t => .readEntry t (natAt l 1))
  else if c.code = cmdWriteEntry then parseWrite l
  else if c.code = cmdPageOpen then exactly 3 l (some (.pageOpen (natAt l 0) (natAt l 1) (byteAt l 2)))
  else if c.code = cmdPageData then
    if 4 ≤ l.length ∧ l.length ≤ 51 then some (.pageData (natAt l 0) (natAt l 1) (natAt l 2) (l.drop 3)) else none
  else if c.code = cmdPageDiscard then exactly 2 l (some (.pageDiscard (natAt l 0) (natAt l 1)))
  else if c.code = cmdSignSet then
    exactly 5 l (some (.signSet (natAt l 0) (natAt l 1) (natAt l 2) (word16At l 3).toNat))
  else if c.code = cmdSignCancel then exactly 1 l (some (.signCancel (natAt l 0)))
  else if c.code = cmdStatus then exactly 1 l ((Group.ofCode? (byteAt l 0)).map .status)
  else if c.code = cmdClearCounters then exactly 1 l ((Group.ofCode? (byteAt l 0)).map .clearCounters)
  else if c.code = cmdSaveConfig then exactly 0 l (some .saveConfig)
  else exactly 1 l ((flagOf? (byteAt l 0)).map .restart)

/-- R172 step 2. -/
def knownCode (code : BitVec 4) : Bool := 1 ≤ code.toNat && code.toNat ≤ 11

/-- R172 step 4: the index, sign or page of an order lies in its range. -/
def Order.inRange : Order → Bool
  | .readEntry t i | .writeEntry t i _ => decide (i < t.size)
  | .pageOpen k p _ | .pageData k p _ _ | .pageDiscard k p | .signSet k p _ _ => decide (k < 12) && decide (p < 8)
  | .signCancel k => decide (k < 12)
  | .status _ | .clearCounters _ | .saveConfig | .restart _ => true

/-- R172 step 5: a WRITE-ENTRY or a SAVE-CONFIG. -/
def Order.savesOrWrites : Order → Bool
  | .writeEntry .. | .saveConfig => true
  | .readEntry .. | .pageOpen .. | .pageData .. | .pageDiscard .. | .signSet .. | .signCancel .. | .status .. | .clearCounters ..
  | .restart .. => false

/-! ### Carrying out (R172 step 6, R174 to R178) -/

/-- The image generation a save writes (R123; log entry 9 for the last). -/
def nextGeneration (g : BitVec 32) : BitVec 32 := if g = BitVec.allOnes 32 then Config.generationAfterLast else g + 1

/-- R123, R177: a save begins; its reply waits for its end. -/
def State.beginSave (s : State) (src : NodeId) (tag : Byte) : State :=
  ((s.modCtl fun c =>
    { c with save := some { next := 1, generation := nextGeneration c.generation, check := BitVec.allOnes 32 } }).modAgent fun a =>
      { a with saveReply := some { src := src, tag := tag } }).storeKick

/-- What carrying out an order answers: a reply's status and content, or none where the reply waits (R177). -/
abbrev Answer := Option (Status × List Byte)

def answered (r : Status × State) : Answer × State := (some (r.1, []), r.2)

/-- R178: RESTART's own refusal. -/
def State.callsUp (s : State) : Bool := s.calls.records.toList.any fun r => r.state != .free

/-- R172 step 6: an order in range is checked by its owner and carried out. -/
def State.perform (s : State) (src : NodeId) (tag : Byte) (o : Order) : Answer × State :=
  match o with
  | .readEntry t i => (some (.done, s.entryStatus t i), s)
  | .writeEntry t i l => answered (s.writeEntry t i l)
  | .pageOpen k p size => answered (s.pageOpen (Fin.ofNat 12 k) (Fin.ofNat 8 p) size)
  | .pageData k p off l => answered (s.pageData (Fin.ofNat 12 k) (Fin.ofNat 8 p) off l)
  | .pageDiscard k p => answered (s.pageDiscard (Fin.ofNat 12 k) (Fin.ofNat 8 p))
  | .signSet k p pr m => answered (s.signSet (Fin.ofNat 12 k) (Fin.ofNat 8 p) pr m)
  | .signCancel k => answered (s.signCancel (Fin.ofNat 12 k))
  | .status g => (some (.done, s.groupStatus g), s)
  | .clearCounters g => (some (.done, []), s.clearGroup g)
  | .saveConfig => (none, s.beginSave src tag)
  | .restart force => if !force && s.callsUp then (some (.state, []), s) else (some (.done, []), s.restartAll)

/-- R172: a command taken is judged in the order of its list. -/
def State.carryOut (s : State) (c : Command) : Answer × State :=
  if s.notReady ∧ c.code ≠ cmdStatus then (some (.notReady, []), s)
  else if knownCode c.code = false then (some (.unknown, []), s)
  else
    match c.order? with
    | none => (some (.badValue, []), s)
    | some o =>
      if o.inRange = false then (some (.badIndex, []), s)
      else if o.savesOrWrites ∧ s.ctl.save.isSome then (some (.busy, []), s)
      else s.perform c.src c.tag o

/-! ### Replies (R172, R176) -/

/-- An MGR block: the command's code, tag and source, with a status, a part byte and part of the content (12.2). -/
def replyBlock (c : Command) (st : Status) (part : Nat) (last : Bool) (content : List Byte) : Block :=
  localBlock .mgr c.code lane63 c.src c.tag ([st.code, BitVec.ofBool last ++ BitVec.ofNat 7 part] ++ content)

/-- R176: a reply cut into parts of 50 content bytes, at most n + 1 of them. -/
def replyParts (c : Command) (st : Status) : Nat → Nat → List Byte → List Block
  | 0, part, content => [replyBlock c st part true (content.take 50)]
  | n + 1, part, content =>
    if content.length ≤ 50 then [replyBlock c st part true content]
    else replyBlock c st part false (content.take 50) :: replyParts c st n (part + 1) (content.drop 50)

def replyBlocks (c : Command) (st : Status) (content : List Byte) : List Block :=
  replyParts c st (content.length / 50) 0 content

/-- A reply formed joins the outbox. -/
def State.reply (s : State) (c : Command) (a : Answer) : State :=
  match a with
  | none => s
  | some (st, content) => s.modAgent fun x => { x with outbox := x.outbox ++ replyBlocks c st content }

/-- R171: the head of the intake is taken, carried out and answered. -/
def State.takeCommand (s : State) (c : Command) (rest : List Command) : State :=
  let s1 := s.modAgent fun a => { a with intake := rest, taken := bump a.taken }
  (s1.carryOut c).2.reply c (s1.carryOut c).1

/-! ### The offers to MQ (R171, R172, R179) -/

/-- The outbox's head passes to MQ; used where MQ takes it. -/
def State.passReply (s : State) (b : Block) (rest : List Block) : State :=
  (s.join .mq b).modAgent fun a => { a with outbox := rest }

/-- What the agent can do for its commands and replies: its outbox's head passes to MQ, or, the outbox empty, it takes the head
of its intake. -/
def State.agentTurn (s : State) : Option State :=
  match s.agent.outbox, s.agent.intake with
  | b :: rest, _ => if s.takes .mq then some (s.passReply b rest) else none
  | [], c :: rest => some (s.takeCommand c rest)
  | [], [] => none

/-- What the notice queue can do: its head passes to MQ. -/
def State.noticeTurn (s : State) : Option State :=
  if s.takes .mq && !s.agent.notices.isEmpty then some s.passNotice else none

/-- R171, R172, R179: the agent's turns and the notice queue's until neither is left, at most n of them; where both may act,
either may be first (log entry 3). -/
def State.agentTurns (s : State) : Nat → State
  | 0 => s
  | n + 1 =>
    match s.agentTurn, s.noticeTurn with
    | none, none => s
    | some a, none => a.agentTurns n
    | none, some b => b.agentTurns n
    | some a, some b => if s.choice then (a.spend 1).agentTurns n else (b.spend 1).agentTurns n

/-- MQ holds 16 blocks and the intake 4 commands, so that 24 turns are never all needed. -/
def State.agentRun (s : State) : State := s.agentTurns 24

/-- R171: the BUSY reply to a command that meets a full intake. -/
def State.refuseBusy (s : State) (c : Command) : State :=
  if s.takes .mq then
    (s.join .mq (replyBlock c .busy 0 true [])).modAgent fun a => { a with busyReplies := bump a.busyReplies }
  else s.modAgent fun a => { a with overflow := bump a.overflow }

/-- R171: an MGT handed to the agent. -/
def State.agentReceive (s : State) (c : Command) : State :=
  if s.agent.intake.length < 4 then (s.modAgent fun a => { a with intake := a.intake ++ [c] }).agentRun
  else s.refuseBusy c

/-- R177: the reply a save awaited joins the outbox. -/
def State.saveReplies (s : State) (st : Status) (content : List Byte) : State :=
  match s.agent.saveReply with
  | none => s
  | some r =>
    ((s.reply { src := r.src, tag := r.tag, code := cmdSaveConfig, body := [] } (some (st, content))).modAgent fun a =>
      { a with saveReply := none }).agentRun

end Sys2Proof.Machine
end

