-- ==== Sys2Proof/Machine/Recovery.lean ====
section
/-! DEFINITION. How the store's operations end (7.2), the recovery scan (7.4), the configuration save and load (7.6, 7.7). -/

namespace Sys2Proof.Machine

/-! ### Saves (R123, R124) -/

/-- R124: the save in flight fails; nothing when none is in flight. The config-failed notice is queued, and offered to MQ, before the
reply of R177 joins the outbox; R172 lets either offer be first (DESIGN CHOICE, log entry 48). -/
def State.failSave (s : State) (cause : StoreCause) : State :=
  if s.ctl.save.isSome then
    ((s.modCtl fun c => { c with save := none, ctr := { c.ctr with savesFailed := bump c.ctr.savesFailed } }).notify
      (.failed cause)).saveReplies .state [cause.code]
  else s

/-- R123: the header's verify has succeeded. The config-saved notice is queued, and offered to MQ, before the reply of R177 joins the
outbox; R172 lets either offer be first (DESIGN CHOICE, log entry 48). -/
def State.saveSucceeds (s : State) (sv : Save) : State :=
  ((s.modCtl fun c =>
    { c with save := none, generation := sv.generation, ctr := { c.ctr with saves := bump c.ctr.saves } }).notify
    (.saved sv.generation)).saveReplies .done (be32 sv.generation)

/-- R123: the save after a step has succeeded; an image slot written enters the image check. -/
def Save.after (sv : Save) (bytes : List Byte) : Save :=
  { sv with next := sv.next + 1, check := crc32Feed sv.check bytes }

/-- R123: a save SLOT-WRITE has verified. -/
def State.saveStepVerified (s : State) (bytes : List Byte) : State :=
  match s.ctl.save with
  | none => s
  | some sv => if sv.next < 28 then s.modCtl fun c => { c with save := some (sv.after bytes) } else s.saveSucceeds sv

/-- R115: a verify READ that differs is counted. -/
def State.countMismatch (s : State) : State :=
  s.modCtl fun c => { c with ctr := { c.ctr with mismatches := bump c.ctr.mismatches } }

/-! ### Completions (R115) -/

/-- R100: a commit write's verify has been read. -/
def State.commitCompletes (s : State) (slot : Nat) (bytes : List Byte) (got : ReadBack) : State :=
  let l := s.readBack slot got
  let s1 := (s.afterRead slot got).endOp
  (match s1.jrnl.hand with
   | none => if l = bytes then s1 else s1.countMismatch
   | some h => if l = bytes then s1.commitSucceeds h else s1.countMismatch.commitMismatches h).storeKick

/-- R118: a mark write is done. -/
def State.markCompletes (s : State) (slot : Nat) : State :=
  (((s.putMark slot markReleased).endOp).modJrnl fun j =>
    { j with pendingMarks := j.pendingMarks.filter (· != slot) }).storeKick

/-- R105: a read-ahead READ is done; one no longer wanted is discarded. -/
def State.readCompletes (s : State) (serial slot : Nat) (live : Bool) (got : ReadBack) : State :=
  let l := s.readBack slot got
  let s1 := (s.afterRead slot got).endOp
  (if live then s1.readDone serial slot l else s1).storeKick

/-- R123 step 1 is done: the header's mark reads INVALID. -/
def State.saveMarkCompletes (s : State) : State :=
  (((s.putMark 8064 markInvalid).endOp).modCtl fun c =>
    { c with save := c.save.map fun sv => { sv with next := 2 } }).storeKick

/-- R124: after a save that failed at its header no valid image stands: a header that still reads as one is made invalid
(log entry 37). -/
def State.spoilHeader (s : State) (slot : Nat) : State :=
  if slot = 8064 ∧ headerValid (s.storeSlot 8064) then s.cutSlot 8064 else s

/-- R123, R124: a save SLOT-WRITE's verify has been read. -/
def State.saveSlotCompletes (s : State) (slot : Nat) (bytes : List Byte) (got : ReadBack) : State :=
  let l := s.readBack slot got
  let s1 := (s.afterRead slot got).endOp
  (if l = bytes then s1.saveStepVerified bytes else ((s1.spoilHeader slot).countMismatch).failSave .verify).storeKick

/-! ### The recovery scan (R119, R120) -/

/-- R119: what a slot read is classified as; none for EMPTY. -/
def classify (slot : Nat) (l : List Byte) : Option Found :=
  if slotValid l ∧ byteAt l 0 ≠ markEmpty then
    some { slot := slot, released := !markReadsHeld (byteAt l 0), serial := slotSerial l }
  else none

def newestSerial : List Found → Option Nat
  | [] => none
  | f :: l =>
    match newestSerial l with
    | none => some f.serial
    | some k => some (max f.serial k)

/-- How many slots on, in cyclic order, slot b lies from slot a. -/
def slotsOn (a b : Nat) : Nat := (b + journalSlots - a) % journalSlots

/-- R120: the slot each other copy precedes by no more than 65 slots, or the free choice of log entry 8. -/
def newestOf (copies : List Nat) : Nat :=
  match copies.find? fun c => copies.all fun o => o == c || decide (slotsOn o c ≤ 65) with
  | some c => c
  | none => copies.getD (Config.newestCopy copies % copies.length) 0

/-- The walk of R120: the serial expected plus 1 (0 when no further serial exists), the slots passed over since the last match,
the gaps and the matches so far (both in cyclic order, oldest first for the gaps), and the last match. -/
structure Walk where
  expect : Nat
  passed : List Nat
  gaps : List Nat
  matches' : Nat
  last : Option Held
deriving DecidableEq, Repr

/-- One slot of the walk; none when it ends the walk. -/
def Walk.step (w : Walk) (found : List Found) (slot : Nat) : Option Walk :=
  match found.find? fun f => f.slot == slot && f.serial + 1 == w.expect with
  | some f =>
    if f.released then none
    else
      some { expect := w.expect - 1, passed := [], gaps := w.passed ++ w.gaps, matches' := w.matches' + 1,
             last := some { serial := f.serial, slot := slot } }
  | none =>
    if 63 ≤ w.passed.length then none else some { w with passed := slot :: w.passed }

/-- The slot before one, in cyclic order. -/
def prevSlot (slot : Nat) : Nat := (slot + journalSlots - 1) % journalSlots

/-- The walk backward from a slot, over at most n slots. -/
def Walk.run (w : Walk) (found : List Found) : Nat → Nat → Walk
  | 0, _ => w
  | n + 1, slot =>
    match w.step found slot with
    | none => w
    | some w1 => w1.run found n (prevSlot slot)

/-- What the scan rebuilds (R120). -/
structure Rebuilt where
  oldest : Option Held
  held : Nat
  cursor : Nat
  nextSerial : Nat
  bad : List Nat
  orphans : Nat
deriving DecidableEq, Repr

/-- How many slots were classified HELD. -/
def heldFound (found : List Found) : Nat := (found.filter fun f => !f.released).length

/-- R120. -/
def rebuild (found : List Found) : Rebuilt :=
  match newestSerial found with
  | none => { oldest := none, held := 0, cursor := 0, nextSerial := 1, bad := [], orphans := 0 }
  | some k =>
    let newest := newestOf ((found.filter fun f => f.serial == k).map (·.slot))
    let w : Walk := { expect := k + 1, passed := [], gaps := [], matches' := 0, last := none }
    let w1 := w.run found journalSlots newest
    { oldest := w1.last, held := w1.matches', cursor := nextSlot newest, nextSerial := k + 1, bad := w1.gaps,
      orphans := heldFound found - w1.matches' }

/-- R121: the view the journal takes; R102: the high-mark flag. -/
def Journal.takeView (j : Journal) (r : Rebuilt) : Journal :=
  { j with
    hasView := true, oldest := r.oldest, held := r.held, cursor := r.cursor, nextSerial := r.nextSerial, newestSent := none
    inTransit := [], readAhead := [], credit := 0, pendingMarks := [], bad := r.bad, highSpent := decide (7000 ≤ r.held) }

/-- R96, R97: the condition at the scan's completion; in HOLDUP that is an entry into HALTED. -/
def Journal.afterScan (j : Journal) (sup : SupplyState) : Journal :=
  if sup = .holdup then j.halt else { j with cond := j.openCond }

/-- R96, R111, R121: the journal takes the scan's result, or FAULT with cause BAD-SLOTS. -/
def State.journalScanned (s : State) (r : Rebuilt) : State :=
  if 64 < r.bad.length then s.journalFault .badSlots
  else
    let s1 := s.modJrnl fun j => (j.takeView r).afterScan s.sup.state
    let s2 := s1.notify (.recovered r.held r.nextSerial r.orphans r.bad.length)
    if s2.jrnl.cond = .full then s2.notify (.full r.held) else s2

/-- R125: the load's READ of a slot starts, in LOADING. -/
def State.loadRead (s : State) (slot : Nat) : State := s.startStep (.load slot)

/-- R121: after a full reset's scan the load begins; after a RESTART's the controller is IDLE. -/
def State.afterScan (s : State) : State :=
  let s1 := s.modCtl fun c => { c with op := none, timer := none, state := .idle, scanThenLoad := false, found := [] }
  if s.ctl.scanThenLoad then
    ((s1.modCtl fun c =>
      { c with state := .loading, load := some { generation := 0, imageCheck := 0, slots := [], ok := true } }).loadRead
      8064).dropsChoose
  else (s1.storeKick).dropsChoose

/-- R120, R121: the last slot of the scan has been read. -/
def State.scanEnds (s : State) : State :=
  let r := rebuild s.ctl.found
  ((s.modCtl fun c => { c with orphans := r.orphans, gaps := r.bad.length }).journalScanned r).afterScan

/-- R119: the scan's READ of a slot is done. -/
def State.scanReadCompletes (s : State) (slot : Nat) (got : ReadBack) : State :=
  let l := s.readBack slot got
  let s1 := (s.afterRead slot got).modCtl fun c => { c with found := c.found ++ (classify slot l).toList }
  if slot + 1 < journalSlots then s1.scanRead (slot + 1) else s1.scanEnds

/-! ### The configuration load (R125): records out of an image -/

/-- A raw field taken as it is in its range, and at a free value of the range elsewhere (log entry 7). -/
def pickNat (lo hi raw : Nat) : Nat := if lo ≤ raw ∧ raw ≤ hi then raw else lo + Config.imageValue raw % (hi - lo + 1)

def pickInt (lo hi raw : Int) : Int :=
  if lo ≤ raw ∧ raw ≤ hi then raw else lo + Int.ofNat (Config.imageValue raw.toNat % (hi - lo + 1).toNat)

def pickAt (l : List Byte) (i hi : Nat) : Nat := pickNat 0 hi (byteAt l i).toNat

/-- A member of an enumeration by its place. -/
def pickOf {α : Type} (all : List α) (d : α) (raw : Byte) : α := all.getD (pickNat 0 (all.length - 1) raw.toNat) d

def LaneRecord.ofImage (l : List Byte) : LaneRecord :=
  (LaneRecord.ofBytes? l).getD
    { active := pickAt l 0 1 == 1, service := pickOf [.voice, .call, .toll, .wx] .voice (byteAt l 1),
      peer := BitVec.ofNat 5 (pickAt l 2 23) }

def StationRecord.ofImage (l : List Byte) : StationRecord :=
  let k := pickOf [.phone, .toll, .sign, .weather] .phone (byteAt l 3)
  (StationRecord.ofBytes? l).getD
    { state := pickOf [.unused, .online, .silent, .offline] .unused (byteAt l 0), drop := Fin.ofNat 4 (pickAt l 1 3),
      address := BitVec.ofNat 5 (pickNat 1 30 (byteAt l 2).toNat), kind := k,
      period := 10 * pickNat 1 1000 (word16At l 4).toNat,
      link := byte (match k with
        | .sign => pickAt l 6 11
        | .weather => pickAt l 6 7
        | .phone | .toll => natAt l 6),
      location := word16At l 7, shed := pickAt l 9 1 == 1 }

/-- Bits 12 to 15 of the sign set name no sign and are dropped (log entry 7). -/
def RuleRecord.ofImage (l : List Byte) : RuleRecord :=
  let q := pickOf [.surface, .air, .humidity, .visibility, .light, .windMean, .windGust] .surface (byteAt l 2)
  let sn := pickOf [.below, .above] .below (byteAt l 3)
  let set := pickInt q.lowest q.highest (q.ofWord (word16At l 4))
  let clear := match sn with
    | .below => pickInt set q.highest (q.ofWord (word16At l 6))
    | .above => pickInt q.lowest set (q.ofWord (word16At l 6))
  (RuleRecord.ofBytes? l).getD
    { enabled := pickAt l 0 1 == 1, source := Fin.ofNat 8 (pickAt l 1 7), quantity := q, sense := sn, setLevel := set,
      clearLevel := clear, p := pickNat 1 15 (natAt l 8),
      link := if byteAt l 9 = 255 then none else some (Fin.ofNat 32 (pickAt l 9 31)),
      signs := (word16At l 10).extractLsb' 0 12, page := Fin.ofNat 8 (pickAt l 12 7), priority := pickNat 1 15 (natAt l 13) }

def IntensityMode.ofImage (l : List Byte) : IntensityMode :=
  (IntensityMode.ofBytes? l).getD
    (if pickAt l 1 1 = 0 then .fixed (pickAt l 2 100)
     else .ambient (Fin.ofNat 8 (pickAt l 2 7)) (pickAt l 3 50) (pickNat 0 4095 (word16At l 4).toNat))

def SlotRecord.ofImage (l : List Byte) : SlotRecord :=
  (SlotRecord.ofBytes? l).getD
    { depth := if depthOk (natAt l 0) then natAt l 0 else [1, 2, 4, 8].getD (Config.imageValue (natAt l 0) % 4) 1,
      offset := pickAt l 1 1 == 1, kw := pickNat 1 4000 (word16At l 2).toNat, useLight := pickAt l 4 1 == 1 }

def Params.ofImage (l : List Byte) : Params :=
  let ce := pickNat 0 3999 (word16At l 4).toNat
  let he := pickNat 0 ce (word16At l 8).toNat
  (Params.ofBytes? l).getD
    { ringSize := pickNat 1 24 (natAt l 0), weights := { tq := pickAt l 1 32, mq := pickAt l 2 32, aq := pickAt l 3 32 },
      conserveEntry := ce, conserveExit := pickNat (ce + 1) 4000 (word16At l 6).toNat, holdupEntry := he,
      holdupExit := pickNat (he + 1) 4000 (word16At l 10).toNat, primary := BitVec.ofNat 5 (pickAt l 12 23),
      secondary := BitVec.ofNat 5 (pickAt l 13 23) }

/-- The record of entry i of a section that starts at image slot `first` and packs `per` records of `size` bytes in a slot
(R122, 12.5: entries from byte 7). -/
def imageRecord (slots : List (List Byte)) (first per size i : Nat) : List Byte :=
  ((slots.getD (first + i / per) []).drop (7 + size * (i % per))).take size

/-- R40: a station entry as the image restores it. -/
def Station.restore (e : Station) (x : StationRecord) (now : Nat) : Station :=
  if x.state = .unused then (e.cleared).configure x
  else { (e.cleared).configure x with state := .online, due := some now, come := some now }

/-- R142: a rule as the image restores it. -/
def Rule.restore (r : Rule) (x : RuleRecord) : Rule := r.configure x

/-- R8, R40, R125, R127, R142, R149, R162, R170: every section is applied at once, the levels coming into force with it. -/
def State.applyImage (s : State) (slots : List (List Byte)) : State :=
  let s1 := s.modLanes fun v => Vector.ofFn fun i =>
    if i.val = 63 then v[i] else v[i].configure (LaneRecord.ofImage (imageRecord slots 0 16 3 i.val))
  let s2 := s1.modPoll fun p =>
    { p with stations := Vector.ofFn fun i =>
        p.stations[i].restore (StationRecord.ofImage (imageRecord slots 4 4 10 i.val)) s.now }
  let s3 := s2.modRules fun v => Vector.ofFn fun i => v[i].restore (RuleRecord.ofImage (imageRecord slots 12 4 14 i.val))
  let s4 := s3.modSign fun g =>
    { g with signs := Vector.ofFn fun k =>
        { g.signs[k] with mode := IntensityMode.ofImage (imageRecord slots 20 4 6 k.val), station := s3.signStationOf k,
                          chunk := none } }
  let s5 := s4.modSlots fun v => Vector.ofFn fun k =>
    (v[k].configure (SlotRecord.ofImage (imageRecord slots 23 4 5 k.val))).relink (s4.feederOf k)
  let p := Params.ofImage (imageRecord slots 25 1 14 0)
  (s5.modAgent fun a => { a with params := p }).modSup fun u => { u with levels := p.levels }

/-- R125: the outcome noted; an outcome other than LOADED queues a config-failed notice. -/
def State.noteLoad (s : State) (o : LoadOutcome) : State :=
  match o with
  | .loaded => s
  | .failed cause => s.notify (.failed cause)

/-- R125, R159: the load ends: the controller returns to IDLE, effective states are derived, every sign is arbitrated, and the
drop poller and the store arbiter choose again. -/
def State.endLoad (s : State) (o : LoadOutcome) : State :=
  (((((s.modCtl fun c =>
    { c with op := none, timer := none, state := .idle, load := none, lastLoad := some o }).noteLoad o).settleAll).storeKick)).dropsChoose

/-- R125: an image slot's own tests. -/
def imageSlotOk (generation : BitVec 32) (l : List Byte) : Bool :=
  slotValid l && byteAt l 0 == markValid && slotGeneration l == generation

/-- R125: all 26 image slots have been read. -/
def State.judgeImage (s : State) (ld : Load) : State :=
  if ld.ok && crc32 ld.slots.flatten == ld.imageCheck then (s.applyImage ld.slots).endLoad .loaded
  else s.endLoad (.failed .badImage)

/-- R125: the load's READ of a slot is done. -/
def State.loadReadCompletes (s : State) (slot : Nat) (got : ReadBack) : State :=
  let l := s.readBack slot got
  let s1 := s.afterRead slot got
  if slot = 8064 then
    if headerValid l then
      ((s1.modCtl fun c =>
        { c with generation := slotGeneration l,
                 load := some { generation := slotGeneration l, imageCheck := headerImageCheck l, slots := [], ok := true } }).loadRead
        8065)
    else s1.endLoad (.failed .noImage)
  else
    match s1.ctl.load with
    | none => s1
    | some ld =>
      let ld1 := { ld with slots := ld.slots ++ [l], ok := ld.ok && imageSlotOk ld.generation l }
      if slot < 8090 then (s1.modCtl fun c => { c with load := some ld1 }).loadRead (slot + 1)
      else s1.judgeImage ld1

/-! ### Step timers (R116) -/

/-- A slot of unknown content. -/
def State.looseSlot (s : State) (slot : Nat) : State := (s.putSlot slot (s.freeBytes 64)).spend 64

/-- R124, R182: the header's STATE-WRITE abandoned: its mark with some bits cleared, and not VALID. -/
def State.looseHeaderMark (s : State) : State :=
  let m := byteAt (s.storeSlot 8064) 0 &&& Config.freeByte s.free
  (s.putMark 8064 (if m = markValid then markInvalid else m)).spend 1

/-- R116: a commit write abandoned in either of its steps leaves its slot unknown. R182: a STATE-WRITE clears bits alone. R124: a
save that has failed leaves no valid header, so that the header's slot is left invalid (log entry 37). -/
def State.abandonWrite (s : State) : State :=
  match s.ctl.op with
  | some (.commit slot _ _) => s.looseSlot slot
  | some (.saveSlot slot _ step) =>
    if slot = 8064 then s.cutSlot slot else if step = .write then s.looseSlot slot else s
  | some (.mark slot) => s.cutMark slot
  | some .saveMark => s.looseHeaderMark
  | some (.read ..) | some (.scan _) | some (.load _) | none => s

def State.countTimeout (s : State) : State :=
  s.modCtl fun c => { c with ctr := { c.ctr with timeouts := bump c.ctr.timeouts } }

/-- R116, R124: the journal enters FAULT with cause TIMEOUT and a save in flight fails. -/
def State.reportTimeout (s : State) : State := (s.journalFault .timeout).failSave .timeout

/-- R115: a RESTART from FAULT put the controller in SCANNING while the operation ran; the scan's first READ has started, and the
journal is RECOVERING until the scan ends (R119). -/
def State.scanResumes (s : State) : State :=
  s.modJrnl fun j => { j.reopen with cond := .recovering }

/-- R116: the timer of a step expires. A scan that ends so rebuilds nothing, and the orphan and gap counts stay those of the scan
before it (log entry 41). -/
def State.stepExpires (s : State) : State :=
  let s1 := (s.abandonWrite).countTimeout
  match s.ctl.op with
  | none => s
  | some (.scan _) => (s1.reportTimeout).afterScan
  | some (.load _) => (s1.reportTimeout).endLoad (.failed .timeout)
  | some _ =>
    let s2 := (s1.endOp).reportTimeout
    if s.ctl.state = .scanning then s2.scanResumes else s2.storeKick

end Sys2Proof.Machine
end

