-- ==== Sys2Proof/Machine/Protect.lean ====
section
/-! DEFINITION. Ring protection (chapter 2): KEEP, the link states, the ring state and what a change of it does, and the wrap
test. -/

namespace Sys2Proof.Machine

/-! ### The ring state (R29, R33 to R35) -/

/-- The serials of the TOLL blocks that wait in TQ (12.2). -/
def RingTransit.tollSerials (r : RingTransit) : List Nat := r.tq.map fun b => (word32At b.body 0).toNat

/-- R33: the four queues emptied. -/
def RingTransit.flushed (r : RingTransit) : RingTransit := { r with eq := [], tq := [], mq := [], aq := [] }

/-- R33: the blocks emptied are counted. -/
def Protection.countFlush (p : Protection) (r : RingTransit) : Protection :=
  { p with isoEq := bumpBy p.isoEq r.eq.length, isoTq := bumpBy p.isoTq r.tq.length, isoMq := bumpBy p.isoMq r.mq.length,
           isoAq := bumpBy p.isoAq r.aq.length }

/-- R33, R35, R74, R110: entry into ISOLATED. -/
def State.enterIsolated (s : State) : State :=
  (((s.modProt (·.countFlush s.ring)).modRing (·.flushed)).callsIsolated).journalIsolated s.ring.tollSerials

/-- R34, R35, R75, R105, R172, R179: departure from ISOLATED. -/
def State.leaveIsolated (s : State) : State := ((s.callsHealed).offerTolls).agentRun

/-- R29: a change of ring state takes effect, is counted and noticed, and is reported. -/
def State.changeRing (s : State) (new : RingState) : State :=
  let old := s.prot.ring
  let s1 := (s.modProt fun p => { p with ring := new, changes := bump p.changes }).notify (.ring old new)
  if new = .isolated then s1.enterIsolated
  else if old = .isolated then s1.leaveIsolated
  else s1

/-- R29: the ring state is derived again. -/
def State.deriveRing (s : State) : State :=
  if s.prot.derived = s.prot.ring then s else s.changeRing s.prot.derived

/-! ### Link states (R26 to R28) -/

/-- R28: the link-change notice of a port. -/
def State.noticeLink (s : State) (p : Side) (cause : Option LinkCause) : State :=
  let x := s.prot.ports.get p
  s.notify (.link p x.link x.neighbour cause)

/-- R26 to R28: entry to DOWN. -/
def RxPort.goDown (x : RxPort) (cause : LinkCause) : RxPort :=
  { x with
    link := .down, run := 0, gap := none, proving := none, cause := some cause
    provingFailed := if x.link = .proving then bump x.provingFailed else x.provingFailed
    linkDown := if x.link = .up then bump x.linkDown else x.linkDown }

/-- R27, R28: a port in PROVING or UP goes DOWN; a departure from UP queues a notice. -/
def State.portDown (s : State) (p : Side) (cause : LinkCause) : State :=
  match (s.prot.ports.get p).link with
  | .down => s
  | .proving => (s.modPort p (·.goDown cause)).deriveRing
  | .up => ((s.modPort p (·.goDown cause)).noticeLink p (some cause)).deriveRing

/-- R27: entry to PROVING. -/
def RxPort.prove (x : RxPort) (now : Nat) : RxPort :=
  { x with link := .proving, run := 0, proving := some (now + 2000), gap := some (now + 5) }

/-- R26, R27: a valid arrival on a port. -/
def State.validArrival (s : State) (p : Side) : State :=
  let s1 := s.modPort p fun x => { x with run := 0 }
  let x := s1.prot.ports.get p
  if x.link = .down ∧ x.light = true then (s1.modPort p (·.prove s.now)).deriveRing else s1

/-- R26 to R28: an errored block on a port. -/
def State.erroredArrival (s : State) (p : Side) : State :=
  let s1 := s.modPort p fun x => { x with run := min 8 (x.run + 1) }
  let x := s1.prot.ports.get p
  match x.link with
  | .down => s1
  | .proving => s1.portDown p .errors
  | .up => if x.run = 8 then s1.portDown p .errors else s1

/-- R28: the proving timer expires in PROVING, and the port is UP. R28 gives a cause to departures alone, so that the notice of an
entry to UP carries none, not the last down cause (DESIGN CHOICE, log entry 42). -/
def State.portUp (s : State) (p : Side) : State :=
  ((s.modPort p fun x => { x with link := .up, proving := none }).noticeLink p none).deriveRing

/-! ### KEEP (R24, R25) -/

/-- R24, R181: the far-fault flag a KEEP carries; a body that is not one byte 0 or 1 gives a free flag (log entry 5). -/
def keepFlagOf (body : List Byte) : Bool :=
  if body = [0] then false else if body = [1] then true else Config.keepFlag body

/-- R24: the KEEP of an out port. -/
def State.offerKeep (s : State) (p : Side) : State :=
  s.offerRing p subKeep [flagByte ((s.prot.ports.get p).link != .up)]

/-- R25: what a valid KEEP sets on its side. -/
def RxPort.keep (x : RxPort) (flag : Bool) (src : NodeId) (now : Nat) : RxPort :=
  { x with gap := x.gap.map fun _ => now + 5, farFault := flag, neighbour := some src }

/-- R25: the neighbour of an UP port has changed. -/
def RxPort.newNeighbour (x : RxPort) (src : NodeId) : Bool := x.link == .up && x.neighbour.isSome && x.neighbour != some src

/-- R25: a valid KEEP. -/
def State.validKeep (s : State) (p : Side) (b : Block) : State :=
  let x := s.prot.ports.get p
  let flag := keepFlagOf b.body
  let s1 := s.modPort p (·.keep flag b.src s.now)
  let s2 := if flag = x.farFault then s1 else s1.deriveRing
  if x.newNeighbour b.src then s2.noticeLink p (some .neighbour) else s2

/-- R25: a KEEP is a loopback or a valid KEEP. -/
def State.takeKeep (s : State) (p : Side) (b : Block) : State :=
  if s.repeater = false ∧ b.src = s.straps then s.modPort p fun x => { x with looped := bump x.looped }
  else s.validKeep p b

/-! ### The wrap test (R30) -/

/-- What becomes of a block at its departure. -/
inductive Departure where
  | sent (b : Block)
  | turned (b : Block)
  | discarded
deriving DecidableEq, Repr

/-- R30: the wrap test of a block with this natural port. -/
def wrapTest (ring : RingState) (natural : Side) (b : Block) : Departure :=
  if ring.wraps natural then (if b.wrapped then .discarded else .turned { b with wrapped := true }) else .sent b

/-- R30, R37: the wrap test's own counters. -/
def WrapCounters.after (c : WrapCounters) : Departure → WrapCounters
  | .sent _ => c
  | .turned _ => { c with turned := bump c.turned }
  | .discarded => { c with discarded := bump c.discarded }

end Sys2Proof.Machine
end

