-- ==== Sys2Proof/Machine/Ring.lean ====
section
/-! DEFINITION. Ring transit (chapter 1): reception, local delivery, the transit buffers, hold-off and the transmit arbiter. -/

namespace Sys2Proof.Machine

/-! ### Counters -/

def State.countRx (s : State) (p : Side) (f : RxCounters → RxCounters) : State :=
  s.modRing fun r => { r with rx := r.rx.upd p f }

def State.countDir (s : State) (d : Dir) (f : DirCounters → DirCounters) : State :=
  s.modRing fun r => { r with dirs := r.dirs.upd d f }

/-! ### Hold-off senders (R21) -/

def State.modSender (s : State) (d : Dir) (f : HoldSender → HoldSender) : State :=
  s.modRing fun r => { r with senders := r.senders.upd d f }

/-- R21: a HOLDOFF is offered and the repeat timer starts. -/
def State.sendHoldoff (s : State) (d : Dir) : State :=
  (s.offerRing (fedFrom d) subHoldoff []).modSender d fun _ => { asserted := true, timer := some (s.now + 5) }

/-- R21: a RELEASE is offered and the sender is QUIET. -/
def State.sendRelease (s : State) (d : Dir) : State :=
  (s.offerRing (fedFrom d) subRelease []).modSender d fun _ => { asserted := false, timer := none }

/-- R21: after a join. -/
def State.afterJoin (s : State) (d : Dir) : State :=
  if (s.ring.buffers.get d).length = 24 ∧ (s.ring.senders.get d).asserted = false then s.sendHoldoff d else s

/-- R21: after a departure. -/
def State.afterDeparture (s : State) (d : Dir) : State :=
  if (s.ring.buffers.get d).length = 7 ∧ (s.ring.senders.get d).asserted = true then s.sendRelease d else s

/-! ### Transit buffers (R12, R13) -/

/-- VOICE and CALL, the kinds that displace others and are not displaced (R13). -/
def BlockKind.urgent : BlockKind → Bool
  | .voice | .call => true
  | .fill | .ring | .toll | .tollctl | .wx | .mgt | .mgr | .note => false

/-- The buffer without its oldest block that is neither VOICE nor CALL; none when it holds no such block. -/
def displaceFrom : List Block → Option (List Block)
  | [] => none
  | b :: l => if b.kind.urgent then (displaceFrom l).map (b :: ·) else some l

def State.setBuffer (s : State) (d : Dir) (l : List Block) : State :=
  s.modRing fun r => { r with buffers := r.buffers.upd d fun _ => l }

/-- R13: an arrival that meets a full buffer. -/
def State.overflow (s : State) (d : Dir) (b : Block) : State :=
  match (if b.kind.urgent then displaceFrom (s.ring.buffers.get d) else none) with
  | some l => (s.setBuffer d (l ++ [b])).countDir d fun c => { c with displaced := bump c.displaced }
  | none => s.countDir d fun c => { c with overflowArrival := bump c.overflowArrival }

/-- R12, R13: a block joins the transit buffer of its direction. -/
def State.joinTransit (s : State) (d : Dir) (b : Block) : State :=
  let l := s.ring.buffers.get d
  if l.length < 32 then (s.setBuffer d (l ++ [b])).afterJoin d else s.overflow d b

/-- R7: forwarding, which reduces hops by 1 or discards a block that has none. -/
def State.forward (s : State) (d : Dir) (b : Block) : State :=
  if b.hops = 0 then s.countDir d fun c => { c with hopsExpired := bump c.hopsExpired }
  else s.joinTransit d { b with hops := b.hops - 1 }

/-! ### Local delivery (R9, R10) -/

/-- R10: an accepted block goes to the service of its kind. -/
def State.handBlock (s : State) (b : Block) : State :=
  match b.kind with
  | .voice =>
    match s.lanes[laneIndex b.lane].binding with
    | some r => s.takeVoice r b
    | none => s
  | .call => s.takeCallBlock b
  | .tollctl => s.takeTollControl b
  | .mgt => s.agentReceive { src := b.src, tag := b.seq, code := b.subtype, body := b.body }
  | .fill | .ring | .toll | .wx | .mgr | .note => s

/-- R9: the lane table accepts or refuses a block; REPEATER condition makes no local delivery (R1). -/
def State.deliver (s : State) (b : Block) : State :=
  if s.repeater then s
  else if s.acceptsLocal b then
    (s.modLane (laneIndex b.lane) fun e => { e with delivered := bump e.delivered }).handBlock b
  else s.modLane (laneIndex b.lane) fun e => { e with refused := bump e.refused }

/-! ### Reception (R3 to R7) -/

/-- R7: a block that has passed the source test, by its dst. -/
def State.classifyBlock (s : State) (d : Dir) (b : Block) : State :=
  if s.repeater = false ∧ b.dst = s.straps then s.deliver b
  else if b.dst = 31 then (s.deliver b).forward d b
  else s.forward d b

/-- R6: the source test. -/
def State.sourceTest (s : State) (d : Dir) (b : Block) : State :=
  if s.repeater = false ∧ b.src = s.straps ∧ b.wrapped = false then
    s.countDir d fun c => { c with stripped := bump c.stripped }
  else s.classifyBlock d b

/-- R5: a block other than FILL and RING passes only a port that is UP. -/
def State.transitArrival (s : State) (p : Side) (b : Block) : State :=
  if (s.prot.ports.get p).link = .up then s.sourceTest (directionOn p) b
  else s.countRx p fun c => { c with notUp := bump c.notUp }

/-- R22: the hold-off receiver of the out port on the side of arrival. -/
def State.takeHoldoff (s : State) (p : Side) : State := s.modOut p fun o => { o with heldOff := some (s.now + 12) }

def State.takeRelease (s : State) (p : Side) : State := s.modOut p fun o => { o with heldOff := none }

/-- R23: a malformed block is counted. -/
def State.countMalformed (s : State) (p : Side) : State := s.countRx p fun c => { c with malformed := bump c.malformed }

/-- R4: a RING block. -/
def State.takeRing (s : State) (p : Side) (b : Block) : State :=
  if b.subtype = subKeep then s.takeKeep p b
  else if b.subtype = subHoldoff then s.takeHoldoff p
  else if b.subtype = subRelease then s.takeRelease p
  else s.countMalformed p

/-- R3: the tests for sense on a block whose check passed. -/
def Received.sensible (r : Received) (k : BlockKind) : Bool :=
  decide (r.length ≤ 52) &&
    (k == .fill || k == .ring || (decide (r.src.toNat ≤ 23) && (decide (r.dst.toNat ≤ 23) || r.dst == 31)))

/-- R4, R5: a block that has passed R3 and has been reported to ring protection. -/
def State.takeBlock (s : State) (p : Side) (b : Block) : State :=
  match b.kind with
  | .fill => s
  | .ring => s.takeRing p b
  | .voice | .call | .toll | .tollctl | .wx | .mgt | .mgr | .note => s.transitArrival p b

/-- R3: the block a received one is when it passes the tests for sense. -/
def Received.sense? (r : Received) : Option Block :=
  match r.kind with
  | some k => if r.sensible k then some (r.block k) else none
  | none => none

/-- R3 to R7: a block arrives on a receive port. -/
def State.arrive (s : State) (p : Side) (l : List Byte) : State :=
  let r := Received.ofBytes l
  if r.checkOk = false then (s.countRx p fun c => { c with errored := bump c.errored }).erroredArrival p
  else
    match r.sense? with
    | none => (s.countMalformed p).validArrival p
    | some b => (s.validArrival p).takeBlock p b

/-! ### The transmit arbiter (R14, R18 to R20, R30) -/

/-- What a port sends next; every block but FILL is counted (R23). -/
def State.send (s : State) (p : Side) (b : Block) : State :=
  let s1 := s.modOut p fun o => { o with sending := b }
  if b.kind = .fill then s1 else s1.modRing fun r => { r with tx := r.tx.upd p fun c => { c with sent := bump c.sent } }

/-- The oldest block in RQ that names a port, and RQ without it. -/
def takeRq (p : Side) : List RingOffer → Option (Block × List RingOffer)
  | [] => none
  | o :: l => if o.port = p then some (o.block, l) else (takeRq p l).map fun x => (x.1, o :: x.2)

/-- The class queue after one, in the order TQ, MQ, AQ and round (R19). -/
def ClassQueue.next : ClassQueue → ClassQueue
  | .tq => .mq
  | .mq => .aq
  | .aq => .tq

def ClassQueue.insertQueue : ClassQueue → LocalQueue
  | .tq => .tq
  | .mq => .mq
  | .aq => .aq

def PerClass.get (c : PerClass) : ClassQueue → Nat
  | .tq => c.tq
  | .mq => c.mq
  | .aq => c.aq

/-- One credit of a class is spent. -/
def PerClass.spend (c : PerClass) : ClassQueue → PerClass
  | .tq => { c with tq := c.tq - 1 }
  | .mq => { c with mq := c.mq - 1 }
  | .aq => { c with aq := c.aq - 1 }

/-- The first queue after the one last served that passes a test (R19). -/
def ClassQueue.search (last : ClassQueue) (ok : ClassQueue → Bool) : Option ClassQueue :=
  [last.next, last.next.next, last].find? ok

def RingTransit.hasClass (r : RingTransit) (c : ClassQueue) : Bool := !(r.queue c.insertQueue).isEmpty

/-- The queues without the head of one. -/
def RingTransit.pop (r : RingTransit) (q : LocalQueue) : RingTransit :=
  match q with
  | .eq => { r with eq := r.eq.drop 1 }
  | .tq => { r with tq := r.tq.drop 1 }
  | .mq => { r with mq := r.mq.drop 1 }
  | .aq => { r with aq := r.aq.drop 1 }

/-- What a port's choice takes (R19). -/
inductive Choice where
  | rq (b : Block) (rest : List RingOffer)
  | eq (b : Block)
  | transit (d : Dir) (b : Block)
  | credit (c : ClassQueue) (b : Block)
  | spare (c : ClassQueue) (b : Block)
  | fill
deriving DecidableEq, Repr

/-- R19 step 3: the buffer a port takes from, among those it serves that hold a block. -/
def pickBuffer (serves : List Dir) (last : Dir) (r : RingTransit) : Option (Dir × Block) :=
  let holding := serves.filterMap fun d => ((r.buffers.get d).head?).map fun b => (d, b)
  match holding.find? fun x => x.1 != last with
  | some x => some x
  | none => holding.head?

/-- R19: the first of the six steps that has a block. -/
def State.choose (s : State) (p : Side) : Choice :=
  let r := s.ring
  let o := r.out.get p
  let inserts := s.prot.ring.insertion == some p
  match takeRq p r.rq with
  | some (b, rest) => .rq b rest
  | none =>
    match (if inserts && decide (0 < o.allowance) then r.eq.head? else none) with
    | some b => .eq b
    | none =>
      match pickBuffer (s.prot.ring.serves p) o.lastBuffer r with
      | some (d, b) => .transit d b
      | none =>
        let free := inserts && o.heldOff.isNone
        match (if free then o.rotation.search fun c => r.hasClass c && decide (0 < o.credits.get c) else none) with
        | some c => ((r.queue c.insertQueue).head?).elim .fill (.credit c)
        | none =>
          match (if free then o.rotation.search r.hasClass else none) with
          | some c => ((r.queue c.insertQueue).head?).elim .fill (.spare c)
          | none => .fill

/-- R19: the port's own fields after a choice. -/
def OutPort.chose (o : OutPort) : Choice → OutPort
  | .rq .. | .fill => o
  | .eq _ => { o with allowance := o.allowance - 1 }
  | .transit d _ => { o with lastBuffer := d }
  | .credit c _ => { o with rotation := c, credits := o.credits.spend c }
  | .spare c _ => { o with rotation := c }

/-- R105, R172, R179: a departure from a class queue lets its engines offer again. -/
def State.afterPop (s : State) : ClassQueue → State
  | .tq => s.offerTolls
  | .mq => s.agentRun
  | .aq => s

/-- R14, R15, R21: what a choice takes leaves its place. -/
def State.depart (s : State) : Choice → State
  | .rq _ rest => s.modRing fun r => { r with rq := rest }
  | .eq _ => s.modRing (·.pop .eq)
  | .transit d _ => (s.setBuffer d ((s.ring.buffers.get d).drop 1)).afterDeparture d
  | .credit c _ | .spare c _ => (s.modRing (·.pop c.insertQueue)).afterPop c
  | .fill => s

/-- R30: the wrap test's outcome of a choice, with its natural port; a RING block and FILL are not tested. -/
def Choice.tested (ring : RingState) : Choice → Side × Departure
  | .rq b _ => (.E, .sent b)
  | .eq b | .credit _ b | .spare _ b => (.E, wrapTest ring .E b)
  | .transit d b => (naturalPort d, wrapTest ring (naturalPort d) b)
  | .fill => (.E, .sent Block.fill)

/-- R19: one choice of a port; the block to send, or none when the wrap test discarded it. -/
def State.chooseOnce (s : State) (p : Side) : State × Option Block :=
  let c := s.choose p
  let t := c.tested s.prot.ring
  let s1 := ((s.modOut p (·.chose c)).modProt fun x => { x with wrap := x.wrap.upd t.1 (·.after t.2) }).depart c
  match t.2 with
  | .sent b | .turned b => (s1, some b)
  | .discarded => (s1, none)

/-- R14, R19: choices until one is sent, at most n of them. -/
def State.chooseUpTo (s : State) (p : Side) : Nat → State
  | 0 => s.send p Block.fill
  | n + 1 =>
    match s.chooseOnce p with
    | (s1, some b) => s1.send p b
    | (s1, none) => s1.chooseUpTo p n

/-- R19: a port's arbiter chooses; only blocks of the transit buffers can be discarded, so one more choice than they hold blocks
is enough. -/
def State.arbiter (s : State) (p : Side) : State :=
  s.chooseUpTo p (s.ring.buffers.cw.length + s.ring.buffers.ccw.length + 1)

/-- R18: the credit window expires. -/
def OutPort.renew (o : OutPort) (w : PerClass) (now : Nat) : OutPort :=
  { o with allowance := 24, credits := w, window := now + 1 }

end Sys2Proof.Machine
end

