-- ==== Sys2Proof/Machine/RingCmds.lean ====
section
/-! DEFINITION. The meanings of the commands of ring transit and ring protection, and of the full reset. -/

namespace Sys2Proof.Machine

/-- A timer's expiry acts while the timer runs, at its deadline or later; a timer that does not run has no expiry (log entries
11 and 17). -/
def State.onTimer (s : State) (deadline : Option Nat) (f : State → State) : State :=
  match deadline with
  | some t => f (s.reach t)
  | none => s

/-- What only a node outside REPEATER condition does (R1, R38, R76, R112, R159, R167, R169). -/
def State.unlessRepeater (s : State) (f : State → State) : State := if s.repeater then s else f s

/-- FULL_RESET (R1). -/
def execFullReset (straps : BitVec 5) (s : State) : Host.Outcome State Fault Refusal := .next (s.fullReset straps)

/-- LIGHT_PRESENT (R26). -/
def execLightPresent (p : Side) (s : State) : Host.Outcome State Fault Refusal :=
  .next (s.modPort p fun x => { x with light := true })

/-- LOSS_OF_LIGHT (R26 to R28). -/
def execLossOfLight (p : Side) (s : State) : Host.Outcome State Fault Refusal :=
  .next ((s.modPort p fun x => { x with light := false }).portDown p .light)

/-- BLOCK_ARRIVAL (R3 to R7). -/
def execBlockArrival (p : Side) (bytes : List Byte) (s : State) : Host.Outcome State Fault Refusal := .next (s.arrive p bytes)

/-- SEND_COMPLETION (R19). -/
def execSendCompletion (p : Side) (s : State) : Host.Outcome State Fault Refusal := .next (s.arbiter p)

/-- CREDIT_WINDOW_EXPIRY (R18). -/
def execCreditWindowExpiry (p : Side) (s : State) : Host.Outcome State Fault Refusal :=
  .next (s.onTimer (some (s.ring.out.get p).window) fun s => s.modOut p (·.renew s.agent.params.weights s.now))

/-- KEEP_TIMER_EXPIRY (R24). -/
def execKeepTimerExpiry (p : Side) (s : State) : Host.Outcome State Fault Refusal :=
  .next (s.onTimer (some (s.prot.keep.get p)) fun s =>
    (s.offerKeep p).modProt fun x => { x with keep := x.keep.upd p fun _ => s.now + 1 })

/-- HOLDOFF_REPEAT_EXPIRY (R21). Below 8 blocks, which no run reaches with the timer running, the timer stops (log entry 39). -/
def execHoldoffRepeatExpiry (d : Dir) (s : State) : Host.Outcome State Fault Refusal :=
  .next (s.onTimer (s.ring.senders.get d).timer fun s =>
    if 8 ≤ (s.ring.buffers.get d).length then s.sendHoldoff d else s.modSender d fun x => { x with timer := none })

/-- HOLDOFF_RECEIVER_EXPIRY (R22). -/
def execHoldoffReceiverExpiry (p : Side) (s : State) : Host.Outcome State Fault Refusal :=
  .next (s.onTimer (s.ring.out.get p).heldOff fun s => s.modOut p fun o => { o with heldOff := none })

/-- KEEP_GAP_EXPIRY (R27, R28). -/
def execKeepGapExpiry (p : Side) (s : State) : Host.Outcome State Fault Refusal :=
  .next (s.onTimer (s.prot.ports.get p).gap fun s => s.portDown p .keepGap)

/-- PROVING_TIMER_EXPIRY (R27, R28). -/
def execProvingTimerExpiry (p : Side) (s : State) : Host.Outcome State Fault Refusal :=
  .next (s.onTimer (s.prot.ports.get p).proving fun s => s.portUp p)

end Sys2Proof.Machine
end

