-- ==== Sys2Proof/Machine/DropCmds.lean ====
section
/-! DEFINITION. The meanings of the commands of the drop lines and of the call engine's timers. -/

namespace Sys2Proof.Machine

/-- STATION_POLL_DUE (R47, R51). -/
def execStationPollDue (slot : Fin 32) (s : State) : Host.Outcome State Fault Refusal :=
  .next (s.unlessRepeater fun s =>
    s.onTimer s.poll.stations[slot].due fun s =>
      (s.dueComes slot s.poll.stations[slot].due).dropChoose s.poll.stations[slot].drop)

/-- VOICE_EXCHANGE_DUE (R48, R51). -/
def execVoiceExchangeDue (slot : Fin 32) (s : State) : Host.Outcome State Fault Refusal :=
  .next (s.unlessRepeater fun s =>
    s.onTimer s.poll.stations[slot].voiceDue fun s =>
      (s.dueComes slot s.poll.stations[slot].voiceDue).dropChoose s.poll.stations[slot].drop)

/-- POLL_FRAME_END (R38). -/
def execPollFrameEnd (d : Fin 4) (s : State) : Host.Outcome State Fault Refusal :=
  .next (s.unlessRepeater fun s => s.frameSent d)

/-- REPLY_START (R38): it has an effect while the reply timer runs. -/
def execReplyStart (d : Fin 4) (s : State) : Host.Outcome State Fault Refusal :=
  .next (s.unlessRepeater fun s =>
    if s.poll.drops[d].line = .awaiting then s.modDrop d fun l => { l with line := .receiving, replyTimer := none } else s)

/-- REPLY_FRAME_END (R38, R39). -/
def execReplyFrameEnd (d : Fin 4) (bytes : List Byte) (s : State) : Host.Outcome State Fault Refusal :=
  .next (s.unlessRepeater fun s => s.frameArrives d (s.judgeFrame d bytes))

/-- BROKEN_FRAME (R38, R39). -/
def execBrokenFrame (d : Fin 4) (s : State) : Host.Outcome State Fault Refusal :=
  .next (s.unlessRepeater fun s => s.frameArrives d .bad)

/-- REPLY_TIMER_EXPIRY (R38). -/
def execReplyTimerExpiry (d : Fin 4) (s : State) : Host.Outcome State Fault Refusal :=
  .next (s.unlessRepeater fun s => s.onTimer s.poll.drops[d].replyTimer fun s => s.completeWith d .noReply)

/-- UNSOLICITED_FRAME (R39). -/
def execUnsolicitedFrame (d : Fin 4) (s : State) : Host.Outcome State Fault Refusal :=
  .next (s.unlessRepeater fun s => s.countUnsolicited d)

/-- The signalling timer of a record in one state. -/
def State.onSignalTimer (s : State) (r : Fin 16) (st : CallState) (f : State → State) : State :=
  if s.calls.records[r].state = st then s.onTimer s.calls.records[r].timer f else s

/-- CALLING_TIMER_EXPIRY (R67). -/
def execCallingTimerExpiry (r : Fin 16) (s : State) : Host.Outcome State Fault Refusal :=
  .next (s.unlessRepeater fun s => s.onSignalTimer r .calling fun s => s.callingExpires r)

/-- CLEARING_TIMER_EXPIRY (R72). -/
def execClearingTimerExpiry (r : Fin 16) (s : State) : Host.Outcome State Fault Refusal :=
  .next (s.unlessRepeater fun s => s.onSignalTimer r .clearing fun s => s.clearingExpires r)

/-- ISOLATED_TIMER_EXPIRY (R75). -/
def execIsolatedTimerExpiry (r : Fin 16) (s : State) : Host.Outcome State Fault Refusal :=
  .next (s.unlessRepeater fun s => s.onSignalTimer r .isolated fun s => s.isolatedSignals r)

end Sys2Proof.Machine
end

