-- ==== Sys2Proof/Machine/MgmtCmds.lean ====
section
/-! DEFINITION. The meanings of the management commands: each is the MGT block of 12.3 handed to the management agent by R10,
which does not run in REPEATER condition (R169). A BLOCK_ARRIVAL whose block is that MGT reaches the same agent. -/

namespace Sys2Proof.Machine

/-- R10, R171: a command handed to the agent. -/
def State.command (s : State) (src : NodeId) (tag : Byte) (code : BitVec 4) (body : List Byte) : State :=
  s.unlessRepeater fun s => s.agentReceive { src := src, tag := tag, code := code, body := body }

/-- READ_ENTRY (R174). -/
def execReadEntry (src : NodeId) (tag table index : Byte) (s : State) : Host.Outcome State Fault Refusal :=
  .next (s.command src tag cmdReadEntry [table, index])

/-- WRITE_ENTRY of table LANE (R8). -/
def execWriteEntryLane (src : NodeId) (tag index state service peer : Byte) (s : State) : Host.Outcome State Fault Refusal :=
  .next (s.command src tag cmdWriteEntry [Table.lane.code, index, state, service, peer])

/-- WRITE_ENTRY of table STATION (R41). -/
def execWriteEntryStation (src : NodeId) (tag index state drop address kind : Byte) (period : BitVec 16) (link : Byte)
    (location : BitVec 16) (shed : Byte) (s : State) : Host.Outcome State Fault Refusal :=
  .next (s.command src tag cmdWriteEntry
    ([Table.station.code, index, state, drop, address, kind] ++ be16 period ++ [link] ++ be16 location ++ [shed]))

/-- WRITE_ENTRY of table RULE (R142, R143). -/
def execWriteEntryRule (src : NodeId) (tag index enabled source quantity sense : Byte) (set clear : BitVec 16)
    (p link : Byte) (signs : BitVec 16) (page priority : Byte) (s : State) : Host.Outcome State Fault Refusal :=
  .next (s.command src tag cmdWriteEntry
    ([Table.rule.code, index, enabled, source, quantity, sense] ++ be16 set ++ be16 clear ++ [p, link] ++ be16 signs
      ++ [page, priority]))

/-- WRITE_ENTRY of table SIGN (R149); its station slot byte is ignored (12.3). -/
def execWriteEntrySign (src : NodeId) (tag index station mode level minimum : Byte) (slope : BitVec 16) (s : State) :
    Host.Outcome State Fault Refusal :=
  .next (s.command src tag cmdWriteEntry ([Table.sign.code, index, station, mode, level, minimum] ++ be16 slope))

/-- WRITE_ENTRY of table SLOT (R129). -/
def execWriteEntrySlot (src : NodeId) (tag index depth offset : Byte) (kw : BitVec 16) (light : Byte) (s : State) :
    Host.Outcome State Fault Refusal :=
  .next (s.command src tag cmdWriteEntry ([Table.slot.code, index, depth, offset] ++ be16 kw ++ [light]))

/-- WRITE_ENTRY of table PARAM (R170). -/
def execWriteEntryParam (src : NodeId) (tag index ringSize wTq wMq wAq : Byte)
    (conserveEntry conserveExit holdupEntry holdupExit : BitVec 16) (primary secondary : Byte) (s : State) :
    Host.Outcome State Fault Refusal :=
  .next (s.command src tag cmdWriteEntry
    ([Table.param.code, index, ringSize, wTq, wMq, wAq] ++ be16 conserveEntry ++ be16 conserveExit ++ be16 holdupEntry
      ++ be16 holdupExit ++ [primary, secondary]))

/-- PAGE_OPEN (R150). -/
def execPageOpen (src : NodeId) (tag sign page size : Byte) (s : State) : Host.Outcome State Fault Refusal :=
  .next (s.command src tag cmdPageOpen [sign, page, size])

/-- PAGE_DATA (R151). -/
def execPageData (src : NodeId) (tag sign page offset : Byte) (data : List Byte) (s : State) :
    Host.Outcome State Fault Refusal :=
  .next (s.command src tag cmdPageData ([sign, page, offset] ++ data))

/-- PAGE_DISCARD (R152). -/
def execPageDiscard (src : NodeId) (tag sign page : Byte) (s : State) : Host.Outcome State Fault Refusal :=
  .next (s.command src tag cmdPageDiscard [sign, page])

/-- SIGN_SET (R153). -/
def execSignSet (src : NodeId) (tag sign page priority : Byte) (expiry : BitVec 16) (s : State) :
    Host.Outcome State Fault Refusal :=
  .next (s.command src tag cmdSignSet ([sign, page, priority] ++ be16 expiry))

/-- SIGN_CANCEL (R153). -/
def execSignCancel (src : NodeId) (tag sign : Byte) (s : State) : Host.Outcome State Fault Refusal :=
  .next (s.command src tag cmdSignCancel [sign])

/-- STATUS (R176). -/
def execStatus (src : NodeId) (tag group : Byte) (s : State) : Host.Outcome State Fault Refusal :=
  .next (s.command src tag cmdStatus [group])

/-- CLEAR_COUNTERS (R176). -/
def execClearCounters (src : NodeId) (tag group : Byte) (s : State) : Host.Outcome State Fault Refusal :=
  .next (s.command src tag cmdClearCounters [group])

/-- SAVE_CONFIG (R123, R177). -/
def execSaveConfig (src : NodeId) (tag : Byte) (s : State) : Host.Outcome State Fault Refusal :=
  .next (s.command src tag cmdSaveConfig [])

/-- RESTART (R178). -/
def execRestart (src : NodeId) (tag force : Byte) (s : State) : Host.Outcome State Fault Refusal :=
  .next (s.command src tag cmdRestart [force])

end Sys2Proof.Machine
end

