-- ==== Sys2Proof/Machine/StoreCmds.lean ====
section
/-! DEFINITION. The meanings of the store's completions, of the step timer and of the revert timer. A completion that is not of
the operation in flight belongs to no operation and is ignored (R116). -/

namespace Sys2Proof.Machine

/-- COMMIT_WRITE_COMPLETION (R100, R115). -/
def execCommitWriteCompletion (got : ReadBack) (s : State) : Host.Outcome State Fault Refusal :=
  .next (match s.ctl.op with
    | some (.commit slot bytes .verify) => s.commitCompletes slot bytes got
    | _ => s)

/-- MARK_WRITE_COMPLETION (R118). -/
def execMarkWriteCompletion (s : State) : Host.Outcome State Fault Refusal :=
  .next (match s.ctl.op with
    | some (.mark slot) => s.markCompletes slot
    | _ => s)

/-- READ_AHEAD_COMPLETION (R105). -/
def execReadAheadCompletion (got : ReadBack) (s : State) : Host.Outcome State Fault Refusal :=
  .next (match s.ctl.op with
    | some (.read serial slot live) => s.readCompletes serial slot live got
    | _ => s)

/-- STORE_STEP_DONE (R115). -/
def execStoreStepDone (s : State) : Host.Outcome State Fault Refusal :=
  .next (match s.ctl.op with
    | some (.commit slot bytes .write) => s.startVerify slot bytes (.commit slot bytes .verify)
    | some (.saveSlot slot bytes .write) => s.startVerify slot bytes (.saveSlot slot bytes .verify)
    | _ => s)

/-- SAVE_STEP_COMPLETION (R123, R124). -/
def execSaveStepCompletion (got : ReadBack) (s : State) : Host.Outcome State Fault Refusal :=
  .next (match s.ctl.op with
    | some .saveMark => s.saveMarkCompletes
    | some (.saveSlot slot bytes .verify) => s.saveSlotCompletes slot bytes got
    | _ => s)

/-- STEP_TIMER_EXPIRY (R116). -/
def execStepTimerExpiry (s : State) : Host.Outcome State Fault Refusal :=
  .next (s.onTimer s.ctl.timer fun s => s.stepExpires)

/-- ABANDONED_STEP_COMPLETION (R116): it belongs to no operation and is ignored. -/
def execAbandonedStepCompletion (s : State) : Host.Outcome State Fault Refusal := .next s

/-- SCAN_READ_DONE (R119). -/
def execScanReadDone (got : ReadBack) (s : State) : Host.Outcome State Fault Refusal :=
  .next (match s.ctl.op with
    | some (.scan slot) => s.scanReadCompletes slot got
    | _ => s)

/-- LOAD_READ_DONE (R125). -/
def execLoadReadDone (got : ReadBack) (s : State) : Host.Outcome State Fault Refusal :=
  .next (match s.ctl.op with
    | some (.load slot) => s.loadReadCompletes slot got
    | _ => s)

/-- REVERT_TIMER_EXPIRY (R106). -/
def execRevertTimerExpiry (s : State) : Host.Outcome State Fault Refusal :=
  .next (s.onTimer s.jrnl.revertAt fun s => s.revert)

end Sys2Proof.Machine
end

