-- ==== Sys2Proof/Machine/SupplyCmds.lean ====
section
/-! DEFINITION. The meanings of the commands of sign service's request timers and of the supply monitor. -/

namespace Sys2Proof.Machine

/-- SIGN_REQUEST_EXPIRY (R153). -/
def execSignRequestExpiry (k : Fin 12) (s : State) : Host.Outcome State Fault Refusal :=
  .next (s.onTimer (s.sign.signs[k].request.bind (·.expiry)) fun s => s.dropRequest k)

/-- SAMPLE_TIMER_EXPIRY (R161). -/
def execSampleTimerExpiry (level : Nat) (s : State) : Host.Outcome State Fault Refusal :=
  .next (s.unlessRepeater fun s => s.onTimer (some s.sup.sample) fun s => s.sampleFeed level)

/-- SETTLE_TIMER_EXPIRY (R165). -/
def execSettleTimerExpiry (s : State) : Host.Outcome State Fault Refusal :=
  .next (s.unlessRepeater fun s => s.onTimer s.sup.settle fun s => s.settleExpires)

/-- FEED_LOST_ASSERTED (R164): a change of the input; in REPEATER condition the monitor does not run (R167). -/
def execFeedLostAsserted (s : State) : Host.Outcome State Fault Refusal :=
  .next (if s.sup.feedLost then s
    else if s.repeater then s.modSup fun p => { p with feedLost := true } else s.assertFeedLost)

/-- FEED_LOST_NEGATED (R164): a change of the input. -/
def execFeedLostNegated (s : State) : Host.Outcome State Fault Refusal :=
  .next (if s.sup.feedLost then
      (if s.repeater then s.modSup fun p => { p with feedLost := false } else s.negateFeedLost)
    else s)

end Sys2Proof.Machine
end

