-- ==== Sys2Proof/Machine/Dispatch.lean ====
section
/-! DEFINITION. The effect of each command: one arm, one meaning. -/

namespace Sys2Proof.Machine

/-- The effect of a command on everything but the queue. -/
def exec (i : Instr) (s : State) : Host.Outcome State Fault Refusal :=
  match i with
  | .fullReset straps => Sys2Proof.Machine.execFullReset straps s
  | .lightPresent port => Sys2Proof.Machine.execLightPresent port s
  | .lossOfLight port => Sys2Proof.Machine.execLossOfLight port s
  | .blockArrival port bytes => Sys2Proof.Machine.execBlockArrival port bytes s
  | .sendCompletion port => Sys2Proof.Machine.execSendCompletion port s
  | .creditWindowExpiry port => Sys2Proof.Machine.execCreditWindowExpiry port s
  | .keepTimerExpiry port => Sys2Proof.Machine.execKeepTimerExpiry port s
  | .holdoffRepeatExpiry dir => Sys2Proof.Machine.execHoldoffRepeatExpiry dir s
  | .holdoffReceiverExpiry port => Sys2Proof.Machine.execHoldoffReceiverExpiry port s
  | .keepGapExpiry port => Sys2Proof.Machine.execKeepGapExpiry port s
  | .provingTimerExpiry port => Sys2Proof.Machine.execProvingTimerExpiry port s
  | .stationPollDue slot => Sys2Proof.Machine.execStationPollDue slot s
  | .voiceExchangeDue slot => Sys2Proof.Machine.execVoiceExchangeDue slot s
  | .pollFrameEnd drop => Sys2Proof.Machine.execPollFrameEnd drop s
  | .replyStart drop => Sys2Proof.Machine.execReplyStart drop s
  | .replyFrameEnd drop bytes => Sys2Proof.Machine.execReplyFrameEnd drop bytes s
  | .brokenFrame drop => Sys2Proof.Machine.execBrokenFrame drop s
  | .replyTimerExpiry drop => Sys2Proof.Machine.execReplyTimerExpiry drop s
  | .unsolicitedFrame drop => Sys2Proof.Machine.execUnsolicitedFrame drop s
  | .callingTimerExpiry r => Sys2Proof.Machine.execCallingTimerExpiry r s
  | .clearingTimerExpiry r => Sys2Proof.Machine.execClearingTimerExpiry r s
  | .isolatedTimerExpiry r => Sys2Proof.Machine.execIsolatedTimerExpiry r s
  | .commitWriteCompletion got => Sys2Proof.Machine.execCommitWriteCompletion got s
  | .markWriteCompletion => Sys2Proof.Machine.execMarkWriteCompletion s
  | .readAheadCompletion got => Sys2Proof.Machine.execReadAheadCompletion got s
  | .storeStepDone => Sys2Proof.Machine.execStoreStepDone s
  | .saveStepCompletion got => Sys2Proof.Machine.execSaveStepCompletion got s
  | .stepTimerExpiry => Sys2Proof.Machine.execStepTimerExpiry s
  | .abandonedStepCompletion => Sys2Proof.Machine.execAbandonedStepCompletion s
  | .scanReadDone got => Sys2Proof.Machine.execScanReadDone got s
  | .loadReadDone got => Sys2Proof.Machine.execLoadReadDone got s
  | .revertTimerExpiry => Sys2Proof.Machine.execRevertTimerExpiry s
  | .signRequestExpiry sign => Sys2Proof.Machine.execSignRequestExpiry sign s
  | .sampleTimerExpiry level => Sys2Proof.Machine.execSampleTimerExpiry level s
  | .settleTimerExpiry => Sys2Proof.Machine.execSettleTimerExpiry s
  | .feedLostAsserted => Sys2Proof.Machine.execFeedLostAsserted s
  | .feedLostNegated => Sys2Proof.Machine.execFeedLostNegated s
  | .readEntry src tag table index => Sys2Proof.Machine.execReadEntry src tag table index s
  | .writeEntryLane src tag index state service peer => Sys2Proof.Machine.execWriteEntryLane src tag index state service peer s
  | .writeEntryStation src tag index state drop address kind period link location shed => Sys2Proof.Machine.execWriteEntryStation src tag index state drop address kind period link location shed s
  | .writeEntryRule src tag index enabled source quantity sense set clear pt link signs page priority => Sys2Proof.Machine.execWriteEntryRule src tag index enabled source quantity sense set clear pt link signs page priority s
  | .writeEntrySign src tag index station mode level minimum slope => Sys2Proof.Machine.execWriteEntrySign src tag index station mode level minimum slope s
  | .writeEntrySlot src tag index depth offset kw light => Sys2Proof.Machine.execWriteEntrySlot src tag index depth offset kw light s
  | .writeEntryParam src tag index ringSize wTq wMq wAq conserveEntry conserveExit holdupEntry holdupExit primary secondary => Sys2Proof.Machine.execWriteEntryParam src tag index ringSize wTq wMq wAq conserveEntry conserveExit holdupEntry holdupExit primary secondary s
  | .pageOpen src tag sign page size => Sys2Proof.Machine.execPageOpen src tag sign page size s
  | .pageData src tag sign page offset data => Sys2Proof.Machine.execPageData src tag sign page offset data s
  | .pageDiscard src tag sign page => Sys2Proof.Machine.execPageDiscard src tag sign page s
  | .signSet src tag sign page priority expiry => Sys2Proof.Machine.execSignSet src tag sign page priority expiry s
  | .signCancel src tag sign => Sys2Proof.Machine.execSignCancel src tag sign s
  | .status src tag group => Sys2Proof.Machine.execStatus src tag group s
  | .clearCounters src tag group => Sys2Proof.Machine.execClearCounters src tag group s
  | .saveConfig src tag => Sys2Proof.Machine.execSaveConfig src tag s
  | .restart src tag force => Sys2Proof.Machine.execRestart src tag force s

end Sys2Proof.Machine
end

