-- ==== Sys2Proof/Machine/Step.lean ====
section
/-! DEFINITION. One step: the command at the front of the queue is taken, or, with no command waiting, a millisecond passes. -/

namespace Sys2Proof.Machine

/-- A millisecond of the node's clock (log entry 16): every other effect of time is the expiry of a timer, a command of its own. -/
def State.tick (s : State) : State := { s with now := s.now + 1 }

/-- One step of the node. -/
def step (s : State) : Host.Outcome State Fault Refusal :=
  match s.pending with
  | [] => .next s.tick
  | c :: rest => exec c { s with pending := rest }

/-- The command that a word of the table spells, put at the front of the queue. The table gives no row bits, so that no word
spells a command and the state is unchanged. -/
def State.withFetchWord (s : State) (nbits w : Nat) : State :=
  match decodeTableWord nbits w with
  | some c => { s with pending := c :: s.pending }
  | none => s

end Sys2Proof.Machine
end

