-- ==== Sys2Proof/Safety.lean ====
section
/-! DEFINITION. What a sound state of the node is: the properties the manual gives every state a run reaches, one predicate each.
No predicate is a condition of exec; each claim that needs one names it. -/

namespace Sys2Proof.Machine

/-! ### The two addressed memories -/

/-- The external store is in canonical form. -/
def State.storeOk (s : State) : Bool := Memory.wf storeBlank s.nv

/-- The page store is in canonical form. -/
def State.pagesOk (s : State) : Bool := Memory.wf pageBlank s.sign.store

/-! ### Ring protection -/

/-- R29: the ring state is the one the two sides' faults give. -/
def State.ringOk (s : State) : Bool := s.prot.ring == s.prot.derived

/-- A receive port without its counters. -/
def RxPort.core (p : RxPort) : RxPort := { p with looped := 0, provingFailed := 0, linkDown := 0 }

/-! ### Ring transit (R12, R15, R16, 12.1) -/

/-- The transit buffers and the five queues hold no more than they can. -/
def State.queuesOk (s : State) : Bool :=
  let r := s.ring
  decide (r.buffers.cw.length ≤ 32) && decide (r.buffers.ccw.length ≤ 32) && decide (r.rq.length ≤ 4) &&
    decide (r.eq.length ≤ 32) && decide (r.tq.length ≤ 16) && decide (r.mq.length ≤ 16) && decide (r.aq.length ≤ 16)

/-! ### The management agent (R171, R179) -/

/-- The intake and the notice queue hold no more than they can. -/
def State.agentBounded (s : State) : Bool :=
  decide (s.agent.intake.length ≤ 4) && decide (s.agent.notices.length ≤ 16)

/-- The agent runs, has nothing in hand and nothing to send (R169, R171). -/
def State.agentQuiet (s : State) : Bool :=
  !s.repeater && s.agent.intake.isEmpty && s.agent.outbox.isEmpty && s.agent.notices.isEmpty

/-- The agent is quiet and ready for any command (R173). -/
def State.agentIdle (s : State) : Bool := s.agentQuiet && !s.notReady

/-- A quiet agent's state with one more command taken (R180). -/
def State.commandTaken (s : State) : State := { s with agent := { s.agent with taken := bump s.agent.taken } }

/-- A quiet agent's state with the reply to a command formed (R172, R176): the reply's first blocks stand in MQ, as many as MQ
takes, and the others wait in the outbox. -/
def State.withReply (s : State) (c : Command) (st : Status) (content : List Byte) : State :=
  let room := if s.prot.ring = .isolated then 0 else 16 - s.ring.mq.length
  { s with
    ring := { s.ring with mq := s.ring.mq ++ ((replyBlocks c st content).take room).map s.completed }
    agent := { s.agent with outbox := (replyBlocks c st content).drop room } }

/-! ### The custody journal (R92, R95, R103, R104) -/

/-- The bounds on staging, the answer lists, credit and what is on its way to the toll centre. -/
def Journal.bounded (j : Journal) : Bool :=
  decide (j.staging.length ≤ 32) && j.answers.toList.all (fun l => decide (l.length ≤ 4)) && decide (j.credit ≤ 64) &&
    decide (j.readAhead.length ≤ 4) && decide (j.inTransit.length + j.readAhead.length ≤ 64)

/-! ### Weather reduction (R127, R133, R135) -/

/-- The windows of a reduction slot hold no more than its depth, and the gust window no more than 8. -/
def ReductionSlot.windowsOk (r : ReductionSlot) : Bool :=
  [r.surface, r.air, r.humidity, r.visibility, r.light, r.wind].all (fun w => decide (w.length ≤ r.depth)) &&
    decide (r.gust.length ≤ 8)

/-! ### The voice path (R84, R86) -/

/-- The play-out law of a record: at most 8 frames, in strict sequence order from next and within 7 of it; frames wait only
while a next is set. -/
def VoiceFields.lawful (v : VoiceFields) : Bool :=
  match v.next with
  | none => v.queue.isEmpty
  | some n =>
    v.queue.all (fun f => decide (distance n f.seq ≤ 7)) &&
      decide ((v.queue.map fun f => distance n f.seq).Pairwise (· < ·))

def State.voiceOk (s : State) : Bool := s.calls.records.toList.all fun r => r.voice.lawful

/-! ### Signs (R152, R155) -/

/-- R152: what a sign's LIVE or NEXT names is BLANK or a READY page of that sign. -/
def Sign.showsReady (r : Sign) (o : Option (Fin 8)) : Bool :=
  match o with
  | none => true
  | some p => r.isReady p

/-- R152, and R155's swap at once from BLANK: LIVE and NEXT are BLANK or READY pages, and NEXT is BLANK while LIVE is. -/
def Sign.lawful (r : Sign) : Bool := r.showsReady r.live && r.showsReady r.next && (r.live.isSome || r.next.isNone)

/-- Every sign obeys the law of LIVE and NEXT, and the page store is in canonical form. -/
def SignService.lawful (g : SignService) : Bool := Memory.wf pageBlank g.store && g.signs.toList.all Sign.lawful

def State.signsOk (s : State) : Bool := s.sign.lawful

end Sys2Proof.Machine
end

