-- ==== Sys2Proof/Certificates/Slice0/Obligations.lean ====
section
/-! DEFINITION. The statements for the provers. A statement whose docstring names a log entry states that choice of the model beside
what the manual says. -/

open Sys2Proof Sys2Proof.Machine

/-! ### The step and the invariants -/

/-- A step takes the command at the front of the queue and runs exec on it, with the queue's rest behind it. With no command waiting,
a step is a millisecond of the clock and changes nothing else (the model's choice, log entry 16). -/
def Obligations.StepRunsQueueFront : Prop :=
  (∀ (c : Instr) (rest : List Instr) (s : State), step { s with pending := c :: rest } = exec c { s with pending := rest }) ∧
  (∀ s : State, s.pending = [] → step s = .next { s with now := s.now + 1 })

/-- Every command runs to a next state, leaves the queue of commands as it is and, unless it is a full reset, the strapped value
(1.1 reads the straps at full reset alone; the queue is the model's, log entry 18). -/
def Obligations.EveryCommandRunsAndKeepsQueue : Prop :=
  ∀ (c : Instr) (s : State), ∃ t : State, exec c s = .next t ∧ t.pending = s.pending ∧
    ((∀ v, c ≠ .fullReset v) → t.straps = s.straps)

/-- Every step keeps the external store in canonical form. -/
def Obligations.StepKeepsStoreForm : Prop :=
  ∀ s t : State, s.storeOk = true → step s = .next t → t.storeOk = true

/-- Every step keeps the law of 9.3 and 9.6: each sign's LIVE and NEXT are BLANK or a READY page of that sign, and NEXT is BLANK
while LIVE is; and it keeps the page store in canonical form. -/
def Obligations.StepKeepsSignLaw : Prop :=
  ∀ s t : State, s.signsOk = true → step s = .next t → t.signsOk = true

/-- Every step leaves the ring state as the faults of the two sides derive it (2.3). -/
def Obligations.StepKeepsRingDerived : Prop :=
  ∀ s t : State, s.ringOk = true → step s = .next t → t.ringOk = true

/-- Every step keeps these bounds the manual puts on what a block holds: 32 blocks in a transit buffer and in EQ, 4 in RQ, 16 in TQ, MQ and
AQ; 4 commands in the intake and 16 notices; 32 transactions in staging, 4 answers for a station, a credit of 64, 4 records in the
read-ahead buffer and 64 on their way to the toll centre; 32 phones on the wait list; 64 slots on the bad-slot list; 8 samples of the
feed; and in a reduction slot as many values in each window as its depth, and 8 speeds in the gust window. -/
def Obligations.StepKeepsBounds : Prop :=
  ∀ s t : State, step s = .next t →
    (s.queuesOk = true → t.queuesOk = true) ∧ (s.agentBounded = true → t.agentBounded = true) ∧
    (s.jrnl.bounded = true → t.jrnl.bounded = true) ∧
    (s.calls.waitList.length ≤ 32 → t.calls.waitList.length ≤ 32) ∧
    (s.jrnl.bad.length ≤ 64 → t.jrnl.bad.length ≤ 64) ∧
    (s.sup.window.length ≤ 8 → t.sup.window.length ≤ 8) ∧
    (∀ k : Fin 8, s.slots[k].windowsOk = true → t.slots[k].windowsOk = true)

/-- Every step keeps the play-out law of every record: a queue in strict sequence order from next, at most 7 past it and so of at most 8
frames, and empty while there is no next. So does the placing of a VOICE block, and the giving of a frame for play-out. -/
def Obligations.StepKeepsPlayOutLaw : Prop :=
  (∀ s t : State, s.voiceOk = true → step s = .next t → t.voiceOk = true) ∧
  (∀ (r : Fin 16) (b : Block) (s : State), s.voiceOk = true → (s.takeVoice r b).voiceOk = true) ∧
  (∀ (slot : Fin 32) (s : State), s.voiceOk = true → (s.voicePayload slot).2.voiceOk = true) ∧
  (∀ v : VoiceFields, v.lawful = true → v.queue.length ≤ 8)

/-- The state after reset meets every predicate of Safety.lean that is an invariant, and every bound of StepKeepsBounds. -/
def Obligations.ResetMeetsEveryLaw : Prop :=
  State.reset.storeOk = true ∧ State.reset.signsOk = true ∧ State.reset.ringOk = true ∧ State.reset.queuesOk = true ∧
    State.reset.agentBounded = true ∧ State.reset.jrnl.bounded = true ∧ State.reset.voiceOk = true ∧
    State.reset.calls.waitList.length ≤ 32 ∧ State.reset.jrnl.bad.length ≤ 64 ∧ State.reset.sup.window.length ≤ 8 ∧
    (∀ k : Fin 8, State.reset.slots[k].windowsOk = true)

/-- A full reset from any state gives the values the manual states: the node id as strapped, the ports DOWN and the ring ISOLATED,
every queue and buffer empty, every station UNUSED and every line IDLE with a broadcast pending, every record FREE and the call-id
counter 1, the journal RECOVERING, the controller SCANNING unless the node is a REPEATER, the supply NORMAL and the levels of 10.2.
The model's own choices stand beside them: the READ of slot 0 is already in flight (log entry 21), the broadcast has not begun and the
light and the feed-lost input are kept (log entry 20), and so is the queue of commands (log entry 18). Every byte of the store is kept
unless a commit, a mark write or a save's step was in flight. -/
def Obligations.FullResetLeavesManualValues : Prop :=
  ∀ (v : BitVec 5) (s : State), ∃ t : State, exec (.fullReset v) s = .next t ∧ t.straps = v ∧ t.pending = s.pending ∧
    t.prot.ring = .isolated ∧
    (∀ p : Side, (t.prot.ports.get p).link = .down ∧ (t.prot.ports.get p).run = 0 ∧ (t.prot.ports.get p).farFault = false ∧
      (t.prot.ports.get p).neighbour = none ∧ (t.prot.ports.get p).light = (s.prot.ports.get p).light) ∧
    (∀ d : Dir, t.ring.buffers.get d = []) ∧ t.ring.rq = [] ∧ (∀ q : LocalQueue, t.ring.queue q = []) ∧
    (∀ i : Fin 64, t.lanes[i].active = false ∧ t.lanes[i].binding = none) ∧
    (∀ i : Fin 32, t.poll.stations[i].state = .unused) ∧
    (∀ d : Fin 4, t.poll.drops[d].line = .idle ∧ t.poll.drops[d].broadcast = true) ∧
    (∀ r : Fin 16, t.calls.records[r].state = .free) ∧ t.calls.waitList = [] ∧ t.calls.counter = 1 ∧
    t.jrnl.cond = .recovering ∧ t.jrnl.hasView = false ∧ t.jrnl.staging = [] ∧
    (t.repeater = false → t.ctl.state = .scanning ∧ t.ctl.op = some (.scan 0)) ∧
    (t.repeater = true → t.ctl.state = .idle ∧ t.ctl.op = none) ∧
    (∀ k : Fin 8, t.slots[k].fresh = false ∧ t.slots[k].depth = 1 ∧ t.slots[k].derived = Derived.none) ∧
    (∀ i : Fin 32, t.rules[i].enabled = false ∧ t.rules[i].state = .inactive) ∧
    (∀ k : Fin 12, t.sign.signs[k].live = none ∧ t.sign.signs[k].next = none ∧ t.sign.signs[k].request = none) ∧
    t.sup.state = .normal ∧ t.sup.window = [] ∧ t.sup.feedLost = s.sup.feedLost ∧
    t.agent.params.conserveEntry = 2150 ∧ t.agent.params.conserveExit = 2300 ∧ t.agent.params.holdupEntry = 1900 ∧
    t.agent.params.holdupExit = 2300 ∧ t.agent.intake = [] ∧ t.agent.notices = [] ∧
    t.sup.levels = t.agent.params.levels ∧
    ((∀ (slot : Nat) (bytes : List Byte) (w : WriteStep), s.ctl.op ≠ some (.commit slot bytes w) ∧
        s.ctl.op ≠ some (.saveSlot slot bytes w) ∧ s.ctl.op ≠ some (.mark slot)) → s.ctl.op ≠ some .saveMark →
      ∀ a : Nat, Memory.read storeBlank t.nv a = Memory.read storeBlank s.nv a)

/-! ### Ring transit and ring protection (chapters 1, 2 and 12) -/

/-- A block of at most 52 body bytes, sent as its 64 bytes, is received with its check correct, its kind known and every field and
body byte as it was. -/
def Obligations.BlockReadsBackAsSent : Prop :=
  ∀ b : Block, b.fits = true → b.bytes.length = 64 ∧ (Received.ofBytes b.bytes).checkOk = true ∧
    (Received.ofBytes b.bytes).kind = some b.kind ∧ (Received.ofBytes b.bytes).block b.kind = b

/-- A block for another node that arrives on an UP port and has hops left is forwarded: it joins the tail of the transit buffer of
its direction with hops less 1. The errored run returns to 0; the other buffer, the insert queues and everything outside ring transit
and that run are unchanged. -/
def Obligations.ArrivalForwardsToTransit : Prop :=
  ∀ (p : Side) (b : Block) (s : State), b.fits = true → b.kind ≠ .fill → b.kind ≠ .ring → b.src.toNat ≤ 23 →
    b.dst.toNat ≤ 23 → b.hops ≠ 0 → (s.prot.ports.get p).link = .up →
    (s.repeater = true ∨ (b.dst ≠ s.straps ∧ (b.src ≠ s.straps ∨ b.wrapped = true))) →
    (s.ring.buffers.get (directionOn p)).length < 32 →
    ∃ t : State, exec (.blockArrival p b.bytes) s = .next t ∧
      t.ring.buffers.get (directionOn p) = s.ring.buffers.get (directionOn p) ++ [{ b with hops := b.hops - 1 }] ∧
      t.ring.buffers.get (directionOn (otherSide p)) = s.ring.buffers.get (directionOn (otherSide p)) ∧
      (∀ q : LocalQueue, t.ring.queue q = s.ring.queue q) ∧
      t.prot = { s.prot with ports := s.prot.ports.upd p fun x => { x with run := 0 } } ∧
      t = { s with ring := t.ring, prot := t.prot }

/-- How an arrival that is not forwarded ends, each counted once with the port's errored run back at 0. A block with its check correct
that fails a test for sense is malformed (R3). A transit block on a port that is not UP is discarded (R5). A block of the node's own that
has gone round unwrapped is stripped (R6). A block for another node with no hops left is discarded (R7). A block for this node that
its lane refuses reaches no service (R9). A broadcast block is offered to its lane and is also forwarded with hops less 1 (R7): stated
for a lane that refuses it and for a VOICE lane that is bound. -/
def Obligations.ArrivalEndsByItsHeader : Prop :=
  (∀ (p : Side) (l : List Byte) (s : State), (Received.ofBytes l).checkOk = true → (s.prot.ports.get p).link = .up →
    ((Received.ofBytes l).kind = none ∨ 52 < (Received.ofBytes l).length ∨
      (∃ k : BlockKind, (Received.ofBytes l).kind = some k ∧ k ≠ .fill ∧ k ≠ .ring ∧ (23 < (Received.ofBytes l).src.toNat ∨
        (23 < (Received.ofBytes l).dst.toNat ∧ (Received.ofBytes l).dst ≠ 31)))) →
    exec (.blockArrival p l) s = .next { s with
      ring := { s.ring with rx := s.ring.rx.upd p fun c => { c with malformed := bump c.malformed } }
      prot := { s.prot with ports := s.prot.ports.upd p fun x => { x with run := 0 } } }) ∧
  (∀ (p : Side) (b : Block) (s : State), b.fits = true → b.kind ≠ .fill → b.kind ≠ .ring → b.src.toNat ≤ 23 →
    (b.dst.toNat ≤ 23 ∨ b.dst = 31) →
    ((s.prot.ports.get p).link = .proving ∨ ((s.prot.ports.get p).link = .down ∧ (s.prot.ports.get p).light = false) →
      exec (.blockArrival p b.bytes) s = .next { s with
        ring := { s.ring with rx := s.ring.rx.upd p fun c => { c with notUp := bump c.notUp } }
        prot := { s.prot with ports := s.prot.ports.upd p fun x => { x with run := 0 } } }) ∧
    ((s.prot.ports.get p).link = .up → s.repeater = false → b.src = s.straps → b.wrapped = false →
      exec (.blockArrival p b.bytes) s = .next { s with
        ring := { s.ring with dirs := s.ring.dirs.upd (directionOn p) fun c => { c with stripped := bump c.stripped } }
        prot := { s.prot with ports := s.prot.ports.upd p fun x => { x with run := 0 } } }) ∧
    ((s.prot.ports.get p).link = .up → (b.src ≠ s.straps ∨ b.wrapped = true) → b.dst ≠ s.straps → b.dst ≠ 31 → b.hops = 0 →
      exec (.blockArrival p b.bytes) s = .next { s with
        ring := { s.ring with dirs := s.ring.dirs.upd (directionOn p) fun c => { c with hopsExpired := bump c.hopsExpired } }
        prot := { s.prot with ports := s.prot.ports.upd p fun x => { x with run := 0 } } }) ∧
    ((s.prot.ports.get p).link = .up → s.repeater = false → (b.src ≠ s.straps ∨ b.wrapped = true) → b.dst = s.straps →
      s.acceptsLocal b = false →
      exec (.blockArrival p b.bytes) s = .next { s with
        lanes := updAt s.lanes (laneIndex b.lane) fun e => { e with refused := bump e.refused }
        prot := { s.prot with ports := s.prot.ports.upd p fun x => { x with run := 0 } } }) ∧
    ((s.prot.ports.get p).link = .up → s.repeater = false → (b.src ≠ s.straps ∨ b.wrapped = true) → b.dst = 31 → b.hops ≠ 0 →
      (s.acceptsLocal b = false → exec (.blockArrival p b.bytes) s = .next (({ s with
        lanes := updAt s.lanes (laneIndex b.lane) fun e => { e with refused := bump e.refused }
        prot := { s.prot with ports := s.prot.ports.upd p fun x => { x with run := 0 } } } : State).joinTransit (directionOn p)
          { b with hops := b.hops - 1 })) ∧
      (∀ r : Fin 16, s.acceptsLocal b = true → b.kind = .voice → s.lanes[laneIndex b.lane].binding = some r →
        exec (.blockArrival p b.bytes) s = .next ((({ s with
          lanes := updAt s.lanes (laneIndex b.lane) fun e => { e with delivered := bump e.delivered }
          prot := { s.prot with ports := s.prot.ports.upd p fun x => { x with run := 0 } } } : State).takeVoice r b).joinTransit
            (directionOn p) { b with hops := b.hops - 1 }))))

/-- An arrival whose check fails is counted as errored on its port and handled no further. On an UP port the errored run rises by 1
and nothing else changes, until the eighth in a row takes the port DOWN with cause ERRORS and the ring state is derived again. -/
def Obligations.ErroredRunOfEightTakesPortDown : Prop :=
  ∀ (p : Side) (l : List Byte) (s : State), (Received.ofBytes l).checkOk = false → (s.prot.ports.get p).link = .up →
    ((s.prot.ports.get p).run < 7 → exec (.blockArrival p l) s = .next { s with
      ring := { s.ring with rx := s.ring.rx.upd p fun c => { c with errored := bump c.errored } }
      prot := { s.prot with ports := s.prot.ports.upd p fun x => { x with run := x.run + 1 } } }) ∧
    ((s.prot.ports.get p).run = 7 → ∃ t : State, exec (.blockArrival p l) s = .next t ∧
      (t.prot.ports.get p).link = .down ∧ (t.prot.ports.get p).cause = some .errors ∧ (t.prot.ports.get p).run = 0 ∧
      (t.ring.rx.get p).errored = bump (s.ring.rx.get p).errored ∧ t.ringOk = true)

/-- A block offered for local delivery is accepted on lane 63 when it is an MGT block of the primary or the secondary node, and on any other
lane when the lane is ACTIVE, the block's src is its peer and its kind fits the lane's service: VOICE with a binding, CALL, or TOLLCTL on
a TOLL lane. A block for this node that is accepted is counted as delivered and handed to the service of its kind and to nothing else: MGT
to the management agent as the command it carries, with the effect of that command's own row of the table, CALL to the call engine,
TOLLCTL to the custody journal and VOICE to the voice path of the record bound to the lane. A broadcast block that is accepted is handed
over so and then forwarded with hops less 1, or discarded with none left (delivered before it is forwarded: the model's choice, log entry
26). The port's errored run returns to 0. -/
def Obligations.AcceptedBlockReachesService : Prop :=
  (∀ (b : Block) (i : Fin 64) (s : State), i = laneIndex b.lane → (s.acceptsLocal b = true ↔
    (i.val = 63 ∧ (b.src = s.agent.params.primary ∨ b.src = s.agent.params.secondary) ∧ b.kind = .mgt) ∨
    (i.val ≠ 63 ∧ s.lanes[i].active = true ∧ b.src = s.lanes[i].peer ∧
      ((s.lanes[i].service = .voice ∧ b.kind = .voice ∧ s.lanes[i].binding ≠ none) ∨
        (s.lanes[i].service = .call ∧ b.kind = .call) ∨ (s.lanes[i].service = .toll ∧ b.kind = .tollctl))))) ∧
  (∀ (p : Side) (b : Block) (s u w : State), b.fits = true → b.src.toNat ≤ 23 → (s.prot.ports.get p).link = .up →
    s.repeater = false → (b.src ≠ s.straps ∨ b.wrapped = true) → s.acceptsLocal b = true →
    u = { s with
      prot := { s.prot with ports := s.prot.ports.upd p fun x => { x with run := 0 } }
      lanes := updAt s.lanes (laneIndex b.lane) fun e => { e with delivered := bump e.delivered } } →
    ((b.kind = .mgt ∧ w = u.agentReceive { src := b.src, tag := b.seq, code := b.subtype, body := b.body }) ∨
      (b.kind = .call ∧ w = u.takeCallBlock b) ∨ (b.kind = .tollctl ∧ w = u.takeTollControl b) ∨
      (∃ r : Fin 16, b.kind = .voice ∧ s.lanes[laneIndex b.lane].binding = some r ∧ w = u.takeVoice r b)) →
    (b.dst = s.straps → exec (.blockArrival p b.bytes) s = .next w) ∧
    (b.dst = 31 → b.hops ≠ 0 → exec (.blockArrival p b.bytes) s =
      .next (w.joinTransit (directionOn p) { b with hops := b.hops - 1 })) ∧
    (b.dst = 31 → b.hops = 0 → exec (.blockArrival p b.bytes) s = .next { w with ring := { w.ring with
      dirs := w.ring.dirs.upd (directionOn p) fun c => { c with hopsExpired := bump c.hopsExpired } } }))

/-- R13: a forwarded block that finds its transit buffer full. VOICE and CALL displace the oldest block of another kind and join at
the tail; any other arrival, and one that finds VOICE and CALL alone, is discarded. The order of the blocks that remain is
unchanged, occupancy stays at 32 and one overflow counter of the direction counts. -/
def Obligations.FullTransitBufferHandlesByKind : Prop :=
  ∀ (d : Dir) (b : Block) (s : State), (s.ring.buffers.get d).length = 32 →
    (b.kind.urgent = true → ∀ (pre post : List Block) (x : Block), s.ring.buffers.get d = pre ++ x :: post →
      (∀ y ∈ pre, y.kind.urgent = true) → x.kind.urgent = false →
      s.joinTransit d b = { s with ring := { s.ring with
        buffers := s.ring.buffers.upd d fun _ => pre ++ post ++ [b]
        dirs := s.ring.dirs.upd d fun c => { c with displaced := bump c.displaced } } }) ∧
    ((b.kind.urgent = false ∨ ∀ y ∈ s.ring.buffers.get d, y.kind.urgent = true) →
      s.joinTransit d b = { s with ring := { s.ring with
        dirs := s.ring.dirs.upd d fun c => { c with overflowArrival := bump c.overflowArrival } } }) ∧
    ((s.joinTransit d b).ring.buffers.get d).length = 32

/-- In every ring state an out port sends the oldest block in RQ that names it before any other block. With no such block, the ring
CLOSED and no emergency block before it, it sends the oldest block of the transit buffer it serves. What it sends is counted as it is
chosen (the moment is log entry 34's); the other queues and the other port stay as they are. -/
def Obligations.SendTakesRingBlockThenTransitHead : Prop :=
  (∀ (p : Side) (b : Block) (pre post : List RingOffer) (s : State), s.ring.rq = pre ++ { port := p, block := b } :: post →
    (∀ o ∈ pre, o.port ≠ p) → b.kind ≠ .fill →
    ∃ t : State, exec (.sendCompletion p) s = .next t ∧ (t.ring.out.get p).sending = b ∧ t.ring.rq = pre ++ post ∧
      (t.ring.tx.get p).sent = bump (s.ring.tx.get p).sent ∧ t.ring.buffers = s.ring.buffers ∧
      (∀ q : LocalQueue, t.ring.queue q = s.ring.queue q) ∧
      t.ring.out.get (otherSide p) = s.ring.out.get (otherSide p) ∧ t = { s with ring := t.ring }) ∧
  (∀ (p : Side) (d : Dir) (b : Block) (rest : List Block) (s : State), s.prot.ring = .closed → naturalPort d = p →
    (∀ o ∈ s.ring.rq, o.port ≠ p) → (p = .E → s.ring.eq = [] ∨ (s.ring.out.get p).allowance = 0) →
    s.ring.buffers.get d = b :: rest → b.kind ≠ .fill →
    ∃ t : State, exec (.sendCompletion p) s = .next t ∧ (t.ring.out.get p).sending = b ∧ t.ring.buffers.get d = rest ∧
      (t.ring.tx.get p).sent = bump (s.ring.tx.get p).sent ∧ (∀ q : LocalQueue, t.ring.queue q = s.ring.queue q) ∧
      (t.ring.out.get (otherSide p)) = s.ring.out.get (otherSide p) ∧ t = { s with ring := t.ring })

/-- At the insertion port of a CLOSED ring with no block in RQ for it, none in EQ or no emergency allowance, and the buffer it serves empty: a
port not held off serves the first class queue after the one last served that holds a block and has a credit, sends its head and spends
one of its credits; with no such queue it serves the first after the one last served that holds a block, and no credit changes. The block
leaves its queue, and what the departure lets the journal (R105) or the agent and the notice queue (R171, R179) offer joins behind what
the queue still holds; the port's count of blocks sent rises by 1. A command that the agent then takes (MQ served and its intake not
empty) acts as the agent's turn does and may change the count. With RQ, EQ and the buffer empty a port held off sends FILL, and nothing
else changes. With no block in RQ for it and an emergency allowance above 0, the port sends the head of EQ before any transit block, and
the allowance falls by 1. That a block is counted as it is chosen is log entry 34's, and that the engines offer again within the same
choice log entry 26's. -/
def Obligations.InsertQueuesLeaveByTurn : Prop :=
  (∀ (c : ClassQueue) (b : Block) (rest : List Block) (credits : PerClass) (s v w : State),
    s.prot.ring = .closed → (∀ o ∈ s.ring.rq, o.port ≠ .E) → (s.ring.eq = [] ∨ s.ring.out.e.allowance = 0) →
    s.ring.buffers.cw = [] → s.ring.out.e.heldOff = none →
    s.ring.out.e.rotation.search (fun k => s.ring.hasClass k && decide (0 < s.ring.out.e.credits.get k)) = some c →
    s.ring.queue c.insertQueue = b :: rest → credits.get c + 1 = s.ring.out.e.credits.get c →
    (∀ k : ClassQueue, k ≠ c → credits.get k = s.ring.out.e.credits.get k) →
    v = { s with ring := { s.ring with
      tq := if c = .tq then rest else s.ring.tq
      mq := if c = .mq then rest else s.ring.mq
      aq := if c = .aq then rest else s.ring.aq
      out := { s.ring.out with e := { s.ring.out.e with rotation := c, credits := credits } } } } →
    w = (match c with
      | .tq => v.offerTolls
      | .mq => v.agentRun
      | .aq => v) →
    ∃ t : State, exec (.sendCompletion .E) s = .next t ∧ t.ring.out.e.sending = b ∧ t.ring.out.e.credits = credits ∧
      t.ring.out.e.rotation = c ∧ t.ring.out.e.allowance = s.ring.out.e.allowance ∧ t.ring.out.w = s.ring.out.w ∧
      t.ring.buffers = s.ring.buffers ∧
      ((c = .mq → s.agent.intake = []) → ∃ more : List Block, t.ring.queue c.insertQueue = rest ++ more) ∧
      (b.kind ≠ .fill → t = { w with ring := { w.ring with
        out := { w.ring.out with e := { w.ring.out.e with sending := b } }
        tx := w.ring.tx.upd .E fun x => { x with sent := bump x.sent } } }) ∧
      (b.kind ≠ .fill → (c = .mq → s.agent.intake = []) → t.ring.tx.e.sent = bump s.ring.tx.e.sent)) ∧
  (∀ (s : State), s.prot.ring = .closed → s.ring.rq = [] → s.ring.eq = [] → s.ring.buffers.cw = [] →
    s.ring.out.e.heldOff.isSome = true →
    exec (.sendCompletion .E) s =
      .next { s with ring := { s.ring with out := { s.ring.out with e := { s.ring.out.e with sending := Block.fill } } } }) ∧
  (∀ (b : Block) (rest : List Block) (s : State), s.prot.ring = .closed → (∀ o ∈ s.ring.rq, o.port ≠ .E) → s.ring.eq = b :: rest →
    0 < s.ring.out.e.allowance → b.kind ≠ .fill → exec (.sendCompletion .E) s = .next { s with ring := { s.ring with
      eq := rest
      out := { s.ring.out with e := { s.ring.out.e with sending := b, allowance := s.ring.out.e.allowance - 1 } }
      tx := s.ring.tx.upd .E fun c => { c with sent := bump c.sent } } }) ∧
  (∀ (c : ClassQueue) (b : Block) (rest : List Block) (s v w : State), s.prot.ring = .closed → (∀ o ∈ s.ring.rq, o.port ≠ .E) →
    (s.ring.eq = [] ∨ s.ring.out.e.allowance = 0) → s.ring.buffers.cw = [] → s.ring.out.e.heldOff = none →
    s.ring.out.e.rotation.search (fun k => s.ring.hasClass k && decide (0 < s.ring.out.e.credits.get k)) = none →
    s.ring.out.e.rotation.search s.ring.hasClass = some c → s.ring.queue c.insertQueue = b :: rest →
    v = { s with ring := { s.ring with
      tq := if c = .tq then rest else s.ring.tq
      mq := if c = .mq then rest else s.ring.mq
      aq := if c = .aq then rest else s.ring.aq
      out := { s.ring.out with e := { s.ring.out.e with rotation := c } } } } →
    w = (match c with
      | .tq => v.offerTolls
      | .mq => v.agentRun
      | .aq => v) →
    ∃ t : State, exec (.sendCompletion .E) s = .next t ∧ t.ring.out.e.sending = b ∧
      t.ring.out.e.credits = s.ring.out.e.credits ∧ t.ring.out.e.rotation = c ∧
      t.ring.out.e.allowance = s.ring.out.e.allowance ∧ t.ring.out.w = s.ring.out.w ∧ t.ring.buffers = s.ring.buffers ∧
      ((c = .mq → s.agent.intake = []) → ∃ more : List Block, t.ring.queue c.insertQueue = rest ++ more) ∧
      (b.kind ≠ .fill → t = { w with ring := { w.ring with
        out := { w.ring.out with e := { w.ring.out.e with sending := b } }
        tx := w.ring.tx.upd .E fun x => { x with sent := bump x.sent } } }) ∧
      (b.kind ≠ .fill → (c = .mq → s.agent.intake = []) → t.ring.tx.e.sent = bump s.ring.tx.e.sent))

/-- In WRAP-E the port W, in WRAP-W the port E, serves both transit buffers and is the insertion port; the port that faces the fault sends
what RQ holds for it and else FILL. With no block in RQ for the serving port and no emergency block before it, the head of a buffer leaves
by it: of two buffers that hold blocks, that of the buffer its last transit block did not come from. From the buffer whose natural port
faces the fault (CW in WRAP-E, CCW in WRAP-W) a block that has not turned is sent turned and counted as turned for that natural port; one
that has turned is discarded and counted, and the port chooses again at once: the head of the other buffer, or FILL when nothing else
waits. From the other buffer the block leaves as it is. Local blocks not yet turned, from EQ within the allowance and from TQ, MQ and AQ
by credit or by rotation alone, leave by the insertion port: turned and counted in WRAP-E, as they are in WRAP-W. A block sent is counted
as it is chosen (the moment is log entry 34's), and what its departure lets an engine offer joins its queue (log entry 26). -/
def Obligations.WrapTurnsBlockOnce : Prop :=
  (∀ (ring : RingState) (p q : Side) (d : Dir) (turns : Bool) (b : Block) (rest : List Block) (s : State),
    ((ring = .wrapE ∧ p = .W ∧ q = .E) ∨ (ring = .wrapW ∧ p = .E ∧ q = .W)) → s.prot.ring = ring →
    (turns = true ↔ (ring = .wrapE ∧ d = .CW) ∨ (ring = .wrapW ∧ d = .CCW)) →
    (∀ o ∈ s.ring.rq, o.port ≠ p) → (s.ring.eq = [] ∨ (s.ring.out.get p).allowance = 0) →
    s.ring.buffers.get d = b :: rest →
    ((s.ring.out.get p).lastBuffer ≠ d ∨ ∀ k : Dir, k ≠ d → s.ring.buffers.get k = []) →
    turns = false ∨ b.wrapped = false → b.kind ≠ .fill →
    ∃ t : State, exec (.sendCompletion p) s = .next t ∧
      t.ring.out = s.ring.out.upd p (fun o =>
        { o with sending := if turns = true then { b with wrapped := true } else b, lastBuffer := d }) ∧
      t.ring.buffers = s.ring.buffers.upd d (fun _ => rest) ∧
      (t.ring.tx.get p).sent = bump (s.ring.tx.get p).sent ∧
      (∀ l : LocalQueue, t.ring.queue l = s.ring.queue l) ∧
      t = { s with ring := t.ring, prot := { s.prot with wrap := t.prot.wrap } } ∧
      (turns = false → t.prot.wrap = s.prot.wrap) ∧
      (turns = true → t.prot.wrap = s.prot.wrap.upd q fun c => { c with turned := bump c.turned })) ∧
  (∀ (ring : RingState) (p q : Side) (d k : Dir) (b : Block) (rest : List Block) (s : State),
    ((ring = .wrapE ∧ p = .W ∧ q = .E ∧ d = .CW ∧ k = .CCW) ∨ (ring = .wrapW ∧ p = .E ∧ q = .W ∧ d = .CCW ∧ k = .CW)) →
    s.prot.ring = ring → (∀ o ∈ s.ring.rq, o.port ≠ p) → (s.ring.eq = [] ∨ (s.ring.out.get p).allowance = 0) →
    s.ring.buffers.get d = b :: rest → b.wrapped = true → (s.ring.senders.get d).asserted = false →
    (∀ (c : Block) (more : List Block), s.ring.buffers.get k = c :: more → (s.ring.out.get p).lastBuffer ≠ d →
      ∃ t : State, exec (.sendCompletion p) s = .next t ∧ (t.ring.out.get p).sending = c ∧
        (t.ring.out.get p).lastBuffer = k ∧ t.ring.buffers.get d = rest ∧ t.ring.buffers.get k = more ∧
        t.prot = { s.prot with wrap := s.prot.wrap.upd q fun x => { x with discarded := bump x.discarded } }) ∧
    (s.ring.buffers.get k = [] → rest = [] → s.ring.tq = [] → s.ring.mq = [] → s.ring.aq = [] →
      ∃ t : State, exec (.sendCompletion p) s = .next t ∧ (t.ring.out.get p).sending = Block.fill ∧
        t.ring.buffers.get d = [] ∧ t.ring.buffers.get k = [] ∧ t.ring.tx = s.ring.tx ∧
        t.prot = { s.prot with wrap := s.prot.wrap.upd q fun x => { x with discarded := bump x.discarded } })) ∧
  (∀ (ring : RingState) (q : Side) (s : State), ((ring = .wrapE ∧ q = .E) ∨ (ring = .wrapW ∧ q = .W)) → s.prot.ring = ring →
    (∀ o ∈ s.ring.rq, o.port ≠ q) → exec (.sendCompletion q) s =
      .next { s with ring := { s.ring with out := s.ring.out.upd q fun o => { o with sending := Block.fill } } }) ∧
  (∀ (ring : RingState) (p : Side) (b : Block) (rest : List Block) (s : State),
    ((ring = .wrapE ∧ p = .W) ∨ (ring = .wrapW ∧ p = .E)) → s.prot.ring = ring → (∀ o ∈ s.ring.rq, o.port ≠ p) →
    s.ring.eq = b :: rest → 0 < (s.ring.out.get p).allowance → b.wrapped = false → b.kind ≠ .fill →
    exec (.sendCompletion p) s = .next { s with
      prot := { s.prot with wrap :=
        if ring = .wrapE then { s.prot.wrap with e := { s.prot.wrap.e with turned := bump s.prot.wrap.e.turned } }
        else s.prot.wrap }
      ring := { s.ring with
        eq := rest
        out := s.ring.out.upd p fun o =>
          { o with sending := { b with wrapped := decide (ring = .wrapE) }, allowance := o.allowance - 1 }
        tx := s.ring.tx.upd p fun c => { c with sent := bump c.sent } } }) ∧
  (∀ (ring : RingState) (p : Side) (c : ClassQueue) (n : Nat) (b : Block) (rest : List Block) (s : State),
    ((ring = .wrapE ∧ p = .W) ∨ (ring = .wrapW ∧ p = .E)) → s.prot.ring = ring → (∀ o ∈ s.ring.rq, o.port ≠ p) →
    (s.ring.eq = [] ∨ (s.ring.out.get p).allowance = 0) → s.ring.buffers.cw = [] → s.ring.buffers.ccw = [] →
    (s.ring.out.get p).heldOff = none →
    (((s.ring.out.get p).rotation.search fun k =>
          s.ring.hasClass k && decide (0 < (s.ring.out.get p).credits.get k)) = some c ∧ n = 1) ∨
      (((s.ring.out.get p).rotation.search fun k =>
          s.ring.hasClass k && decide (0 < (s.ring.out.get p).credits.get k)) = none ∧
        (s.ring.out.get p).rotation.search s.ring.hasClass = some c ∧ n = 0) →
    s.ring.queue c.insertQueue = b :: rest → b.wrapped = false → b.kind ≠ .fill → (c = .mq → s.agent.intake = []) →
    ∃ t : State, exec (.sendCompletion p) s = .next t ∧
      (t.ring.out.get p).sending = { b with wrapped := decide (ring = .wrapE) } ∧ (t.ring.out.get p).rotation = c ∧
      (t.ring.out.get p).credits.get c + n = (s.ring.out.get p).credits.get c ∧
      (∀ k : ClassQueue, k ≠ c → (t.ring.out.get p).credits.get k = (s.ring.out.get p).credits.get k) ∧
      (∃ more : List Block, t.ring.queue c.insertQueue = rest ++ more) ∧
      (t.ring.tx.get p).sent = bump (s.ring.tx.get p).sent ∧
      t.prot = { s.prot with wrap :=
        if ring = .wrapE then { s.prot.wrap with e := { s.prot.wrap.e with turned := bump s.prot.wrap.e.turned } }
        else s.prot.wrap })

/-- The credit window's expiry sets the port's allowance to 24 and its credits to the weights held at that moment, starts the window again
for 1 ms, and changes nothing else. The KEEP timer's expiry offers a KEEP with the far-fault flag of the port's side to RQ and starts the
timer again for 1 ms; an RQ of 4 blocks refuses it, which is counted. The hold-off repeat timer's expiry offers HOLDOFF again and runs on
for 5 ms while its buffer holds 8 blocks or more; below 8, which no run reaches with the timer running, it stops (the model's choice, log
entry 39). The receiver's expiry clears its port's mark. The clock stands at the deadline or later (log entry 11). -/
def Obligations.CreditKeepAndHoldoffTimersAct : Prop :=
  (∀ (p : Side) (s : State), ∃ t : State, exec (.creditWindowExpiry p) s = .next t ∧
    t.now = max s.now (s.ring.out.get p).window ∧
    t.ring.out.get p = { s.ring.out.get p with allowance := 24, credits := s.agent.params.weights, window := t.now + 1 } ∧
    t.ring.out.get (otherSide p) = s.ring.out.get (otherSide p) ∧ t.ring = { s.ring with out := t.ring.out } ∧
    t = { s with now := t.now, ring := t.ring }) ∧
  (∀ (p : Side) (s : State), ∃ t : State, exec (.keepTimerExpiry p) s = .next t ∧
    t.now = max s.now (s.prot.keep.get p) ∧ t.prot = { s.prot with keep := s.prot.keep.upd p fun _ => t.now + 1 } ∧
    (s.ring.rq.length < 4 → t.ring = { s.ring with rq := s.ring.rq ++ [{ port := p, block :=
      { kind := .ring, subtype := 1, wrapped := false, dst := 31, src := s.straps, lane := 0, hops := 0, seq := 0,
        body := [if (s.prot.ports.get p).link = .up then 0 else 1] } }] }) ∧
    (4 ≤ s.ring.rq.length → t.ring = { s.ring with tx := s.ring.tx.upd p fun c => { c with rqRefused := bump c.rqRefused } }) ∧
    t = { s with now := t.now, ring := t.ring, prot := t.prot }) ∧
  (∀ (d : Dir) (dl : Nat) (s : State), (s.ring.senders.get d).timer = some dl → ∃ t : State,
    exec (.holdoffRepeatExpiry d) s = .next t ∧ t.now = max s.now dl ∧ t.ring.buffers = s.ring.buffers ∧
    (8 ≤ (s.ring.buffers.get d).length → (t.ring.senders.get d).asserted = true ∧
      (t.ring.senders.get d).timer = some (t.now + 5) ∧
      (s.ring.rq.length < 4 → t.ring.rq = s.ring.rq ++ [{ port := fedFrom d, block := s.ringBlock subHoldoff [] }])) ∧
    ((s.ring.buffers.get d).length < 8 → (t.ring.senders.get d).timer = none ∧ t.ring.rq = s.ring.rq) ∧
    t = { s with now := t.now, ring := t.ring }) ∧
  (∀ (p : Side) (dl : Nat) (s : State), (s.ring.out.get p).heldOff = some dl → ∃ t : State,
    exec (.holdoffReceiverExpiry p) s = .next t ∧ (t.ring.out.get p).heldOff = none ∧
    t.ring.out.get (otherSide p) = s.ring.out.get (otherSide p) ∧ t = { s with now := max s.now dl, ring := t.ring } ∧
    t.ring = { s.ring with out := t.ring.out })

/-- RING blocks and the hold-off senders. A KEEP of another node on a PROVING or UP port starts the keep-gap timer again, and sets the side's
far-fault flag and neighbour; a flag that changes derives the ring state again, and where nothing has changed nothing else does. A KEEP
of the node's own is counted as looped. HOLDOFF marks the out port of its side held off for 12 ms and RELEASE ends that. The join that
brings a QUIET buffer to 24 blocks offers HOLDOFF on the side that feeds it and starts the 5 ms repeat timer; the departure that brings an
ASSERTED one from 8 to 7 offers RELEASE and stops it. -/
def Obligations.RingBlocksActOnTheirSide : Prop :=
  (∀ (p : Side) (b : Block) (f : Bool) (s : State), b.fits = true → b.kind = .ring → b.subtype = 1 →
    b.body = [if f = true then 1 else 0] → (s.prot.ports.get p).link ≠ .down → (s.repeater = true ∨ b.src ≠ s.straps) →
    ∃ t : State, exec (.blockArrival p b.bytes) s = .next t ∧
      (t.prot.ports.get p).core = ({ s.prot.ports.get p with run := 0, gap := (s.prot.ports.get p).gap.map fun _ => s.now + 5
                                                             farFault := f, neighbour := some b.src } : RxPort).core ∧
      (t.prot.ports.get (otherSide p)).core = (s.prot.ports.get (otherSide p)).core ∧
      (f ≠ (s.prot.ports.get p).farFault → t.ringOk = true) ∧
      (f = (s.prot.ports.get p).farFault → ((s.prot.ports.get p).link = .proving ∨ (s.prot.ports.get p).neighbour = none ∨
          (s.prot.ports.get p).neighbour = some b.src) →
        t = { s with prot := { s.prot with ports := s.prot.ports.upd p fun x =>
          { x with run := 0, gap := x.gap.map fun _ => s.now + 5, neighbour := some b.src } } })) ∧
  (∀ (p : Side) (b : Block) (s : State), b.fits = true → b.kind = .ring → (s.prot.ports.get p).link ≠ .down →
    (b.subtype = 1 → s.repeater = false → b.src = s.straps → exec (.blockArrival p b.bytes) s = .next { s with
      prot := { s.prot with ports := s.prot.ports.upd p fun x => { x with run := 0, looped := bump x.looped } } }) ∧
    (b.subtype = 2 → exec (.blockArrival p b.bytes) s = .next { s with
      ring := { s.ring with out := s.ring.out.upd p fun o => { o with heldOff := some (s.now + 12) } }
      prot := { s.prot with ports := s.prot.ports.upd p fun x => { x with run := 0 } } }) ∧
    (b.subtype = 3 → exec (.blockArrival p b.bytes) s = .next { s with
      ring := { s.ring with out := s.ring.out.upd p fun o => { o with heldOff := none } }
      prot := { s.prot with ports := s.prot.ports.upd p fun x => { x with run := 0 } } })) ∧
  (∀ (d : Dir) (b : Block) (s : State), (s.ring.buffers.get d).length = 23 → (s.ring.senders.get d).asserted = false →
    s.ring.rq.length < 4 → s.joinTransit d b = { s with ring := { s.ring with
      buffers := s.ring.buffers.upd d fun l => l ++ [b]
      senders := s.ring.senders.upd d fun _ => { asserted := true, timer := some (s.now + 5) }
      rq := s.ring.rq ++ [{ port := fedFrom d, block := s.ringBlock 2 [] }] } }) ∧
  (∀ (d : Dir) (b : Block) (rest : List Block) (s : State), s.ring.buffers.get d = b :: rest → rest.length = 7 →
    (s.ring.senders.get d).asserted = true → s.ring.rq.length < 4 → s.depart (.transit d b) = { s with ring := { s.ring with
      buffers := s.ring.buffers.upd d fun _ => rest
      senders := s.ring.senders.upd d fun _ => { asserted := false, timer := none }
      rq := s.ring.rq ++ [{ port := fedFrom d, block := s.ringBlock 3 [] }] } })

/-- The events of a port. The keep-gap timer's expiry takes a PROVING or UP port DOWN with cause KEEP-GAP, both its timers stopped and its run
0; the proving timer's expiry takes a PROVING port UP. Light present sets the port's light flag and changes nothing else. Loss of light
clears it, and takes a PROVING or UP port DOWN with cause LIGHT; a DOWN port stays as it is. An arrival with its check correct takes a
DOWN port with light to PROVING, with 2000 ms to prove and 5 ms to the next KEEP; FILL does that and nothing else. An errored arrival
takes a PROVING port DOWN with cause ERRORS, counted as a failed proving, and on a DOWN port only adds to the run, 8 at most. After each
the ring state is the one the sides derive, and the other port stays as it is but for its counters. -/
def Obligations.PortEventsMoveLink : Prop :=
  (∀ (p : Side) (dl : Nat) (s : State), (s.prot.ports.get p).gap = some dl → (s.prot.ports.get p).link ≠ .down →
    ∃ t : State, exec (.keepGapExpiry p) s = .next t ∧ (t.prot.ports.get p).link = .down ∧
      (t.prot.ports.get p).cause = some .keepGap ∧ (t.prot.ports.get p).gap = none ∧ (t.prot.ports.get p).proving = none ∧
      (t.prot.ports.get p).run = 0 ∧ t.ringOk = true ∧
      (t.prot.ports.get (otherSide p)).core = (s.prot.ports.get (otherSide p)).core) ∧
  (∀ (p : Side) (dl : Nat) (s : State), (s.prot.ports.get p).proving = some dl → (s.prot.ports.get p).link = .proving →
    ∃ t : State, exec (.provingTimerExpiry p) s = .next t ∧ (t.prot.ports.get p).link = .up ∧
      (t.prot.ports.get p).proving = none ∧ (t.prot.ports.get p).gap = (s.prot.ports.get p).gap ∧ t.ringOk = true ∧
      (t.prot.ports.get (otherSide p)).core = (s.prot.ports.get (otherSide p)).core) ∧
  (∀ (p : Side) (s : State), exec (.lightPresent p) s =
    .next { s with prot := { s.prot with ports := s.prot.ports.upd p fun x => { x with light := true } } }) ∧
  (∀ (p : Side) (s : State), (s.prot.ports.get p).link = .down → exec (.lossOfLight p) s =
    .next { s with prot := { s.prot with ports := s.prot.ports.upd p fun x => { x with light := false } } }) ∧
  (∀ (p : Side) (s : State), (s.prot.ports.get p).link ≠ .down → ∃ t : State, exec (.lossOfLight p) s = .next t ∧
    (t.prot.ports.get p).link = .down ∧ (t.prot.ports.get p).light = false ∧ (t.prot.ports.get p).cause = some .light ∧
    (t.prot.ports.get p).run = 0 ∧ (t.prot.ports.get p).gap = none ∧ (t.prot.ports.get p).proving = none ∧ t.ringOk = true ∧
    (t.prot.ports.get (otherSide p)).core = (s.prot.ports.get (otherSide p)).core) ∧
  (∀ (p : Side) (l : List Byte) (s : State), (Received.ofBytes l).checkOk = true → (s.prot.ports.get p).link = .down →
    (s.prot.ports.get p).light = true → ∃ t : State, exec (.blockArrival p l) s = .next t ∧
      (t.prot.ports.get p).link = .proving ∧ (t.prot.ports.get p).run = 0 ∧
      (t.prot.ports.get p).proving = some (s.now + 2000) ∧ (t.prot.ports.get p).gap = some (s.now + 5) ∧ t.ringOk = true ∧
      (t.prot.ports.get (otherSide p)).core = (s.prot.ports.get (otherSide p)).core) ∧
  (∀ (p : Side) (s : State), s.ringOk = true → (s.prot.ports.get p).link = .down → (s.prot.ports.get p).light = true →
    exec (.blockArrival p Block.fill.bytes) s = .next { s with prot := { s.prot with ports := s.prot.ports.upd p fun x =>
      { x with link := .proving, run := 0, proving := some (s.now + 2000), gap := some (s.now + 5) } } }) ∧
  (∀ (p : Side) (l : List Byte) (s : State), (Received.ofBytes l).checkOk = false → s.ringOk = true →
    ((s.prot.ports.get p).link = .proving → exec (.blockArrival p l) s = .next { s with
      ring := { s.ring with rx := s.ring.rx.upd p fun c => { c with errored := bump c.errored } }
      prot := { s.prot with ports := s.prot.ports.upd p fun x =>
        { x with link := .down, run := 0, gap := none, proving := none, cause := some .errors,
                 provingFailed := bump x.provingFailed } } }) ∧
    ((s.prot.ports.get p).link = .down → exec (.blockArrival p l) s = .next { s with
      ring := { s.ring with rx := s.ring.rx.upd p fun c => { c with errored := bump c.errored } }
      prot := { s.prot with ports := s.prot.ports.upd p fun x => { x with run := min 8 (x.run + 1) } } }))

/-- The ring state derived ISOLATED. EQ, TQ, MQ and AQ are emptied into the isolation counters; RQ and the transit buffers stay. Every
CALLING, QUEUED or CONNECTED record becomes ISOLATED with the state it left as its prior state, no attempts and a 30 s timer, and every
other record stays; the journal's credit is 0, nothing is read ahead, and no record whose block stood in TQ is left IN-TRANSIT, while what
it holds stays. Derived anything else from ISOLATED, with no command in the intake, every ISOLATED record counts one more send, up to 255,
starts its 30 s timer again and sends: with a CALL lane, and room in EQ for 16 blocks, REQUEST for a prior state of CALLING and RESUME for
any other, by record index (an order R75 does not give: the model's choice, log entry 26). The change is counted. -/
def Obligations.IsolationHandsOverAndHeals : Prop :=
  (∀ s t : State, s.prot.derived = .isolated → s.prot.ring ≠ .isolated → t = s.deriveRing →
    t.prot = { s.prot with ring := .isolated, changes := bump s.prot.changes, isoEq := bumpBy s.prot.isoEq s.ring.eq.length,
                           isoTq := bumpBy s.prot.isoTq s.ring.tq.length, isoMq := bumpBy s.prot.isoMq s.ring.mq.length,
                           isoAq := bumpBy s.prot.isoAq s.ring.aq.length } ∧
    t.ring = { s.ring with eq := [], tq := [], mq := [], aq := [] } ∧ t.calls.waitList = s.calls.waitList ∧
    (∀ r : Fin 16, t.calls.records[r] =
      match s.calls.records[r].state with
      | .calling | .queued | .connected => { s.calls.records[r] with
          state := .isolated, prior := some s.calls.records[r].state, attempts := 0, timer := some (s.now + 30000) }
      | .free | .seized | .isolated | .clearing => s.calls.records[r]) ∧
    t.jrnl.credit = 0 ∧ t.jrnl.readAhead = [] ∧ t.jrnl.held = s.jrnl.held ∧ t.jrnl.oldest = s.jrnl.oldest ∧
    (∀ x ∈ t.jrnl.inTransit, x ∈ s.jrnl.inTransit ∧
      ∀ b ∈ s.ring.tq, (word32At b.body 0).toNat = x.serial → s.jrnl.holdsSerial x.serial = false) ∧
    t = { s with prot := t.prot, ring := t.ring, calls := t.calls, jrnl := t.jrnl, ctl := t.ctl, agent := t.agent }) ∧
  (∀ s t : State, s.prot.ring = .isolated → s.prot.derived ≠ .isolated → s.agent.intake = [] → t = s.deriveRing →
    t.prot = { s.prot with ring := s.prot.derived, changes := bump s.prot.changes } ∧
    (∀ r : Fin 16, s.calls.records[r].state = .isolated → t.calls.records[r] =
      { s.calls.records[r] with attempts := min 255 (s.calls.records[r].attempts + 1), timer := some (s.now + 30000) }) ∧
    (∀ lane : Fin 64, s.repeater = false → s.laneFor .call = some lane → s.ring.eq.length ≤ 16 → ∃ more : List Block,
      t.ring.eq = s.ring.eq ++
        ((List.finRange 16).filter fun r => s.calls.records[r].state == .isolated).map (fun r =>
          s.completed (localBlock .call (if s.calls.records[r].prior = some .calling then subRequest else subResume) lane
            s.lanes[lane].peer (byte (min 255 (s.calls.records[r].attempts + 1)))
            (s.calls.records[r].idBytes ++ s.placeBytes r ++
              if s.calls.records[r].prior = some .calling then s.locationBytes r else []))) ++ more))

/-! ### The drop poller and weather reduction (chapters 3 and 8) -/

/-- STATION_POLL_DUE and VOICE_EXCHANGE_DUE make an IDLE line with no broadcast pending choose. A voice exchange found first begins with the
voice path's payload; with none due, the station poll found first begins with its engine's payload. The line is SENDING the POLL, the
exchange is counted, every other drop stays as it is, and of the stations the one whose moment has come is marked so alone, as it is where
the line is busy; the clock stands at the deadline or later, and the exchange begins then (log entry 11). Found first is one of the
earliest due time, the first such in slot order: the exchanges due are listed by rising slot, and are those whose due time has come, for a
station poll of an entry in use that is not skipped. The choice at a completion begins the SUPPLY broadcast when one is pending, else the
voice exchange found first, else the station poll found first, among the demands whose due time lies before the moment and those of the
moment itself whose coming was taken before the completion; with none it leaves the line IDLE (R51 has a due time and a completion of one
moment taken in either order; that a mark tells the order is the model's, log entry 51). -/
def Obligations.DueEventsBeginEarliestExchange : Prop :=
  (∀ (i : Fin 32) (d : Fin 4) (e : Station) (dl : Nat) (s : State), s.repeater = false → s.poll.stations[i] = e → e.drop = d →
    e.voiceDue = some dl → s.poll.drops[d].line = .idle → s.poll.drops[d].broadcast = false →
    earliest ((s.reach dl).dueVoices d) = some (i, dl) →
    ∃ t : State, exec (.voiceExchangeDue i) s = .next t ∧ t.now = max s.now dl ∧
      t.poll.stations = updAt s.poll.stations i (fun e => { e with come := some dl }) ∧
      t.poll.drops[d] = { s.poll.drops[d] with
        line := .sending
        exch := some { snap := some { slot := i, drop := d, address := e.address, kind := e.kind, link := e.link },
                       voice := true, begun := t.now,
                       frame := frameBytes false e.address typePoll ((s.reach dl).voicePayload i).1 }
        ctr := { s.poll.drops[d].ctr with voices := bump s.poll.drops[d].ctr.voices } } ∧
      (∀ k : Fin 4, k ≠ d → t.poll.drops[k] = s.poll.drops[k]) ∧
      t = { s with now := t.now, poll := t.poll, calls := t.calls }) ∧
  (∀ (i : Fin 32) (d : Fin 4) (e : Station) (dl : Nat) (s : State), s.repeater = false → s.poll.stations[i] = e → e.drop = d →
    e.due = some dl → s.poll.drops[d].line = .idle → s.poll.drops[d].broadcast = false → (s.reach dl).dueVoices d = [] →
    earliest ((s.reach dl).duePolls d) = some (i, dl) →
    ∃ t : State, exec (.stationPollDue i) s = .next t ∧ t.now = max s.now dl ∧
      t.poll.stations = updAt s.poll.stations i (fun e => { e with come := some dl }) ∧
      t.poll.drops[d] = { s.poll.drops[d] with
        line := .sending
        exch := some { snap := some { slot := i, drop := d, address := e.address, kind := e.kind, link := e.link },
                       voice := false, begun := t.now,
                       frame := frameBytes false e.address typePoll ((s.reach dl).stationPayload i).1 }
        ctr := { s.poll.drops[d].ctr with polls := bump s.poll.drops[d].ctr.polls } } ∧
      (∀ k : Fin 4, k ≠ d → t.poll.drops[k] = s.poll.drops[k]) ∧
      t = { s with now := t.now, poll := t.poll, jrnl := t.jrnl, sign := t.sign } ∧
      (e.kind = .phone ∨ e.kind = .weather → t.jrnl = s.jrnl ∧ t.sign = s.sign)) ∧
  (∀ l : List (Fin 32 × Nat), earliest l = none ↔ l = []) ∧
  (∀ (l : List (Fin 32 × Nat)) (x : Fin 32 × Nat), earliest l = some x → ∃ pre post : List (Fin 32 × Nat),
    l = pre ++ x :: post ∧ (∀ y ∈ pre, x.2 < y.2) ∧ ∀ y ∈ post, x.2 ≤ y.2) ∧
  (∀ (d : Fin 4) (i : Fin 32) (t : Nat) (s : State), (i, t) ∈ s.duePolls d ↔ s.poll.stations[i].due = some t ∧ t ≤ s.now ∧
    s.poll.stations[i].inUse = true ∧ s.poll.stations[i].drop = d ∧ s.skips s.poll.stations[i] = false) ∧
  (∀ (d : Fin 4) (i : Fin 32) (t : Nat) (s : State), (i, t) ∈ s.dueVoices d ↔ s.poll.stations[i].voiceDue = some t ∧ t ≤ s.now ∧
    s.poll.stations[i].drop = d) ∧
  (∀ (d : Fin 4) (s : State), ((s.duePolls d).map (·.1)).Pairwise (· < ·) ∧ ((s.dueVoices d).map (·.1)).Pairwise (· < ·)) ∧
  (∀ (d : Fin 4) (L P : List (Fin 32 × Nat)) (s u : State), s.repeater = false → s.poll.drops[d].line = .idle →
    L = (s.dueVoices d).filter (fun x => decide (x.2 < s.now ∨ s.poll.stations[x.1].come = some x.2)) →
    P = (s.duePolls d).filter (fun x => decide (x.2 < s.now ∨ s.poll.stations[x.1].come = some x.2)) → u = s.endChoose d →
    (s.poll.drops[d].broadcast = true → u = { s with poll := { s.poll with drops := updAt s.poll.drops d fun l => { l with
      line := .sending, broadcast := false
      exch := some { snap := none, voice := false, begun := s.now, frame := frameBytes false 31 2 [s.sup.state.code] }
      ctr := { l.ctr with broadcasts := bump l.ctr.broadcasts } } } }) ∧
    (∀ (i : Fin 32) (dl : Nat) (e : Station), s.poll.drops[d].broadcast = false → s.poll.stations[i] = e →
      earliest L = some (i, dl) → u.poll.drops = updAt s.poll.drops d (fun l => { l with
        line := .sending
        exch := some { snap := some { slot := i, drop := d, address := e.address, kind := e.kind, link := e.link },
                       voice := true, begun := s.now, frame := frameBytes false e.address typePoll (s.voicePayload i).1 }
        ctr := { l.ctr with voices := bump l.ctr.voices } }) ∧ u.poll.stations = s.poll.stations) ∧
    (∀ (i : Fin 32) (dl : Nat) (e : Station), s.poll.drops[d].broadcast = false → s.poll.stations[i] = e → L = [] →
      earliest P = some (i, dl) → u.poll.drops = updAt s.poll.drops d (fun l => { l with
        line := .sending
        exch := some { snap := some { slot := i, drop := d, address := e.address, kind := e.kind, link := e.link },
                       voice := false, begun := s.now, frame := frameBytes false e.address typePoll (s.stationPayload i).1 }
        ctr := { l.ctr with polls := bump l.ctr.polls } }) ∧ u.poll.stations = s.poll.stations) ∧
    (s.poll.drops[d].broadcast = false → L = [] → P = [] → u = s)) ∧
  (∀ (i : Fin 32) (dl : Nat) (c : Instr) (s : State), s.repeater = false →
    s.poll.drops[s.poll.stations[i].drop].line ≠ .idle →
    ((c = .voiceExchangeDue i ∧ s.poll.stations[i].voiceDue = some dl) ∨
      (c = .stationPollDue i ∧ s.poll.stations[i].due = some dl)) →
    exec c s = .next { s with now := max s.now dl, poll := { s.poll with
      stations := updAt s.poll.stations i fun e => { e with come := some dl } } })

/-- The body of a station poll by the station's kind. PHONE: tone, hook state expected and 32 samples of silence. WEATHER: empty. TOLL: a
count and the READY answers in list order, at most 4, of 3 bytes each, every READY entry becoming CARRIED with its verdict. SIGN with LIVE
a page: the page, the cursor, the intensity sent and the 32 bytes of the page from the cursor on, the chunk now in flight. SIGN with LIVE
BLANK: 255, 0, the intensity sent and 32 bytes of 0. The computed intensity is the level in FIXED mode. In AMBIENT mode it is the minimum
plus the floor of LIGHT × slope ÷ 4096 when LIGHT of the mode's slot is formed, the last intensity when it is not, and at least the
minimum and at most 100 in both cases. The tone code and the hook state expected of a phone, which its station poll and its voice exchange
both carry, follow its standing: in no record HOLD, expected OFF-HOOK when it is on the wait list; held by a record that is SEIZED or
CALLING RINGBACK, QUEUED or ISOLATED HOLD, CONNECTED NONE, each expected OFF-HOOK; CLEARING CLEARED, expected OFF-HOOK with reason CENTRE
and ON-HOOK with reason ON-HOOK or LINE-LOST. -/
def Obligations.PollPayloadFollowsKind : Prop :=
  (∀ (i : Fin 32) (s : State),
    (s.poll.stations[i].kind = .phone →
      s.stationPayload i = ([(s.toneOf i).code, if s.expectsOffHook i = true then 1 else 0] ++ List.replicate 32 128, s)) ∧
    (s.poll.stations[i].kind = .weather → s.stationPayload i = ([], s)) ∧
    (s.poll.stations[i].kind = .toll → (readyAnswers s.jrnl.answers[i]).length ≤ 4 ∧
      (s.jrnl.answers[i].length ≤ 4 → ∀ (n : BitVec 16) (v : Verdict), (n, v) ∈ readyAnswers s.jrnl.answers[i] ↔
        { number := n, state := .ready v } ∈ s.jrnl.answers[i]) ∧
      s.stationPayload i =
        (byte (readyAnswers s.jrnl.answers[i]).length ::
            (readyAnswers s.jrnl.answers[i]).flatMap fun a => be16 a.1 ++ [a.2.code],
         { s with jrnl := { s.jrnl with answers := updAt s.jrnl.answers i (List.map fun e =>
            { e with state := match e.state with
                              | .ready v => .carried v
                              | .processing => .processing
                              | .carried v => .carried v }) } })) ∧
    (∀ (k : Fin 12) (p : Fin 8), s.poll.stations[i].kind = .sign → signOf? s.poll.stations[i].link = some k →
      s.sign.signs[k].live = some p →
      s.stationPayload i =
        ([byte p.val, byte s.sign.signs[k].cursor,
          byte (if s.sup.state = .conserve then min (s.computedIntensity k) 50 else s.computedIntensity k)] ++
            Memory.readList pageBlank s.sign.store (s.sign.signs[k].pages[p].address s.sign.signs[k].cursor) 32,
         { s with sign := { s.sign with signs := updAt s.sign.signs k fun r =>
            { r with chunk := some { page := some p, offset := r.cursor }, lastIntensity := s.computedIntensity k } } })) ∧
    (∀ k : Fin 12, s.poll.stations[i].kind = .sign → signOf? s.poll.stations[i].link = some k → s.sign.signs[k].live = none →
      s.stationPayload i =
        ([255, 0, byte (if s.sup.state = .conserve then min (s.computedIntensity k) 50 else s.computedIntensity k)] ++
            List.replicate 32 0,
         { s with sign := { s.sign with signs := updAt s.sign.signs k fun r =>
            { r with chunk := some { page := none, offset := 0 }, lastIntensity := s.computedIntensity k } } }))) ∧
  (∀ (k : Fin 12) (s : State),
    (∀ level : Nat, s.sign.signs[k].mode = .fixed level → s.computedIntensity k = level) ∧
    (∀ (slot : Fin 8) (low slope : Nat), s.sign.signs[k].mode = .ambient slot low slope →
      (∀ light : Int, s.slots[slot].derived.light = some light →
        s.computedIntensity k = max low (min 100 (low + light.toNat * slope / 4096))) ∧
      (s.slots[slot].derived.light = none → s.computedIntensity k = max low (min 100 s.sign.signs[k].lastIntensity)))) ∧
  (∀ (i : Fin 32) (s : State),
    (s.recordOf i = none ↔ ∀ r : Fin 16, s.calls.records[r].state = .free ∨ s.calls.records[r].phone ≠ some i) ∧
    (s.recordOf i = none → (s.toneOf i).code = 2 ∧
      (s.expectsOffHook i = true ↔ ∃ w ∈ s.calls.waitList, w.slot = i)) ∧
    (∀ (r : Fin 16) (x : CallRecord), s.recordOf i = some r → s.calls.records[r] = x →
      x.state ≠ .free ∧ x.phone = some i ∧
      (x.state = .seized ∨ x.state = .calling → (s.toneOf i).code = 1) ∧
      (x.state = .queued ∨ x.state = .isolated → (s.toneOf i).code = 2) ∧
      (x.state = .connected → (s.toneOf i).code = 0) ∧ (x.state = .clearing → (s.toneOf i).code = 3) ∧
      (x.state ≠ .clearing ∨ x.reason = some .centre → s.expectsOffHook i = true) ∧
      (x.state = .clearing → x.reason = some .onHook ∨ x.reason = some .lineLost → s.expectsOffHook i = false)) ∧
    (∃ l : List Byte, l.length = 32 ∧
      (s.voicePayload i).1 = [(s.toneOf i).code, if s.expectsOffHook i = true then 1 else 0] ++ l))

/-- The line's own events. The end of a POLL's frame starts the reply timer, of 1 ms in a voice exchange and 2 ms in a station poll; the end
of a broadcast's returns the line to IDLE where nothing is due but demands of this very moment that are taken after it (log entry 51). A
reply's first byte while AWAITING stops the timer. A frame outside any exchange is counted as unsolicited and changes nothing else. -/
def Obligations.FrameEventsMoveLine : Prop :=
  (∀ (d : Fin 4) (x : Exchange) (s : State), s.repeater = false → s.poll.drops[d].line = .sending →
    s.poll.drops[d].exch = some x → x.snap.isSome = true →
    exec (.pollFrameEnd d) s = .next { s with poll := { s.poll with drops := updAt s.poll.drops d fun l =>
      { l with line := .awaiting, replyTimer := some (s.now + if x.voice = true then 1 else 2) } } }) ∧
  (∀ (d : Fin 4) (x : Exchange) (s : State), s.repeater = false → s.poll.drops[d].line = .sending →
    s.poll.drops[d].exch = some x → x.snap = none → s.poll.drops[d].broadcast = false →
    (∀ y ∈ s.dueVoices d ++ s.duePolls d, y.2 = s.now ∧ s.poll.stations[y.1].come ≠ some y.2) →
    exec (.pollFrameEnd d) s = .next { s with poll := { s.poll with drops := updAt s.poll.drops d fun l =>
      { l with line := .idle, exch := none, replyTimer := none } } }) ∧
  (∀ (d : Fin 4) (s : State), s.repeater = false → s.poll.drops[d].line = .awaiting →
    exec (.replyStart d) s = .next { s with poll := { s.poll with drops := updAt s.poll.drops d fun l =>
      { l with line := .receiving, replyTimer := none } } }) ∧
  (∀ (d : Fin 4) (bytes : List Byte) (c : Instr) (s : State), s.repeater = false →
    c = .unsolicitedFrame d ∨ ((c = .replyFrameEnd d bytes ∨ c = .brokenFrame d) ∧
      (s.poll.drops[d].line = .idle ∨ s.poll.drops[d].line = .sending)) →
    exec c s = .next { s with poll := { s.poll with drops := updAt s.poll.drops d fun l =>
      { l with ctr := { l.ctr with unsolicited := bump l.ctr.unsolicited } } } })

/-- A good reply with nothing to report, to a station poll of a PHONE, TOLL or WEATHER station that is not OFFLINE, leaves the station ONLINE
with its miss count 0 and due again one effective period after the poll began, four poll periods for WEATHER in CONSERVE. Every other
station and drop stays as it is, and the line has been freed for the arbiter's next choice. A reply fits by its type, the station's kind
and the exchange: NIL to a station poll of any kind but SIGN, HOOK from a PHONE, VOICE from a PHONE in a voice exchange, TXN from TOLL,
READING from WEATHER, CHUNK-OK and CHUNK-AGAIN from SIGN, a hook state being 0 or 1. A good reply of any type to an exchange of the
station in the entry leaves that station ONLINE, with a notice when it was OFFLINE, queued before all that follows (the model's order, log
entry 32), and is handed to its engine before the line is freed: NIL to a poll of a PHONE or WEATHER station to none; a HOOK's hook state
to the call engine; in a voice exchange the outcome to the voice path first (R80), with the samples of a VOICE reply; to the journal first
the outcome (R91), which removes the CARRIED answers and counts them (a miss returns them to READY), and then a TXN; a READING to the
reduction slot of the station's link, which reduces it, forwards it and has its rules evaluated, or counts it as unlinked when the station
does not feed that slot; a chunk's outcome to the sign service. A reply that does not fit is counted as a type mismatch of the drop after
its outcome is reported: a delivery to the journal, a miss to the sign, no samples to the voice path. -/
def Obligations.GoodReplyReachesItsEngine : Prop :=
  (∀ (d : Fin 4) (bytes frame : List Byte) (x : Snapshot) (e : Station) (begun : Nat) (s : State), s.repeater = false →
    s.poll.drops[d].line = .receiving →
    s.poll.drops[d].exch = some { snap := some x, voice := false, begun := begun, frame := frame } → x.drop = d →
    s.poll.stations[x.slot] = e → e.matches x = true → e.state ≠ .offline → e.voiceDue = none → x.kind ≠ .sign →
    Reply.ofFrame? x.address bytes = some .nil →
    ∃ t : State, exec (.replyFrameEnd d bytes) s = .next t ∧
      t.poll.stations = updAt s.poll.stations x.slot (fun e =>
        { e with state := .online, miss := 0, good := bump e.good,
                 due := some (begun + if e.kind = .weather ∧ s.sup.state = .conserve then 4 * e.period else e.period) }) ∧
      (∀ k : Fin 4, k ≠ d → t.poll.drops[k] = s.poll.drops[k]) ∧
      t.poll.drops[d].ctr.good = bump s.poll.drops[d].ctr.good ∧
      (t.poll.drops[d].line = .idle ∨ t.poll.drops[d].line = .sending) ∧
      t = { s with poll := t.poll, calls := t.calls, jrnl := t.jrnl, sign := t.sign }) ∧
  (∀ (r : Reply) (k : StationKind) (voice : Bool), r.fits k voice = true ↔
    (r = .nil ∧ voice = false ∧ k ≠ .sign) ∨ (∃ h : Byte, r = .hook h ∧ k = .phone ∧ (h = 0 ∨ h = 1)) ∨
    (∃ (h : Byte) (l : List Byte), r = .voice h l ∧ k = .phone ∧ voice = true ∧ (h = 0 ∨ h = 1)) ∨
    (∃ (n : BitVec 16) (l : List Byte), r = .txn n l ∧ k = .toll) ∨ (∃ rd : Reading, r = .reading rd ∧ k = .weather) ∨
    ((r = .chunkOk ∨ r = .chunkAgain) ∧ k = .sign)) ∧
  (∀ (slot : Fin 32) (s : State),
    (s.answersOutcome slot true = { s with jrnl := { s.jrnl with
      answers := updAt s.jrnl.answers slot (fun l => l.filter fun e => !e.state.isCarried)
      ctr := { s.jrnl.ctr with
        delivered := bumpBy s.jrnl.ctr.delivered (s.jrnl.answers[slot].filter fun e => e.state.isCarried).length } } }) ∧
    s.answersOutcome slot false = { s with jrnl := { s.jrnl with answers := updAt s.jrnl.answers slot (List.map fun e =>
      { e with state := match e.state with
                        | .carried v => .ready v
                        | .processing => .processing
                        | .ready v => .ready v }) } }) ∧
  (∀ (d : Fin 4) (bytes frame : List Byte) (x : Snapshot) (e : Station) (voice : Bool) (begun : Nat) (r : Reply) (s v u : State),
    s.repeater = false → s.poll.drops[d].line = .receiving →
    s.poll.drops[d].exch = some { snap := some x, voice := voice, begun := begun, frame := frame } → x.drop = d →
    s.poll.stations[x.slot] = e → e.matches x = true → Reply.ofFrame? x.address bytes = some r →
    v = { s with poll := { s.poll with
      stations := updAt s.poll.stations x.slot fun e =>
        { e with state := .online, miss := 0, good := bump e.good,
                 voiceDue := if voice = true then e.voiceDue.map (fun _ => begun + 4) else e.voiceDue,
                 due := if voice = false ∧ e.voiceDue = none then
                     some (begun + if e.kind = .weather ∧ s.sup.state = .conserve then 4 * e.period else e.period)
                   else e.due }
      drops := updAt s.poll.drops d fun l => { l with ctr := { l.ctr with good := bump l.ctr.good } } } } →
    u = (if e.state = .offline then v.notify (.station x.slot d x.address x.kind .online) else v) →
    ∃ w : State, exec (.replyFrameEnd d bytes) s = .next ((w.lineIdle d).endChoose d) ∧
      (x.kind = .phone ∨ x.kind = .weather → voice = false → r = .nil → w = u) ∧
      (∀ h : Byte, x.kind = .phone → voice = false → r = .hook h → (h = 0 ∨ h = 1) → w = u.takeHook x.slot (h == 1)) ∧
      (∀ h : Byte, x.kind = .phone → voice = true → r = .hook h → (h = 0 ∨ h = 1) →
        w = (u.voiceOutcome x.slot none).takeHook x.slot (h == 1)) ∧
      (∀ (h : Byte) (l : List Byte), x.kind = .phone → voice = true → r = .voice h l → (h = 0 ∨ h = 1) →
        w = (u.voiceOutcome x.slot (some l)).takeHook x.slot (h == 1)) ∧
      (∀ (n : BitVec 16) (l : List Byte), x.kind = .toll → voice = false → r = .txn n l →
        w = (u.answersOutcome x.slot true).takeTxn x.slot x.drop x.address n l) ∧
      (x.kind = .toll → voice = false → r = .nil → w = u.answersOutcome x.slot true) ∧
      (∀ (k : Fin 8) (rd : Reading), x.kind = .weather → voice = false → r = .reading rd → slotOf? x.link = some k →
        (s.slots[k].station = some x.slot → w = (({ u with slots := updAt u.slots k fun q => q.process rd s.now } : State).forwardReading
          k d x.address rd (s.slots[k].speedOf rd s.now)).evaluate k) ∧
        (s.slots[k].station ≠ some x.slot → w = { u with slots := updAt u.slots k fun q =>
          { q with ctr := { q.ctr with unlinked := bump q.ctr.unlinked } } })) ∧
      (x.kind = .sign → voice = false → (r = .chunkOk ∨ r = .chunkAgain) → w = u.reportOutcome x (.good r)) ∧
      (∀ y : State, r.fits x.kind voice = false → (voice = true → x.kind = .phone) →
        y = (match x.kind with
          | .toll => u.answersOutcome x.slot true
          | .sign => u.reportOutcome x (.good r)
          | .phone | .weather => if voice = true then u.voiceOutcome x.slot none else u) →
        w = { y with poll := { y.poll with drops := updAt y.poll.drops d fun l =>
          { l with ctr := { l.ctr with mismatch := bump l.ctr.mismatch } } } }))

/-- A broken frame, or the reply timer's expiry, is a miss of the polled station: SILENT at the first and second in a row, OFFLINE
at the third, the miss count stopping at 3. The bad replies or the absent replies of the drop are counted. The state and the miss
count of every other station are unchanged. A WEATHER station's move to OFFLINE leaves its reduction slot STALE: the slot that the
station entry names as it stands then, not the one the exchange began with (the model's choice, log entry 36). -/
def Obligations.MissMovesStationTowardOffline : Prop :=
  ∀ (d : Fin 4) (frame : List Byte) (voice : Bool) (x : Snapshot) (e : Station) (begun dl : Nat) (c : Instr) (s : State),
    s.repeater = false → s.poll.drops[d].exch = some { snap := some x, voice := voice, begun := begun, frame := frame } →
    x.drop = d → s.poll.stations[x.slot] = e → e.matches x = true →
    ((c = .brokenFrame d ∧ s.poll.drops[d].line = .receiving) ∨
      (c = .replyTimerExpiry d ∧ s.poll.drops[d].replyTimer = some dl)) →
    ∃ t : State, exec c s = .next t ∧
      t.poll.stations[x.slot].state = (if e.miss + 1 < 3 then .silent else .offline) ∧
      t.poll.stations[x.slot].miss = min 3 (e.miss + 1) ∧
      (∀ k : Fin 32, k ≠ x.slot → t.poll.stations[k].state = s.poll.stations[k].state ∧
        t.poll.stations[k].miss = s.poll.stations[k].miss) ∧
      (c = .brokenFrame d → t.poll.drops[d].ctr.bad = bump s.poll.drops[d].ctr.bad) ∧
      (c = .replyTimerExpiry d → t.poll.drops[d].ctr.noReply = bump s.poll.drops[d].ctr.noReply) ∧
      (2 ≤ e.miss → e.state ≠ .offline → e.kind = .weather → ∀ k, slotOf? e.link = some k → t.slots[k].fresh = false)

/-- An exchange whose station entry is no longer the one its snapshot records is counted as superseded when it completes, by a reply, a
broken frame or the reply timer. A bad reply or a broken frame is counted too (before the comparison: log entry 34). The line is IDLE and
chooses again, and nothing else has changed: no station, no answer, no call, no sign has had an outcome. The clock of an expiry stands at
the deadline or later (log entry 11). -/
def Obligations.SupersededOutcomeIsDropped : Prop :=
  ∀ (d : Fin 4) (bytes frame : List Byte) (voice : Bool) (x : Snapshot) (begun dl n k : Nat) (c : Instr) (s : State),
    s.repeater = false → s.poll.drops[d].exch = some { snap := some x, voice := voice, begun := begun, frame := frame } →
    x.drop = d → s.poll.stations[x.slot].matches x = false →
    ((c = .replyFrameEnd d bytes ∧ s.poll.drops[d].line = .receiving ∧ n = s.now ∧
        k = if (Reply.ofFrame? x.address bytes).isSome = true then s.poll.drops[d].ctr.bad else bump s.poll.drops[d].ctr.bad) ∨
      (c = .brokenFrame d ∧ s.poll.drops[d].line = .receiving ∧ n = s.now ∧ k = bump s.poll.drops[d].ctr.bad) ∨
      (c = .replyTimerExpiry d ∧ s.poll.drops[d].replyTimer = some dl ∧ n = max s.now dl ∧ k = s.poll.drops[d].ctr.bad)) →
    exec c s = .next (({ s with now := n, poll := { s.poll with drops := updAt s.poll.drops d fun l =>
      { l with line := .idle, exch := none, replyTimer := none,
               ctr := { l.ctr with bad := k, superseded := bump l.ctr.superseded } } } } : State).endChoose d)

/-- A READING from the WEATHER station that feeds a reduction slot leaves the slot FRESH, its derived quantities those of the four stages,
its count and time stamp the previous wind values, and the reading counted; every other slot stays as it is. The reading forms a speed
when its counter has not restarted, the slot has previous wind values of at most 30 s ago and the time stamps differ by 1 to 30000 ms.
With no ACTIVE WX lane the forwarding is counted as skipped, and where AQ does not take the block as refused; else one WX block joins
AQ, to the lowest WX lane and its peer, with the slot, the drop, the address, the reading as received, which of its temperatures and its
zero are valid, which quantities are formed, the seven quantities with 0 for one not formed, and the speed, and is counted (its subtype
and seq are free values, log entry 13). The evaluation moves each enabled rule whose source is the slot and whose quantity is formed,
and no other rule. A rule is then effective when its own state holds and that of its linked rule, if it has a link, holds too. Each rule
whose effective state changed queues a notice with the new effective state, its own state and its value, by rule index (the model's
choice of an order, log entry 47), arbitration is rerun for each sign of such a rule, and no other sign moves. -/
def Obligations.ReadingIsReducedForwardedAndEvaluated : Prop :=
  (∀ (d : Fin 4) (bytes frame : List Byte) (x : Snapshot) (k : Fin 8) (rd : Reading) (begun : Nat) (s : State),
    s.repeater = false → s.poll.drops[d].line = .receiving →
    s.poll.drops[d].exch = some { snap := some x, voice := false, begun := begun, frame := frame } → x.drop = d →
    s.poll.stations[x.slot].matches x = true → x.kind = .weather → slotOf? x.link = some k →
    s.slots[k].station = some x.slot → Reply.ofFrame? x.address bytes = some (.reading rd) →
    ∃ t : State, exec (.replyFrameEnd d bytes) s = .next t ∧ t.slots[k].fresh = true ∧
      t.slots[k].derived = (s.slots[k].process rd s.now).derived ∧
      t.slots[k].prev = some { count := rd.wc, stamp := rd.tm, storedAt := s.now } ∧
      t.slots[k].ctr.readings = bump s.slots[k].ctr.readings ∧ (∀ j : Fin 8, j ≠ k → t.slots[j] = s.slots[j]) ∧
      t.poll.stations[x.slot].state = .online) ∧
  (∀ (r : ReductionSlot) (x : Reading) (now : Nat),
    (x.flags.getLsbD 0 = true ∨ r.prev = none → r.speedOf x now = none) ∧
    (∀ (p : PrevWind) (dt : Nat), x.flags.getLsbD 0 = false → r.prev = some p → dt = (x.tm + 65536 - p.stamp) % 65536 →
      (p.storedAt + 30000 < now ∨ dt = 0 ∨ 30000 < dt → r.speedOf x now = none) ∧
      (now ≤ p.storedAt + 30000 → 1 ≤ dt → dt ≤ 30000 →
        r.speedOf x now = some (min (((x.wc + 65536 - p.count) % 65536) * r.kw * 10 / dt) 999)))) ∧
  (∀ (k : Fin 8) (drop : Fin 4) (address : BitVec 5) (rd : Reading) (speed : Option Nat) (D : Derived) (s : State),
    s.slots[k].derived = D →
    (s.laneFor .wx = none → s.forwardReading k drop address rd speed = { s with slots := updAt s.slots k fun r =>
      { r with ctr := { r.ctr with forwardSkipped := bump r.ctr.forwardSkipped } } }) ∧
    (∀ lane : Fin 64, s.laneFor .wx = some lane →
      (s.takes .aq = false → s.forwardReading k drop address rd speed = { s with slots := updAt s.slots k fun r =>
        { r with ctr := { r.ctr with forwardRefused := bump r.ctr.forwardRefused } } }) ∧
      (s.takes .aq = true → ∀ v f : Byte,
        (v.toNat = (if -4000 ≤ rd.ts ∧ rd.ts ≤ 8000 then 1 else 0) + (if -4000 ≤ rd.ta ∧ rd.ta ≤ 8000 then 2 else 0) +
          (if -500 ≤ rd.z ∧ rd.z ≤ 500 then 4 else 0)) →
        (f.toNat = (if D.surface.isSome = true then 1 else 0) + (if D.air.isSome = true then 2 else 0) +
          (if D.humidity.isSome = true then 4 else 0) + (if D.visibility.isSome = true then 8 else 0) +
          (if D.light.isSome = true then 16 else 0) + (if D.windMean.isSome = true then 32 else 0) +
          (if D.windGust.isSome = true then 64 else 0)) →
        s.forwardReading k drop address rd speed = { s with
          slots := updAt s.slots k fun r => { r with ctr := { r.ctr with forwarded := bump r.ctr.forwarded } }
          ring := { s.ring with aq := s.ring.aq ++ [s.completed (localBlock .wx (Config.plainSubtype 6) lane s.lanes[lane].peer
            (Config.plainSeq 6) ([byte k.val, byte drop.val, 0#3 ++ address] ++ rd.raw ++ [v, f] ++
              ([D.surface, D.air, D.humidity, D.visibility, D.light, D.windMean, D.windGust].flatMap fun o =>
                be16 (BitVec.ofInt 16 (o.getD 0))) ++
              be16 (match speed with | none => 65535 | some n => BitVec.ofNat 16 n)))] } }))) ∧
  (∀ (k : Fin 8) (V : Fin 32 → Option Int) (m : Fin 32 → Rule) (E : Fin 32 → Bool) (s t u w : State),
    (∀ (i : Fin 32) (D : Derived), s.slots[s.rules[i].source].derived = D → V i = match s.rules[i].quantity with
      | .surface => D.surface | .air => D.air | .humidity => D.humidity | .visibility => D.visibility
      | .light => D.light | .windMean => D.windMean | .windGust => D.windGust) →
    (∀ i : Fin 32, m i = if s.rules[i].enabled = true ∧ s.rules[i].source = k then
      (match V i with
        | none => s.rules[i]
        | some v => s.rules[i].move v) else s.rules[i]) →
    (∀ i : Fin 32, E i = true ↔ ((m i).state = .active ∨ (m i).state = .pendingClear) ∧
      ∀ j : Fin 32, s.rules[i].link = some j → ((m j).state = .active ∨ (m j).state = .pendingClear)) →
    u = { s with rules := Vector.ofFn fun i => { m i with effective := E i } } →
    w = ((List.finRange 32).filter fun i => E i != s.rules[i].effective).foldl
      (fun y i => y.notify (.rule i (E i) (m i).state (V i))) u →
    t = s.evaluate k →
    t.rules = u.rules ∧ t.agent = w.agent ∧ t.ring = w.ring ∧
    (∀ j : Fin 12, (∀ i : Fin 32, s.rules[i].signs.getLsbD j.val = true → E i = s.rules[i].effective) →
      t.sign.signs[j] = s.sign.signs[j]) ∧
    (∀ (j : Fin 12) (i : Fin 32), s.rules[i].signs.getLsbD j.val = true → E i ≠ s.rules[i].effective →
      t.sign.signs[j] = s.sign.signs[j].setNext (t.arbitrated j)) ∧
    t = { s with rules := t.rules, sign := { s.sign with signs := t.sign.signs }, agent := t.agent, ring := t.ring })

/-- What the four stages make of a reading. A temperature in -4000 to 8000 is offset by a z in -500 to 500 where offset cancellation is on,
saturated at the ends of its range, and joins its window of N; one out of range is counted and leaves window and average. Humidity and
visibility join at 1000 and 20000 at most, light where the slot uses it. A full window loses its oldest value first, and its average is the
floor of the mean, formed when the window holds N. The wind: a restarted counter, no previous values, or a gap leave its windows; else the
speed, 999 at most, joins the wind window of N and the gust window of 8, whose largest is the gust. The reading's count and time stamp
become the previous values, and the slot is FRESH. -/
def Obligations.ReductionStagesFormValues : Prop :=
  ∀ (r q : ReductionSlot) (x : Reading) (now : Nat), 1 ≤ r.depth → q = r.process x now →
    (∀ v : Int, r.surface.length ≤ r.depth → -4000 ≤ x.ts → x.ts ≤ 8000 →
      v = (if r.offset = true ∧ -500 ≤ x.z ∧ x.z ≤ 500 then max (-4000) (min 8000 (x.ts - x.z)) else x.ts) →
      q.surface = (if r.surface.length = r.depth then r.surface.drop 1 else r.surface) ++ [v] ∧
      q.derived.surface = if q.surface.length = r.depth then some (q.surface.sum.fdiv r.depth) else none) ∧
    (x.ts < -4000 ∨ 8000 < x.ts → q.surface = r.surface ∧ q.derived.surface = r.derived.surface ∧
      q.ctr.invalidTs = bump r.ctr.invalidTs) ∧
    (∀ v : Int, r.air.length ≤ r.depth → -4000 ≤ x.ta → x.ta ≤ 8000 →
      v = (if r.offset = true ∧ -500 ≤ x.z ∧ x.z ≤ 500 then max (-4000) (min 8000 (x.ta - x.z)) else x.ta) →
      q.air = (if r.air.length = r.depth then r.air.drop 1 else r.air) ++ [v] ∧
      q.derived.air = if q.air.length = r.depth then some (q.air.sum.fdiv r.depth) else none) ∧
    (x.ta < -4000 ∨ 8000 < x.ta → q.air = r.air ∧ q.derived.air = r.derived.air ∧ q.ctr.invalidTa = bump r.ctr.invalidTa) ∧
    (r.humidity.length ≤ r.depth →
      q.humidity = (if r.humidity.length = r.depth then r.humidity.drop 1 else r.humidity) ++ [Int.ofNat (min x.rh 1000)] ∧
      q.derived.humidity = if q.humidity.length = r.depth then some (q.humidity.sum.fdiv r.depth) else none) ∧
    (r.visibility.length ≤ r.depth →
      q.visibility = (if r.visibility.length = r.depth then r.visibility.drop 1 else r.visibility) ++ [Int.ofNat (min x.vis 20000)] ∧
      q.derived.visibility = if q.visibility.length = r.depth then some (q.visibility.sum.fdiv r.depth) else none) ∧
    (r.useLight = true → r.light.length ≤ r.depth →
      q.light = (if r.light.length = r.depth then r.light.drop 1 else r.light) ++ [Int.ofNat x.lux] ∧
      q.derived.light = if q.light.length = r.depth then some (q.light.sum.fdiv r.depth) else none) ∧
    (r.useLight = false → q.light = r.light ∧ q.derived.light = r.derived.light) ∧
    q.ctr.clamp = bumpBy r.ctr.clamp ((if 1000 < x.rh then 1 else 0) + if 20000 < x.vis then 1 else 0) ∧
    (x.flags.getLsbD 0 = true → q.wind = r.wind ∧ q.gust = r.gust ∧ q.derived.windMean = r.derived.windMean ∧
      q.derived.windGust = r.derived.windGust ∧ q.ctr.windRestart = bump r.ctr.windRestart) ∧
    (x.flags.getLsbD 0 = false → r.prev = none → q.wind = r.wind ∧ q.gust = r.gust ∧ q.derived.windMean = r.derived.windMean ∧
      q.derived.windGust = r.derived.windGust ∧ q.ctr.windGap = r.ctr.windGap) ∧
    (∀ (p : PrevWind) (dt v : Nat), x.flags.getLsbD 0 = false → r.prev = some p → dt = (x.tm + 65536 - p.stamp) % 65536 →
      v = ((x.wc + 65536 - p.count) % 65536) * r.kw * 10 / dt →
      (p.storedAt + 30000 < now ∨ dt = 0 ∨ 30000 < dt → q.wind = r.wind ∧ q.gust = r.gust ∧
        q.derived.windMean = r.derived.windMean ∧ q.derived.windGust = r.derived.windGust ∧
        q.ctr.windGap = bump r.ctr.windGap) ∧
      (now ≤ p.storedAt + 30000 → 1 ≤ dt → dt ≤ 30000 → r.wind.length ≤ r.depth → r.gust.length ≤ 8 →
        q.wind = (if r.wind.length = r.depth then r.wind.drop 1 else r.wind) ++ [Int.ofNat (min v 999)] ∧
        q.gust = (if r.gust.length = 8 then r.gust.drop 1 else r.gust) ++ [Int.ofNat (min v 999)] ∧
        q.derived.windMean = (if q.wind.length = r.depth then some (q.wind.sum.fdiv r.depth) else none) ∧
        (∃ m ∈ q.gust, q.derived.windGust = some m ∧ ∀ y ∈ q.gust, y ≤ m) ∧
        q.ctr.windClamp = if 999 < v then bump r.ctr.windClamp else r.ctr.windClamp)) ∧
    q.prev = some { count := x.wc, stamp := x.tm, storedAt := now } ∧ q.fresh = true ∧ q.ctr.readings = bump r.ctr.readings ∧
    q.depth = r.depth ∧ q.offset = r.offset ∧ q.kw = r.kw ∧ q.useLight = r.useLight ∧ q.station = r.station

/-! ### Emergency calls and the voice path (chapters 4 and 5) -/

/-- The signalling timers. The 2 s timer of a CALLING record: below 15 sends it counts one more, starts again and sends REQUEST; at 15 the
record is ISOLATED with prior state CALLING and a 30 s timer, and nothing is sent. The 30 s timer of an ISOLATED record counts one more
send, up to 255, starts again and sends: REQUEST for a prior state of CALLING, RESUME for any other; while the ring is ISOLATED the send is
counted as lost and nothing joins EQ. The 2 s timer of a record CLEARING: below 4 sends it counts one more, starts again and sends CLEAR with
its reason; after the fourth the record becomes FREE and its lane's binding is removed, and nothing else follows where no phone waits and no
record is SEIZED. Each block joins EQ on the CALL lane where EQ takes it, with the count of sends as its seq. Every other record stays. The
clock stands at the deadline or later (log entry 11). -/
def Obligations.SignalTimersSendOrEnd : Prop :=
  (∀ (r : Fin 16) (dl : Nat) (x : CallRecord) (s : State), s.repeater = false → s.calls.records[r] = x → x.state = .calling →
    x.timer = some dl →
    ∃ t : State, exec (.callingTimerExpiry r) s = .next t ∧ t.now = max s.now dl ∧
      (x.attempts < 15 → t.calls.records[r] = { x with attempts := x.attempts + 1, timer := some (t.now + 2000) } ∧
        (∀ lane : Fin 64, s.laneFor .call = some lane → s.takes .eq = true → t.ring = { s.ring with eq := s.ring.eq ++
          [s.completed (localBlock .call subRequest lane s.lanes[lane].peer (byte (x.attempts + 1))
            (x.idBytes ++ s.placeBytes r ++ s.locationBytes r))] })) ∧
      (15 ≤ x.attempts → t.calls.records[r] =
        { x with state := .isolated, prior := some .calling, attempts := 0, timer := some (t.now + 30000) } ∧ t.ring = s.ring) ∧
      (∀ q : Fin 16, q ≠ r → t.calls.records[q] = s.calls.records[q]) ∧
      t = { s with now := t.now, calls := t.calls, ring := t.ring }) ∧
  (∀ (r : Fin 16) (dl : Nat) (x : CallRecord) (s : State), s.repeater = false → s.calls.records[r] = x → x.state = .isolated →
    x.timer = some dl →
    ∃ t : State, exec (.isolatedTimerExpiry r) s = .next t ∧ t.now = max s.now dl ∧
      t.calls.records = updAt s.calls.records r (fun _ =>
        { x with attempts := min 255 (x.attempts + 1), timer := some (t.now + 30000) }) ∧
      (s.prot.ring = .isolated → t.ring = s.ring ∧
        t.calls.ctr = { s.calls.ctr with signallingLost := bump s.calls.ctr.signallingLost }) ∧
      (∀ lane : Fin 64, s.laneFor .call = some lane → s.takes .eq = true → t.ring = { s.ring with eq := s.ring.eq ++
        [s.completed (localBlock .call (if x.prior = some .calling then subRequest else subResume) lane s.lanes[lane].peer
          (byte (min 255 (x.attempts + 1)))
          (x.idBytes ++ s.placeBytes r ++ if x.prior = some .calling then s.locationBytes r else []))] }) ∧
      t = { s with now := t.now, calls := t.calls, ring := t.ring }) ∧
  (∀ (r : Fin 16) (dl : Nat) (x : CallRecord) (s : State), s.repeater = false → s.calls.records[r] = x → x.state = .clearing →
    x.timer = some dl →
    ∃ t : State, exec (.clearingTimerExpiry r) s = .next t ∧ t.now = max s.now dl ∧
      (x.attempts < 4 → t.calls.records[r] = { x with attempts := x.attempts + 1, timer := some (t.now + 2000) } ∧
        (∀ q : Fin 16, q ≠ r → t.calls.records[q] = s.calls.records[q]) ∧
        (∀ (lane : Fin 64) (why : ClearReason), s.laneFor .call = some lane → s.takes .eq = true → x.reason = some why →
          t.ring = { s.ring with eq := s.ring.eq ++ [s.completed (localBlock .call subClear lane s.lanes[lane].peer
            (byte (x.attempts + 1)) (x.idBytes ++ [why.code]))] }) ∧
        t = { s with now := t.now, calls := t.calls, ring := t.ring }) ∧
      (4 ≤ x.attempts → s.calls.waitList = [] → (∀ q : Fin 16, s.calls.records[q].state ≠ .seized) →
        t.calls = { s.calls with records := updAt s.calls.records r fun _ => CallRecord.free } ∧
        (∀ lane : Fin 64, x.lane = some lane → t.lanes = updAt s.lanes lane fun e => { e with binding := none }) ∧
        t = { s with now := t.now, calls := t.calls, lanes := t.lanes }))

/-- An off-hook. From a phone in a record or on the wait list it changes nothing. With no FREE record, or no free seat on the drop, the phone
joins the wait list at its tail; a full list counts it. Else the lowest FREE record is SEIZED for it: its station polls stop and its voice
exchange is due at once. With no path the record stays so; with one, and no other record SEIZED, it is CALLING on the lowest free VOICE
lane, which it binds, with a call id no record in use holds, one send counted, a 2 s timer and its REQUEST in EQ. A refill passes over the
phones whose drop has no free seat, who keep their places in front, and fills the lowest FREE record for the first whose drop has one;
those behind it that stay keep their order. It changes nothing where no place is free. An on-hook and a PHONE's move to OFFLINE act on the
phone's standing, with reason ON-HOOK and LINE-LOST. A phone on the wait list leaves it, the others in their order; in no record and not
listed nothing changes. A CALLING, QUEUED, CONNECTED or ISOLATED record becomes CLEARING with that reason, its seat released, one send
counted and a 2 s timer, and its CLEAR joins EQ on the CALL lane or is counted as lost. A SEIZED record, or one CLEARING with reason
CENTRE, becomes FREE with its lane unbound, here with no phone waiting and no other record SEIZED. A record CLEARING for another reason
stays. -/
def Obligations.HookAndLossMoveCalls : Prop :=
  (∀ (s : State) (r : Fin 16), s.calls.records[r].state ≠ .free →
    s.calls.records[r].callId ≠ some { node := s.nodeByte, counter := s.freshCounter }) ∧
  (∀ (slot : Fin 32) (s : State), ((s.recordOf slot).isSome = true ∨ s.onWaitList slot = true) → s.takeHook slot true = s) ∧
  (∀ (slot : Fin 32) (s : State), s.recordOf slot = none → s.onWaitList slot = false →
    (s.freeRecord = none ∨ s.seatFree s.poll.stations[slot].drop = false) →
    (s.calls.waitList.length < 32 → (s.takeHook slot true).calls =
        { s.calls with waitList := s.calls.waitList ++ [{ slot := slot, since := s.now }] } ∧
      (s.calls.waitList ≠ [] → s.takeHook slot true =
        { s with calls := { s.calls with waitList := s.calls.waitList ++ [{ slot := slot, since := s.now }] } })) ∧
    (32 ≤ s.calls.waitList.length → s.takeHook slot true = { s with calls := { s.calls with
      ctr := { s.calls.ctr with waitListFull := bump s.calls.ctr.waitListFull } } })) ∧
  (∀ (slot : Fin 32) (r : Fin 16) (s t : State), s.recordOf slot = none → s.onWaitList slot = false → s.freeRecord = some r →
    s.calls.records[r] = CallRecord.free → s.seatFree s.poll.stations[slot].drop = true → t = s.takeHook slot true →
    t.poll.stations = updAt s.poll.stations slot (fun e => { e with voiceDue := some s.now, due := none, come := some s.now }) ∧
    t.calls.waitList = s.calls.waitList ∧
    (s.pathAvailable = false → t.calls.records[r] =
        { CallRecord.free with state := .seized, phone := some slot, seized := some s.now } ∧
      t.lanes = s.lanes ∧ t.ring = s.ring ∧ t.calls.counter = s.calls.counter) ∧
    (∀ (v lane : Fin 64), (∀ q : Fin 16, s.calls.records[q].state ≠ .seized) → s.prot.ring ≠ .isolated →
      s.freeVoiceLane = some v → s.laneFor .call = some lane →
      t.calls.records[r] = { CallRecord.free with
        state := .calling, phone := some slot, seized := some s.now, lane := some v, attempts := 1
        callId := some { node := s.nodeByte, counter := s.freshCounter }, timer := some (s.now + 2000) } ∧
      t.lanes = updAt s.lanes v (fun e => { e with binding := some r }) ∧
      t.calls.counter = (if s.freshCounter = 255 then 1 else s.freshCounter + 1) ∧
      (s.takes .eq = true → t.ring = { s.ring with eq := s.ring.eq ++
        [s.completed (localBlock .call subRequest lane s.lanes[lane].peer 1 ([s.nodeByte, s.freshCounter,
          byte s.poll.stations[slot].drop.val, 0#3 ++ s.poll.stations[slot].address, byte v.val] ++
          be16 s.poll.stations[slot].location))] }))) ∧
  (∀ s : State, (s.freeRecord = none ∨ ∀ w ∈ s.calls.waitList, s.seatFree s.poll.stations[w.slot].drop = false) → s.refill = s) ∧
  (∀ (w : Waiting) (pre post : List Waiting) (r : Fin 16) (s : State), s.calls.waitList = pre ++ w :: post →
    s.freeRecord = some r → (∀ y ∈ pre, s.seatFree s.poll.stations[y.slot].drop = false) →
    s.seatFree s.poll.stations[w.slot].drop = true →
    s.refillWalk.calls.records[r].state = .seized ∧ s.refillWalk.calls.records[r].phone = some w.slot ∧
    s.refillWalk.calls.records[r].seized = some s.now ∧
    ∃ left : List Waiting, s.refillWalk.calls.waitList = pre ++ left ∧ left.Sublist post ∧ ∀ y ∈ left, y.slot ≠ w.slot) ∧
  (∀ (slot : Fin 32) (s : State), s.takeHook slot false = s.phoneGone slot .onHook) ∧
  (∀ (x : Snapshot) (before : StationState) (s : State), before ≠ .offline → s.poll.stations[x.slot].state = .offline →
    s.poll.stations[x.slot].kind = .phone → s.reportOffline x before = s.phoneGone x.slot .lineLost) ∧
  (∀ (slot : Fin 32) (why : ClearReason) (s : State), s.recordOf slot = none →
    (s.onWaitList slot = false → s.phoneGone slot why = s) ∧
    ((s.phoneGone slot why).calls = { s.calls with waitList := s.calls.waitList.filter fun w => w.slot != slot }) ∧
    ((∃ w ∈ s.calls.waitList, w.slot ≠ slot) → s.phoneGone slot why =
      { s with calls := { s.calls with waitList := s.calls.waitList.filter fun w => w.slot != slot } })) ∧
  (∀ (slot : Fin 32) (r : Fin 16) (x : CallRecord) (why : ClearReason) (s : State), s.recordOf slot = some r →
    s.calls.records[r] = x → (why = .onHook ∨ why = .lineLost) →
    (x.state = .clearing → x.reason ≠ some .centre → s.phoneGone slot why = s) ∧
    ((x.state = .calling ∨ x.state = .queued ∨ x.state = .connected ∨ x.state = .isolated) → s.calls.waitList = [] →
      ∀ (lane : Fin 64), s.laneFor .call = some lane → ∀ u : State, u = { s with
        poll := { s.poll with stations := updAt s.poll.stations slot fun e => { e with voiceDue := none, due := some s.now, come := some s.now } }
        calls := { s.calls with
          records := updAt s.calls.records r fun x =>
            { x with state := .clearing, reason := some why, attempts := 1, timer := some (s.now + 2000) }
          ctr := if why = .onHook then { s.calls.ctr with clearOnHook := bump s.calls.ctr.clearOnHook }
                 else { s.calls.ctr with clearLineLost := bump s.calls.ctr.clearLineLost } } } →
        (s.takes .eq = true → s.phoneGone slot why = { u with ring := { s.ring with eq := s.ring.eq ++
          [s.completed (localBlock .call 4 lane s.lanes[lane].peer 1
            (x.idBytes ++ [if why = .onHook then 1 else 2]))] } }) ∧
        (s.takes .eq = false → s.phoneGone slot why = { u with calls := { u.calls with
          ctr := { u.calls.ctr with signallingLost := bump u.calls.ctr.signallingLost } } })) ∧
    ((x.state = .seized ∨ (x.state = .clearing ∧ x.reason = some .centre)) → s.calls.waitList = [] →
      (∀ q : Fin 16, q ≠ r → s.calls.records[q].state ≠ .seized) → ∃ t : State, s.phoneGone slot why = t ∧
        t.calls = { s.calls with records := updAt s.calls.records r fun _ => CallRecord.free } ∧
        (∀ lane : Fin 64, x.lane = some lane → t.lanes = updAt s.lanes lane fun e => { e with binding := none }) ∧
        (x.lane = none → t.lanes = s.lanes) ∧
        (x.state = .seized → t.poll.stations =
          updAt s.poll.stations slot fun e => { e with voiceDue := none, due := some s.now, come := some s.now }) ∧
        (x.state = .clearing → t.poll = s.poll) ∧
        t = { s with calls := t.calls, lanes := t.lanes, poll := { s.poll with stations := t.poll.stations } }))

/-- A CALL block from the phone centre, by the record that holds its call id. HELD makes a CALLING, CONNECTED or ISOLATED record QUEUED and
leaves a QUEUED one; ANSWER makes a CALLING, QUEUED or ISOLATED one CONNECTED with its voice fields as at an entry, and leaves a CONNECTED
one; CLEAR makes any of the four CLEARING with reason CENTRE, releases its seat and answers CLEARED with the block's seq, here with no
phone waiting. A CLEAR that meets a record already CLEARING is answered CLEARED too: with reason CENTRE the record stays as it is, and
with reason ON-HOOK or LINE-LOST it becomes FREE, its lane unbound, here with no phone waiting and no record SEIZED. CLEARED ends a record
clearing for a reason of the node's own, here with no phone waiting and no record SEIZED. To a CLEARING record HELD and ANSWER, and to any
other a CLEARED, are late. With no record of the call id HELD and ANSWER are answered CLEAR with reason LINE-LOST and CLEAR is answered
CLEARED, each counted as unknown, and so is CLEARED, a REQUEST, a RESUME and any other length or subtype. -/
def Obligations.CentreBlocksMoveRecord : Prop :=
  (∀ (b : Block) (n c : Byte) (r : Fin 16) (x : CallRecord) (s : State), s.recordWithId { node := n, counter := c } = some r →
    s.calls.records[r] = x →
    (b.subtype = 2 → b.body = [n, c] →
      (x.state = .calling ∨ x.state = .connected ∨ x.state = .isolated → s.takeCallBlock b = { s with calls := { s.calls with
        records := updAt s.calls.records r fun x => { x with state := .queued, attempts := 0, timer := none, prior := none } } }) ∧
      (x.state = .queued → s.takeCallBlock b = s)) ∧
    (b.subtype = 3 → b.body = [n, c] →
      (x.state = .calling ∨ x.state = .queued ∨ x.state = .isolated → s.takeCallBlock b = { s with calls := { s.calls with
        records := updAt s.calls.records r fun x =>
          { x with state := .connected, attempts := 0, timer := none, prior := none
                   voice := { x.voice with queue := [], next := none, play := .prefill, rep := false, last := none } }
        ctr := { s.calls.ctr with answered := bump s.calls.ctr.answered } } }) ∧
      (x.state = .connected → s.takeCallBlock b = s)) ∧
    (((b.subtype = 2 ∨ b.subtype = 3) ∧ x.state = .clearing ∨ b.subtype = 5 ∧ x.clearingLocal = false) → b.body = [n, c] →
      s.takeCallBlock b = { s with calls := { s.calls with
        ctr := { s.calls.ctr with lateSignal := bump s.calls.ctr.lateSignal } } }) ∧
    (∀ (why : Byte) (slot : Fin 32) (lane : Fin 64), b.subtype = 4 → b.body = [n, c, why] → s.calls.waitList = [] →
      (x.state = .calling ∨ x.state = .queued ∨ x.state = .connected ∨ x.state = .isolated) → x.phone = some slot →
      s.laneFor .call = some lane → s.takes .eq = true → s.takeCallBlock b = { s with
        poll := { s.poll with stations := updAt s.poll.stations slot fun e => { e with voiceDue := none, due := some s.now, come := some s.now } }
        calls := { s.calls with
          records := updAt s.calls.records r fun x =>
            { x with state := .clearing, reason := some .centre, attempts := 0, timer := none }
          ctr := { s.calls.ctr with clearCentre := bump s.calls.ctr.clearCentre } }
        ring := { s.ring with eq := s.ring.eq ++
          [s.completed (localBlock .call 5 lane s.lanes[lane].peer b.seq [n, c])] } }) ∧
    (∀ (why : Byte) (lane : Fin 64) (u : State), b.subtype = 4 → b.body = [n, c, why] → x.state = .clearing →
      s.laneFor .call = some lane → s.takes .eq = true → u = { s with ring := { s.ring with eq := s.ring.eq ++
        [s.completed (localBlock .call 5 lane s.lanes[lane].peer b.seq [n, c])] } } →
      (x.reason = some .centre → s.takeCallBlock b = u) ∧
      (x.reason = some .onHook ∨ x.reason = some .lineLost → s.calls.waitList = [] →
        (∀ q : Fin 16, s.calls.records[q].state ≠ .seized) → ∃ t : State, s.takeCallBlock b = t ∧
          t.calls = { s.calls with records := updAt s.calls.records r fun _ => CallRecord.free } ∧
          (∀ k : Fin 64, x.lane = some k → t.lanes = updAt s.lanes k fun e => { e with binding := none }) ∧
          t = { u with calls := t.calls, lanes := t.lanes })) ∧
    (b.subtype = 5 → b.body = [n, c] → x.clearingLocal = true → s.calls.waitList = [] →
      (∀ q : Fin 16, s.calls.records[q].state ≠ .seized) → ∃ t : State, s.takeCallBlock b = t ∧
        t.calls = { s.calls with records := updAt s.calls.records r fun _ => CallRecord.free } ∧
        (∀ lane : Fin 64, x.lane = some lane → t.lanes = updAt s.lanes lane fun e => { e with binding := none }) ∧
        t = { s with calls := t.calls, lanes := t.lanes })) ∧
  (∀ (b : Block) (n c why : Byte) (lane : Fin 64) (s : State), s.recordWithId { node := n, counter := c } = none →
    s.laneFor .call = some lane → s.takes .eq = true →
    ((b.subtype = 2 ∨ b.subtype = 3) → b.body = [n, c] → s.takeCallBlock b = { s with
      ring := { s.ring with eq := s.ring.eq ++ [s.completed (localBlock .call 4 lane s.lanes[lane].peer b.seq [n, c, 2])] }
      calls := { s.calls with ctr := { s.calls.ctr with unknownId := bump s.calls.ctr.unknownId } } }) ∧
    (b.subtype = 4 → b.body = [n, c, why] → s.takeCallBlock b = { s with
      ring := { s.ring with eq := s.ring.eq ++ [s.completed (localBlock .call 5 lane s.lanes[lane].peer b.seq [n, c])] }
      calls := { s.calls with ctr := { s.calls.ctr with unknownId := bump s.calls.ctr.unknownId } } })) ∧
  (∀ (b : Block) (s : State), ((b.subtype ≠ 2 ∧ b.subtype ≠ 3 ∧ b.subtype ≠ 4 ∧ b.subtype ≠ 5) ∨
      (b.subtype = 4 ∧ b.body.length ≠ 3) ∨ (b.subtype ≠ 4 ∧ b.body.length ≠ 2) ∨
      (b.subtype = 5 ∧ s.recordWithId { node := byteAt b.body 0, counter := byteAt b.body 1 } = none)) →
    s.takeCallBlock b = { s with calls := { s.calls with
      ctr := { s.calls.ctr with unknownId := bump s.calls.ctr.unknownId } } })

/-- The voice path. A VOICE block of 32 samples 8 to 127 ahead of next, on a CONNECTED record (R85): the queue holds it alone, next is its
seq, PREFILL, silence until a second frame is queued, and then play from it. A voice counter counts for its record and in the node total.
Capture (R80 to R82): a completion of no seated record is counted; one of a seated record advances its capture seq by 1, and in CONNECTED
a VOICE reply's samples join EQ as a block of the record's lane with the capture seq of before, or are counted as refused, and any other
outcome is counted as a gap (the block's subtype is a free value, log entry 13). Placing (R83, R84, R86): another length and a record not
CONNECTED are counted; with next absent the block is queued and becomes next; 0 to 7 from next it takes its place in sequence order, or is
a duplicate, and with it two frames start the play at the nearer to next; 128 to 255 from next it is late. Play (R79, R87): the frame at
next is given and becomes the last; a missing one repeats the last frame, the second in a row gives silence and UNDERRUN; next advances by
1 in each case; in any other state silence is given and nothing changes, in UNDERRUN with two frames queued too (the model's choice, log
entry 15). -/
def Obligations.VoiceIsCapturedPlacedAndPlayed : Prop :=
  (∀ (r : Fin 16) (b : Block) (n : Byte) (s : State), s.calls.records[r].state = .connected →
    s.calls.records[r].voice.next = some n → b.body.length = 32 → 8 ≤ ((b.seq - n : Byte)).toNat → ((b.seq - n : Byte)).toNat ≤ 127 →
    s.takeVoice r b = { s with calls := { s.calls with
      records := updAt s.calls.records r fun x => { x with voice := { x.voice with
        queue := [{ seq := b.seq, samples := b.body }]
        next := some b.seq
        play := .prefill
        rep := false
        ctr := { x.voice.ctr with
          resync := bump x.voice.ctr.resync
          flushed := bumpBy x.voice.ctr.flushed x.voice.queue.length } } }
      totals := { s.calls.totals with
        resync := bump s.calls.totals.resync
        flushed := bumpBy s.calls.totals.flushed s.calls.records[r].voice.queue.length } } } ∧
    (s.takeVoice r b).playStep r = (List.replicate 32 128, s.takeVoice r b) ∧
    ∀ b2 : Block, b2.body.length = 32 → 1 ≤ (b2.seq - b.seq : Byte).toNat → (b2.seq - b.seq : Byte).toNat ≤ 7 →
      (((s.takeVoice r b).takeVoice r b2).calls.records[r].voice.play = .playing ∧
        ((s.takeVoice r b).takeVoice r b2).calls.records[r].voice.next = some b.seq)) ∧
  (∀ (r : Fin 16) (f : VoiceCounters → VoiceCounters) (s : State), s.countVoice r f = { s with calls := { s.calls with
    records := updAt s.calls.records r fun x => { x with voice := { x.voice with ctr := f x.voice.ctr } }
    totals := f s.calls.totals } }) ∧
  (∀ (slot : Fin 32) (o : Option (List Byte)) (s : State),
    (s.seatedRecordOf slot = none → s.voiceOutcome slot o =
      { s with calls := { s.calls with unseated := bump s.calls.unseated } }) ∧
    (∀ (r : Fin 16) (u : State), s.seatedRecordOf slot = some r → u = { s with calls := { s.calls with
        records := updAt s.calls.records r fun x => { x with voice := { x.voice with capture := x.voice.capture + 1 } } } } →
      (s.calls.records[r].state ≠ .connected → s.voiceOutcome slot o = u) ∧
      (s.calls.records[r].state = .connected → o = none → s.voiceOutcome slot o =
        u.countVoice r fun c => { c with gap := bump c.gap }) ∧
      (∀ (samples : List Byte) (lane : Fin 64), s.calls.records[r].state = .connected → o = some samples →
        s.calls.records[r].lane = some lane →
        (s.takes .eq = true → s.voiceOutcome slot o = { u.countVoice r (fun c => { c with captured := bump c.captured }) with
          ring := { s.ring with eq := s.ring.eq ++ [s.completed (localBlock .voice (Config.plainSubtype 2) lane
            s.lanes[lane].peer s.calls.records[r].voice.capture samples)] } }) ∧
        (s.takes .eq = false → s.voiceOutcome slot o = u.countVoice r fun c => { c with refused := bump c.refused })))) ∧
  (∀ (r : Fin 16) (b : Block) (x : CallRecord) (s : State), s.calls.records[r] = x →
    (b.body.length ≠ 32 → s.takeVoice r b = s.countVoice r fun c => { c with malformed := bump c.malformed }) ∧
    (b.body.length = 32 → x.state ≠ .connected →
      s.takeVoice r b = s.countVoice r fun c => { c with notConnected := bump c.notConnected }) ∧
    (b.body.length = 32 → x.state = .connected →
      (x.voice.next = none → x.voice.queue = [] → s.takeVoice r b =
        ({ s with calls := { s.calls with records := updAt s.calls.records r fun x => { x with voice :=
          { x.voice with next := some b.seq, queue := [{ seq := b.seq, samples := b.body }] } } } } : State).countVoice r
            fun c => { c with received := bump c.received }) ∧
      ∀ (n : Byte), x.voice.next = some n →
        (128 ≤ (b.seq - n : Byte).toNat → s.takeVoice r b = s.countVoice r fun c => { c with late := bump c.late }) ∧
        ((b.seq - n : Byte).toNat ≤ 7 → (∃ f ∈ x.voice.queue, f.seq = b.seq) →
          s.takeVoice r b = s.countVoice r fun c => { c with duplicate := bump c.duplicate }) ∧
        (∀ (pre post : List VoiceFrame), (b.seq - n : Byte).toNat ≤ 7 → x.voice.queue = pre ++ post →
          (∀ f ∈ pre, (f.seq - n : Byte).toNat < (b.seq - n : Byte).toNat) →
          (∀ f ∈ post, (b.seq - n : Byte).toNat < (f.seq - n : Byte).toNat) →
          (x.voice.play = .playing ∨ x.voice.queue = [] → s.takeVoice r b =
            ({ s with calls := { s.calls with records := updAt s.calls.records r fun x => { x with voice :=
              { x.voice with queue := pre ++ { seq := b.seq, samples := b.body } :: post } } } } : State).countVoice r
                fun c => { c with received := bump c.received }) ∧
          (∀ f : VoiceFrame, x.voice.play ≠ .playing → x.voice.queue = [f] → s.takeVoice r b =
            ({ s with calls := { s.calls with records := updAt s.calls.records r fun x => { x with voice :=
              { x.voice with
                queue := pre ++ { seq := b.seq, samples := b.body } :: post
                play := .playing, rep := false
                next := some (if (f.seq - n : Byte).toNat < (b.seq - n : Byte).toNat then f.seq else b.seq) } } } } : State).countVoice r
                  fun c => { c with received := bump c.received })))) ∧
  (∀ (r : Fin 16) (x : CallRecord) (s : State), s.calls.records[r] = x →
    ((x.state ≠ .connected ∨ x.voice.play ≠ .playing) → s.playStep r = (List.replicate 32 128, s)) ∧
    (∀ n : Byte, x.state = .connected → x.voice.play = .playing → x.voice.next = some n →
      (∀ (f : VoiceFrame) (rest : List VoiceFrame), x.voice.queue = f :: rest → f.seq = n → (∀ g ∈ rest, g.seq ≠ n) →
        s.playStep r = (f.samples, { s with calls := { s.calls with records := updAt s.calls.records r fun x =>
          { x with voice := { x.voice with queue := rest, last := some f.samples, rep := false, next := some (n + 1) } } } })) ∧
      ((∀ g ∈ x.voice.queue, g.seq ≠ n) →
        (∀ l : List Byte, x.voice.rep = false → x.voice.last = some l → s.playStep r =
          (l, ({ s with calls := { s.calls with records := updAt s.calls.records r fun x =>
            { x with voice := { x.voice with rep := true, next := some (n + 1) } } } } : State).countVoice r
              fun c => { c with repeats := bump c.repeats })) ∧
        (x.voice.rep = true → s.playStep r = (List.replicate 32 128, ({ s with calls := { s.calls with
          records := updAt s.calls.records r fun x => { x with voice := { x.voice with
            rep := false, play := .underrun, next := some (n + 1) } } } } : State).countVoice r
              fun c => { c with underruns := bump c.underruns })))))

/-! ### Toll custody and the journal store (chapters 6 and 7) -/

/-- A TXN judged. With an entry of its number PROCESSING, CARRIED or READY COMMITTED it is a repeat offer: that is counted and nothing else
changes. An entry of its number READY with DEFERRED or REFUSED-FULL is removed, and the TXN judged afresh. It is taken while the journal
is ACCEPTING, staging is neither full nor in overrun and the list has a place: PROCESSING in the list and at staging's tail, which the
32nd puts in overrun; an IDLE controller with nothing waiting starts its commit at once with the next serial. Otherwise the verdict is
REFUSED-FULL when FULL and DEFERRED in any other case, counted, and placed READY when the list has a place, unplaced when not. -/
def Obligations.TransactionIsJudged : Prop :=
  ∀ (slot : Fin 32) (drop : Fin 4) (address : BitVec 5) (number : BitVec 16) (body : List Byte) (x : Txn) (l : List AnswerEntry)
    (s : State), x = { slot := slot, drop := drop, address := address, number := number, body := body, linked := true } →
    ((∃ e ∈ s.jrnl.answers[slot], e.number = number ∧ e.state ≠ .ready .deferred ∧ e.state ≠ .ready .refusedFull) →
      s.takeTxn slot drop address number body = { s with jrnl := { s.jrnl with
        ctr := { s.jrnl.ctr with repeatOffer := bump s.jrnl.ctr.repeatOffer } } }) ∧
    ((∀ e ∈ s.jrnl.answers[slot], e.number = number → e.state = .ready .deferred ∨ e.state = .ready .refusedFull) →
      l = s.jrnl.answers[slot].filter (fun e => e.number != number) →
      (s.jrnl.cond = .accepting → s.jrnl.staging.length < 32 → s.jrnl.overrun = false → l.length < 4 →
        (s.ctl.state ≠ .idle → s.takeTxn slot drop address number body = { s with jrnl := { s.jrnl with
          answers := updAt s.jrnl.answers slot fun _ => l ++ [{ number := number, state := .processing }]
          staging := s.jrnl.staging ++ [x]
          overrun := decide (s.jrnl.staging.length = 31)
          ctr := { s.jrnl.ctr with
            taken := bump s.jrnl.ctr.taken
            overrun := if s.jrnl.staging.length = 31 then bump s.jrnl.ctr.overrun else s.jrnl.ctr.overrun } } }) ∧
        (s.ctl.state = .idle → s.ctl.requests = [] → s.jrnl.pendingMarks = [] → s.jrnl.hand = none → s.jrnl.staging = [] →
          s.jrnl.nextSerial < 4294967295 → s.takeTxn slot drop address number body = { s with
            jrnl := { s.jrnl with
              answers := updAt s.jrnl.answers slot fun _ => l ++ [{ number := number, state := .processing }]
              hand := some { serial := s.jrnl.nextSerial, txn := x, retry := false }
              nextSerial := s.jrnl.nextSerial + 1
              ctr := { s.jrnl.ctr with taken := bump s.jrnl.ctr.taken } }
            ctl := { s.ctl with
              state := .operating
              op := some (.commit s.jrnl.cursor (journalSlot s.jrnl.nextSerial s.straps x) .write)
              timer := some (s.now + 50)
              ctr := { s.ctl.ctr with slotWrites := bump s.ctl.ctr.slotWrites } } })) ∧
      (∀ v : Verdict, v = (if s.jrnl.cond = .full then .refusedFull else .deferred) →
        (s.jrnl.cond ≠ .accepting ∨ 32 ≤ s.jrnl.staging.length ∨ s.jrnl.overrun = true ∨ 4 ≤ l.length) →
        s.takeTxn slot drop address number body = { s with jrnl := { s.jrnl with
          answers := updAt s.jrnl.answers slot fun _ =>
            if l.length < 4 then l ++ [{ number := number, state := .ready v }] else l
          ctr := { s.jrnl.ctr with
            deferred := if s.jrnl.cond = .full then s.jrnl.ctr.deferred else bump s.jrnl.ctr.deferred
            refusedFull := if s.jrnl.cond = .full then bump s.jrnl.ctr.refusedFull else s.jrnl.ctr.refusedFull
            unplaced := if l.length < 4 then s.jrnl.ctr.unplaced else bump s.jrnl.ctr.unplaced } } }))

/-- A TOLLCTL block handed to the journal. In RECOVERING and FAULT, or with a count, subtype or length that does not fit, it is discarded
and counted. PULL of 1 to 64 adds to the credit, 64 at most, and the held records that are neither read nor sent are read ahead by rising
serial until the terms of the drain stop. END sets the credit to 0 and empties the read-ahead buffer; a READ in flight is no longer wanted.
ACK releases the oldest held records through its serial, clamped to the newest sent: the held count falls, the oldest is the next in
its slot, none of them is left IN-TRANSIT or read ahead, their slots await their marks, and a FULL journal whose cursor's slot is
free is ACCEPTING; below 6000 held the high mark is armed. An ACK that covers none is stale, is counted, and changes nothing else. -/
def Obligations.CentreControlMovesJournal : Prop :=
  (∀ (b : Block) (s : State), ((s.jrnl.cond = .recovering ∨ s.jrnl.cond = .fault) ∨
      (b.subtype ≠ 1 ∧ b.subtype ≠ 2 ∧ b.subtype ≠ 3) ∨
      (b.subtype = 1 ∧ (b.body.length ≠ 1 ∨ byteAt b.body 0 = 0 ∨ 64 < (byteAt b.body 0).toNat)) ∨
      (b.subtype = 2 ∧ b.body.length ≠ 4) ∨ (b.subtype = 3 ∧ b.body.length ≠ 0)) →
    s.takeTollControl b = { s with jrnl := { s.jrnl with
      ctr := { s.jrnl.ctr with controlDiscarded := bump s.jrnl.ctr.controlDiscarded } } }) ∧
  (∀ (b : Block) (s : State), s.jrnl.cond.drains = true →
    (∀ c : Byte, b.subtype = 1 → b.body = [c] → 1 ≤ c.toNat → c.toNat ≤ 64 → ∃ (ks : List Nat) (t : State),
      s.takeTollControl b = t ∧ t.jrnl.credit = min 64 (s.jrnl.credit + c.toNat) ∧
      t.jrnl.readAhead.map (·.serial) = s.jrnl.readAhead.map (·.serial) ++ ks ∧ ks.Pairwise (· < ·) ∧
      (∀ k ∈ ks, s.jrnl.holdsSerial k = true ∧ s.jrnl.isInTransit k = false ∧ s.jrnl.isReading k = false) ∧
      (t.jrnl.mayRequest = false ∨ t.jrnl.sendCursor = none) ∧
      t = { s with jrnl := { s.jrnl with credit := t.jrnl.credit, readAhead := t.jrnl.readAhead }, ctl := t.ctl }) ∧
    (b.subtype = 3 → b.body = [] → s.takeTollControl b = { s with
      jrnl := { s.jrnl with credit := 0, readAhead := [] }
      ctl := { s.ctl with
        requests := []
        op := match s.ctl.op with
          | some (.read serial slot _) => some (.read serial slot false)
          | op => op } }) ∧
    (∀ k : Nat, b.subtype = 2 → b.body.length = 4 → k = (word32At b.body 0).toNat →
      ((s.jrnl.oldest = none ∨ s.jrnl.newestSent = none ∨ s.jrnl.held = 0 ∨
          ∃ (h : Held) (newest : Nat), s.jrnl.oldest = some h ∧ s.jrnl.newestSent = some newest ∧ min k newest < h.serial) →
        s.takeTollControl b = { s with jrnl := { s.jrnl with
          ctr := { s.jrnl.ctr with staleAck := bump s.jrnl.ctr.staleAck } } }) ∧
      (∀ (h : Held) (newest n : Nat), s.jrnl.oldest = some h → s.jrnl.newestSent = some newest → s.jrnl.held ≠ 0 →
        h.serial ≤ min k newest → n = min (min k newest - h.serial + 1) s.jrnl.held →
        ∃ t : State, s.takeTollControl b = t ∧ t.jrnl.held = s.jrnl.held - n ∧
          t.jrnl.oldest = (if s.jrnl.held ≤ n then none else
            some { serial := h.serial + n, slot := s.jrnl.heldSlots.getD n 0 }) ∧
          t.jrnl.ctr.released = bumpBy s.jrnl.ctr.released n ∧
          (∀ x ∈ t.jrnl.inTransit, x.serial < h.serial ∨ h.serial + n ≤ x.serial) ∧
          (∀ x ∈ t.jrnl.readAhead, x.serial < h.serial ∨ h.serial + n ≤ x.serial) ∧
          (s.ctl.state ≠ .idle → t.jrnl.pendingMarks = s.jrnl.pendingMarks ++ s.jrnl.heldSlots.take n) ∧
          t.jrnl.highSpent = (s.jrnl.highSpent && decide (6000 ≤ s.jrnl.held - n)) ∧
          t.jrnl.cond = (if s.jrnl.cond = .full ∧ t.jrnl.holdsSlot t.jrnl.cursor = false then .accepting else s.jrnl.cond) ∧
          t = { s with jrnl := t.jrnl, ctl := t.ctl, ring := { s.ring with tq := t.ring.tq } })))

/-- The end of a commit write's verify. A READ equal to what was written holds the record: the held count and the committed counter rise, the
cursor moves to the next good slot, the transaction's entry becomes READY with COMMITTED, and the store is as it was. An ACCEPTING journal
whose cursor then stands at a held record becomes FULL, counts it and queues a FULL notice with the held count; in any other case the
condition stays. A held count that has become 7000 with the high mark ARMED makes it SPENT and queues a high-mark notice behind that one.
A READ that differs adds the slot to the bad list and keeps the record and its serial for a retry; on a full bad list it takes the journal
to FAULT with cause BAD-SLOTS. -/
def Obligations.CommitCompletionHoldsOrRetries : Prop :=
  (∀ (slot : Nat) (bytes : List Byte) (h : InHand) (got : ReadBack) (s : State),
    s.ctl.op = some (.commit slot bytes .verify) → s.ctl.state = .operating → s.jrnl.cond ≠ .fault → s.jrnl.hand = some h →
    ∃ t : State, exec (.commitWriteCompletion got) s = .next t ∧
      (s.readBack slot got = bytes → t.jrnl.held = s.jrnl.held + 1 ∧ t.jrnl.ctr.committed = bump s.jrnl.ctr.committed ∧
        t.jrnl.cursor = nextGood s.jrnl.bad s.jrnl.cursor ∧ t.jrnl.bad = s.jrnl.bad ∧
        t.jrnl.oldest = some (s.jrnl.oldest.getD { serial := h.serial, slot := s.jrnl.cursor }) ∧
        (h.txn.linked = true → t.jrnl.answers = updAt s.jrnl.answers h.txn.slot (settleEntry h.txn.number .committed))) ∧
      (s.readBack slot got ≠ bytes → t.ctl.ctr.mismatches = bump s.ctl.ctr.mismatches ∧ t.jrnl.held = s.jrnl.held ∧
        (s.jrnl.bad.length < 64 → t.jrnl.bad = s.jrnl.bad ++ [s.jrnl.cursor] ∧
          t.jrnl.cursor = nextGood (s.jrnl.bad ++ [s.jrnl.cursor]) s.jrnl.cursor ∧
          t.jrnl.hand.map (·.serial) = some h.serial ∧ t.jrnl.answers = s.jrnl.answers) ∧
        (64 ≤ s.jrnl.bad.length → t.jrnl.cond = .fault ∧ t.jrnl.faultCause = some .badSlots ∧ t.jrnl.hand = none ∧
          t.jrnl.staging = [])) ∧
      (got = none → t.nv = s.nv)) ∧
  (∀ (slot : Nat) (bytes : List Byte) (h : InHand) (got : ReadBack) (full high : Bool) (s : State),
    s.ctl.op = some (.commit slot bytes .verify) → s.ctl.state = .operating → s.jrnl.cond ≠ .fault → s.jrnl.hand = some h →
    s.readBack slot got = bytes →
    full = (decide (s.jrnl.cond = .accepting) && ({ s.jrnl with
      oldest := some (s.jrnl.oldest.getD { serial := h.serial, slot := s.jrnl.cursor })
      held := s.jrnl.held + 1 } : Journal).holdsSlot (nextGood s.jrnl.bad s.jrnl.cursor)) →
    high = (decide (s.jrnl.held + 1 = 7000) && !s.jrnl.highSpent) →
    ∃ t : State, exec (.commitWriteCompletion got) s = .next t ∧
      t.jrnl.cond = (if full = true then .full else s.jrnl.cond) ∧
      t.jrnl.ctr.fullEntries = (if full = true then bump s.jrnl.ctr.fullEntries else s.jrnl.ctr.fullEntries) ∧
      t.jrnl.highSpent = (s.jrnl.highSpent || high) ∧
      (s.repeater = false → t.agent.serial = s.agent.serial + (if full = true then 1 else 0) + if high = true then 1 else 0) ∧
      (s.repeater = false → s.agent.notices ≠ [] → s.agent.notices.length < 15 → t.agent.notices = s.agent.notices ++
        (if full = true then
          [{ serial := s.agent.serial, time := s.now % 4294967296, body := .full (s.jrnl.held + 1) }] else []) ++
        (if high = true then
          [{ serial := s.agent.serial + if full = true then 1 else 0, time := s.now % 4294967296,
             body := .highMark (s.jrnl.held + 1) }] else [])))

/-- The end of a mark write: the slot's mark reads RELEASED and the slot has left the pending marks. The end of a SLOT-WRITE: the slot
holds the 64 bytes written and the operation's verify READ is in flight with 50 ms to run, counted as a READ. In both every other
byte of the store reads as before. -/
def Obligations.StoreWritesTouchOneSlot : Prop :=
  (∀ (slot : Nat) (s : State), s.storeOk = true → s.ctl.op = some (.mark slot) → s.ctl.state = .operating →
    ∃ t : State, exec .markWriteCompletion s = .next t ∧ Memory.read storeBlank t.nv (64 * slot) = 0 ∧
      (∀ a : Nat, a ≠ 64 * slot → Memory.read storeBlank t.nv a = Memory.read storeBlank s.nv a) ∧
      slot ∉ t.jrnl.pendingMarks ∧ t.jrnl.held = s.jrnl.held ∧ t.jrnl.answers = s.jrnl.answers ∧
      t = { s with jrnl := t.jrnl, ctl := t.ctl, nv := t.nv }) ∧
  (∀ (slot : Nat) (bytes : List Byte) (s : State) (w v : StoreOp), s.storeOk = true → bytes.length = 64 →
    ((w = .commit slot bytes .write ∧ v = .commit slot bytes .verify) ∨
      (w = .saveSlot slot bytes .write ∧ v = .saveSlot slot bytes .verify)) →
    s.ctl.op = some w →
    ∃ t : State, exec .storeStepDone s = .next t ∧ t.storeSlot slot = bytes ∧
      (∀ a : Nat, a < 64 * slot ∨ 64 * slot + 64 ≤ a → Memory.read storeBlank t.nv a = Memory.read storeBlank s.nv a) ∧
      t = { s with
        ctl := { s.ctl with op := some v, timer := some (s.now + 50), ctr := { s.ctl.ctr with reads := bump s.ctl.ctr.reads } }
        nv := t.nv })

/-- The end of a read-ahead READ. For a record wanted that passes its test, with a TOLL lane and room in TQ, the record's TOLL block joins TQ,
the record is IN-TRANSIT from now, a credit is spent and the send counted. A record wanted that fails its test stays READING and is
counted as a retry, and its READ is requested again behind those that wait, of which the first starts. A READ no longer wanted is
discarded. What the READ returned is its operand (log entry 22); the held records stay, and the store where it returned what the store
keeps. The revert timer's expiry makes every record IN-TRANSIT unsent again, counts the revert and the resends, and leaves the credit, the
held records and everything outside the journal and the store controller as they were; the clock stands at the deadline or later (log
entry 11). The test of what a READ returned: 64 bytes with a check that holds, the serial expected, and a mark of HELD or a slot whose
release is pending. EMPTY and RELEASED of any other slot fail; a mark that is none of the three codes is HELD, as R182 and R119 read it
(that R105's test reads it so: log entry 14). -/
def Obligations.DrainSendsAndReverts : Prop :=
  (∀ (serial slot : Nat) (live : Bool) (got : ReadBack) (l : List Byte) (s : State),
    s.ctl.op = some (.read serial slot live) → s.ctl.state = .operating → l = s.readBack slot got →
    ∃ t : State, exec (.readAheadCompletion got) s = .next t ∧ t.jrnl.held = s.jrnl.held ∧ (got = none → t.nv = s.nv) ∧
      (∀ lane : Fin 64, live = true → s.jrnl.readPasses serial slot l = true →
        s.jrnl.readAhead = [{ serial := serial, phase := .started }] → s.laneFor .toll = some lane → s.takes .tq = true →
        t.ring = { s.ring with tq := s.ring.tq ++
          [s.completed (tollBlock lane s.lanes[lane].peer serial (TollRecord.ofSlot l))] } ∧
        t.jrnl.inTransit = s.jrnl.inTransit ++ [{ serial := serial, sentAt := s.now }] ∧
        t.jrnl.credit = s.jrnl.credit - 1 ∧ t.jrnl.ctr.sent = bump s.jrnl.ctr.sent) ∧
      (live = true → s.jrnl.readPasses serial slot l = false →
        t.jrnl.ctr.readRetry = bump s.jrnl.ctr.readRetry ∧ t.ring = s.ring ∧ t.jrnl.inTransit = s.jrnl.inTransit ∧
        t.jrnl.credit = s.jrnl.credit ∧
        (∀ q sl : Nat, s.jrnl.cond.drains = true → (s.ctl.requests ++ [serial]).head? = some q → s.jrnl.slotOf q = some sl →
          t.ctl.requests = (s.ctl.requests ++ [serial]).drop 1 ∧ t.ctl.op = some (.read q sl true) ∧
          t.jrnl.readAhead = s.jrnl.readAhead.map fun x =>
            if x.serial = q then { x with phase := .started }
            else if x.serial = serial then { x with phase := .waiting } else x)) ∧
      (live = false → t.jrnl.ctr = s.jrnl.ctr ∧ t.ring = s.ring ∧ t.jrnl.inTransit = s.jrnl.inTransit)) ∧
  (∀ (dl : Nat) (s : State), s.jrnl.revertAt = some dl →
    ∃ t : State, exec .revertTimerExpiry s = .next t ∧ t.now = max s.now dl ∧ t.jrnl.inTransit = [] ∧
      t.jrnl.ctr.reverts = bump s.jrnl.ctr.reverts ∧
      t.jrnl.ctr.resends = bumpBy s.jrnl.ctr.resends s.jrnl.inTransit.length ∧ t.jrnl.credit = s.jrnl.credit ∧
      t.jrnl.held = s.jrnl.held ∧ t.jrnl.oldest = s.jrnl.oldest ∧ t = { s with now := t.now, jrnl := t.jrnl, ctl := t.ctl }) ∧
  (∀ (serial slot : Nat) (l : List Byte) (s : State), s.jrnl.readPasses serial slot l = true ↔
    l.length = 64 ∧ crc16 (l.drop 3) = word16At l 1 ∧ (word32At l 3).toNat = serial ∧ ((byteAt l 0 ≠ 255 ∧ byteAt l 0 ≠ 0) ∨ slot ∈ s.jrnl.pendingMarks))

/-- SAVE-CONFIG begins a save and sends no reply: the save is at its first step with the next generation and the image check's register preset
to all ones (the preset is log entry 23's), the command's source and tag are kept for the reply, and no byte of the store has changed.
With the controller IDLE and no other work the write of the header's mark is in flight. The steps of a save: the header's mark, written
INVALID, changes that byte of the store alone and leads to step 2. A slot that verifies enters the image check and leads to the next step;
the header's, step 28, ends the save: its generation is kept, the save is counted and no save is in flight. A slot that does not verify
ends the save as failed, and a header so left reads as invalid (R124 followed where R114 lets it read as valid: the model's choice, log
entry 37). -/
def Obligations.SaveBeginsAndAdvances : Prop :=
  (∀ (src : NodeId) (tag : Byte) (s : State), s.agentIdle = true → s.ctl.save = none → s.ctl.generation ≠ BitVec.allOnes 32 →
    ∃ t : State, exec (.saveConfig src tag) s = .next t ∧
      t.ctl.save = some { next := 1, generation := s.ctl.generation + 1, check := BitVec.allOnes 32 } ∧
      t.agent = { s.commandTaken.agent with saveReply := some { src := src, tag := tag } } ∧ t.ring = s.ring ∧ t.nv = s.nv ∧
      t = { s with agent := t.agent, ctl := t.ctl, jrnl := t.jrnl } ∧
      (s.ctl.state = .idle → s.ctl.requests = [] → s.jrnl.pendingMarks = [] → s.jrnl.mayCommit = false →
        t.ctl.op = some .saveMark ∧ t.ctl.timer = some (s.now + 50) ∧ t.jrnl = s.jrnl)) ∧
  (∀ (sv : Save) (s : State), s.storeOk = true → s.ctl.state = .operating → s.ctl.save = some sv → s.agent.intake = [] →
    (s.ctl.op = some .saveMark → ∃ t : State, exec (.saveStepCompletion none) s = .next t ∧
      t.ctl.save = some { sv with next := 2 } ∧ Memory.read storeBlank t.nv (64 * 8064) = 0 ∧
      ∀ a : Nat, a ≠ 64 * 8064 → Memory.read storeBlank t.nv a = Memory.read storeBlank s.nv a) ∧
    (∀ (slot : Nat) (bytes : List Byte) (got : ReadBack), s.ctl.op = some (.saveSlot slot bytes .verify) →
      ∃ t : State, exec (.saveStepCompletion got) s = .next t ∧
        (s.readBack slot got = bytes → sv.next < 28 →
          t.ctl.save = some { sv with next := sv.next + 1, check := crc32Feed sv.check bytes }) ∧
        (s.readBack slot got = bytes → 28 ≤ sv.next → t.ctl.save = none ∧ t.ctl.generation = sv.generation ∧
          t.ctl.ctr.saves = bump s.ctl.ctr.saves ∧ t.agent.saveReply = none) ∧
        (s.readBack slot got ≠ bytes → t.ctl.save = none ∧ t.ctl.generation = s.ctl.generation ∧
          t.ctl.ctr.savesFailed = bump s.ctl.ctr.savesFailed ∧ t.ctl.ctr.mismatches = bump s.ctl.ctr.mismatches ∧
          (slot = 8064 → headerValid (t.storeSlot 8064) = false))))

/-- The expiry of the step timer of a commit, a mark write, a read-ahead READ or a save's step abandons the operation: the timeout is counted,
the journal is in FAULT with cause TIMEOUT, empty of transactions and credit, a save in flight has failed, and the controller is IDLE with
no operation. Of a READ of the recovery scan it ends the scan with no view: the timeout is counted, the journal is in FAULT with cause
TIMEOUT, the store and the orphan and gap counts are as before (the counts: the model's choice, log entry 41), and after a full reset the
load begins, after a RESTART the controller is IDLE. Of a READ of the configuration load it ends the load with outcome TIMEOUT: the
journal is in FAULT, with cause TIMEOUT when it was not there before, the controller is IDLE, the lane, station and slot tables, the
parameters, the levels, the signs' modes and the store are as they were, and a config-failed notice with that outcome is queued, behind
the FAULT notice (the order of the two is the model's, log entry 26). The clock stands at the deadline or later (log entry 11). The
store's own completion of an abandoned step changes nothing. -/
def Obligations.StepTimeoutFaultsJournal : Prop :=
  (∀ (dl : Nat) (o : StoreOp) (s : State), s.ctl.timer = some dl → s.ctl.op = some o → s.ctl.state = .operating →
    (∀ slot, o ≠ .scan slot) → (∀ slot, o ≠ .load slot) → s.jrnl.cond ≠ .fault → s.agent.intake = [] →
    ∃ t : State, exec .stepTimerExpiry s = .next t ∧ t.ctl.ctr.timeouts = bump s.ctl.ctr.timeouts ∧ t.jrnl.cond = .fault ∧
      t.jrnl.faultCause = some .timeout ∧ t.jrnl.staging = [] ∧ t.jrnl.hand = none ∧ t.jrnl.credit = 0 ∧
      t.jrnl.inTransit = [] ∧ t.jrnl.readAhead = [] ∧ t.jrnl.held = s.jrnl.held ∧ t.ctl.save = none ∧ t.ctl.op = none ∧
      t.ctl.timer = none ∧ t.ctl.state = .idle) ∧
  (∀ s : State, exec .abandonedStepCompletion s = .next s) ∧
  (∀ (dl slot : Nat) (s : State), s.ctl.timer = some dl → s.ctl.op = some (.scan slot) → s.jrnl.cond ≠ .fault →
    s.ctl.save = none →
    ∃ t : State, exec .stepTimerExpiry s = .next t ∧ t.now = max s.now dl ∧ t.ctl.ctr.timeouts = bump s.ctl.ctr.timeouts ∧
      t.jrnl.cond = .fault ∧ t.jrnl.faultCause = some .timeout ∧ t.jrnl.hasView = s.jrnl.hasView ∧ t.ctl.found = [] ∧
      t.ctl.orphans = s.ctl.orphans ∧ t.ctl.gaps = s.ctl.gaps ∧ t.nv = s.nv ∧
      (s.ctl.scanThenLoad = true → t.ctl.state = .loading ∧ t.ctl.op = some (.load 8064) ∧ t.ctl.timer = some (t.now + 50)) ∧
      (s.ctl.scanThenLoad = false → t.ctl.state = .idle ∧ t.ctl.op = none ∧ t.ctl.timer = none)) ∧
  (∀ (dl slot : Nat) (s : State), s.ctl.timer = some dl → s.ctl.op = some (.load slot) → s.ctl.save = none →
    ∃ t : State, exec .stepTimerExpiry s = .next t ∧ t.now = max s.now dl ∧ t.ctl.ctr.timeouts = bump s.ctl.ctr.timeouts ∧
      t.ctl.lastLoad = some (.failed .timeout) ∧ t.ctl.load = none ∧ t.ctl.state = .idle ∧ t.ctl.op = none ∧
      t.ctl.timer = none ∧ t.jrnl.cond = .fault ∧
      t.jrnl.faultCause = (if s.jrnl.cond = .fault then s.jrnl.faultCause else some .timeout) ∧ t.lanes = s.lanes ∧
      t.poll.stations = s.poll.stations ∧ t.slots = s.slots ∧ t.agent.params = s.agent.params ∧ t.sup = s.sup ∧ t.nv = s.nv ∧
      (∀ k : Fin 12, t.sign.signs[k].mode = s.sign.signs[k].mode) ∧
      (s.repeater = false → s.agent.notices ≠ [] → s.agent.notices.length < 15 → t.agent.notices = s.agent.notices ++
        (if s.jrnl.cond = .fault then [] else
          [{ serial := s.agent.serial, time := t.now % 4294967296, body := .fault .timeout }]) ++
        [{ serial := s.agent.serial + if s.jrnl.cond = .fault then 0 else 1, time := t.now % 4294967296,
           body := .failed .timeout }]))

/-- What an operation cut short leaves in the store. By a full reset: a commit, in either of its steps, and a save's write of a slot leave a
slot that reads as invalid, and so does the verify of the header (the model's reading of R99, R114, R120 and R123, log entry 37); the
verify of any other slot leaves the store as it is; a mark keeps the bits it had but for some cleared. By the step timer: the
header of a save that was writing it reads as invalid, whichever step it was in, and a mark keeps the bits it had but for some cleared.
In every case no byte outside the slot changes, and outside the mark none of a mark write. -/
def Obligations.CutShortWritesReadInvalid : Prop :=
  (∀ (straps : BitVec 5) (s t : State), s.storeOk = true → exec (.fullReset straps) s = .next t →
    (∀ (slot : Nat) (bytes : List Byte) (w : WriteStep), (s.ctl.op = some (.commit slot bytes w) ∨
        (s.ctl.op = some (.saveSlot slot bytes w) ∧ (w = .write ∨ slot = 8064))) →
      slotValid (t.storeSlot slot) = false ∧
      ∀ a : Nat, a < 64 * slot ∨ 64 * slot + 64 ≤ a → Memory.read storeBlank t.nv a = Memory.read storeBlank s.nv a) ∧
    (∀ (slot : Nat) (bytes : List Byte), slot ≠ 8064 → s.ctl.op = some (.saveSlot slot bytes .verify) → t.nv = s.nv) ∧
    (∀ slot : Nat, (s.ctl.op = some (.mark slot) ∨ (s.ctl.op = some .saveMark ∧ slot = 8064)) →
      Memory.read storeBlank t.nv (64 * slot) &&& Memory.read storeBlank s.nv (64 * slot) = Memory.read storeBlank t.nv (64 * slot) ∧
      ∀ a : Nat, a ≠ 64 * slot → Memory.read storeBlank t.nv a = Memory.read storeBlank s.nv a)) ∧
  (∀ (dl : Nat) (s t : State), s.storeOk = true → s.ctl.timer = some dl → exec .stepTimerExpiry s = .next t →
    (∀ (slot : Nat) (bytes : List Byte) (w : WriteStep), (s.ctl.op = some (.commit slot bytes w) ∨
        s.ctl.op = some (.saveSlot slot bytes w)) →
      ∀ a : Nat, a < 64 * slot ∨ 64 * slot + 64 ≤ a → Memory.read storeBlank t.nv a = Memory.read storeBlank s.nv a) ∧
    (∀ (slot : Nat) (bytes : List Byte), slot ≠ 8064 → s.ctl.op = some (.saveSlot slot bytes .verify) → t.nv = s.nv) ∧
    (∀ (bytes : List Byte) (w : WriteStep), (s.ctl.op = some (.saveSlot 8064 bytes w) ∨ s.ctl.op = some .saveMark) →
      headerValid (t.storeSlot 8064) = false) ∧
    (∀ slot : Nat, (s.ctl.op = some (.mark slot) ∨ (s.ctl.op = some .saveMark ∧ slot = 8064)) →
      Memory.read storeBlank t.nv (64 * slot) &&& Memory.read storeBlank s.nv (64 * slot) = Memory.read storeBlank t.nv (64 * slot) ∧
      ∀ a : Nat, a ≠ 64 * slot → Memory.read storeBlank t.nv a = Memory.read storeBlank s.nv a) ∧
    (((∃ (serial slot : Nat) (live : Bool), s.ctl.op = some (.read serial slot live)) ∨ (∃ slot : Nat, s.ctl.op = some (.scan slot)) ∨
      (∃ slot : Nat, s.ctl.op = some (.load slot))) → t.nv = s.nv))

/-- The recovery scan. A slot is HELD or RELEASED when it is valid with a mark that is not EMPTY, RELEASED by the mark RELEASED and HELD by
any other, and carries its serial; any other slot is EMPTY. The end of a scan READ before the last slot notes what was found and starts
the READ of the next slot. The last READ keeps the rebuild's orphans and gaps. With more than 64 gaps the journal is in FAULT with cause
BAD-SLOTS; with no more it takes the rebuild's whole view, every record UNSENT, with no credit and no pending marks, and is ACCEPTING,
FULL when the cursor's slot is held (an entry the full-entries counter does not count: the model's choice, log entry 25), and in HOLDUP
HALTED, where staging is emptied and no answer but a PROCESSING one stands. A scan after a full reset that found no record leaves a view
of nothing held and next serial 1 and starts the configuration load at slot 8064. -/
def Obligations.ScanReadsSlotsInOrder : Prop :=
  (∀ (slot : Nat) (l : List Byte), classify slot l = if slotValid l = true ∧ byteAt l 0 ≠ 255 then
    some { slot := slot, released := decide (byteAt l 0 = 0), serial := (word32At l 3).toNat } else none) ∧
  (∀ (slot : Nat) (s : State), s.ctl.op = some (.scan slot) → slot < 8063 →
    exec (.scanReadDone none) s = .next { s with ctl := { s.ctl with
      op := some (.scan (slot + 1))
      timer := some (s.now + 50)
      found := s.ctl.found ++ (classify slot (s.storeSlot slot)).toList
      ctr := { s.ctl.ctr with reads := bump s.ctl.ctr.reads } } }) ∧
  (∀ s : State, s.ctl.op = some (.scan 8063) → s.ctl.found = [] → classify 8063 (s.storeSlot 8063) = none →
    s.ctl.scanThenLoad = true →
    ∃ t : State, exec (.scanReadDone none) s = .next t ∧ t.jrnl.hasView = true ∧ t.jrnl.held = 0 ∧ t.jrnl.oldest = none ∧
      t.jrnl.nextSerial = 1 ∧ t.jrnl.bad = [] ∧
      t.jrnl.cond = (if s.sup.state = .holdup then .halted else .accepting) ∧ t.ctl.state = .loading ∧
      t.ctl.op = some (.load 8064) ∧ t.ctl.orphans = 0 ∧ t.ctl.gaps = 0 ∧ t.nv = s.nv) ∧
  (∀ (F : List Found) (s : State), s.ctl.op = some (.scan 8063) → F = s.ctl.found ++ (classify 8063 (s.storeSlot 8063)).toList →
    ∃ t : State, exec (.scanReadDone none) s = .next t ∧ t.ctl.orphans = (rebuild F).orphans ∧
      t.ctl.gaps = (rebuild F).bad.length ∧ t.ctl.found = [] ∧ t.nv = s.nv ∧
      ((rebuild F).bad.length ≤ 64 → t.jrnl.hasView = true ∧ t.jrnl.oldest = (rebuild F).oldest ∧
        t.jrnl.held = (rebuild F).held ∧ t.jrnl.bad = (rebuild F).bad ∧ t.jrnl.cursor = (rebuild F).cursor) ∧
      (64 < (rebuild F).bad.length → t.jrnl.cond = .fault ∧ t.jrnl.hasView = s.jrnl.hasView) ∧
      (s.ctl.scanThenLoad = true → t.ctl.state = .loading ∧ t.ctl.op = some (.load 8064))) ∧
  (∀ (r : Rebuilt) (s t : State), t = s.journalScanned r →
    (64 < r.bad.length → s.jrnl.cond ≠ .fault → t.jrnl.cond = .fault ∧ t.jrnl.faultCause = some .badSlots ∧
      t.jrnl.staging = [] ∧ t.jrnl.hand = none ∧ t.jrnl.credit = 0) ∧
    (r.bad.length ≤ 64 → t.jrnl.oldest = r.oldest ∧ t.jrnl.held = r.held ∧ t.jrnl.cursor = r.cursor ∧
      t.jrnl.nextSerial = r.nextSerial ∧ t.jrnl.bad = r.bad ∧ t.jrnl.hasView = true ∧ t.jrnl.newestSent = none ∧
      t.jrnl.inTransit = [] ∧ t.jrnl.readAhead = [] ∧ t.jrnl.credit = 0 ∧ t.jrnl.pendingMarks = [] ∧
      t.jrnl.highSpent = decide (7000 ≤ r.held) ∧
      (s.sup.state ≠ .holdup → t.jrnl.cond = (if t.jrnl.holdsSlot r.cursor = true then .full else .accepting) ∧
        t.jrnl.staging = s.jrnl.staging ∧ t.jrnl.answers = s.jrnl.answers ∧ t.jrnl.ctr = s.jrnl.ctr) ∧
      (s.sup.state = .holdup → t.jrnl.cond = .halted ∧ t.jrnl.staging = [] ∧
        (∀ (i : Fin 32) (e : AnswerEntry), e ∈ t.jrnl.answers[i] → e ∈ s.jrnl.answers[i] ∧ e.state = .processing) ∧
        (s.jrnl.hand = none → t.jrnl.ctr = { s.jrnl.ctr with
          discarded := bumpBy s.jrnl.ctr.discarded ((List.finRange 32).map fun i => s.jrnl.answers[i].length).sum }))))

/-- The rebuild of a scan that found records. The next serial is the newest serial found plus 1, and the write cursor the slot after the
newest slot, the copy of that serial that each other copy precedes by no more than 65 slots. With every copy RELEASED nothing is held. A run
held ends at the newest serial and is unbroken: each of its serials was found HELD, the oldest in the slot named for it. The slots of
its stretch that hold none of it are the gaps, and with nothing held there are none. The walk stops only at a RELEASED record of the
serial before the oldest or after 64 slots without it. What was found HELD and not taken is an orphan. -/
def Obligations.RebuildFollowsHeldRun : Prop :=
  ∀ (F : List Found) (k n : Nat), (∃ f ∈ F, f.serial = k) → (∀ f ∈ F, f.serial ≤ k) → (F.map (·.slot)).Nodup →
    (∀ f ∈ F, f.slot < 8064) → (∃ f ∈ F, f.serial = k ∧ f.slot = n) → (∀ f ∈ F, f.serial = k → slotsOn f.slot n ≤ 65) →
    (rebuild F).nextSerial = k + 1 ∧ (rebuild F).cursor = (n + 1) % 8064 ∧
    (rebuild F).held + (rebuild F).orphans = (F.filter fun f => !f.released).length ∧
    ((∀ f ∈ F, f.serial = k → f.released = true) → (rebuild F).held = 0) ∧
    ((rebuild F).oldest = none ↔ (rebuild F).held = 0) ∧ ((rebuild F).held = 0 → (rebuild F).bad = []) ∧
    (∀ h : Held, (rebuild F).oldest = some h → h.serial + (rebuild F).held = k + 1 ∧
      (∃ f ∈ F, f.slot = h.slot ∧ f.serial = h.serial ∧ f.released = false) ∧
      (∀ j : Nat, h.serial ≤ j → j ≤ k → ∃ f ∈ F, f.serial = j ∧ f.released = false ∧ slotsOn f.slot n ≤ slotsOn h.slot n) ∧
      (rebuild F).held + (rebuild F).bad.length = slotsOn h.slot n + 1 ∧ (rebuild F).bad.Nodup ∧
      (∀ b ∈ (rebuild F).bad, b < 8064 ∧ slotsOn b n < slotsOn h.slot n) ∧
      (∀ f ∈ F, f.serial + 1 = h.serial → f.released = false → slotsOn f.slot n = slotsOn h.slot n + slotsOn f.slot h.slot →
        slotsOn f.slot h.slot ≤ 64 → ∃ g ∈ F, g.serial + 1 = h.serial ∧ g.released = true ∧
          slotsOn g.slot h.slot < slotsOn f.slot h.slot))

/-- The configuration load. A valid header sets the generation, notes its image check and starts the READ of slot 8065; any other
header ends the load with NO-IMAGE. An image slot's end starts the READ of the next. The last slot of an image whose slots and check are
all correct ends the load LOADED, with every section applied at once: the lanes but lane 63, the stations, those not UNUSED ONLINE and due
at once, the rules INACTIVE, the signs' modes, the reduction slots' parameters with their windows empty and STALE, and the node
parameters with their levels in force. Any other image ends the load with BAD-IMAGE. NO-IMAGE and BAD-IMAGE leave every table as it was
but for the effective states and NEXT, derived again. The check is over the image's 26 slots with the preset and inversion of log entry 23. -/
def Obligations.LoadReadsImageInOrder : Prop :=
  (∀ s : State, s.ctl.op = some (.load 8064) → headerValid (s.storeSlot 8064) = true →
    exec (.loadReadDone none) s = .next { s with ctl := { s.ctl with
      op := some (.load 8065)
      timer := some (s.now + 50)
      generation := slotGeneration (s.storeSlot 8064)
      load := some { generation := slotGeneration (s.storeSlot 8064), imageCheck := headerImageCheck (s.storeSlot 8064),
                     slots := [], ok := true }
      ctr := { s.ctl.ctr with reads := bump s.ctl.ctr.reads } } }) ∧
  (∀ (ld : Load) (o : LoadOutcome) (s : State), ((s.ctl.op = some (.load 8064) ∧ headerValid (s.storeSlot 8064) = false ∧
        o = .failed .noImage) ∨
      (s.ctl.op = some (.load 8090) ∧ s.ctl.load = some ld ∧ o = .failed .badImage ∧ (ld.ok = false ∨
        imageSlotOk ld.generation (s.storeSlot 8090) = false ∨
        crc32 (ld.slots ++ [s.storeSlot 8090]).flatten ≠ ld.imageCheck))) →
    ∃ t : State, exec (.loadReadDone none) s = .next t ∧ t.ctl.lastLoad = some o ∧ t.ctl.load = none ∧
      t.ctl.generation = s.ctl.generation ∧ t.lanes = s.lanes ∧ t.poll.stations = s.poll.stations ∧ t.slots = s.slots ∧
      (∀ i : Fin 32, t.rules[i] = { s.rules[i] with effective := ruleEffective s.rules i }) ∧
      (∀ k : Fin 12, t.sign.signs[k].mode = s.sign.signs[k].mode ∧ t.sign.signs[k].pages = s.sign.signs[k].pages ∧
        t.sign.signs[k].request = s.sign.signs[k].request ∧ t.sign.signs[k].station = s.sign.signs[k].station) ∧
      t.sign.store = s.sign.store ∧ t.agent.params = s.agent.params ∧ t.sup = s.sup ∧ t.nv = s.nv) ∧
  (∀ (slot : Nat) (ld : Load) (s : State), s.ctl.op = some (.load slot) → s.ctl.load = some ld → slot ≠ 8064 → slot < 8090 →
    exec (.loadReadDone none) s = .next { s with ctl := { s.ctl with
      op := some (.load (slot + 1))
      timer := some (s.now + 50)
      load := some { ld with slots := ld.slots ++ [s.storeSlot slot],
                             ok := ld.ok && imageSlotOk ld.generation (s.storeSlot slot) }
      ctr := { s.ctl.ctr with reads := bump s.ctl.ctr.reads } } }) ∧
  (∀ (ld : Load) (L : List (List Byte)) (s : State), s.ctl.op = some (.load 8090) → s.ctl.load = some ld →
    L = ld.slots ++ [s.storeSlot 8090] → ld.ok = true → imageSlotOk ld.generation (s.storeSlot 8090) = true →
    crc32 L.flatten = ld.imageCheck →
    ∃ t : State, exec (.loadReadDone none) s = .next t ∧ t.ctl.lastLoad = some .loaded ∧ t.ctl.load = none ∧ t.nv = s.nv ∧
      t.lanes[63] = s.lanes[63] ∧
      (∀ (i : Fin 64) (x : LaneRecord), i.val ≠ 63 → LaneRecord.ofBytes? (imageRecord L 0 16 3 i.val) = some x →
        t.lanes[i] = { s.lanes[i] with active := x.active, service := x.service, peer := x.peer }) ∧
      (∀ (i : Fin 32) (x : StationRecord), StationRecord.ofBytes? (imageRecord L 4 4 10 i.val) = some x →
        t.poll.stations[i] =
          { state := if x.state = .unused then .unused else .online, drop := x.drop, address := x.address, kind := x.kind,
            period := x.period, link := x.link, location := x.location, shed := x.shed, miss := 0,
            due := if x.state = .unused then none else some s.now, voiceDue := none,
            come := if x.state = .unused then none else some s.now, good := 0, misses := 0 }) ∧
      (∀ (i : Fin 32) (x : RuleRecord), RuleRecord.ofBytes? (imageRecord L 12 4 14 i.val) = some x →
        t.rules[i] = { s.rules[i] with
          enabled := x.enabled, source := x.source, quantity := x.quantity, sense := x.sense, setLevel := x.setLevel,
          clearLevel := x.clearLevel, p := x.p, link := x.link, signs := x.signs, page := x.page, priority := x.priority,
          state := .inactive, count := 0, effective := false }) ∧
      (∀ (k : Fin 12) (m : IntensityMode), IntensityMode.ofBytes? (imageRecord L 20 4 6 k.val) = some m →
        t.sign.signs[k].mode = m ∧ t.sign.signs[k].pages = s.sign.signs[k].pages ∧
        t.sign.signs[k].request = s.sign.signs[k].request ∧ t.sign.signs[k].station = t.signStationOf k) ∧
      (∀ (k : Fin 8) (x : SlotRecord), SlotRecord.ofBytes? (imageRecord L 23 4 5 k.val) = some x →
        t.slots[k] = { s.slots[k] with
          depth := x.depth, offset := x.offset, kw := x.kw, useLight := x.useLight, station := t.feederOf k, surface := [],
          air := [], humidity := [], visibility := [], light := [], wind := [], gust := [], prev := none,
          derived := Derived.none, fresh := false }) ∧
      (∀ p : Params, Params.ofBytes? (imageRecord L 25 1 14 0) = some p → t.agent.params = p ∧
        t.sup = { s.sup with levels := { conserveEntry := p.conserveEntry, conserveExit := p.conserveExit,
                                         holdupEntry := p.holdupEntry, holdupExit := p.holdupExit } }))

/-! ### Advisories, signs and the supply monitor (chapters 9 and 10) -/

/-- R145, for a BELOW rule and for an ABOVE rule: the level a formed value meets, between the levels neither and nothing moves, and at
equal levels the one toward which the rule's state leads. -/
def Obligations.ValueMeetsLevelBySense : Prop :=
  ∀ (r : Rule) (v : Int),
    (r.sense = .below → (v ≤ r.setLevel → v < r.clearLevel → r.meets v = .set) ∧
      (r.clearLevel ≤ v → r.setLevel < v → r.meets v = .clear) ∧ (r.setLevel < v → v < r.clearLevel → r.meets v = .neither ∧ r.move v = r)) ∧
    (r.sense = .above → (r.setLevel ≤ v → r.clearLevel < v → r.meets v = .set) ∧
      (v ≤ r.clearLevel → v < r.setLevel → r.meets v = .clear) ∧ (v < r.setLevel → r.clearLevel < v → r.meets v = .neither ∧ r.move v = r)) ∧
    (r.setLevel = r.clearLevel → v = r.setLevel →
      r.meets v = if r.state = .inactive ∨ r.state = .pendingSet then .set else .clear)

/-- R146: a rule of persistence p becomes ACTIVE at the p-th reading that meets its set level, readings that meet neither level
breaking nothing, and not before; and an ACTIVE rule becomes INACTIVE so at the p-th that meets its clear level. Each entry is
counted once, and the count is 0 after it. A reading that meets the opposite level in a PENDING state returns the rule to where it
stood; one that meets the level of the state it stands in, or neither, changes nothing; and the count does not rise above p. -/
def Obligations.RulePersistenceCountsReadings : Prop :=
  ∀ (r : Rule) (vs : List Int), 1 ≤ r.p →
    (r.state = .inactive → r.count = 0 → (∀ v ∈ vs, ∀ q : RuleState, ({ r with state := q } : Rule).meets v ≠ .clear) →
      ((vs.filter fun v => r.meets v == .set).length < r.p → (vs.foldl Rule.move r).holds = false ∧
        (vs.foldl Rule.move r).count = (vs.filter fun v => r.meets v == .set).length ∧ (vs.foldl Rule.move r).sets = r.sets) ∧
      (r.p ≤ (vs.filter fun v => r.meets v == .set).length → (vs.foldl Rule.move r).state = .active ∧
        (vs.foldl Rule.move r).count = 0 ∧ (vs.foldl Rule.move r).sets = bump r.sets)) ∧
    (r.state = .active → r.count = 0 → (∀ v ∈ vs, ∀ q : RuleState, ({ r with state := q } : Rule).meets v ≠ .set) →
      ((vs.filter fun v => r.meets v == .clear).length < r.p → (vs.foldl Rule.move r).holds = true ∧
        (vs.foldl Rule.move r).count = (vs.filter fun v => r.meets v == .clear).length ∧
        (vs.foldl Rule.move r).clears = r.clears) ∧
      (r.p ≤ (vs.filter fun v => r.meets v == .clear).length → (vs.foldl Rule.move r).state = .inactive ∧
        (vs.foldl Rule.move r).count = 0 ∧ (vs.foldl Rule.move r).clears = bump r.clears)) ∧
    (∀ v : Int,
      (r.meets v = .neither ∨ (r.state = .inactive ∧ r.meets v = .clear) ∨ (r.state = .active ∧ r.meets v = .set) →
        r.move v = r) ∧
      (r.state = .pendingSet → r.meets v = .clear → r.move v = { r with state := .inactive, count := 0 }) ∧
      (r.state = .pendingClear → r.meets v = .set →
        r.move v = { r with state := .active, count := 0, sets := bump r.sets }) ∧
      (r.count ≤ r.p → (r.move v).count ≤ r.p))

/-- Arbitration. The candidates are the sign's operator request first, then by index the effective rules whose sign set has the sign, less
those whose page is not READY. The winner has the lowest priority number of them, and is the first of those that have it. A sign's NEXT after
arbitration is the winner's page, BLANK with none; a LIVE page stays until the refresh boundary and no other sign changes. The expiry of
a sign's request timer removes the request and reruns arbitration, the pages and everything outside sign service as they were; the
clock stands at the deadline or later (log entry 11). -/
def Obligations.ArbitrationTakesLeastPriority : Prop :=
  (∀ l : List Candidate, winner l = none ↔ l = []) ∧
  (∀ (l : List Candidate) (c : Candidate), winner l = some c → ∃ pre post : List Candidate, l = pre ++ c :: post ∧
    (∀ x ∈ pre, c.priority < x.priority) ∧ ∀ x ∈ post, c.priority ≤ x.priority) ∧
  (∀ (k : Fin 12) (l : List Candidate) (s : State), l =
      (match s.sign.signs[k].request with
       | none => []
       | some q => [{ page := q.page, priority := q.priority }]) ++
      (List.finRange 32).filterMap (fun i => if s.rules[i].effective = true ∧ s.rules[i].signs.getLsbD k.val = true then
        some { page := s.rules[i].page, priority := s.rules[i].priority } else none) →
    s.arbitrated k = (winner (l.filter fun c => s.sign.signs[k].pages[c.page].state == .ready)).map (·.page)) ∧
  (∀ (k : Fin 12) (s : State), (s.arbitrate k).sign.signs[k].next = s.arbitrated k ∧
    (s.sign.signs[k].live ≠ none → (s.arbitrate k).sign.signs[k].live = s.sign.signs[k].live) ∧
    (∀ j : Fin 12, j ≠ k → (s.arbitrate k).sign.signs[j] = s.sign.signs[j])) ∧
  (∀ (k : Fin 12) (q : Request) (dl : Nat) (s : State), s.sign.signs[k].request = some q → q.expiry = some dl →
    ∃ t : State, exec (.signRequestExpiry k) s = .next t ∧ t.sign.signs[k].request = none ∧
      t.sign.signs[k].next = t.arbitrated k ∧ t.sign.signs[k].pages = s.sign.signs[k].pages ∧
      (s.sign.signs[k].live ≠ none → t.sign.signs[k].live = s.sign.signs[k].live ∧
        t.sign.signs[k].cursor = s.sign.signs[k].cursor) ∧
      (s.sign.signs[k].live = none → s.sign.signs[k].next = none → t.sign.signs[k].live = t.sign.signs[k].next) ∧
      (∀ j : Fin 12, j ≠ k → t.sign.signs[j] = s.sign.signs[j]) ∧ t.sign.store = s.sign.store ∧
      t = { s with now := max s.now dl, sign := t.sign })

/-- The outcome of a SIGN poll reaches the record of the snapshot's link, and moves it alone. Its chunk in flight becomes absent and the
outcome is counted. With no chunk in flight, or one of another page than LIVE, it is also counted stale (counted both ways: the model's
choice, log entry 34) and nothing else moves. CHUNK-OK with LIVE a page advances the cursor by 32, and at the page's size takes it to 0,
where a NEXT that differs from LIVE becomes LIVE and the swap is counted; with LIVE BLANK, and after CHUNK-AGAIN, a mismatch or a miss,
the cursor stays. A NEXT that changes while LIVE is BLANK becomes LIVE at once with the cursor at 0, and while LIVE is a page changes NEXT
alone. -/
def Obligations.ChunkOutcomeMovesCursor : Prop :=
  (∀ (x : Snapshot) (k : Fin 12) (e : ExchangeEnd) (o : SignOutcome) (s : State), x.kind = .sign → signOf? x.link = some k →
    o = (match e with
      | .good .chunkOk => .ok
      | .good .chunkAgain => .again
      | _ => .miss) →
    s.reportOutcome x e = { s with sign := { s.sign with signs := updAt s.sign.signs k fun r => r.outcome o } }) ∧
  (∀ (r : Sign) (o : SignOutcome) (c : SignCounters), c = (match o with
      | .ok => { r.ctr with chunkOk := bump r.ctr.chunkOk }
      | .again => { r.ctr with chunkAgain := bump r.ctr.chunkAgain }
      | .miss => { r.ctr with chunkMiss := bump r.ctr.chunkMiss }) →
    ((r.chunk = none ∨ ∃ f : Chunk, r.chunk = some f ∧ f.page ≠ r.live) →
      r.outcome o = { r with chunk := none, ctr := { c with stale := bump r.ctr.stale } }) ∧
    (∀ f : Chunk, r.chunk = some f → f.page = r.live →
      ((r.live = none ∨ o = .again ∨ o = .miss) → r.outcome o = { r with chunk := none, ctr := c }) ∧
      (∀ p : Fin 8, r.live = some p → o = .ok →
        (r.cursor + 32 ≠ r.pages[p].size → r.outcome o = { r with chunk := none, ctr := c, cursor := r.cursor + 32 }) ∧
        (r.cursor + 32 = r.pages[p].size → r.next = r.live → r.outcome o = { r with chunk := none, ctr := c, cursor := 0 }) ∧
        (r.cursor + 32 = r.pages[p].size → r.next ≠ r.live → r.outcome o =
          { r with chunk := none, ctr := { c with swaps := bump r.ctr.swaps }, cursor := 0, live := r.next })))) ∧
  (∀ (r : Sign) (n : Option (Fin 8)), (n = r.next → r.setNext n = r) ∧
    (n ≠ r.next → r.live = none → r.setNext n = { r with next := n, live := n, cursor := 0 }) ∧
    (n ≠ r.next → r.live ≠ none → r.setNext n = { r with next := n }))

/-- A sample joins the window of at most 8, 4000 at most, takes the levels last written into force and restarts the sample timer; the clock
stands at the deadline or later (log entry 11). Below 8 samples nothing else changes. With 8 the average is the floor of their mean, the
lowest average is kept, and the state is judged: HOLDUP when the feed is lost or the average is below holdup-entry, CONSERVE from NORMAL
when it is below conserve-entry and conserve-exit, and unchanged otherwise or in HOLDUP. After the judgement the settle timer is tested:
in CONSERVE with the average at conserve-exit or above, and in HOLDUP with the feed not lost and the average at holdup-exit or above, it
starts for 2000 ms or runs on; otherwise it is cancelled, a running one counted as a settle restart. In NORMAL it is not touched, and
after a change of state it does not run (stated for levels in R162's order, holdup-entry at most holdup-exit). -/
def Obligations.SampleIsAveragedAndJudged : Prop :=
  ∀ (level : Nat) (w : List Nat) (s : State), s.repeater = false → s.sup.window.length ≤ 8 →
    w = (if s.sup.window.length = 8 then s.sup.window.drop 1 else s.sup.window) ++ [min level 4000] →
    ∃ t : State, exec (.sampleTimerExpiry level) s = .next t ∧ t.now = max s.now s.sup.sample ∧ t.sup.window = w ∧
      t.sup.sample = t.now + 1 ∧ t.sup.feedLost = s.sup.feedLost ∧ t.sup.levels = s.agent.params.levels ∧
      (w.length < 8 → t = { s with now := t.now, sup := { s.sup with levels := s.agent.params.levels, window := w, average := none, sample := t.now + 1 } }) ∧
      (w.length = 8 → t.sup.average = some (w.sum / 8) ∧
        t.sup.lowest = some (match s.sup.lowest with | none => w.sum / 8 | some b => min (w.sum / 8) b) ∧
        (s.sup.state = .holdup → t.sup.state = .holdup ∧ t.sup.cause = s.sup.cause) ∧
        (s.sup.state ≠ .holdup → s.sup.feedLost = true → t.sup.state = .holdup ∧ t.sup.cause = some .feedLost) ∧
        (s.sup.state ≠ .holdup → s.sup.feedLost = false → w.sum / 8 < s.agent.params.holdupEntry →
          t.sup.state = .holdup ∧ t.sup.cause = some .level) ∧
        (s.sup.state ≠ .holdup → s.sup.feedLost = false → s.agent.params.holdupEntry ≤ w.sum / 8 →
          (s.sup.state = .normal ∧ w.sum / 8 < s.agent.params.conserveEntry ∧ w.sum / 8 < s.agent.params.conserveExit →
            t.sup.state = .conserve ∧ t.sup.cause = some .level) ∧
          (¬(s.sup.state = .normal ∧ w.sum / 8 < s.agent.params.conserveEntry ∧ w.sum / 8 < s.agent.params.conserveExit) →
            t.sup.state = s.sup.state ∧ t.sup.cause = s.sup.cause)) ∧
        (∀ hold : Prop, ((s.sup.state = .holdup ∧ (hold ↔ s.sup.feedLost = false ∧ s.agent.params.holdupExit ≤ w.sum / 8)) ∨
            (s.sup.state = .conserve ∧ t.sup.state = .conserve ∧ (hold ↔ s.agent.params.conserveExit ≤ w.sum / 8))) →
          (hold → s.sup.settle = none → t.sup.settle = some (t.now + 2000) ∧ t.sup.settleRestarts = s.sup.settleRestarts) ∧
          (hold → s.sup.settle ≠ none → t.sup.settle = s.sup.settle ∧ t.sup.settleRestarts = s.sup.settleRestarts) ∧
          (¬hold → s.sup.settle ≠ none → t.sup.settle = none ∧ t.sup.settleRestarts = bump s.sup.settleRestarts) ∧
          (¬hold → s.sup.settle = none → t.sup.settle = none ∧ t.sup.settleRestarts = s.sup.settleRestarts)) ∧
        (s.sup.state = .normal → t.sup.state = .normal →
          t.sup.settle = s.sup.settle ∧ t.sup.settleRestarts = s.sup.settleRestarts) ∧
        (t.sup.state ≠ s.sup.state → s.agent.params.holdupEntry ≤ s.agent.params.holdupExit →
          t.sup.settle = none ∧ t.sup.settleRestarts = s.sup.settleRestarts))

/-- The settle timer's expiry ends CONSERVE in NORMAL, and HOLDUP in CONSERVE while the average is below conserve-exit and in NORMAL
otherwise, each with cause SETTLED and the timer stopped; a HALTED journal is opened again. With no average formed, which no run reaches
in HOLDUP, it ends in NORMAL (the model's filler, log entry 39); the clock stands at the deadline or later (log entry 11). An assertion of the
feed-lost input is counted; with an average formed it takes NORMAL and CONSERVE to HOLDUP with cause FEED-LOST, without one it changes no
state, and in HOLDUP it stops the settle timer. A negation starts the settle timer in HOLDUP when the average stands at holdup-exit or
above, and changes nothing else. The levels are those in force, which a write since the last sample has not changed. -/
def Obligations.SettleAndFeedLostMoveSupply : Prop :=
  (∀ (dl : Nat) (s : State), s.repeater = false → s.sup.settle = some dl → s.sup.state ≠ .normal →
    ∃ t : State, exec .settleTimerExpiry s = .next t ∧
      t.sup.state = (match s.sup.state, s.sup.average with
        | .holdup, some avg => if avg < s.sup.levels.conserveExit then .conserve else .normal
        | _, _ => .normal) ∧
      t.sup.cause = some .settled ∧ t.sup.settle = none ∧ t.sup.changedAt = some (max s.now dl) ∧
      t.sup.average = s.sup.average ∧
      (s.sup.state = .holdup → s.jrnl.cond = .halted →
        t.jrnl.cond = if s.jrnl.holdsSlot s.jrnl.cursor = true then .full else .accepting)) ∧
  (∀ s : State, s.repeater = false → s.sup.feedLost = false →
    ∃ t : State, exec .feedLostAsserted s = .next t ∧ t.sup.feedLost = true ∧ t.sup.feedLosses = bump s.sup.feedLosses ∧
      t.sup.average = s.sup.average ∧
      (s.sup.state ≠ .holdup → s.sup.average.isSome = true → t.sup.state = .holdup ∧ t.sup.cause = some .feedLost ∧
        t.sup.settle = none ∧ t.sup.holdupEntries = bump s.sup.holdupEntries) ∧
      (s.sup.state ≠ .holdup → s.sup.average = none →
        t = { s with sup := { s.sup with feedLost := true, feedLosses := bump s.sup.feedLosses } }) ∧
      (s.sup.state = .holdup →
        t = { s with sup := { s.sup with feedLost := true, feedLosses := bump s.sup.feedLosses, settle := none } })) ∧
  (∀ s : State, s.repeater = false → s.sup.feedLost = true →
    exec .feedLostNegated s = .next { s with sup := { s.sup with
      feedLost := false
      settle := match s.sup.state, s.sup.average with
        | .holdup, some avg => if s.sup.levels.holdupExit ≤ avg then some (s.now + 2000) else s.sup.settle
        | _, _ => s.sup.settle } })

/-- A change of supply state sets the new state, its cause and its moment, cancels the settle timer and counts the entry. It sets every drop's
broadcast-pending flag: a busy line keeps it set, and an IDLE one begins the broadcast at once, a SUPPLY frame to address 31 with the new
state, the flag cleared and the broadcast counted as it begins (the moment is log entry 34's). One supply notice is queued. Into HOLDUP an
ACCEPTING or FULL journal is HALTED, its staging empty and no answer left but PROCESSING ones; out of HOLDUP a HALTED one is opened (with
no FULL notice when its cursor's slot is held: the model's choice, log entry 25). The stations, the calls, the tables and the store stay
as they are. -/
def Obligations.SupplyChangeSetsBroadcasts : Prop :=
  ∀ (new : SupplyState) (cause : SupplyCause) (s t : State), s.repeater = false → t = s.changeSupply new cause →
    t.sup = { s.sup with
      state := new, cause := some cause, changedAt := some s.now, settle := none
      normalEntries := if new = .normal then bump s.sup.normalEntries else s.sup.normalEntries
      conserveEntries := if new = .conserve then bump s.sup.conserveEntries else s.sup.conserveEntries
      holdupEntries := if new = .holdup then bump s.sup.holdupEntries else s.sup.holdupEntries } ∧
    (∀ d : Fin 4,
      (s.poll.drops[d].line ≠ .idle → t.poll.drops[d] = { s.poll.drops[d] with broadcast := true }) ∧
      (s.poll.drops[d].line = .idle → t.poll.drops[d] = { s.poll.drops[d] with
        line := .sending, broadcast := false
        exch := some { snap := none, voice := false, begun := s.now, frame := frameBytes false 31 2 [new.code] }
        ctr := { s.poll.drops[d].ctr with broadcasts := bump s.poll.drops[d].ctr.broadcasts } })) ∧
    t.agent.serial = s.agent.serial + 1 ∧
    (s.agent.notices ≠ [] → s.agent.notices.length < 16 → t.agent.notices = s.agent.notices ++
      [{ serial := s.agent.serial, time := s.now % 4294967296, body := .supply s.sup.state new cause s.sup.average }]) ∧
    (new = .holdup → (s.jrnl.cond = .accepting ∨ s.jrnl.cond = .full) → t.jrnl.cond = .halted ∧ t.jrnl.staging = [] ∧
      t.jrnl.hand = s.jrnl.hand ∧ t.jrnl.held = s.jrnl.held ∧ t.jrnl.inTransit = s.jrnl.inTransit ∧
      ∀ (i : Fin 32) (e : AnswerEntry), e ∈ t.jrnl.answers[i] → e ∈ s.jrnl.answers[i] ∧ e.state = .processing) ∧
    (new ≠ .holdup → s.sup.state = .holdup → s.jrnl.cond = .halted →
      t.jrnl.cond = if s.jrnl.holdsSlot s.jrnl.cursor = true then .full else .accepting) ∧
    t = { s with sup := t.sup, poll := { s.poll with drops := t.poll.drops }, agent := t.agent
                 ring := { s.ring with mq := t.ring.mq }, jrnl := t.jrnl, ctl := t.ctl }

/-! ### In-band management (chapter 11) -/

/-- The order in which a command taken is judged, and the first refusal found. Each refusal leaves the tables as they are and its
reply stands where withReply puts it. -/
def Obligations.RefusalsFollowTheirOrder : Prop :=
  ∀ (c : Command) (s : State), s.agentQuiet = true →
    (s.notReady = true → c.code ≠ cmdStatus → s.agentReceive c = s.commandTaken.withReply c .notReady []) ∧
    (s.notReady = false → (c.code = 0 ∨ 12 ≤ c.code.toNat) → s.agentReceive c = s.commandTaken.withReply c .unknown []) ∧
    (s.notReady = false → 1 ≤ c.code.toNat → c.code.toNat ≤ 11 → c.order? = none →
      s.agentReceive c = s.commandTaken.withReply c .badValue []) ∧
    (∀ o : Order, s.notReady = false → 1 ≤ c.code.toNat → c.code.toNat ≤ 11 → c.order? = some o →
      (o.inRange = false → s.agentReceive c = s.commandTaken.withReply c .badIndex []) ∧
      (o.inRange = true → o.savesOrWrites = true → s.ctl.save.isSome = true →
        s.agentReceive c = s.commandTaken.withReply c .busy []))

/-- STATUS is answered in full in every state of the agent, NOT-READY included, and READ-ENTRY with the entry of its table: the reply
stands where withReply puts it, the command is counted as taken, and nothing else changes. The values are as they stand with the
command itself counted (log entry 34), laid out as log entry 24 says. -/
def Obligations.ReadsAnswerAndChangeNothing : Prop :=
  (∀ (src : NodeId) (tag gb : Byte) (g : Group) (s : State), s.agentQuiet = true → Group.ofCode? gb = some g →
    exec (.status src tag gb) s = .next (s.commandTaken.withReply { src := src, tag := tag, code := cmdStatus, body := [gb] }
      .done (s.commandTaken.groupStatus g))) ∧
  (∀ (src : NodeId) (tag tb ib : Byte) (t : Table) (s : State), s.agentIdle = true → Table.ofCode? tb = some t →
    ib.toNat < t.size →
    exec (.readEntry src tag tb ib) s = .next (s.commandTaken.withReply
      { src := src, tag := tag, code := cmdReadEntry, body := [tb, ib] } .done (s.commandTaken.entryStatus t ib.toNat)))

/-- CLEAR-COUNTERS makes every counter of its group 0, and the lowest average absent with those of SUPPLY, clears no other group's, is
answered DONE, and keeps everything that is not a counter. The command itself counts as taken first, so that COUNTERS clears that too
(the moment is log entry 34's). -/
def Obligations.ClearCountersZeroesItsGroup : Prop :=
  ∀ (src : NodeId) (tag gb : Byte) (g : Group) (s : State), s.agentIdle = true → Group.ofCode? gb = some g →
    ∃ u : State, exec (.clearCounters src tag gb) s =
        .next (u.withReply { src := src, tag := tag, code := cmdClearCounters, body := [gb] } .done []) ∧
      (g = .ring → u = { s.commandTaken with
        ring := { s.ring with
          rx := ⟨⟨0, 0, 0⟩, ⟨0, 0, 0⟩⟩, dirs := ⟨⟨0, 0, 0, 0⟩, ⟨0, 0, 0, 0⟩⟩, tx := ⟨⟨0, 0⟩, ⟨0, 0⟩⟩
          restartEq := 0, restartTq := 0, restartAq := 0 }
        prot := { s.prot with
          ports := ⟨{ s.prot.ports.e with looped := 0, provingFailed := 0, linkDown := 0 },
                    { s.prot.ports.w with looped := 0, provingFailed := 0, linkDown := 0 }⟩
          changes := 0, wrap := ⟨⟨0, 0⟩, ⟨0, 0⟩⟩, isoEq := 0, isoTq := 0, isoMq := 0, isoAq := 0 } }) ∧
      (g = .drop → (∀ d : Fin 4, u.poll.drops[d] = { s.poll.drops[d] with ctr := ⟨0, 0, 0, 0, 0, 0, 0, 0, 0⟩ }) ∧
        (∀ i : Fin 32, u.poll.stations[i] = { s.poll.stations[i] with good := 0, misses := 0 }) ∧
        u = { s.commandTaken with poll := u.poll }) ∧
      (g = .calls → (∀ r : Fin 16, u.calls.records[r] = { s.calls.records[r] with
          voice := { s.calls.records[r].voice with ctr := VoiceCounters.zero } }) ∧
        u = { s.commandTaken with calls := { s.calls with
          records := u.calls.records, totals := VoiceCounters.zero, unseated := 0
          ctr := { requested := 0, answered := 0, clearOnHook := 0, clearLineLost := 0, clearCentre := 0, clearForced := 0,
                   isolations := 0, waitListFull := 0, signallingLost := 0, unknownId := 0, lateSignal := 0 } } }) ∧
      (g = .journal → u = { s.commandTaken with
        jrnl := { s.jrnl with ctr := JournalCounters.zero }, ctl := { s.ctl with ctr := ⟨0, 0, 0, 0, 0, 0, 0⟩ } }) ∧
      (g = .supply → u = { s.commandTaken with sup := { s.sup with
        normalEntries := 0, conserveEntries := 0, holdupEntries := 0, feedLosses := 0, settleRestarts := 0, lowest := none } }) ∧
      (g = .lanes → (∀ i : Fin 64, u.lanes[i] = { s.lanes[i] with delivered := 0, refused := 0 }) ∧
        u = { s.commandTaken with lanes := u.lanes }) ∧
      (g = .signs → (∀ i : Fin 32, u.rules[i] = { s.rules[i] with sets := 0, clears := 0 }) ∧
        (∀ k : Fin 12, u.sign.signs[k] = { s.sign.signs[k] with ctr := ⟨0, 0, 0, 0, 0⟩ }) ∧
        u = { s.commandTaken with rules := u.rules, sign := { s.sign with signs := u.sign.signs } }) ∧
      (g = .counters → (∀ k : Fin 8, u.slots[k] = { s.slots[k] with ctr := SlotCounters.zero }) ∧
        u = { s with slots := u.slots, agent := { s.agent with
          taken := 0, busyReplies := 0, overflow := 0, queued := 0, lost := 0 } })

/-- The writes of five tables that pass, each answered DONE. A lane, with no call SEIZED and nothing read ahead, takes its three fields;
the write of a VOICE lane that is bound is refused STATE. A rule, where no rule holds, takes its configured fields and becomes INACTIVE
with count 0; a sign takes its intensity mode; a reduction slot its parameters, unchanged ones leaving it as it is and a new depth
emptying every window but the gust window; and the node parameters are all set at once, the supply monitor's levels in force staying until
the next sample. -/
def Obligations.TableWritesSetFields : Prop :=
  (∀ (src : NodeId) (tag index state service peer : Byte) (i : Fin 64) (s : State), s.agentIdle = true → s.ctl.save = none →
    index.toNat = i.val → i.val ≠ 63 →
    (∀ x : LaneRecord, LaneRecord.ofBytes? [state, service, peer] = some x →
      (s.lanes[i].service = .voice → s.lanes[i].binding = none) → (∀ r : Fin 16, s.calls.records[r].state ≠ .seized) →
      s.jrnl.readAhead = [] →
      exec (.writeEntryLane src tag index state service peer) s = .next (
        ({ s.commandTaken with lanes := updAt s.lanes i fun e =>
            { e with active := x.active, service := x.service, peer := x.peer } } : State).withReply
          { src := src, tag := tag, code := cmdWriteEntry, body := [0, index, state, service, peer] } .done [])) ∧
    (s.lanes[i].service = .voice → s.lanes[i].binding.isSome = true →
      exec (.writeEntryLane src tag index state service peer) s = .next (s.commandTaken.withReply
        { src := src, tag := tag, code := cmdWriteEntry, body := [0, index, state, service, peer] } .state []))) ∧
  (∀ (src : NodeId) (tag index enabled source quantity sense p link page priority : Byte) (set clear signs : BitVec 16)
      (i : Fin 32) (x : RuleRecord) (s : State), s.agentIdle = true → s.ctl.save = none → index.toNat = i.val →
    RuleRecord.ofBytes? ([enabled, source, quantity, sense] ++ be16 set ++ be16 clear ++ [p, link] ++ be16 signs
      ++ [page, priority]) = some x →
    (∀ j : Fin 32, s.rules[j].holds = false ∧ s.rules[j].effective = false) →
    ∃ t : State, exec (.writeEntryRule src tag index enabled source quantity sense set clear p link signs page priority) s =
        .next (t.withReply
          { src := src, tag := tag, code := cmdWriteEntry,
            body := [2, index, enabled, source, quantity, sense] ++ be16 set ++ be16 clear ++ [p, link] ++ be16 signs
              ++ [page, priority] } .done []) ∧
      t = { s.commandTaken with
        rules := updAt s.rules i fun r => { r with
          enabled := x.enabled, source := x.source, quantity := x.quantity, sense := x.sense, setLevel := x.setLevel,
          clearLevel := x.clearLevel, p := x.p, link := x.link, signs := x.signs, page := x.page, priority := x.priority,
          state := .inactive, count := 0 }
        sign := t.sign }) ∧
  (∀ (src : NodeId) (tag index station mode level minimum : Byte) (slope : BitVec 16) (k : Fin 12) (m : IntensityMode)
      (s : State), s.agentIdle = true → s.ctl.save = none → index.toNat = k.val →
    IntensityMode.ofBytes? ([station, mode, level, minimum] ++ be16 slope) = some m →
    ∃ t : State, exec (.writeEntrySign src tag index station mode level minimum slope) s =
        .next (t.withReply
          { src := src, tag := tag, code := cmdWriteEntry, body := [3, index, station, mode, level, minimum] ++ be16 slope } .done []) ∧
      t.sign.signs[k].mode = m ∧ t.sign.signs[k].next = t.arbitrated k ∧ t.sign.signs[k].pages = s.sign.signs[k].pages ∧
      t = { s.commandTaken with sign := { s.sign with signs := updAt s.sign.signs k fun _ => t.sign.signs[k] } }) ∧
  (∀ (src : NodeId) (tag index depth offset light : Byte) (kw : BitVec 16) (k : Fin 8) (x : SlotRecord) (s : State),
    s.agentIdle = true → s.ctl.save = none → index.toNat = k.val →
    SlotRecord.ofBytes? ([depth, offset] ++ be16 kw ++ [light]) = some x →
    ∃ t : State, exec (.writeEntrySlot src tag index depth offset kw light) s =
        .next (t.withReply
          { src := src, tag := tag, code := cmdWriteEntry, body := [4, index, depth, offset] ++ be16 kw ++ [light] } .done []) ∧
      t.slots[k].depth = x.depth ∧ t.slots[k].offset = x.offset ∧ t.slots[k].kw = x.kw ∧ t.slots[k].useLight = x.useLight ∧
      t.slots[k].fresh = s.slots[k].fresh ∧ t.slots[k].prev = s.slots[k].prev ∧
      (x.depth ≠ s.slots[k].depth → t.slots[k].surface = [] ∧ t.slots[k].air = [] ∧ t.slots[k].humidity = [] ∧
        t.slots[k].visibility = [] ∧ t.slots[k].light = [] ∧ t.slots[k].wind = [] ∧
        (x.kw = s.slots[k].kw → t.slots[k].gust = s.slots[k].gust)) ∧
      (x.depth = s.slots[k].depth → x.offset = s.slots[k].offset → x.kw = s.slots[k].kw → x.useLight = s.slots[k].useLight →
        t.slots[k] = s.slots[k]) ∧
      t = { s.commandTaken with slots := updAt s.slots k fun _ => t.slots[k] }) ∧
  (∀ (src : NodeId) (tag index ringSize wTq wMq wAq primary secondary : Byte) (ce cx he hx : BitVec 16) (p : Params)
      (s : State), s.agentIdle = true → s.ctl.save = none → index = 0 →
    Params.ofBytes? ([ringSize, wTq, wMq, wAq] ++ be16 ce ++ be16 cx ++ be16 he ++ be16 hx ++ [primary, secondary]) = some p →
    exec (.writeEntryParam src tag index ringSize wTq wMq wAq ce cx he hx primary secondary) s =
      .next (({ s.commandTaken with agent := { s.commandTaken.agent with params := p } } : State).withReply
        { src := src, tag := tag, code := cmdWriteEntry, body :=
          [5, index, ringSize, wTq, wMq, wAq] ++ be16 ce ++ be16 cx ++ be16 he ++ be16 hx ++ [primary, secondary] }
        .done []))

/-- A station write that passes. Into an unused entry, or with another drop, address or kind, it sets up a new station, ONLINE with
its miss count and counters 0 and due at once; UNUSED removes the station, the entry taking the fields carried all the same (the model's
choice, log entry 28); otherwise the configured fields change and the run-time fields stay. Every other entry stays as it is, and the
command is answered DONE. A station whose PHONE is in a call or on the wait list is refused STATE. -/
def Obligations.StationWriteSetsUpStation : Prop :=
  ∀ (src : NodeId) (tag index state drop address kind link shed : Byte) (period location : BitVec 16) (i : Fin 32) (c : Command)
    (s : State), s.agentIdle = true → s.ctl.save = none → index.toNat = i.val →
    c = { src := src, tag := tag, code := cmdWriteEntry,
          body := [1, index, state, drop, address, kind] ++ be16 period ++ [link] ++ be16 location ++ [shed] } →
    (∀ x : StationRecord, s.stationBusy i = false →
      StationRecord.ofBytes? ([state, drop, address, kind] ++ be16 period ++ [link] ++ be16 location ++ [shed]) = some x →
      s.stationClashes i x = false → s.dropFull i x = false →
      ∃ t : State, exec (.writeEntryStation src tag index state drop address kind period link location shed) s = .next t ∧
        t.ring = (s.commandTaken.withReply c .done []).ring ∧ t.agent = (s.commandTaken.withReply c .done []).agent ∧
        (∀ k : Fin 32, k ≠ i → t.poll.stations[k] = s.poll.stations[k]) ∧
        t.poll.stations[i].drop = x.drop ∧ t.poll.stations[i].address = x.address ∧ t.poll.stations[i].kind = x.kind ∧
        t.poll.stations[i].period = x.period ∧ t.poll.stations[i].link = x.link ∧
        t.poll.stations[i].location = x.location ∧ t.poll.stations[i].shed = x.shed ∧
        (x.state = .unused → t.poll.stations[i].state = .unused ∧ t.poll.stations[i].due = none ∧
          t.poll.stations[i].miss = 0) ∧
        (x.state ≠ .unused → (s.poll.stations[i].state = .unused ∨ s.poll.stations[i].drop ≠ x.drop ∨
            s.poll.stations[i].address ≠ x.address ∨ s.poll.stations[i].kind ≠ x.kind) →
          t.poll.stations[i].state = .online ∧ t.poll.stations[i].due = some s.now ∧ t.poll.stations[i].miss = 0 ∧
          t.poll.stations[i].good = 0 ∧ t.poll.stations[i].misses = 0 ∧ t.poll.stations[i].voiceDue = none) ∧
        (x.state ≠ .unused → s.poll.stations[i].state ≠ .unused → s.poll.stations[i].drop = x.drop →
          s.poll.stations[i].address = x.address → s.poll.stations[i].kind = x.kind →
          t.poll.stations[i].state = s.poll.stations[i].state ∧ t.poll.stations[i].due = s.poll.stations[i].due ∧
          t.poll.stations[i].miss = s.poll.stations[i].miss) ∧
        t = { s with ring := t.ring, agent := t.agent, poll := t.poll, calls := t.calls, jrnl := t.jrnl, slots := t.slots,
                     sign := t.sign }) ∧
    (s.stationBusy i = true →
      exec (.writeEntryStation src tag index state drop address kind period link location shed) s =
        .next (s.commandTaken.withReply c .state []))

/-- PAGE-OPEN of a page that its sign does not show makes the page FILLING with the number of units its size needs, units that no other page
holds, every byte of which reads 0; with too few units free it is refused FULL. PAGE-DATA of 1 to 48 bytes into a FILLING or READY page
that its sign does not show, and that ends within the page: the bytes stand at their addresses in the page's units, the filled count is
the end of the data, or in a FILLING page what it was where that is greater, and the page is READY when that is its size and else FILLING;
a READY one reruns arbitration. PAGE-DISCARD of a page that its sign does not show and that is not EMPTY leaves it EMPTY, of no size and
no units, and NEXT the outcome of arbitration; of a page that its sign shows it is refused STATE. Of an EMPTY page it changes nothing. No
other page and no other byte of the page store changes. -/
def Obligations.PageCommandsMovePages : Prop :=
  (∀ (src : NodeId) (tag sb pb size : Byte) (k : Fin 12) (p : Fin 8) (n : Nat) (s : State), s.agentIdle = true →
    s.pagesOk = true → sb.toNat = k.val → pb.toNat = p.val → ((size = 1 ∧ n = 1) ∨ (size = 2 ∧ n = 2)) →
    s.sign.signs[k].live ≠ some p → s.sign.signs[k].next ≠ some p →
    ((s.sign.freeUnits.length < n → s.sign.signs[k].pages[p].units = [] →
      exec (.pageOpen src tag sb pb size) s = .next (s.commandTaken.withReply
        { src := src, tag := tag, code := cmdPageOpen, body := [sb, pb, size] } .full [])) ∧
    (n ≤ s.sign.freeUnits.length →
      ∃ t : State, exec (.pageOpen src tag sb pb size) s =
          .next (t.withReply { src := src, tag := tag, code := cmdPageOpen, body := [sb, pb, size] } .done []) ∧
        t.sign.signs[k].pages[p].state = .filling ∧ t.sign.signs[k].pages[p].size = 128 * n ∧
        t.sign.signs[k].pages[p].filled = 0 ∧ t.sign.signs[k].pages[p].units.length = n ∧
        (∀ u ∈ t.sign.signs[k].pages[p].units, u < 256 ∧
          (∀ (j : Fin 12) (q : Fin 8), ¬(j = k ∧ q = p) → u ∉ s.sign.signs[j].pages[q].units) ∧
          ∀ b : Nat, b < 128 → Memory.read pageBlank t.sign.store (128 * u + b) = 0) ∧
        (∀ (j : Fin 12) (q : Fin 8), ¬(j = k ∧ q = p) → t.sign.signs[j].pages[q] = s.sign.signs[j].pages[q]) ∧
        (∀ a : Nat, a / 128 ∉ t.sign.signs[k].pages[p].units →
          Memory.read pageBlank t.sign.store a = Memory.read pageBlank s.sign.store a) ∧
        t = { s.commandTaken with sign := t.sign }))) ∧
  (∀ (src : NodeId) (tag sb pb ob : Byte) (data : List Byte) (k : Fin 12) (p : Fin 8) (g : Page) (n : Nat) (s : State),
    s.agentIdle = true → s.pagesOk = true → sb.toNat = k.val → pb.toNat = p.val → s.sign.signs[k].pages[p] = g →
    g.state ≠ .empty → s.sign.signs[k].live ≠ some p → s.sign.signs[k].next ≠ some p → 1 ≤ data.length →
    data.length ≤ 48 → ob.toNat + data.length ≤ g.size → g.size = 128 * g.units.length → g.units.Nodup →
    n = (if g.state = .ready then ob.toNat + data.length else max g.filled (ob.toNat + data.length)) →
    ∃ t : State, exec (.pageData src tag sb pb ob data) s = .next (t.withReply
        { src := src, tag := tag, code := cmdPageData, body := [sb, pb, ob] ++ data } .done []) ∧
      (∀ j : Nat, j < data.length → Memory.read pageBlank t.sign.store (g.address (ob.toNat + j)) = byteAt data j) ∧
      (∀ a : Nat, (∀ j : Nat, j < data.length → a ≠ g.address (ob.toNat + j)) →
        Memory.read pageBlank t.sign.store a = Memory.read pageBlank s.sign.store a) ∧
      t.sign.signs[k].pages[p] = { g with filled := n, state := if n = g.size then .ready else .filling } ∧
      (∀ q : Fin 8, q ≠ p → t.sign.signs[k].pages[q] = s.sign.signs[k].pages[q]) ∧
      (n = g.size → t.sign.signs[k].next = t.arbitrated k) ∧
      (n ≠ g.size → t.sign.signs[k].next = s.sign.signs[k].next ∧ t.sign.signs[k].live = s.sign.signs[k].live) ∧
      (∀ j : Fin 12, j ≠ k → t.sign.signs[j] = s.sign.signs[j]) ∧ t = { s.commandTaken with sign := t.sign }) ∧
  (∀ (src : NodeId) (tag sb pb : Byte) (k : Fin 12) (p : Fin 8) (c : Command) (s : State), s.agentIdle = true →
    sb.toNat = k.val → pb.toNat = p.val → c = { src := src, tag := tag, code := cmdPageDiscard, body := [sb, pb] } →
    (s.sign.signs[k].live ≠ some p → s.sign.signs[k].next ≠ some p → s.sign.signs[k].pages[p].state ≠ .empty →
      ∃ t : State, exec (.pageDiscard src tag sb pb) s = .next (t.withReply c .done []) ∧
        t.sign.signs[k].pages[p] = { state := .empty, size := 0, units := [], filled := 0 } ∧
        (∀ q : Fin 8, q ≠ p → t.sign.signs[k].pages[q] = s.sign.signs[k].pages[q]) ∧
        t.sign.signs[k].next = t.arbitrated k ∧ t.sign.store = s.sign.store ∧
        (∀ j : Fin 12, j ≠ k → t.sign.signs[j] = s.sign.signs[j]) ∧ t = { s.commandTaken with sign := t.sign }) ∧
    (s.sign.signs[k].live ≠ some p → s.sign.signs[k].next ≠ some p → s.sign.signs[k].pages[p].state = .empty →
      exec (.pageDiscard src tag sb pb) s = .next (s.commandTaken.withReply c .done [])) ∧
    (s.sign.signs[k].live = some p ∨ s.sign.signs[k].next = some p →
      exec (.pageDiscard src tag sb pb) s = .next (s.commandTaken.withReply c .state [])))

/-- SIGN-SET in its ranges replaces the sign's request, with an expiry timer of its minutes unless they are 0, and reruns
arbitration; out of range of its priority or its expiry it is refused BAD-VALUE. SIGN-CANCEL removes the request and its timer and
reruns arbitration; on a sign with no request it changes nothing. Each is otherwise answered DONE. -/
def Obligations.SignSetAndCancelMoveRequest : Prop :=
  ∀ (src : NodeId) (tag sb pb prio : Byte) (minutes : BitVec 16) (k : Fin 12) (p : Fin 8) (s : State), s.agentIdle = true →
    sb.toNat = k.val → pb.toNat = p.val →
    (prio.toNat ≤ 15 → minutes.toNat ≤ 1440 → ∃ t : State, exec (.signSet src tag sb pb prio minutes) s = .next (t.withReply
        { src := src, tag := tag, code := cmdSignSet, body := [sb, pb, prio] ++ be16 minutes } .done []) ∧
      t.sign.signs[k].request = some
        { page := p, priority := prio.toNat, expiry := if minutes = 0 then none else some (s.now + 60000 * minutes.toNat) } ∧
      t.sign.signs[k].next = t.arbitrated k ∧ (∀ j : Fin 12, j ≠ k → t.sign.signs[j] = s.sign.signs[j]) ∧
      t.sign.store = s.sign.store ∧ t = { s.commandTaken with sign := t.sign }) ∧
    ((15 < prio.toNat ∨ 1440 < minutes.toNat) → exec (.signSet src tag sb pb prio minutes) s = .next (
      s.commandTaken.withReply { src := src, tag := tag, code := cmdSignSet, body := [sb, pb, prio] ++ be16 minutes }
        .badValue [])) ∧
    (s.sign.signs[k].request ≠ none → ∃ t : State, exec (.signCancel src tag sb) s = .next (t.withReply
        { src := src, tag := tag, code := cmdSignCancel, body := [sb] } .done []) ∧
      t.sign.signs[k].request = none ∧ t.sign.signs[k].next = t.arbitrated k ∧
      (∀ j : Fin 12, j ≠ k → t.sign.signs[j] = s.sign.signs[j]) ∧ t = { s.commandTaken with sign := t.sign }) ∧
    (s.sign.signs[k].request = none → exec (.signCancel src tag sb) s = .next (s.commandTaken.withReply
      { src := src, tag := tag, code := cmdSignCancel, body := [sb] } .done []))

/-- RESTART with force 1. Every record is FREE, the wait list and every binding gone; EQ holds the FORCED CLEARs alone, TQ and AQ are empty,
what they held counted, and the rest of ring transit and all of ring protection stay. The journal holds no transaction, no answer and no
credit and has nothing read ahead or IN-TRANSIT; in FAULT it is RECOVERING again with no view and the controller SCANNING, and otherwise
keeps its condition and view. Every reduction slot's windows, previous wind values and derived values are empty; every rule is INACTIVE and not effective,
and every sign's NEXT is arbitrated again, a LIVE page staying. Every configured field, the pages, the operator requests, the node
parameters, the store and the supply monitor are kept. With force 0 and a call up it is refused STATE. -/
def Obligations.RestartEmptiesEngines : Prop :=
  (∀ (src : NodeId) (tag : Byte) (s : State), s.agentIdle = true → ∃ t : State, exec (.restart src tag 1) s = .next t ∧
    (∀ r : Fin 16, t.calls.records[r] = CallRecord.free) ∧ t.calls.waitList = [] ∧ t.calls.counter = s.calls.counter ∧
    t.calls.totals = s.calls.totals ∧ t.calls.unseated = s.calls.unseated ∧
    (∀ i : Fin 64, t.lanes[i] = { s.lanes[i] with binding := none }) ∧
    t.ring = { s.ring with
      eq := t.ring.eq, tq := [], mq := t.ring.mq, aq := []
      restartEq := bumpBy s.ring.restartEq s.ring.eq.length, restartTq := bumpBy s.ring.restartTq s.ring.tq.length
      restartAq := bumpBy s.ring.restartAq s.ring.aq.length } ∧
    (∀ b ∈ t.ring.eq, b.kind = .call ∧ b.subtype = 4 ∧ byteAt b.body 2 = 4) ∧ t.prot = s.prot ∧
    t.jrnl.staging = [] ∧ t.jrnl.overrun = false ∧ (∀ i : Fin 32, t.jrnl.answers[i] = []) ∧ t.jrnl.credit = 0 ∧
    t.jrnl.inTransit = [] ∧ t.jrnl.readAhead = [] ∧ t.jrnl.hand.map (·.serial) = s.jrnl.hand.map (·.serial) ∧
    t.jrnl.ctr = s.jrnl.ctr ∧
    (s.jrnl.cond = .fault → t.jrnl.cond = .recovering ∧ t.jrnl.faultCause = none ∧ t.jrnl.hasView = false ∧
      t.ctl.state = .scanning ∧ t.notReady = true) ∧
    (s.jrnl.cond ≠ .fault → t.jrnl.cond = s.jrnl.cond ∧ t.jrnl.held = s.jrnl.held ∧ t.jrnl.oldest = s.jrnl.oldest ∧
      t.jrnl.cursor = s.jrnl.cursor ∧ t.jrnl.nextSerial = s.jrnl.nextSerial ∧ t.jrnl.newestSent = s.jrnl.newestSent ∧
      t.jrnl.bad = s.jrnl.bad ∧ t.jrnl.pendingMarks = s.jrnl.pendingMarks ∧ t.ctl.state = s.ctl.state) ∧
    t.ctl.save = s.ctl.save ∧ t.ctl.generation = s.ctl.generation ∧
    (∀ k : Fin 8, t.slots[k] = { s.slots[k] with
      surface := [], air := [], humidity := [], visibility := [], light := [], wind := [], gust := [], prev := none
      derived := Derived.none }) ∧
    (∀ i : Fin 32, t.rules[i] = { s.rules[i] with state := .inactive, count := 0, effective := false }) ∧
    (∀ k : Fin 12, t.sign.signs[k] = { s.sign.signs[k] with
        next := t.arbitrated k, live := t.sign.signs[k].live, cursor := t.sign.signs[k].cursor } ∧
      (s.sign.signs[k].live ≠ none → t.sign.signs[k].live = s.sign.signs[k].live ∧
        t.sign.signs[k].cursor = s.sign.signs[k].cursor)) ∧ t.sign.store = s.sign.store ∧
    (∀ i : Fin 32, t.poll.stations[i] = { s.poll.stations[i] with
      due := t.poll.stations[i].due, voiceDue := t.poll.stations[i].voiceDue, come := t.poll.stations[i].come }) ∧ t.poll.drops = s.poll.drops ∧
    t.agent.params = s.agent.params ∧ t.nv = s.nv ∧ t.sup = s.sup ∧ t.now = s.now ∧ t.straps = s.straps) ∧
  (∀ (src : NodeId) (tag : Byte) (r : Fin 16) (s : State), s.agentIdle = true → s.calls.records[r].state ≠ .free →
    exec (.restart src tag 0) s = .next (s.commandTaken.withReply
      { src := src, tag := tag, code := cmdRestart, body := [0] } .state []))
end

