-- ==== Sys2Proof/Laws/Advisory.lean ====
section
/-! SUPPORT. What a rerun of arbitration can do (9.5, 9.6): each sign of a set takes its outcome, and nothing else moves. -/

namespace Sys2Proof.Machine

/-- R155: setNext changes neither the request nor the pages. -/
theorem Sign.setNext_kept (r : Sign) (n : Option (Fin 8)) : (r.setNext n).request = r.request ∧ (r.setNext n).pages = r.pages := by
  unfold Sign.setNext
  split
  · exact ⟨rfl, rfl⟩
  · cases r.live <;> exact ⟨rfl, rfl⟩

/-- R154: the outcome of an arbitration rests on the rules, the sign's request and its pages alone. -/
theorem State.arbitrated_congr (s t : State) (k : Fin 12) (hr : t.rules = s.rules)
    (hq : t.sign.signs[k].request = s.sign.signs[k].request) (hp : t.sign.signs[k].pages = s.sign.signs[k].pages) :
    t.arbitrated k = s.arbitrated k := by
  unfold State.arbitrated State.candidates Sign.isReady
  rw [hr, hq, hp]

/-- The outcome of an arbitration is the same after another sign's, or after the sign's own. -/
theorem State.arbitrated_arbitrate (s : State) (j k : Fin 12) : (s.arbitrate j).arbitrated k = s.arbitrated k := by
  have h : (s.arbitrate j).sign.signs[k] = if j = k then s.sign.signs[k].setNext (s.arbitrated k) else s.sign.signs[k] := by
    show (updAt s.sign.signs j _)[k] = _
    unfold updAt
    by_cases e : j = k
    · subst e; simp
    · rw [if_neg e, Fin.getElem_fin, Vector.getElem_set_ne _ _ (fun x => e (Fin.ext x))]; rfl
  refine s.arbitrated_congr (s.arbitrate j) k rfl ?_ ?_ <;> rw [h] <;> split
  · exact (Sign.setNext_kept _ _).1
  · rfl
  · exact (Sign.setNext_kept _ _).2
  · rfl

/-- Arbitration reruns change the sign records alone. -/
theorem State.forEach_arbitrate_kept (l : List (Fin 12)) : ∀ s : State, (s.forEach l fun k s => s.arbitrate k) =
    { s with sign := { s.sign with signs := (s.forEach l fun k s => s.arbitrate k).sign.signs } } := by
  induction l with
  | nil => intro s; rfl
  | cons k l ih => intro s; exact (ih (s.arbitrate k)).trans rfl

/-- R154, R155: each sign of a list takes its own outcome, and the others stay. -/
theorem State.forEach_arbitrate_signs (l : List (Fin 12)) (j : Fin 12) : ∀ s : State, l.Nodup →
    (s.forEach l fun k s => s.arbitrate k).sign.signs[j] =
      if j ∈ l then s.sign.signs[j].setNext (s.arbitrated j) else s.sign.signs[j] := by
  induction l with
  | nil => intro s _; rfl
  | cons k l ih =>
    intro s hl
    have i := ih (s.arbitrate k) (List.nodup_cons.mp hl).2
    refine i.trans ?_
    rw [s.arbitrated_arbitrate]
    by_cases e : j = k
    · subst e
      rw [if_neg (List.nodup_cons.mp hl).1, if_pos (List.mem_cons_self ..)]
      show (updAt s.sign.signs j _)[j] = _
      simp [updAt]
    · have h : (s.arbitrate k).sign.signs[j] = s.sign.signs[j] := by
        show (updAt s.sign.signs k _)[j] = _
        rw [updAt, Fin.getElem_fin, Vector.getElem_set_ne _ _ (fun x => e (Fin.ext x).symm)]; rfl
      rw [h]
      by_cases m : j ∈ l
      · rw [if_pos m, if_pos (List.mem_cons_of_mem _ m)]
      · rw [if_neg m, if_neg (by simp [e, m])]

/-- R144, R147: arbitration for each sign of a set. -/
theorem State.arbitrateSet_signs (s : State) (m : BitVec 12) (j : Fin 12) : (s.arbitrateSet m).sign.signs[j] =
    if m.getLsbD j.val = true then s.sign.signs[j].setNext (s.arbitrated j) else s.sign.signs[j] := by
  unfold State.arbitrateSet
  rw [State.forEach_arbitrate_signs _ j s ((List.nodup_finRange 12).filter _)]
  simp

end Sys2Proof.Machine
end

