-- ==== Sys2Proof/Laws/State.lean ====
section
/-! SUPPORT. One lemma per field per update of State: what each named update leaves and what it writes. -/

namespace Sys2Proof.Machine

/-! `modRing` writes `ring` alone. -/
@[simp] theorem State.modRing_now (s : State) (f : RingTransit → RingTransit) : (s.modRing f).now = s.now := rfl
@[simp] theorem State.modRing_free (s : State) (f : RingTransit → RingTransit) : (s.modRing f).free = s.free := rfl
@[simp] theorem State.modRing_straps (s : State) (f : RingTransit → RingTransit) : (s.modRing f).straps = s.straps := rfl
@[simp] theorem State.modRing_ring (s : State) (f : RingTransit → RingTransit) : (s.modRing f).ring = f s.ring := rfl
@[simp] theorem State.modRing_lanes (s : State) (f : RingTransit → RingTransit) : (s.modRing f).lanes = s.lanes := rfl
@[simp] theorem State.modRing_prot (s : State) (f : RingTransit → RingTransit) : (s.modRing f).prot = s.prot := rfl
@[simp] theorem State.modRing_poll (s : State) (f : RingTransit → RingTransit) : (s.modRing f).poll = s.poll := rfl
@[simp] theorem State.modRing_calls (s : State) (f : RingTransit → RingTransit) : (s.modRing f).calls = s.calls := rfl
@[simp] theorem State.modRing_jrnl (s : State) (f : RingTransit → RingTransit) : (s.modRing f).jrnl = s.jrnl := rfl
@[simp] theorem State.modRing_ctl (s : State) (f : RingTransit → RingTransit) : (s.modRing f).ctl = s.ctl := rfl
@[simp] theorem State.modRing_nv (s : State) (f : RingTransit → RingTransit) : (s.modRing f).nv = s.nv := rfl
@[simp] theorem State.modRing_slots (s : State) (f : RingTransit → RingTransit) : (s.modRing f).slots = s.slots := rfl
@[simp] theorem State.modRing_rules (s : State) (f : RingTransit → RingTransit) : (s.modRing f).rules = s.rules := rfl
@[simp] theorem State.modRing_sign (s : State) (f : RingTransit → RingTransit) : (s.modRing f).sign = s.sign := rfl
@[simp] theorem State.modRing_sup (s : State) (f : RingTransit → RingTransit) : (s.modRing f).sup = s.sup := rfl
@[simp] theorem State.modRing_agent (s : State) (f : RingTransit → RingTransit) : (s.modRing f).agent = s.agent := rfl
@[simp] theorem State.modRing_pending (s : State) (f : RingTransit → RingTransit) : (s.modRing f).pending = s.pending := rfl

/-! `modLanes` writes `lanes` alone. -/
@[simp] theorem State.modLanes_now (s : State) (f : Vector LaneEntry 64 → Vector LaneEntry 64) : (s.modLanes f).now = s.now := rfl
@[simp] theorem State.modLanes_free (s : State) (f : Vector LaneEntry 64 → Vector LaneEntry 64) : (s.modLanes f).free = s.free := rfl
@[simp] theorem State.modLanes_straps (s : State) (f : Vector LaneEntry 64 → Vector LaneEntry 64) : (s.modLanes f).straps = s.straps := rfl
@[simp] theorem State.modLanes_ring (s : State) (f : Vector LaneEntry 64 → Vector LaneEntry 64) : (s.modLanes f).ring = s.ring := rfl
@[simp] theorem State.modLanes_lanes (s : State) (f : Vector LaneEntry 64 → Vector LaneEntry 64) : (s.modLanes f).lanes = f s.lanes := rfl
@[simp] theorem State.modLanes_prot (s : State) (f : Vector LaneEntry 64 → Vector LaneEntry 64) : (s.modLanes f).prot = s.prot := rfl
@[simp] theorem State.modLanes_poll (s : State) (f : Vector LaneEntry 64 → Vector LaneEntry 64) : (s.modLanes f).poll = s.poll := rfl
@[simp] theorem State.modLanes_calls (s : State) (f : Vector LaneEntry 64 → Vector LaneEntry 64) : (s.modLanes f).calls = s.calls := rfl
@[simp] theorem State.modLanes_jrnl (s : State) (f : Vector LaneEntry 64 → Vector LaneEntry 64) : (s.modLanes f).jrnl = s.jrnl := rfl
@[simp] theorem State.modLanes_ctl (s : State) (f : Vector LaneEntry 64 → Vector LaneEntry 64) : (s.modLanes f).ctl = s.ctl := rfl
@[simp] theorem State.modLanes_nv (s : State) (f : Vector LaneEntry 64 → Vector LaneEntry 64) : (s.modLanes f).nv = s.nv := rfl
@[simp] theorem State.modLanes_slots (s : State) (f : Vector LaneEntry 64 → Vector LaneEntry 64) : (s.modLanes f).slots = s.slots := rfl
@[simp] theorem State.modLanes_rules (s : State) (f : Vector LaneEntry 64 → Vector LaneEntry 64) : (s.modLanes f).rules = s.rules := rfl
@[simp] theorem State.modLanes_sign (s : State) (f : Vector LaneEntry 64 → Vector LaneEntry 64) : (s.modLanes f).sign = s.sign := rfl
@[simp] theorem State.modLanes_sup (s : State) (f : Vector LaneEntry 64 → Vector LaneEntry 64) : (s.modLanes f).sup = s.sup := rfl
@[simp] theorem State.modLanes_agent (s : State) (f : Vector LaneEntry 64 → Vector LaneEntry 64) : (s.modLanes f).agent = s.agent := rfl
@[simp] theorem State.modLanes_pending (s : State) (f : Vector LaneEntry 64 → Vector LaneEntry 64) : (s.modLanes f).pending = s.pending := rfl

/-! `modProt` writes `prot` alone. -/
@[simp] theorem State.modProt_now (s : State) (f : Protection → Protection) : (s.modProt f).now = s.now := rfl
@[simp] theorem State.modProt_free (s : State) (f : Protection → Protection) : (s.modProt f).free = s.free := rfl
@[simp] theorem State.modProt_straps (s : State) (f : Protection → Protection) : (s.modProt f).straps = s.straps := rfl
@[simp] theorem State.modProt_ring (s : State) (f : Protection → Protection) : (s.modProt f).ring = s.ring := rfl
@[simp] theorem State.modProt_lanes (s : State) (f : Protection → Protection) : (s.modProt f).lanes = s.lanes := rfl
@[simp] theorem State.modProt_prot (s : State) (f : Protection → Protection) : (s.modProt f).prot = f s.prot := rfl
@[simp] theorem State.modProt_poll (s : State) (f : Protection → Protection) : (s.modProt f).poll = s.poll := rfl
@[simp] theorem State.modProt_calls (s : State) (f : Protection → Protection) : (s.modProt f).calls = s.calls := rfl
@[simp] theorem State.modProt_jrnl (s : State) (f : Protection → Protection) : (s.modProt f).jrnl = s.jrnl := rfl
@[simp] theorem State.modProt_ctl (s : State) (f : Protection → Protection) : (s.modProt f).ctl = s.ctl := rfl
@[simp] theorem State.modProt_nv (s : State) (f : Protection → Protection) : (s.modProt f).nv = s.nv := rfl
@[simp] theorem State.modProt_slots (s : State) (f : Protection → Protection) : (s.modProt f).slots = s.slots := rfl
@[simp] theorem State.modProt_rules (s : State) (f : Protection → Protection) : (s.modProt f).rules = s.rules := rfl
@[simp] theorem State.modProt_sign (s : State) (f : Protection → Protection) : (s.modProt f).sign = s.sign := rfl
@[simp] theorem State.modProt_sup (s : State) (f : Protection → Protection) : (s.modProt f).sup = s.sup := rfl
@[simp] theorem State.modProt_agent (s : State) (f : Protection → Protection) : (s.modProt f).agent = s.agent := rfl
@[simp] theorem State.modProt_pending (s : State) (f : Protection → Protection) : (s.modProt f).pending = s.pending := rfl

/-! `modPoll` writes `poll` alone. -/
@[simp] theorem State.modPoll_now (s : State) (f : Poller → Poller) : (s.modPoll f).now = s.now := rfl
@[simp] theorem State.modPoll_free (s : State) (f : Poller → Poller) : (s.modPoll f).free = s.free := rfl
@[simp] theorem State.modPoll_straps (s : State) (f : Poller → Poller) : (s.modPoll f).straps = s.straps := rfl
@[simp] theorem State.modPoll_ring (s : State) (f : Poller → Poller) : (s.modPoll f).ring = s.ring := rfl
@[simp] theorem State.modPoll_lanes (s : State) (f : Poller → Poller) : (s.modPoll f).lanes = s.lanes := rfl
@[simp] theorem State.modPoll_prot (s : State) (f : Poller → Poller) : (s.modPoll f).prot = s.prot := rfl
@[simp] theorem State.modPoll_poll (s : State) (f : Poller → Poller) : (s.modPoll f).poll = f s.poll := rfl
@[simp] theorem State.modPoll_calls (s : State) (f : Poller → Poller) : (s.modPoll f).calls = s.calls := rfl
@[simp] theorem State.modPoll_jrnl (s : State) (f : Poller → Poller) : (s.modPoll f).jrnl = s.jrnl := rfl
@[simp] theorem State.modPoll_ctl (s : State) (f : Poller → Poller) : (s.modPoll f).ctl = s.ctl := rfl
@[simp] theorem State.modPoll_nv (s : State) (f : Poller → Poller) : (s.modPoll f).nv = s.nv := rfl
@[simp] theorem State.modPoll_slots (s : State) (f : Poller → Poller) : (s.modPoll f).slots = s.slots := rfl
@[simp] theorem State.modPoll_rules (s : State) (f : Poller → Poller) : (s.modPoll f).rules = s.rules := rfl
@[simp] theorem State.modPoll_sign (s : State) (f : Poller → Poller) : (s.modPoll f).sign = s.sign := rfl
@[simp] theorem State.modPoll_sup (s : State) (f : Poller → Poller) : (s.modPoll f).sup = s.sup := rfl
@[simp] theorem State.modPoll_agent (s : State) (f : Poller → Poller) : (s.modPoll f).agent = s.agent := rfl
@[simp] theorem State.modPoll_pending (s : State) (f : Poller → Poller) : (s.modPoll f).pending = s.pending := rfl

/-! `modCalls` writes `calls` alone. -/
@[simp] theorem State.modCalls_now (s : State) (f : CallEngine → CallEngine) : (s.modCalls f).now = s.now := rfl
@[simp] theorem State.modCalls_free (s : State) (f : CallEngine → CallEngine) : (s.modCalls f).free = s.free := rfl
@[simp] theorem State.modCalls_straps (s : State) (f : CallEngine → CallEngine) : (s.modCalls f).straps = s.straps := rfl
@[simp] theorem State.modCalls_ring (s : State) (f : CallEngine → CallEngine) : (s.modCalls f).ring = s.ring := rfl
@[simp] theorem State.modCalls_lanes (s : State) (f : CallEngine → CallEngine) : (s.modCalls f).lanes = s.lanes := rfl
@[simp] theorem State.modCalls_prot (s : State) (f : CallEngine → CallEngine) : (s.modCalls f).prot = s.prot := rfl
@[simp] theorem State.modCalls_poll (s : State) (f : CallEngine → CallEngine) : (s.modCalls f).poll = s.poll := rfl
@[simp] theorem State.modCalls_calls (s : State) (f : CallEngine → CallEngine) : (s.modCalls f).calls = f s.calls := rfl
@[simp] theorem State.modCalls_jrnl (s : State) (f : CallEngine → CallEngine) : (s.modCalls f).jrnl = s.jrnl := rfl
@[simp] theorem State.modCalls_ctl (s : State) (f : CallEngine → CallEngine) : (s.modCalls f).ctl = s.ctl := rfl
@[simp] theorem State.modCalls_nv (s : State) (f : CallEngine → CallEngine) : (s.modCalls f).nv = s.nv := rfl
@[simp] theorem State.modCalls_slots (s : State) (f : CallEngine → CallEngine) : (s.modCalls f).slots = s.slots := rfl
@[simp] theorem State.modCalls_rules (s : State) (f : CallEngine → CallEngine) : (s.modCalls f).rules = s.rules := rfl
@[simp] theorem State.modCalls_sign (s : State) (f : CallEngine → CallEngine) : (s.modCalls f).sign = s.sign := rfl
@[simp] theorem State.modCalls_sup (s : State) (f : CallEngine → CallEngine) : (s.modCalls f).sup = s.sup := rfl
@[simp] theorem State.modCalls_agent (s : State) (f : CallEngine → CallEngine) : (s.modCalls f).agent = s.agent := rfl
@[simp] theorem State.modCalls_pending (s : State) (f : CallEngine → CallEngine) : (s.modCalls f).pending = s.pending := rfl

/-! `modJrnl` writes `jrnl` alone. -/
@[simp] theorem State.modJrnl_now (s : State) (f : Journal → Journal) : (s.modJrnl f).now = s.now := rfl
@[simp] theorem State.modJrnl_free (s : State) (f : Journal → Journal) : (s.modJrnl f).free = s.free := rfl
@[simp] theorem State.modJrnl_straps (s : State) (f : Journal → Journal) : (s.modJrnl f).straps = s.straps := rfl
@[simp] theorem State.modJrnl_ring (s : State) (f : Journal → Journal) : (s.modJrnl f).ring = s.ring := rfl
@[simp] theorem State.modJrnl_lanes (s : State) (f : Journal → Journal) : (s.modJrnl f).lanes = s.lanes := rfl
@[simp] theorem State.modJrnl_prot (s : State) (f : Journal → Journal) : (s.modJrnl f).prot = s.prot := rfl
@[simp] theorem State.modJrnl_poll (s : State) (f : Journal → Journal) : (s.modJrnl f).poll = s.poll := rfl
@[simp] theorem State.modJrnl_calls (s : State) (f : Journal → Journal) : (s.modJrnl f).calls = s.calls := rfl
@[simp] theorem State.modJrnl_jrnl (s : State) (f : Journal → Journal) : (s.modJrnl f).jrnl = f s.jrnl := rfl
@[simp] theorem State.modJrnl_ctl (s : State) (f : Journal → Journal) : (s.modJrnl f).ctl = s.ctl := rfl
@[simp] theorem State.modJrnl_nv (s : State) (f : Journal → Journal) : (s.modJrnl f).nv = s.nv := rfl
@[simp] theorem State.modJrnl_slots (s : State) (f : Journal → Journal) : (s.modJrnl f).slots = s.slots := rfl
@[simp] theorem State.modJrnl_rules (s : State) (f : Journal → Journal) : (s.modJrnl f).rules = s.rules := rfl
@[simp] theorem State.modJrnl_sign (s : State) (f : Journal → Journal) : (s.modJrnl f).sign = s.sign := rfl
@[simp] theorem State.modJrnl_sup (s : State) (f : Journal → Journal) : (s.modJrnl f).sup = s.sup := rfl
@[simp] theorem State.modJrnl_agent (s : State) (f : Journal → Journal) : (s.modJrnl f).agent = s.agent := rfl
@[simp] theorem State.modJrnl_pending (s : State) (f : Journal → Journal) : (s.modJrnl f).pending = s.pending := rfl

/-! `modCtl` writes `ctl` alone. -/
@[simp] theorem State.modCtl_now (s : State) (f : StoreController → StoreController) : (s.modCtl f).now = s.now := rfl
@[simp] theorem State.modCtl_free (s : State) (f : StoreController → StoreController) : (s.modCtl f).free = s.free := rfl
@[simp] theorem State.modCtl_straps (s : State) (f : StoreController → StoreController) : (s.modCtl f).straps = s.straps := rfl
@[simp] theorem State.modCtl_ring (s : State) (f : StoreController → StoreController) : (s.modCtl f).ring = s.ring := rfl
@[simp] theorem State.modCtl_lanes (s : State) (f : StoreController → StoreController) : (s.modCtl f).lanes = s.lanes := rfl
@[simp] theorem State.modCtl_prot (s : State) (f : StoreController → StoreController) : (s.modCtl f).prot = s.prot := rfl
@[simp] theorem State.modCtl_poll (s : State) (f : StoreController → StoreController) : (s.modCtl f).poll = s.poll := rfl
@[simp] theorem State.modCtl_calls (s : State) (f : StoreController → StoreController) : (s.modCtl f).calls = s.calls := rfl
@[simp] theorem State.modCtl_jrnl (s : State) (f : StoreController → StoreController) : (s.modCtl f).jrnl = s.jrnl := rfl
@[simp] theorem State.modCtl_ctl (s : State) (f : StoreController → StoreController) : (s.modCtl f).ctl = f s.ctl := rfl
@[simp] theorem State.modCtl_nv (s : State) (f : StoreController → StoreController) : (s.modCtl f).nv = s.nv := rfl
@[simp] theorem State.modCtl_slots (s : State) (f : StoreController → StoreController) : (s.modCtl f).slots = s.slots := rfl
@[simp] theorem State.modCtl_rules (s : State) (f : StoreController → StoreController) : (s.modCtl f).rules = s.rules := rfl
@[simp] theorem State.modCtl_sign (s : State) (f : StoreController → StoreController) : (s.modCtl f).sign = s.sign := rfl
@[simp] theorem State.modCtl_sup (s : State) (f : StoreController → StoreController) : (s.modCtl f).sup = s.sup := rfl
@[simp] theorem State.modCtl_agent (s : State) (f : StoreController → StoreController) : (s.modCtl f).agent = s.agent := rfl
@[simp] theorem State.modCtl_pending (s : State) (f : StoreController → StoreController) : (s.modCtl f).pending = s.pending := rfl

/-! `modNv` writes `nv` alone. -/
@[simp] theorem State.modNv_now (s : State) (f : Memory → Memory) : (s.modNv f).now = s.now := rfl
@[simp] theorem State.modNv_free (s : State) (f : Memory → Memory) : (s.modNv f).free = s.free := rfl
@[simp] theorem State.modNv_straps (s : State) (f : Memory → Memory) : (s.modNv f).straps = s.straps := rfl
@[simp] theorem State.modNv_ring (s : State) (f : Memory → Memory) : (s.modNv f).ring = s.ring := rfl
@[simp] theorem State.modNv_lanes (s : State) (f : Memory → Memory) : (s.modNv f).lanes = s.lanes := rfl
@[simp] theorem State.modNv_prot (s : State) (f : Memory → Memory) : (s.modNv f).prot = s.prot := rfl
@[simp] theorem State.modNv_poll (s : State) (f : Memory → Memory) : (s.modNv f).poll = s.poll := rfl
@[simp] theorem State.modNv_calls (s : State) (f : Memory → Memory) : (s.modNv f).calls = s.calls := rfl
@[simp] theorem State.modNv_jrnl (s : State) (f : Memory → Memory) : (s.modNv f).jrnl = s.jrnl := rfl
@[simp] theorem State.modNv_ctl (s : State) (f : Memory → Memory) : (s.modNv f).ctl = s.ctl := rfl
@[simp] theorem State.modNv_nv (s : State) (f : Memory → Memory) : (s.modNv f).nv = f s.nv := rfl
@[simp] theorem State.modNv_slots (s : State) (f : Memory → Memory) : (s.modNv f).slots = s.slots := rfl
@[simp] theorem State.modNv_rules (s : State) (f : Memory → Memory) : (s.modNv f).rules = s.rules := rfl
@[simp] theorem State.modNv_sign (s : State) (f : Memory → Memory) : (s.modNv f).sign = s.sign := rfl
@[simp] theorem State.modNv_sup (s : State) (f : Memory → Memory) : (s.modNv f).sup = s.sup := rfl
@[simp] theorem State.modNv_agent (s : State) (f : Memory → Memory) : (s.modNv f).agent = s.agent := rfl
@[simp] theorem State.modNv_pending (s : State) (f : Memory → Memory) : (s.modNv f).pending = s.pending := rfl

/-! `modSlots` writes `slots` alone. -/
@[simp] theorem State.modSlots_now (s : State) (f : Vector ReductionSlot 8 → Vector ReductionSlot 8) : (s.modSlots f).now = s.now := rfl
@[simp] theorem State.modSlots_free (s : State) (f : Vector ReductionSlot 8 → Vector ReductionSlot 8) : (s.modSlots f).free = s.free := rfl
@[simp] theorem State.modSlots_straps (s : State) (f : Vector ReductionSlot 8 → Vector ReductionSlot 8) : (s.modSlots f).straps = s.straps := rfl
@[simp] theorem State.modSlots_ring (s : State) (f : Vector ReductionSlot 8 → Vector ReductionSlot 8) : (s.modSlots f).ring = s.ring := rfl
@[simp] theorem State.modSlots_lanes (s : State) (f : Vector ReductionSlot 8 → Vector ReductionSlot 8) : (s.modSlots f).lanes = s.lanes := rfl
@[simp] theorem State.modSlots_prot (s : State) (f : Vector ReductionSlot 8 → Vector ReductionSlot 8) : (s.modSlots f).prot = s.prot := rfl
@[simp] theorem State.modSlots_poll (s : State) (f : Vector ReductionSlot 8 → Vector ReductionSlot 8) : (s.modSlots f).poll = s.poll := rfl
@[simp] theorem State.modSlots_calls (s : State) (f : Vector ReductionSlot 8 → Vector ReductionSlot 8) : (s.modSlots f).calls = s.calls := rfl
@[simp] theorem State.modSlots_jrnl (s : State) (f : Vector ReductionSlot 8 → Vector ReductionSlot 8) : (s.modSlots f).jrnl = s.jrnl := rfl
@[simp] theorem State.modSlots_ctl (s : State) (f : Vector ReductionSlot 8 → Vector ReductionSlot 8) : (s.modSlots f).ctl = s.ctl := rfl
@[simp] theorem State.modSlots_nv (s : State) (f : Vector ReductionSlot 8 → Vector ReductionSlot 8) : (s.modSlots f).nv = s.nv := rfl
@[simp] theorem State.modSlots_slots (s : State) (f : Vector ReductionSlot 8 → Vector ReductionSlot 8) : (s.modSlots f).slots = f s.slots := rfl
@[simp] theorem State.modSlots_rules (s : State) (f : Vector ReductionSlot 8 → Vector ReductionSlot 8) : (s.modSlots f).rules = s.rules := rfl
@[simp] theorem State.modSlots_sign (s : State) (f : Vector ReductionSlot 8 → Vector ReductionSlot 8) : (s.modSlots f).sign = s.sign := rfl
@[simp] theorem State.modSlots_sup (s : State) (f : Vector ReductionSlot 8 → Vector ReductionSlot 8) : (s.modSlots f).sup = s.sup := rfl
@[simp] theorem State.modSlots_agent (s : State) (f : Vector ReductionSlot 8 → Vector ReductionSlot 8) : (s.modSlots f).agent = s.agent := rfl
@[simp] theorem State.modSlots_pending (s : State) (f : Vector ReductionSlot 8 → Vector ReductionSlot 8) : (s.modSlots f).pending = s.pending := rfl

/-! `modRules` writes `rules` alone. -/
@[simp] theorem State.modRules_now (s : State) (f : Vector Rule 32 → Vector Rule 32) : (s.modRules f).now = s.now := rfl
@[simp] theorem State.modRules_free (s : State) (f : Vector Rule 32 → Vector Rule 32) : (s.modRules f).free = s.free := rfl
@[simp] theorem State.modRules_straps (s : State) (f : Vector Rule 32 → Vector Rule 32) : (s.modRules f).straps = s.straps := rfl
@[simp] theorem State.modRules_ring (s : State) (f : Vector Rule 32 → Vector Rule 32) : (s.modRules f).ring = s.ring := rfl
@[simp] theorem State.modRules_lanes (s : State) (f : Vector Rule 32 → Vector Rule 32) : (s.modRules f).lanes = s.lanes := rfl
@[simp] theorem State.modRules_prot (s : State) (f : Vector Rule 32 → Vector Rule 32) : (s.modRules f).prot = s.prot := rfl
@[simp] theorem State.modRules_poll (s : State) (f : Vector Rule 32 → Vector Rule 32) : (s.modRules f).poll = s.poll := rfl
@[simp] theorem State.modRules_calls (s : State) (f : Vector Rule 32 → Vector Rule 32) : (s.modRules f).calls = s.calls := rfl
@[simp] theorem State.modRules_jrnl (s : State) (f : Vector Rule 32 → Vector Rule 32) : (s.modRules f).jrnl = s.jrnl := rfl
@[simp] theorem State.modRules_ctl (s : State) (f : Vector Rule 32 → Vector Rule 32) : (s.modRules f).ctl = s.ctl := rfl
@[simp] theorem State.modRules_nv (s : State) (f : Vector Rule 32 → Vector Rule 32) : (s.modRules f).nv = s.nv := rfl
@[simp] theorem State.modRules_slots (s : State) (f : Vector Rule 32 → Vector Rule 32) : (s.modRules f).slots = s.slots := rfl
@[simp] theorem State.modRules_rules (s : State) (f : Vector Rule 32 → Vector Rule 32) : (s.modRules f).rules = f s.rules := rfl
@[simp] theorem State.modRules_sign (s : State) (f : Vector Rule 32 → Vector Rule 32) : (s.modRules f).sign = s.sign := rfl
@[simp] theorem State.modRules_sup (s : State) (f : Vector Rule 32 → Vector Rule 32) : (s.modRules f).sup = s.sup := rfl
@[simp] theorem State.modRules_agent (s : State) (f : Vector Rule 32 → Vector Rule 32) : (s.modRules f).agent = s.agent := rfl
@[simp] theorem State.modRules_pending (s : State) (f : Vector Rule 32 → Vector Rule 32) : (s.modRules f).pending = s.pending := rfl

/-! `modSign` writes `sign` alone. -/
@[simp] theorem State.modSign_now (s : State) (f : SignService → SignService) : (s.modSign f).now = s.now := rfl
@[simp] theorem State.modSign_free (s : State) (f : SignService → SignService) : (s.modSign f).free = s.free := rfl
@[simp] theorem State.modSign_straps (s : State) (f : SignService → SignService) : (s.modSign f).straps = s.straps := rfl
@[simp] theorem State.modSign_ring (s : State) (f : SignService → SignService) : (s.modSign f).ring = s.ring := rfl
@[simp] theorem State.modSign_lanes (s : State) (f : SignService → SignService) : (s.modSign f).lanes = s.lanes := rfl
@[simp] theorem State.modSign_prot (s : State) (f : SignService → SignService) : (s.modSign f).prot = s.prot := rfl
@[simp] theorem State.modSign_poll (s : State) (f : SignService → SignService) : (s.modSign f).poll = s.poll := rfl
@[simp] theorem State.modSign_calls (s : State) (f : SignService → SignService) : (s.modSign f).calls = s.calls := rfl
@[simp] theorem State.modSign_jrnl (s : State) (f : SignService → SignService) : (s.modSign f).jrnl = s.jrnl := rfl
@[simp] theorem State.modSign_ctl (s : State) (f : SignService → SignService) : (s.modSign f).ctl = s.ctl := rfl
@[simp] theorem State.modSign_nv (s : State) (f : SignService → SignService) : (s.modSign f).nv = s.nv := rfl
@[simp] theorem State.modSign_slots (s : State) (f : SignService → SignService) : (s.modSign f).slots = s.slots := rfl
@[simp] theorem State.modSign_rules (s : State) (f : SignService → SignService) : (s.modSign f).rules = s.rules := rfl
@[simp] theorem State.modSign_sign (s : State) (f : SignService → SignService) : (s.modSign f).sign = f s.sign := rfl
@[simp] theorem State.modSign_sup (s : State) (f : SignService → SignService) : (s.modSign f).sup = s.sup := rfl
@[simp] theorem State.modSign_agent (s : State) (f : SignService → SignService) : (s.modSign f).agent = s.agent := rfl
@[simp] theorem State.modSign_pending (s : State) (f : SignService → SignService) : (s.modSign f).pending = s.pending := rfl

/-! `modSup` writes `sup` alone. -/
@[simp] theorem State.modSup_now (s : State) (f : Supply → Supply) : (s.modSup f).now = s.now := rfl
@[simp] theorem State.modSup_free (s : State) (f : Supply → Supply) : (s.modSup f).free = s.free := rfl
@[simp] theorem State.modSup_straps (s : State) (f : Supply → Supply) : (s.modSup f).straps = s.straps := rfl
@[simp] theorem State.modSup_ring (s : State) (f : Supply → Supply) : (s.modSup f).ring = s.ring := rfl
@[simp] theorem State.modSup_lanes (s : State) (f : Supply → Supply) : (s.modSup f).lanes = s.lanes := rfl
@[simp] theorem State.modSup_prot (s : State) (f : Supply → Supply) : (s.modSup f).prot = s.prot := rfl
@[simp] theorem State.modSup_poll (s : State) (f : Supply → Supply) : (s.modSup f).poll = s.poll := rfl
@[simp] theorem State.modSup_calls (s : State) (f : Supply → Supply) : (s.modSup f).calls = s.calls := rfl
@[simp] theorem State.modSup_jrnl (s : State) (f : Supply → Supply) : (s.modSup f).jrnl = s.jrnl := rfl
@[simp] theorem State.modSup_ctl (s : State) (f : Supply → Supply) : (s.modSup f).ctl = s.ctl := rfl
@[simp] theorem State.modSup_nv (s : State) (f : Supply → Supply) : (s.modSup f).nv = s.nv := rfl
@[simp] theorem State.modSup_slots (s : State) (f : Supply → Supply) : (s.modSup f).slots = s.slots := rfl
@[simp] theorem State.modSup_rules (s : State) (f : Supply → Supply) : (s.modSup f).rules = s.rules := rfl
@[simp] theorem State.modSup_sign (s : State) (f : Supply → Supply) : (s.modSup f).sign = s.sign := rfl
@[simp] theorem State.modSup_sup (s : State) (f : Supply → Supply) : (s.modSup f).sup = f s.sup := rfl
@[simp] theorem State.modSup_agent (s : State) (f : Supply → Supply) : (s.modSup f).agent = s.agent := rfl
@[simp] theorem State.modSup_pending (s : State) (f : Supply → Supply) : (s.modSup f).pending = s.pending := rfl

/-! `modAgent` writes `agent` alone. -/
@[simp] theorem State.modAgent_now (s : State) (f : Agent → Agent) : (s.modAgent f).now = s.now := rfl
@[simp] theorem State.modAgent_free (s : State) (f : Agent → Agent) : (s.modAgent f).free = s.free := rfl
@[simp] theorem State.modAgent_straps (s : State) (f : Agent → Agent) : (s.modAgent f).straps = s.straps := rfl
@[simp] theorem State.modAgent_ring (s : State) (f : Agent → Agent) : (s.modAgent f).ring = s.ring := rfl
@[simp] theorem State.modAgent_lanes (s : State) (f : Agent → Agent) : (s.modAgent f).lanes = s.lanes := rfl
@[simp] theorem State.modAgent_prot (s : State) (f : Agent → Agent) : (s.modAgent f).prot = s.prot := rfl
@[simp] theorem State.modAgent_poll (s : State) (f : Agent → Agent) : (s.modAgent f).poll = s.poll := rfl
@[simp] theorem State.modAgent_calls (s : State) (f : Agent → Agent) : (s.modAgent f).calls = s.calls := rfl
@[simp] theorem State.modAgent_jrnl (s : State) (f : Agent → Agent) : (s.modAgent f).jrnl = s.jrnl := rfl
@[simp] theorem State.modAgent_ctl (s : State) (f : Agent → Agent) : (s.modAgent f).ctl = s.ctl := rfl
@[simp] theorem State.modAgent_nv (s : State) (f : Agent → Agent) : (s.modAgent f).nv = s.nv := rfl
@[simp] theorem State.modAgent_slots (s : State) (f : Agent → Agent) : (s.modAgent f).slots = s.slots := rfl
@[simp] theorem State.modAgent_rules (s : State) (f : Agent → Agent) : (s.modAgent f).rules = s.rules := rfl
@[simp] theorem State.modAgent_sign (s : State) (f : Agent → Agent) : (s.modAgent f).sign = s.sign := rfl
@[simp] theorem State.modAgent_sup (s : State) (f : Agent → Agent) : (s.modAgent f).sup = s.sup := rfl
@[simp] theorem State.modAgent_agent (s : State) (f : Agent → Agent) : (s.modAgent f).agent = f s.agent := rfl
@[simp] theorem State.modAgent_pending (s : State) (f : Agent → Agent) : (s.modAgent f).pending = s.pending := rfl

/-! `modLane` writes one member of `lanes` alone. -/
@[simp] theorem State.modLane_now (s : State) (i : Fin 64) (f : LaneEntry → LaneEntry) :
    (s.modLane i f).now = s.now := rfl
@[simp] theorem State.modLane_free (s : State) (i : Fin 64) (f : LaneEntry → LaneEntry) :
    (s.modLane i f).free = s.free := rfl
@[simp] theorem State.modLane_straps (s : State) (i : Fin 64) (f : LaneEntry → LaneEntry) :
    (s.modLane i f).straps = s.straps := rfl
@[simp] theorem State.modLane_ring (s : State) (i : Fin 64) (f : LaneEntry → LaneEntry) :
    (s.modLane i f).ring = s.ring := rfl
@[simp] theorem State.modLane_lanes (s : State) (i : Fin 64) (f : LaneEntry → LaneEntry) :
    (s.modLane i f).lanes = updAt s.lanes i f := rfl
@[simp] theorem State.modLane_prot (s : State) (i : Fin 64) (f : LaneEntry → LaneEntry) :
    (s.modLane i f).prot = s.prot := rfl
@[simp] theorem State.modLane_poll (s : State) (i : Fin 64) (f : LaneEntry → LaneEntry) :
    (s.modLane i f).poll = s.poll := rfl
@[simp] theorem State.modLane_calls (s : State) (i : Fin 64) (f : LaneEntry → LaneEntry) :
    (s.modLane i f).calls = s.calls := rfl
@[simp] theorem State.modLane_jrnl (s : State) (i : Fin 64) (f : LaneEntry → LaneEntry) :
    (s.modLane i f).jrnl = s.jrnl := rfl
@[simp] theorem State.modLane_ctl (s : State) (i : Fin 64) (f : LaneEntry → LaneEntry) :
    (s.modLane i f).ctl = s.ctl := rfl
@[simp] theorem State.modLane_nv (s : State) (i : Fin 64) (f : LaneEntry → LaneEntry) :
    (s.modLane i f).nv = s.nv := rfl
@[simp] theorem State.modLane_slots (s : State) (i : Fin 64) (f : LaneEntry → LaneEntry) :
    (s.modLane i f).slots = s.slots := rfl
@[simp] theorem State.modLane_rules (s : State) (i : Fin 64) (f : LaneEntry → LaneEntry) :
    (s.modLane i f).rules = s.rules := rfl
@[simp] theorem State.modLane_sign (s : State) (i : Fin 64) (f : LaneEntry → LaneEntry) :
    (s.modLane i f).sign = s.sign := rfl
@[simp] theorem State.modLane_sup (s : State) (i : Fin 64) (f : LaneEntry → LaneEntry) :
    (s.modLane i f).sup = s.sup := rfl
@[simp] theorem State.modLane_agent (s : State) (i : Fin 64) (f : LaneEntry → LaneEntry) :
    (s.modLane i f).agent = s.agent := rfl
@[simp] theorem State.modLane_pending (s : State) (i : Fin 64) (f : LaneEntry → LaneEntry) :
    (s.modLane i f).pending = s.pending := rfl

/-! `modStation` writes one member of `poll` alone. -/
@[simp] theorem State.modStation_now (s : State) (i : Fin 32) (f : Station → Station) :
    (s.modStation i f).now = s.now := rfl
@[simp] theorem State.modStation_free (s : State) (i : Fin 32) (f : Station → Station) :
    (s.modStation i f).free = s.free := rfl
@[simp] theorem State.modStation_straps (s : State) (i : Fin 32) (f : Station → Station) :
    (s.modStation i f).straps = s.straps := rfl
@[simp] theorem State.modStation_ring (s : State) (i : Fin 32) (f : Station → Station) :
    (s.modStation i f).ring = s.ring := rfl
@[simp] theorem State.modStation_lanes (s : State) (i : Fin 32) (f : Station → Station) :
    (s.modStation i f).lanes = s.lanes := rfl
@[simp] theorem State.modStation_prot (s : State) (i : Fin 32) (f : Station → Station) :
    (s.modStation i f).prot = s.prot := rfl
@[simp] theorem State.modStation_poll (s : State) (i : Fin 32) (f : Station → Station) :
    (s.modStation i f).poll = { s.poll with stations := updAt s.poll.stations i f } := rfl
@[simp] theorem State.modStation_calls (s : State) (i : Fin 32) (f : Station → Station) :
    (s.modStation i f).calls = s.calls := rfl
@[simp] theorem State.modStation_jrnl (s : State) (i : Fin 32) (f : Station → Station) :
    (s.modStation i f).jrnl = s.jrnl := rfl
@[simp] theorem State.modStation_ctl (s : State) (i : Fin 32) (f : Station → Station) :
    (s.modStation i f).ctl = s.ctl := rfl
@[simp] theorem State.modStation_nv (s : State) (i : Fin 32) (f : Station → Station) :
    (s.modStation i f).nv = s.nv := rfl
@[simp] theorem State.modStation_slots (s : State) (i : Fin 32) (f : Station → Station) :
    (s.modStation i f).slots = s.slots := rfl
@[simp] theorem State.modStation_rules (s : State) (i : Fin 32) (f : Station → Station) :
    (s.modStation i f).rules = s.rules := rfl
@[simp] theorem State.modStation_sign (s : State) (i : Fin 32) (f : Station → Station) :
    (s.modStation i f).sign = s.sign := rfl
@[simp] theorem State.modStation_sup (s : State) (i : Fin 32) (f : Station → Station) :
    (s.modStation i f).sup = s.sup := rfl
@[simp] theorem State.modStation_agent (s : State) (i : Fin 32) (f : Station → Station) :
    (s.modStation i f).agent = s.agent := rfl
@[simp] theorem State.modStation_pending (s : State) (i : Fin 32) (f : Station → Station) :
    (s.modStation i f).pending = s.pending := rfl

/-! `modDrop` writes one member of `poll` alone. -/
@[simp] theorem State.modDrop_now (s : State) (i : Fin 4) (f : Drop → Drop) :
    (s.modDrop i f).now = s.now := rfl
@[simp] theorem State.modDrop_free (s : State) (i : Fin 4) (f : Drop → Drop) :
    (s.modDrop i f).free = s.free := rfl
@[simp] theorem State.modDrop_straps (s : State) (i : Fin 4) (f : Drop → Drop) :
    (s.modDrop i f).straps = s.straps := rfl
@[simp] theorem State.modDrop_ring (s : State) (i : Fin 4) (f : Drop → Drop) :
    (s.modDrop i f).ring = s.ring := rfl
@[simp] theorem State.modDrop_lanes (s : State) (i : Fin 4) (f : Drop → Drop) :
    (s.modDrop i f).lanes = s.lanes := rfl
@[simp] theorem State.modDrop_prot (s : State) (i : Fin 4) (f : Drop → Drop) :
    (s.modDrop i f).prot = s.prot := rfl
@[simp] theorem State.modDrop_poll (s : State) (i : Fin 4) (f : Drop → Drop) :
    (s.modDrop i f).poll = { s.poll with drops := updAt s.poll.drops i f } := rfl
@[simp] theorem State.modDrop_calls (s : State) (i : Fin 4) (f : Drop → Drop) :
    (s.modDrop i f).calls = s.calls := rfl
@[simp] theorem State.modDrop_jrnl (s : State) (i : Fin 4) (f : Drop → Drop) :
    (s.modDrop i f).jrnl = s.jrnl := rfl
@[simp] theorem State.modDrop_ctl (s : State) (i : Fin 4) (f : Drop → Drop) :
    (s.modDrop i f).ctl = s.ctl := rfl
@[simp] theorem State.modDrop_nv (s : State) (i : Fin 4) (f : Drop → Drop) :
    (s.modDrop i f).nv = s.nv := rfl
@[simp] theorem State.modDrop_slots (s : State) (i : Fin 4) (f : Drop → Drop) :
    (s.modDrop i f).slots = s.slots := rfl
@[simp] theorem State.modDrop_rules (s : State) (i : Fin 4) (f : Drop → Drop) :
    (s.modDrop i f).rules = s.rules := rfl
@[simp] theorem State.modDrop_sign (s : State) (i : Fin 4) (f : Drop → Drop) :
    (s.modDrop i f).sign = s.sign := rfl
@[simp] theorem State.modDrop_sup (s : State) (i : Fin 4) (f : Drop → Drop) :
    (s.modDrop i f).sup = s.sup := rfl
@[simp] theorem State.modDrop_agent (s : State) (i : Fin 4) (f : Drop → Drop) :
    (s.modDrop i f).agent = s.agent := rfl
@[simp] theorem State.modDrop_pending (s : State) (i : Fin 4) (f : Drop → Drop) :
    (s.modDrop i f).pending = s.pending := rfl

/-! `modRecord` writes one member of `calls` alone. -/
@[simp] theorem State.modRecord_now (s : State) (i : Fin 16) (f : CallRecord → CallRecord) :
    (s.modRecord i f).now = s.now := rfl
@[simp] theorem State.modRecord_free (s : State) (i : Fin 16) (f : CallRecord → CallRecord) :
    (s.modRecord i f).free = s.free := rfl
@[simp] theorem State.modRecord_straps (s : State) (i : Fin 16) (f : CallRecord → CallRecord) :
    (s.modRecord i f).straps = s.straps := rfl
@[simp] theorem State.modRecord_ring (s : State) (i : Fin 16) (f : CallRecord → CallRecord) :
    (s.modRecord i f).ring = s.ring := rfl
@[simp] theorem State.modRecord_lanes (s : State) (i : Fin 16) (f : CallRecord → CallRecord) :
    (s.modRecord i f).lanes = s.lanes := rfl
@[simp] theorem State.modRecord_prot (s : State) (i : Fin 16) (f : CallRecord → CallRecord) :
    (s.modRecord i f).prot = s.prot := rfl
@[simp] theorem State.modRecord_poll (s : State) (i : Fin 16) (f : CallRecord → CallRecord) :
    (s.modRecord i f).poll = s.poll := rfl
@[simp] theorem State.modRecord_calls (s : State) (i : Fin 16) (f : CallRecord → CallRecord) :
    (s.modRecord i f).calls = { s.calls with records := updAt s.calls.records i f } := rfl
@[simp] theorem State.modRecord_jrnl (s : State) (i : Fin 16) (f : CallRecord → CallRecord) :
    (s.modRecord i f).jrnl = s.jrnl := rfl
@[simp] theorem State.modRecord_ctl (s : State) (i : Fin 16) (f : CallRecord → CallRecord) :
    (s.modRecord i f).ctl = s.ctl := rfl
@[simp] theorem State.modRecord_nv (s : State) (i : Fin 16) (f : CallRecord → CallRecord) :
    (s.modRecord i f).nv = s.nv := rfl
@[simp] theorem State.modRecord_slots (s : State) (i : Fin 16) (f : CallRecord → CallRecord) :
    (s.modRecord i f).slots = s.slots := rfl
@[simp] theorem State.modRecord_rules (s : State) (i : Fin 16) (f : CallRecord → CallRecord) :
    (s.modRecord i f).rules = s.rules := rfl
@[simp] theorem State.modRecord_sign (s : State) (i : Fin 16) (f : CallRecord → CallRecord) :
    (s.modRecord i f).sign = s.sign := rfl
@[simp] theorem State.modRecord_sup (s : State) (i : Fin 16) (f : CallRecord → CallRecord) :
    (s.modRecord i f).sup = s.sup := rfl
@[simp] theorem State.modRecord_agent (s : State) (i : Fin 16) (f : CallRecord → CallRecord) :
    (s.modRecord i f).agent = s.agent := rfl
@[simp] theorem State.modRecord_pending (s : State) (i : Fin 16) (f : CallRecord → CallRecord) :
    (s.modRecord i f).pending = s.pending := rfl

/-! `modAnswers` writes one member of `jrnl` alone. -/
@[simp] theorem State.modAnswers_now (s : State) (i : Fin 32) (f : List AnswerEntry → List AnswerEntry) :
    (s.modAnswers i f).now = s.now := rfl
@[simp] theorem State.modAnswers_free (s : State) (i : Fin 32) (f : List AnswerEntry → List AnswerEntry) :
    (s.modAnswers i f).free = s.free := rfl
@[simp] theorem State.modAnswers_straps (s : State) (i : Fin 32) (f : List AnswerEntry → List AnswerEntry) :
    (s.modAnswers i f).straps = s.straps := rfl
@[simp] theorem State.modAnswers_ring (s : State) (i : Fin 32) (f : List AnswerEntry → List AnswerEntry) :
    (s.modAnswers i f).ring = s.ring := rfl
@[simp] theorem State.modAnswers_lanes (s : State) (i : Fin 32) (f : List AnswerEntry → List AnswerEntry) :
    (s.modAnswers i f).lanes = s.lanes := rfl
@[simp] theorem State.modAnswers_prot (s : State) (i : Fin 32) (f : List AnswerEntry → List AnswerEntry) :
    (s.modAnswers i f).prot = s.prot := rfl
@[simp] theorem State.modAnswers_poll (s : State) (i : Fin 32) (f : List AnswerEntry → List AnswerEntry) :
    (s.modAnswers i f).poll = s.poll := rfl
@[simp] theorem State.modAnswers_calls (s : State) (i : Fin 32) (f : List AnswerEntry → List AnswerEntry) :
    (s.modAnswers i f).calls = s.calls := rfl
@[simp] theorem State.modAnswers_jrnl (s : State) (i : Fin 32) (f : List AnswerEntry → List AnswerEntry) :
    (s.modAnswers i f).jrnl = { s.jrnl with answers := updAt s.jrnl.answers i f } := rfl
@[simp] theorem State.modAnswers_ctl (s : State) (i : Fin 32) (f : List AnswerEntry → List AnswerEntry) :
    (s.modAnswers i f).ctl = s.ctl := rfl
@[simp] theorem State.modAnswers_nv (s : State) (i : Fin 32) (f : List AnswerEntry → List AnswerEntry) :
    (s.modAnswers i f).nv = s.nv := rfl
@[simp] theorem State.modAnswers_slots (s : State) (i : Fin 32) (f : List AnswerEntry → List AnswerEntry) :
    (s.modAnswers i f).slots = s.slots := rfl
@[simp] theorem State.modAnswers_rules (s : State) (i : Fin 32) (f : List AnswerEntry → List AnswerEntry) :
    (s.modAnswers i f).rules = s.rules := rfl
@[simp] theorem State.modAnswers_sign (s : State) (i : Fin 32) (f : List AnswerEntry → List AnswerEntry) :
    (s.modAnswers i f).sign = s.sign := rfl
@[simp] theorem State.modAnswers_sup (s : State) (i : Fin 32) (f : List AnswerEntry → List AnswerEntry) :
    (s.modAnswers i f).sup = s.sup := rfl
@[simp] theorem State.modAnswers_agent (s : State) (i : Fin 32) (f : List AnswerEntry → List AnswerEntry) :
    (s.modAnswers i f).agent = s.agent := rfl
@[simp] theorem State.modAnswers_pending (s : State) (i : Fin 32) (f : List AnswerEntry → List AnswerEntry) :
    (s.modAnswers i f).pending = s.pending := rfl

/-! `modSlot` writes one member of `slots` alone. -/
@[simp] theorem State.modSlot_now (s : State) (i : Fin 8) (f : ReductionSlot → ReductionSlot) :
    (s.modSlot i f).now = s.now := rfl
@[simp] theorem State.modSlot_free (s : State) (i : Fin 8) (f : ReductionSlot → ReductionSlot) :
    (s.modSlot i f).free = s.free := rfl
@[simp] theorem State.modSlot_straps (s : State) (i : Fin 8) (f : ReductionSlot → ReductionSlot) :
    (s.modSlot i f).straps = s.straps := rfl
@[simp] theorem State.modSlot_ring (s : State) (i : Fin 8) (f : ReductionSlot → ReductionSlot) :
    (s.modSlot i f).ring = s.ring := rfl
@[simp] theorem State.modSlot_lanes (s : State) (i : Fin 8) (f : ReductionSlot → ReductionSlot) :
    (s.modSlot i f).lanes = s.lanes := rfl
@[simp] theorem State.modSlot_prot (s : State) (i : Fin 8) (f : ReductionSlot → ReductionSlot) :
    (s.modSlot i f).prot = s.prot := rfl
@[simp] theorem State.modSlot_poll (s : State) (i : Fin 8) (f : ReductionSlot → ReductionSlot) :
    (s.modSlot i f).poll = s.poll := rfl
@[simp] theorem State.modSlot_calls (s : State) (i : Fin 8) (f : ReductionSlot → ReductionSlot) :
    (s.modSlot i f).calls = s.calls := rfl
@[simp] theorem State.modSlot_jrnl (s : State) (i : Fin 8) (f : ReductionSlot → ReductionSlot) :
    (s.modSlot i f).jrnl = s.jrnl := rfl
@[simp] theorem State.modSlot_ctl (s : State) (i : Fin 8) (f : ReductionSlot → ReductionSlot) :
    (s.modSlot i f).ctl = s.ctl := rfl
@[simp] theorem State.modSlot_nv (s : State) (i : Fin 8) (f : ReductionSlot → ReductionSlot) :
    (s.modSlot i f).nv = s.nv := rfl
@[simp] theorem State.modSlot_slots (s : State) (i : Fin 8) (f : ReductionSlot → ReductionSlot) :
    (s.modSlot i f).slots = updAt s.slots i f := rfl
@[simp] theorem State.modSlot_rules (s : State) (i : Fin 8) (f : ReductionSlot → ReductionSlot) :
    (s.modSlot i f).rules = s.rules := rfl
@[simp] theorem State.modSlot_sign (s : State) (i : Fin 8) (f : ReductionSlot → ReductionSlot) :
    (s.modSlot i f).sign = s.sign := rfl
@[simp] theorem State.modSlot_sup (s : State) (i : Fin 8) (f : ReductionSlot → ReductionSlot) :
    (s.modSlot i f).sup = s.sup := rfl
@[simp] theorem State.modSlot_agent (s : State) (i : Fin 8) (f : ReductionSlot → ReductionSlot) :
    (s.modSlot i f).agent = s.agent := rfl
@[simp] theorem State.modSlot_pending (s : State) (i : Fin 8) (f : ReductionSlot → ReductionSlot) :
    (s.modSlot i f).pending = s.pending := rfl

/-! `modRule` writes one member of `rules` alone. -/
@[simp] theorem State.modRule_now (s : State) (i : Fin 32) (f : Rule → Rule) :
    (s.modRule i f).now = s.now := rfl
@[simp] theorem State.modRule_free (s : State) (i : Fin 32) (f : Rule → Rule) :
    (s.modRule i f).free = s.free := rfl
@[simp] theorem State.modRule_straps (s : State) (i : Fin 32) (f : Rule → Rule) :
    (s.modRule i f).straps = s.straps := rfl
@[simp] theorem State.modRule_ring (s : State) (i : Fin 32) (f : Rule → Rule) :
    (s.modRule i f).ring = s.ring := rfl
@[simp] theorem State.modRule_lanes (s : State) (i : Fin 32) (f : Rule → Rule) :
    (s.modRule i f).lanes = s.lanes := rfl
@[simp] theorem State.modRule_prot (s : State) (i : Fin 32) (f : Rule → Rule) :
    (s.modRule i f).prot = s.prot := rfl
@[simp] theorem State.modRule_poll (s : State) (i : Fin 32) (f : Rule → Rule) :
    (s.modRule i f).poll = s.poll := rfl
@[simp] theorem State.modRule_calls (s : State) (i : Fin 32) (f : Rule → Rule) :
    (s.modRule i f).calls = s.calls := rfl
@[simp] theorem State.modRule_jrnl (s : State) (i : Fin 32) (f : Rule → Rule) :
    (s.modRule i f).jrnl = s.jrnl := rfl
@[simp] theorem State.modRule_ctl (s : State) (i : Fin 32) (f : Rule → Rule) :
    (s.modRule i f).ctl = s.ctl := rfl
@[simp] theorem State.modRule_nv (s : State) (i : Fin 32) (f : Rule → Rule) :
    (s.modRule i f).nv = s.nv := rfl
@[simp] theorem State.modRule_slots (s : State) (i : Fin 32) (f : Rule → Rule) :
    (s.modRule i f).slots = s.slots := rfl
@[simp] theorem State.modRule_rules (s : State) (i : Fin 32) (f : Rule → Rule) :
    (s.modRule i f).rules = updAt s.rules i f := rfl
@[simp] theorem State.modRule_sign (s : State) (i : Fin 32) (f : Rule → Rule) :
    (s.modRule i f).sign = s.sign := rfl
@[simp] theorem State.modRule_sup (s : State) (i : Fin 32) (f : Rule → Rule) :
    (s.modRule i f).sup = s.sup := rfl
@[simp] theorem State.modRule_agent (s : State) (i : Fin 32) (f : Rule → Rule) :
    (s.modRule i f).agent = s.agent := rfl
@[simp] theorem State.modRule_pending (s : State) (i : Fin 32) (f : Rule → Rule) :
    (s.modRule i f).pending = s.pending := rfl

/-! `modSignRec` writes one member of `sign` alone. -/
@[simp] theorem State.modSignRec_now (s : State) (i : Fin 12) (f : Sign → Sign) :
    (s.modSignRec i f).now = s.now := rfl
@[simp] theorem State.modSignRec_free (s : State) (i : Fin 12) (f : Sign → Sign) :
    (s.modSignRec i f).free = s.free := rfl
@[simp] theorem State.modSignRec_straps (s : State) (i : Fin 12) (f : Sign → Sign) :
    (s.modSignRec i f).straps = s.straps := rfl
@[simp] theorem State.modSignRec_ring (s : State) (i : Fin 12) (f : Sign → Sign) :
    (s.modSignRec i f).ring = s.ring := rfl
@[simp] theorem State.modSignRec_lanes (s : State) (i : Fin 12) (f : Sign → Sign) :
    (s.modSignRec i f).lanes = s.lanes := rfl
@[simp] theorem State.modSignRec_prot (s : State) (i : Fin 12) (f : Sign → Sign) :
    (s.modSignRec i f).prot = s.prot := rfl
@[simp] theorem State.modSignRec_poll (s : State) (i : Fin 12) (f : Sign → Sign) :
    (s.modSignRec i f).poll = s.poll := rfl
@[simp] theorem State.modSignRec_calls (s : State) (i : Fin 12) (f : Sign → Sign) :
    (s.modSignRec i f).calls = s.calls := rfl
@[simp] theorem State.modSignRec_jrnl (s : State) (i : Fin 12) (f : Sign → Sign) :
    (s.modSignRec i f).jrnl = s.jrnl := rfl
@[simp] theorem State.modSignRec_ctl (s : State) (i : Fin 12) (f : Sign → Sign) :
    (s.modSignRec i f).ctl = s.ctl := rfl
@[simp] theorem State.modSignRec_nv (s : State) (i : Fin 12) (f : Sign → Sign) :
    (s.modSignRec i f).nv = s.nv := rfl
@[simp] theorem State.modSignRec_slots (s : State) (i : Fin 12) (f : Sign → Sign) :
    (s.modSignRec i f).slots = s.slots := rfl
@[simp] theorem State.modSignRec_rules (s : State) (i : Fin 12) (f : Sign → Sign) :
    (s.modSignRec i f).rules = s.rules := rfl
@[simp] theorem State.modSignRec_sign (s : State) (i : Fin 12) (f : Sign → Sign) :
    (s.modSignRec i f).sign = { s.sign with signs := updAt s.sign.signs i f } := rfl
@[simp] theorem State.modSignRec_sup (s : State) (i : Fin 12) (f : Sign → Sign) :
    (s.modSignRec i f).sup = s.sup := rfl
@[simp] theorem State.modSignRec_agent (s : State) (i : Fin 12) (f : Sign → Sign) :
    (s.modSignRec i f).agent = s.agent := rfl
@[simp] theorem State.modSignRec_pending (s : State) (i : Fin 12) (f : Sign → Sign) :
    (s.modSignRec i f).pending = s.pending := rfl

/-! `modPort` writes one member of `prot` alone. -/
@[simp] theorem State.modPort_now (s : State) (i : Side) (f : RxPort → RxPort) :
    (s.modPort i f).now = s.now := rfl
@[simp] theorem State.modPort_free (s : State) (i : Side) (f : RxPort → RxPort) :
    (s.modPort i f).free = s.free := rfl
@[simp] theorem State.modPort_straps (s : State) (i : Side) (f : RxPort → RxPort) :
    (s.modPort i f).straps = s.straps := rfl
@[simp] theorem State.modPort_ring (s : State) (i : Side) (f : RxPort → RxPort) :
    (s.modPort i f).ring = s.ring := rfl
@[simp] theorem State.modPort_lanes (s : State) (i : Side) (f : RxPort → RxPort) :
    (s.modPort i f).lanes = s.lanes := rfl
@[simp] theorem State.modPort_prot (s : State) (i : Side) (f : RxPort → RxPort) :
    (s.modPort i f).prot = { s.prot with ports := s.prot.ports.upd i f } := rfl
@[simp] theorem State.modPort_poll (s : State) (i : Side) (f : RxPort → RxPort) :
    (s.modPort i f).poll = s.poll := rfl
@[simp] theorem State.modPort_calls (s : State) (i : Side) (f : RxPort → RxPort) :
    (s.modPort i f).calls = s.calls := rfl
@[simp] theorem State.modPort_jrnl (s : State) (i : Side) (f : RxPort → RxPort) :
    (s.modPort i f).jrnl = s.jrnl := rfl
@[simp] theorem State.modPort_ctl (s : State) (i : Side) (f : RxPort → RxPort) :
    (s.modPort i f).ctl = s.ctl := rfl
@[simp] theorem State.modPort_nv (s : State) (i : Side) (f : RxPort → RxPort) :
    (s.modPort i f).nv = s.nv := rfl
@[simp] theorem State.modPort_slots (s : State) (i : Side) (f : RxPort → RxPort) :
    (s.modPort i f).slots = s.slots := rfl
@[simp] theorem State.modPort_rules (s : State) (i : Side) (f : RxPort → RxPort) :
    (s.modPort i f).rules = s.rules := rfl
@[simp] theorem State.modPort_sign (s : State) (i : Side) (f : RxPort → RxPort) :
    (s.modPort i f).sign = s.sign := rfl
@[simp] theorem State.modPort_sup (s : State) (i : Side) (f : RxPort → RxPort) :
    (s.modPort i f).sup = s.sup := rfl
@[simp] theorem State.modPort_agent (s : State) (i : Side) (f : RxPort → RxPort) :
    (s.modPort i f).agent = s.agent := rfl
@[simp] theorem State.modPort_pending (s : State) (i : Side) (f : RxPort → RxPort) :
    (s.modPort i f).pending = s.pending := rfl

/-! `modOut` writes one member of `ring` alone. -/
@[simp] theorem State.modOut_now (s : State) (i : Side) (f : OutPort → OutPort) :
    (s.modOut i f).now = s.now := rfl
@[simp] theorem State.modOut_free (s : State) (i : Side) (f : OutPort → OutPort) :
    (s.modOut i f).free = s.free := rfl
@[simp] theorem State.modOut_straps (s : State) (i : Side) (f : OutPort → OutPort) :
    (s.modOut i f).straps = s.straps := rfl
@[simp] theorem State.modOut_ring (s : State) (i : Side) (f : OutPort → OutPort) :
    (s.modOut i f).ring = { s.ring with out := s.ring.out.upd i f } := rfl
@[simp] theorem State.modOut_lanes (s : State) (i : Side) (f : OutPort → OutPort) :
    (s.modOut i f).lanes = s.lanes := rfl
@[simp] theorem State.modOut_prot (s : State) (i : Side) (f : OutPort → OutPort) :
    (s.modOut i f).prot = s.prot := rfl
@[simp] theorem State.modOut_poll (s : State) (i : Side) (f : OutPort → OutPort) :
    (s.modOut i f).poll = s.poll := rfl
@[simp] theorem State.modOut_calls (s : State) (i : Side) (f : OutPort → OutPort) :
    (s.modOut i f).calls = s.calls := rfl
@[simp] theorem State.modOut_jrnl (s : State) (i : Side) (f : OutPort → OutPort) :
    (s.modOut i f).jrnl = s.jrnl := rfl
@[simp] theorem State.modOut_ctl (s : State) (i : Side) (f : OutPort → OutPort) :
    (s.modOut i f).ctl = s.ctl := rfl
@[simp] theorem State.modOut_nv (s : State) (i : Side) (f : OutPort → OutPort) :
    (s.modOut i f).nv = s.nv := rfl
@[simp] theorem State.modOut_slots (s : State) (i : Side) (f : OutPort → OutPort) :
    (s.modOut i f).slots = s.slots := rfl
@[simp] theorem State.modOut_rules (s : State) (i : Side) (f : OutPort → OutPort) :
    (s.modOut i f).rules = s.rules := rfl
@[simp] theorem State.modOut_sign (s : State) (i : Side) (f : OutPort → OutPort) :
    (s.modOut i f).sign = s.sign := rfl
@[simp] theorem State.modOut_sup (s : State) (i : Side) (f : OutPort → OutPort) :
    (s.modOut i f).sup = s.sup := rfl
@[simp] theorem State.modOut_agent (s : State) (i : Side) (f : OutPort → OutPort) :
    (s.modOut i f).agent = s.agent := rfl
@[simp] theorem State.modOut_pending (s : State) (i : Side) (f : OutPort → OutPort) :
    (s.modOut i f).pending = s.pending := rfl

/-! `reach` writes `now` alone. -/
@[simp] theorem State.reach_now (s : State) (n : Nat) : (s.reach n).now = max s.now n := rfl
@[simp] theorem State.reach_free (s : State) (n : Nat) : (s.reach n).free = s.free := rfl
@[simp] theorem State.reach_straps (s : State) (n : Nat) : (s.reach n).straps = s.straps := rfl
@[simp] theorem State.reach_ring (s : State) (n : Nat) : (s.reach n).ring = s.ring := rfl
@[simp] theorem State.reach_lanes (s : State) (n : Nat) : (s.reach n).lanes = s.lanes := rfl
@[simp] theorem State.reach_prot (s : State) (n : Nat) : (s.reach n).prot = s.prot := rfl
@[simp] theorem State.reach_poll (s : State) (n : Nat) : (s.reach n).poll = s.poll := rfl
@[simp] theorem State.reach_calls (s : State) (n : Nat) : (s.reach n).calls = s.calls := rfl
@[simp] theorem State.reach_jrnl (s : State) (n : Nat) : (s.reach n).jrnl = s.jrnl := rfl
@[simp] theorem State.reach_ctl (s : State) (n : Nat) : (s.reach n).ctl = s.ctl := rfl
@[simp] theorem State.reach_nv (s : State) (n : Nat) : (s.reach n).nv = s.nv := rfl
@[simp] theorem State.reach_slots (s : State) (n : Nat) : (s.reach n).slots = s.slots := rfl
@[simp] theorem State.reach_rules (s : State) (n : Nat) : (s.reach n).rules = s.rules := rfl
@[simp] theorem State.reach_sign (s : State) (n : Nat) : (s.reach n).sign = s.sign := rfl
@[simp] theorem State.reach_sup (s : State) (n : Nat) : (s.reach n).sup = s.sup := rfl
@[simp] theorem State.reach_agent (s : State) (n : Nat) : (s.reach n).agent = s.agent := rfl
@[simp] theorem State.reach_pending (s : State) (n : Nat) : (s.reach n).pending = s.pending := rfl

/-! `spend` writes `free` alone. -/
@[simp] theorem State.spend_now (s : State) (n : Nat) : (s.spend n).now = s.now := rfl
@[simp] theorem State.spend_free (s : State) (n : Nat) : (s.spend n).free = s.free + n := rfl
@[simp] theorem State.spend_straps (s : State) (n : Nat) : (s.spend n).straps = s.straps := rfl
@[simp] theorem State.spend_ring (s : State) (n : Nat) : (s.spend n).ring = s.ring := rfl
@[simp] theorem State.spend_lanes (s : State) (n : Nat) : (s.spend n).lanes = s.lanes := rfl
@[simp] theorem State.spend_prot (s : State) (n : Nat) : (s.spend n).prot = s.prot := rfl
@[simp] theorem State.spend_poll (s : State) (n : Nat) : (s.spend n).poll = s.poll := rfl
@[simp] theorem State.spend_calls (s : State) (n : Nat) : (s.spend n).calls = s.calls := rfl
@[simp] theorem State.spend_jrnl (s : State) (n : Nat) : (s.spend n).jrnl = s.jrnl := rfl
@[simp] theorem State.spend_ctl (s : State) (n : Nat) : (s.spend n).ctl = s.ctl := rfl
@[simp] theorem State.spend_nv (s : State) (n : Nat) : (s.spend n).nv = s.nv := rfl
@[simp] theorem State.spend_slots (s : State) (n : Nat) : (s.spend n).slots = s.slots := rfl
@[simp] theorem State.spend_rules (s : State) (n : Nat) : (s.spend n).rules = s.rules := rfl
@[simp] theorem State.spend_sign (s : State) (n : Nat) : (s.spend n).sign = s.sign := rfl
@[simp] theorem State.spend_sup (s : State) (n : Nat) : (s.spend n).sup = s.sup := rfl
@[simp] theorem State.spend_agent (s : State) (n : Nat) : (s.spend n).agent = s.agent := rfl
@[simp] theorem State.spend_pending (s : State) (n : Nat) : (s.spend n).pending = s.pending := rfl

/-! Members of tables. -/

theorem updAt_get {α : Type} {n : Nat} (v : Vector α n) (i j : Fin n) (f : α → α) :
    (updAt v i f)[j] = if i = j then f v[j] else v[j] := by
  by_cases h : i = j
  · subst h; simp [updAt]
  · have h' : i.val ≠ j.val := fun e => h (Fin.ext e)
    simp [updAt, h, h']

@[simp] theorem updAt_get_self {α : Type} {n : Nat} (v : Vector α n) (i : Fin n) (f : α → α) :
    (updAt v i f)[i.val] = f v[i.val] := by
  simp [updAt]

theorem updAt_get_other {α : Type} {n : Nat} (v : Vector α n) (i j : Fin n) (f : α → α) (h : i ≠ j) :
    (updAt v i f)[j] = v[j] := by
  rw [updAt_get, if_neg h]

@[simp] theorem PerSide.get_upd {α : Type} (p : PerSide α) (x y : Side) (f : α → α) :
    (p.upd x f).get y = if x = y then f (p.get y) else p.get y := by
  cases x <;> cases y <;> rfl

@[simp] theorem PerDir.get_upd {α : Type} (p : PerDir α) (x y : Dir) (f : α → α) :
    (p.upd x f).get y = if x = y then f (p.get y) else p.get y := by
  cases x <;> cases y <;> rfl

/-! R162: the levels of the node parameters, and what a sample writes. -/
@[simp] theorem Params.levels_conserveEntry (p : Params) : p.levels.conserveEntry = p.conserveEntry := rfl
@[simp] theorem Params.levels_conserveExit (p : Params) : p.levels.conserveExit = p.conserveExit := rfl
@[simp] theorem Params.levels_holdupEntry (p : Params) : p.levels.holdupEntry = p.holdupEntry := rfl
@[simp] theorem Params.levels_holdupExit (p : Params) : p.levels.holdupExit = p.holdupExit := rfl
@[simp] theorem Supply.sampled_levels (p : Supply) (lv : Levels) (level now : Nat) : (p.sampled lv level now).levels = lv := rfl
@[simp] theorem Supply.sampled_state (p : Supply) (lv : Levels) (level now : Nat) : (p.sampled lv level now).state = p.state := rfl
@[simp] theorem Supply.sampled_feedLost (p : Supply) (lv : Levels) (level now : Nat) :
    (p.sampled lv level now).feedLost = p.feedLost := rfl

end Sys2Proof.Machine
end

