-- ==== Sys2Proof/Laws/Agent.lean ====
section
/-! SUPPORT. What the management agent's turns do: with an empty intake they only move blocks to MQ, and a command that reaches an
idle agent is carried out and answered at once. -/

namespace Sys2Proof.Machine

/-- Everything the offers to MQ leave: all but ring transit, the outbox, the notice queue and the free choices. -/
def State.work (s : State) : State := { s with ring := RingTransit.reset, agent := { s.agent with outbox := [], notices := [] }, free := 0 }

theorem State.passReply_work (s : State) (b : Block) (rest : List Block) : (s.passReply b rest).work = s.work := rfl

theorem State.passNotice_work (s : State) : s.passNotice.work = s.work := by
  unfold State.passNotice
  split <;> rfl

theorem State.offerNotice_work (s : State) : s.offerNotice.work = s.work := by
  unfold State.offerNotice
  split
  · exact s.passNotice_work
  · rfl

/-- With an empty intake the agent's turn passes a reply. -/
theorem State.agentTurn_work (s t : State) (hi : s.agent.intake = []) (h : s.agentTurn = some t) :
    t.work = s.work ∧ t.agent.intake = [] := by
  unfold State.agentTurn at h
  rw [hi] at h
  split at h
  · split at h
    · cases h; exact ⟨s.passReply_work _ _, hi⟩
    · cases h
  · rename_i e; cases e
  · cases h

theorem State.noticeTurn_work (s t : State) (hi : s.agent.intake = []) (h : s.noticeTurn = some t) :
    t.work = s.work ∧ t.agent.intake = [] := by
  unfold State.noticeTurn at h
  split at h
  · cases h
    have e := s.passNotice_work
    exact ⟨e, (congrArg (fun w : State => w.agent.intake) e).trans hi⟩
  · cases h

/-- With an empty intake the turns leave all but ring transit, the outbox, the notice queue and the free choices. -/
theorem State.agentTurns_work (n : Nat) : ∀ s : State, s.agent.intake = [] →
    (s.agentTurns n).work = s.work ∧ (s.agentTurns n).agent.intake = [] := by
  induction n with
  | zero => intro s hi; exact ⟨rfl, hi⟩
  | succ n ih =>
    intro s hi
    unfold State.agentTurns
    split
    · exact ⟨rfl, hi⟩
    · rename_i ha _
      have a := s.agentTurn_work _ hi ha
      exact ⟨(ih _ a.2).1.trans a.1, (ih _ a.2).2⟩
    · rename_i _ hb
      have b := s.noticeTurn_work _ hi hb
      exact ⟨(ih _ b.2).1.trans b.1, (ih _ b.2).2⟩
    · rename_i ha hb
      split
      · have a := s.agentTurn_work _ hi ha
        have i := ih (State.spend _ 1) a.2
        exact ⟨i.1.trans a.1, i.2⟩
      · have b := s.noticeTurn_work _ hi hb
        have i := ih (State.spend _ 1) b.2
        exact ⟨i.1.trans b.1, i.2⟩

/-- The turns of an agent with nothing to do. -/
theorem State.agentTurns_rest (n : Nat) (s : State) (hi : s.agent.intake = []) (ho : s.agent.outbox = [])
    (hn : s.agent.notices = []) : s.agentTurns n = s := by
  cases n with
  | zero => rfl
  | succ n =>
    have ha : s.agentTurn = none := by unfold State.agentTurn; rw [hi, ho]
    have hb : s.noticeTurn = none := by unfold State.noticeTurn; rw [hn]; simp
    unfold State.agentTurns
    rw [ha, hb]

/-- How many more blocks MQ takes (R16). -/
def State.mqRoom (s : State) : Nat := if s.repeater || s.prot.ring == .isolated then 0 else 16 - s.ring.mq.length

/-- MQ takes a block exactly while it has room. -/
theorem State.takes_mq (s : State) : s.takes .mq = decide (0 < s.mqRoom) := by
  unfold State.takes State.mqRoom
  by_cases h : s.repeater = true
  · simp [h]
  · by_cases h2 : s.prot.ring = .isolated
    · simp [h2]
    · have h3 : (s.prot.ring == .isolated) = false := by simpa using h2
      have h4 : (s.prot.ring != .isolated) = true := by simpa using h2
      have h5 : s.repeater = false := by simpa using h
      rw [h3, h4, h5]
      simp only [Bool.not_false, Bool.true_and, Bool.or_false]
      refine decide_eq_decide.mpr ?_
      show s.ring.mq.length < 16 ↔ 0 < 16 - s.ring.mq.length
      omega

/-- The outbox's first n blocks passed to MQ. -/
def State.passMany (s : State) : Nat → State
  | 0 => s
  | n + 1 =>
    match s.agent.outbox with
    | [] => s
    | b :: rest => (s.passReply b rest).passMany n

/-- What passing replies leaves in the two queues. -/
theorem State.passMany_spec (n : Nat) : ∀ s : State,
    (s.passMany n).ring.mq = s.ring.mq ++ (s.agent.outbox.take n).map s.completed ∧
      (s.passMany n).agent.outbox = s.agent.outbox.drop n ∧ (s.passMany n).agent.notices = s.agent.notices ∧
      (s.passMany n).work = s.work := by
  induction n with
  | zero => intro s; exact ⟨by simp [State.passMany], rfl, rfl, rfl⟩
  | succ n ih =>
    intro s
    cases ho : s.agent.outbox with
    | nil => unfold State.passMany; rw [ho]; exact ⟨by simp, by simp [ho], rfl, rfl⟩
    | cons b rest =>
      have i := ih (s.passReply b rest)
      unfold State.passMany
      rw [ho]
      refine ⟨i.1.trans ?_, i.2.1.trans rfl, i.2.2.1, i.2.2.2⟩
      show (s.ring.mq ++ [s.completed b]) ++ (rest.take n).map s.completed = _
      simp

/-- The turns of an agent with no command and no notice pass as many replies as MQ takes. -/
theorem State.agentTurns_pump (n : Nat) : ∀ s : State, s.agent.intake = [] → s.agent.notices = [] → s.mqRoom ≤ n →
    s.agentTurns n = s.passMany s.mqRoom := by
  induction n with
  | zero =>
    intro s _ _ hr
    have h0 : s.mqRoom = 0 := by omega
    rw [h0]
    rfl
  | succ n ih =>
    intro s hi hn hr
    have hb : s.noticeTurn = none := by unfold State.noticeTurn; rw [hn]; simp
    cases hm : s.mqRoom with
    | zero =>
      have ha : s.agentTurn = none := by
        unfold State.agentTurn
        rw [hi]
        split
        · exact if_neg (by rw [State.takes_mq, hm]; decide)
        · rename_i e; cases e
        · rfl
      rw [State.agentTurns, ha, hb]
      rfl
    | succ m =>
      cases ho : s.agent.outbox with
      | nil =>
        rw [State.agentTurns_rest _ s hi ho hn]
        unfold State.passMany
        rw [ho]
      | cons b rest =>
        have ha : s.agentTurn = some (s.passReply b rest) := by
          unfold State.agentTurn
          rw [ho]
          exact if_pos (by rw [State.takes_mq, hm]; exact decide_eq_true (Nat.succ_pos m))
        have hroom : (s.passReply b rest).mqRoom = m := by
          have e : (s.passReply b rest).mqRoom = if s.repeater || s.prot.ring == .isolated then 0
              else 16 - (s.ring.mq ++ [s.completed b]).length := rfl
          rw [e]
          unfold State.mqRoom at hm
          split at hm <;> rename_i hc
          · cases hm
          · rw [if_neg hc, List.length_append, List.length_singleton]; omega
        rw [State.agentTurns, ha, hb]
        unfold State.passMany
        rw [ho]
        have i := ih (s.passReply b rest) hi hn (by omega)
        rw [hroom] at i
        exact i

theorem State.mqRoom_le (s : State) : s.mqRoom ≤ 16 := by unfold State.mqRoom; split <;> omega

/-- The state after an idle agent has taken a command. -/
def State.tookCommand (s : State) : State := s.modAgent fun a => { a with intake := [], taken := bump a.taken }

/-- A command handed to an idle agent is carried out and answered. -/
theorem State.agentReceive_idle (s : State) (c : Command) (hi : s.agent.intake = []) (ho : s.agent.outbox = [])
    (hn : s.agent.notices = []) :
    s.agentReceive c =
      ((s.tookCommand.carryOut c).2.reply c (s.tookCommand.carryOut c).1).agentTurns 23 := by
  unfold State.agentReceive
  rw [hi, if_pos (by decide)]
  unfold State.agentRun
  generalize hs : (s.modAgent fun a => { a with intake := a.intake ++ [c] }) = s1
  have h1 : s1.agent.intake = [c] := by rw [← hs]; show s.agent.intake ++ [c] = [c]; rw [hi]; rfl
  have h2 : s1.agent.outbox = [] := by rw [← hs]; exact ho
  have h3 : s1.agent.notices = [] := by rw [← hs]; exact hn
  have ha : s1.agentTurn = some (s1.takeCommand c []) := by unfold State.agentTurn; rw [h2, h1]
  have hb : s1.noticeTurn = none := by unfold State.noticeTurn; rw [h3]; simp
  have e : s1.agentTurns (23 + 1) = (s1.takeCommand c []).agentTurns 23 := by
    rw [State.agentTurns, ha, hb]
  refine e.trans ?_
  rw [← hs]
  rfl

/-- What a quiet agent's state says. -/
theorem State.agentQuiet_iff (s : State) : s.agentQuiet = true ↔
    s.repeater = false ∧ s.agent.intake = [] ∧ s.agent.outbox = [] ∧ s.agent.notices = [] := by
  simp [State.agentQuiet, and_assoc]

/-- A state is known by what the offers to MQ leave and by what they move. -/
theorem State.ext_of_work {s t : State} (hw : s.work = t.work) (hr : s.ring = t.ring) (ho : s.agent.outbox = t.agent.outbox)
    (hn : s.agent.notices = t.agent.notices) (hf : s.free = t.free) : s = t := by
  have ha : { s.agent with outbox := [], notices := [] } = { t.agent with outbox := [], notices := [] } :=
    congrArg State.agent hw
  have hag : s.agent = t.agent := by
    calc s.agent = { ({ s.agent with outbox := [], notices := [] } : Agent) with
          outbox := s.agent.outbox, notices := s.agent.notices } := rfl
      _ = _ := by rw [ha, ho, hn]
  calc s = { s.work with ring := s.ring, agent := s.agent, free := s.free } := rfl
    _ = t := by rw [hw, hr, hag, hf]; rfl

/-- What passing replies does beside the two queues: nothing. -/
theorem State.passMany_rest (n : Nat) : ∀ s : State,
    (s.passMany n).ring = { s.ring with mq := (s.passMany n).ring.mq } ∧ (s.passMany n).free = s.free := by
  induction n with
  | zero => intro s; exact ⟨rfl, rfl⟩
  | succ n ih =>
    intro s
    unfold State.passMany
    split
    · exact ⟨rfl, rfl⟩
    · rename_i b rest _
      exact ⟨(ih (s.passReply b rest)).1.trans rfl, (ih (s.passReply b rest)).2⟩

/-- MQ's room for an agent that runs, as withReply counts it. -/
theorem State.mqRoom_eq (s : State) (hr : s.repeater = false) :
    s.mqRoom = if s.prot.ring = .isolated then 0 else 16 - s.ring.mq.length := by
  unfold State.mqRoom
  simp [hr]

/-- A reply formed by an agent with nothing else in hand: its turns leave what withReply says. -/
theorem State.reply_turns (u : State) (c : Command) (st : Status) (content : List Byte) (hu : u.agentQuiet = true) :
    (u.reply c (some (st, content))).agentTurns 23 = u.withReply c st content := by
  obtain ⟨hr, hi, ho, hn⟩ := u.agentQuiet_iff.mp hu
  have hout : (u.reply c (some (st, content))).agent.outbox = replyBlocks c st content := by
    show u.agent.outbox ++ replyBlocks c st content = _
    rw [ho, List.nil_append]
  have hroom : (u.reply c (some (st, content))).mqRoom = if u.prot.ring = .isolated then 0 else 16 - u.ring.mq.length :=
    u.mqRoom_eq hr
  rw [State.agentTurns_pump 23 (u.reply c (some (st, content))) hi hn (by have := (u.reply c (some (st, content))).mqRoom_le; omega), hroom]
  obtain ⟨n, hn'⟩ : ∃ n, (if u.prot.ring = .isolated then 0 else 16 - u.ring.mq.length) = n := ⟨_, rfl⟩
  rw [hn']
  obtain ⟨hm, hb, hc, hw⟩ := State.passMany_spec n (u.reply c (some (st, content)))
  have hrest := State.passMany_rest n (u.reply c (some (st, content)))
  have hx : u.withReply c st content = { u with
      ring := { u.ring with mq := u.ring.mq ++ ((replyBlocks c st content).take n).map u.completed },
      agent := { u.agent with outbox := (replyBlocks c st content).drop n } } := by
    unfold State.withReply
    rw [hn']
  rw [hx]
  refine State.ext_of_work (hw.trans rfl) ?_ (hb.trans (by rw [hout])) hc hrest.2
  rw [hrest.1, hm, hout]
  rfl

/-- A command handed to a quiet agent: when it is answered and its effect leaves the agent quiet, the reply stands as withReply
says. -/
theorem State.agentReceive_answers (s u : State) (c : Command) (st : Status) (content : List Byte) (hs : s.agentQuiet = true)
    (h : s.commandTaken.carryOut c = (some (st, content), u)) (hu : u.agentQuiet = true) :
    s.agentReceive c = u.withReply c st content := by
  obtain ⟨_, hi, ho, hn⟩ := s.agentQuiet_iff.mp hs
  have e : s.tookCommand = s.commandTaken := by
    show ({ s with agent := { s.agent with intake := [], taken := bump s.agent.taken } } : State) =
      { s with agent := { s.agent with taken := bump s.agent.taken } }
    rw [← hi]
  rw [State.agentReceive_idle s c hi ho hn, e, h]
  exact u.reply_turns c st content hu

/-- What an idle agent's state says. -/
theorem State.agentIdle_iff (s : State) : s.agentIdle = true ↔
    s.repeater = false ∧ s.agent.intake = [] ∧ s.agent.outbox = [] ∧ s.agent.notices = [] ∧ s.notReady = false := by
  simp [State.agentIdle, State.agentQuiet, and_assoc]

/-- An idle agent is quiet and runs. -/
theorem State.agentIdle_parts (s : State) (h : s.agentIdle = true) :
    s.agentQuiet = true ∧ s.notReady = false ∧ s.repeater = false := by
  have := s.agentIdle_iff.mp h
  exact ⟨s.agentQuiet_iff.mpr ⟨this.1, this.2.1, this.2.2.1, this.2.2.2.1⟩, this.2.2.2.2, this.1⟩

/-- A command handed to an idle agent whose order is in range and meets no save in flight that refuses it: it is answered as
carrying it out says. -/
theorem State.agentReceive_performs (s u : State) (c : Command) (o : Order) (st : Status) (content : List Byte)
    (h : s.agentIdle = true) (hk : knownCode c.code = true) (ho : c.order? = some o) (hr : o.inRange = true)
    (hs : o.savesOrWrites = true → s.ctl.save = none)
    (hp : s.commandTaken.perform c.src c.tag o = (some (st, content), u)) (hu : u.agentQuiet = true) :
    s.agentReceive c = u.withReply c st content := by
  obtain ⟨hq, hn, -⟩ := s.agentIdle_parts h
  refine State.agentReceive_answers s u c _ _ hq ?_ hu
  have h3 : s.commandTaken.notReady = false := hn
  unfold State.carryOut
  rw [if_neg (by simp [h3]), if_neg (by simp [hk]), ho]
  simp only
  rw [if_neg (by simp [hr]), if_neg ?_, hp]
  rintro ⟨a, b⟩
  have e : s.commandTaken.ctl.save = none := hs a
  rw [e] at b
  cases b

/-- R179: the head of the notice queue joins MQ behind what it holds. -/
theorem State.passNotice_ring (s : State) : ∃ more : List Block, s.passNotice.ring = { s.ring with mq := s.ring.mq ++ more } := by
  unfold State.passNotice
  split
  · exact ⟨[], by rw [List.append_nil]⟩
  · exact ⟨_, rfl⟩

/-- R171, R179: with no command waiting, the turns add blocks to MQ behind those it holds, and leave the rest of ring transit. -/
theorem State.agentTurns_ring (n : Nat) : ∀ s : State, s.agent.intake = [] →
    ∃ more : List Block, (s.agentTurns n).ring = { s.ring with mq := s.ring.mq ++ more } := by
  induction n with
  | zero => intro s _; exact ⟨[], by rw [List.append_nil]; rfl⟩
  | succ n ih =>
    intro s hi
    have ha : ∀ a, s.agentTurn = some a → a.agent.intake = [] ∧ ∃ more : List Block, a.ring = { s.ring with mq := s.ring.mq ++ more } := by
      intro a h
      refine ⟨(s.agentTurn_work a hi h).2, ?_⟩
      unfold State.agentTurn at h
      rw [hi] at h
      split at h
      · split at h
        · cases h; exact ⟨_, rfl⟩
        · cases h
      · rename_i e; cases e
      · cases h
    have hb : ∀ b, s.noticeTurn = some b → b.agent.intake = [] ∧ ∃ more : List Block, b.ring = { s.ring with mq := s.ring.mq ++ more } := by
      intro b h
      refine ⟨(s.noticeTurn_work b hi h).2, ?_⟩
      unfold State.noticeTurn at h
      split at h
      · cases h; exact s.passNotice_ring
      · cases h
    have go : ∀ u : State, u.agent.intake = [] → (∃ more : List Block, u.ring = { s.ring with mq := s.ring.mq ++ more }) →
        ∃ more : List Block, (u.agentTurns n).ring = { s.ring with mq := s.ring.mq ++ more } := by
      rintro u hu ⟨m, e⟩
      obtain ⟨m2, e2⟩ := ih u hu
      exact ⟨m ++ m2, by rw [e2, e]; simp [List.append_assoc]⟩
    unfold State.agentTurns
    split
    · exact ⟨[], by rw [List.append_nil]⟩
    · rename_i a h _; exact go a (ha a h).1 (ha a h).2
    · rename_i b _ h; exact go b (hb b h).1 (hb b h).2
    · rename_i a b h h2
      split
      · exact go (a.spend 1) (ha a h).1 (ha a h).2
      · exact go (b.spend 1) (hb b h2).1 (hb b h2).2

end Sys2Proof.Machine
end

