-- ==== Sys2Proof/Laws/FrameOut.lean ====
section
/-! SUPPORT. The operations that leave the two out ports: what they send, their allowances, credits, windows and hold-off marks. -/

namespace Sys2Proof.Machine

/-- The two out ports. -/
def State.outView (s : State) : PerSide OutPort := s.ring.out

theorem State.popFrom_outView (s : State) (q : LocalQueue) : (s.modRing (·.pop q)).outView = s.outView := by
  cases q <;> rfl

theorem State.modLanes_outView (s : State) (f : Vector LaneEntry 64 → Vector LaneEntry 64) :
    (s.modLanes f).outView = s.outView := rfl

theorem State.modProt_outView (s : State) (f : Protection → Protection) :
    (s.modProt f).outView = s.outView := rfl

theorem State.modPoll_outView (s : State) (f : Poller → Poller) :
    (s.modPoll f).outView = s.outView := rfl

theorem State.modCalls_outView (s : State) (f : CallEngine → CallEngine) :
    (s.modCalls f).outView = s.outView := rfl

theorem State.modJrnl_outView (s : State) (f : Journal → Journal) :
    (s.modJrnl f).outView = s.outView := rfl

theorem State.modCtl_outView (s : State) (f : StoreController → StoreController) :
    (s.modCtl f).outView = s.outView := rfl

theorem State.modNv_outView (s : State) (f : Memory → Memory) :
    (s.modNv f).outView = s.outView := rfl

theorem State.modSlots_outView (s : State) (f : Vector ReductionSlot 8 → Vector ReductionSlot 8) :
    (s.modSlots f).outView = s.outView := rfl

theorem State.modRules_outView (s : State) (f : Vector Rule 32 → Vector Rule 32) :
    (s.modRules f).outView = s.outView := rfl

theorem State.modSign_outView (s : State) (f : SignService → SignService) :
    (s.modSign f).outView = s.outView := rfl

theorem State.modSup_outView (s : State) (f : Supply → Supply) :
    (s.modSup f).outView = s.outView := rfl

theorem State.modAgent_outView (s : State) (f : Agent → Agent) :
    (s.modAgent f).outView = s.outView := rfl

theorem State.modLane_outView (s : State) (i : Fin 64) (f : LaneEntry → LaneEntry) :
    (s.modLane i f).outView = s.outView := rfl

theorem State.modStation_outView (s : State) (i : Fin 32) (f : Station → Station) :
    (s.modStation i f).outView = s.outView := rfl

theorem State.modDrop_outView (s : State) (i : Fin 4) (f : Drop → Drop) :
    (s.modDrop i f).outView = s.outView := rfl

theorem State.modRecord_outView (s : State) (i : Fin 16) (f : CallRecord → CallRecord) :
    (s.modRecord i f).outView = s.outView := rfl

theorem State.modAnswers_outView (s : State) (i : Fin 32) (f : List AnswerEntry → List AnswerEntry) :
    (s.modAnswers i f).outView = s.outView := rfl

theorem State.modSlot_outView (s : State) (i : Fin 8) (f : ReductionSlot → ReductionSlot) :
    (s.modSlot i f).outView = s.outView := rfl

theorem State.modRule_outView (s : State) (i : Fin 32) (f : Rule → Rule) :
    (s.modRule i f).outView = s.outView := rfl

theorem State.modSignRec_outView (s : State) (i : Fin 12) (f : Sign → Sign) :
    (s.modSignRec i f).outView = s.outView := rfl

theorem State.modPort_outView (s : State) (i : Side) (f : RxPort → RxPort) :
    (s.modPort i f).outView = s.outView := rfl

theorem State.spend_outView (s : State) (n : Nat) :
    (s.spend n).outView = s.outView := rfl

theorem State.reach_outView (s : State) (n : Nat) :
    (s.reach n).outView = s.outView := rfl

/-- A loop whose steps leave it leaves it. -/
theorem State.forEach_outView {α : Type} (f : α → State → State) (h : ∀ a t, (f a t).outView = t.outView) (l : List α) :
    ∀ s : State, (s.forEach l f).outView = s.outView := by
  induction l with
  | nil => intro s; rfl
  | cons a l ih => intro s; exact (ih (f a s)).trans (h a s)


theorem State.putSlot_outView (s : State) (slot : Nat) (l : List Byte) :
    (s.putSlot slot l).outView = s.outView := by
  simp only [State.putSlot, State.modNv_outView]

theorem State.putMark_outView (s : State) (slot : Nat) (mark : Byte) :
    (s.putMark slot mark).outView = s.outView := by
  simp only [State.putMark, State.modNv_outView]

theorem State.afterRead_outView (s : State) (slot : Nat) (got : ReadBack) :
    (s.afterRead slot got).outView = s.outView := by
  unfold State.afterRead
  repeat' first | (with_reducible rfl) | simp only [State.putSlot_outView] | split

theorem State.join_outView (s : State) (q : LocalQueue) (b : Block) :
    (s.join q b).outView = s.outView := by
  unfold State.join
  cases q <;> rfl

theorem State.offerRing_outView (s : State) (port : Side) (subtype : BitVec 4) (body : List Byte) :
    (s.offerRing port subtype body).outView = s.outView := by
  unfold State.offerRing
  split <;> rfl

theorem State.passNotice_outView (s : State) :
    (s.passNotice).outView = s.outView := by
  unfold State.passNotice
  repeat' first | (with_reducible rfl) | simp only [State.modAgent_outView, State.join_outView] | split

theorem State.offerNotice_outView (s : State) :
    (s.offerNotice).outView = s.outView := by
  unfold State.offerNotice
  repeat' first | (with_reducible rfl) | simp only [State.passNotice_outView] | split

theorem State.notify_outView (s : State) (body : NoticeBody) :
    (s.notify body).outView = s.outView := by
  unfold State.notify
  repeat' first | (with_reducible rfl) | simp only [State.modAgent_outView, State.offerNotice_outView] | split

theorem State.startStep_outView (s : State) (op : StoreOp) :
    (s.startStep op).outView = s.outView := by
  simp only [State.startStep, State.modCtl_outView]

theorem State.startOp_outView (s : State) (op : StoreOp) :
    (s.startOp op).outView = s.outView := by
  simp only [State.startOp, State.modCtl_outView, State.startStep_outView]

theorem State.startCommit_outView (s : State) :
    (s.startCommit).outView = s.outView := by
  unfold State.startCommit
  repeat' first | (with_reducible rfl) | simp only [State.modJrnl_outView, State.startOp_outView] | split

theorem State.startRead_outView (s : State) (serial : Nat) (rest : List Nat) :
    (s.startRead serial rest).outView = s.outView := by
  unfold State.startRead
  repeat' first | (with_reducible rfl) | simp only [State.modJrnl_outView, State.modCtl_outView, State.startOp_outView] | split

theorem State.startSave_outView (s : State) (sv : Save) :
    (s.startSave sv).outView = s.outView := by
  unfold State.startSave
  repeat' first | (with_reducible rfl) | simp only [State.startOp_outView] | split

theorem State.storeKick_outView (s : State) :
    (s.storeKick).outView = s.outView := by
  unfold State.storeKick
  repeat' first | (with_reducible rfl) | simp only [State.startCommit_outView, State.startOp_outView, State.startSave_outView, State.startRead_outView] | split

theorem State.scanRead_outView (s : State) (slot : Nat) :
    (s.scanRead slot).outView = s.outView := by
  simp only [State.scanRead, State.startStep_outView]

theorem State.endOp_outView (s : State) :
    (s.endOp).outView = s.outView := by
  unfold State.endOp
  repeat' first | (with_reducible rfl) | simp only [State.modCtl_outView, State.scanRead_outView] | split

theorem State.startVerify_outView (s : State) (slot : Nat) (bytes : List Byte) (op : StoreOp) :
    (s.startVerify slot bytes op).outView = s.outView := by
  simp only [State.startVerify, State.startStep_outView, State.putSlot_outView]

theorem State.deliverVerdict_outView (s : State) (t : Txn) (v : Verdict) :
    (s.deliverVerdict t v).outView = s.outView := by
  unfold State.deliverVerdict
  repeat' first | (with_reducible rfl) | simp only [State.modJrnl_outView, State.modAnswers_outView] | split

theorem State.emptyAnswers_outView (s : State) (slot : Fin 32) :
    (s.emptyAnswers slot).outView = s.outView := by
  simp only [State.emptyAnswers, State.modJrnl_outView, State.modAnswers_outView]

theorem State.emptyReadAhead_outView (s : State) :
    (s.emptyReadAhead).outView = s.outView := by
  simp only [State.emptyReadAhead, State.modJrnl_outView, State.modCtl_outView]

theorem State.requestRead_outView (s : State) (serial : Nat) :
    (s.requestRead serial).outView = s.outView := by
  simp only [State.requestRead, State.modJrnl_outView, State.modCtl_outView, State.storeKick_outView]

theorem State.requestReadsUpTo_outView (s : State) (n : Nat) :
    (s.requestReadsUpTo n).outView = s.outView := by
  induction n generalizing s with
  | zero => rfl
  | succ n ih =>
    unfold State.requestReadsUpTo
    repeat' first | (with_reducible rfl) | simp only [State.requestRead_outView, ih] | split

theorem State.requestReads_outView (s : State) :
    (s.requestReads).outView = s.outView := by
  simp only [State.requestReads, State.requestReadsUpTo_outView]

theorem State.offerTollsUpTo_outView (s : State) (n : Nat) :
    (s.offerTollsUpTo n).outView = s.outView := by
  induction n generalizing s with
  | zero => rfl
  | succ n ih =>
    unfold State.offerTollsUpTo
    repeat' first | (with_reducible rfl) | simp only [State.modJrnl_outView, State.requestReads_outView, State.join_outView, ih] | split

theorem State.offerTolls_outView (s : State) :
    (s.offerTolls).outView = s.outView := by
  simp only [State.offerTolls, State.offerTollsUpTo_outView]

theorem State.revert_outView (s : State) :
    (s.revert).outView = s.outView := by
  simp only [State.revert, State.modJrnl_outView, State.modCtl_outView, State.requestReads_outView]

theorem State.retime_outView (s : State) :
    (s.retime).outView = s.outView := by
  unfold State.retime
  repeat' first | (with_reducible rfl) | simp only [State.revert_outView] | split

theorem State.testFull_outView (s : State) :
    (s.testFull).outView = s.outView := by
  unfold State.testFull
  repeat' first | (with_reducible rfl) | simp only [State.modJrnl_outView, State.notify_outView] | split

theorem State.testHighMark_outView (s : State) :
    (s.testHighMark).outView = s.outView := by
  unfold State.testHighMark
  repeat' first | (with_reducible rfl) | simp only [State.modJrnl_outView, State.notify_outView] | split

theorem State.journalHoldup_outView (s : State) :
    (s.journalHoldup).outView = s.outView := by
  unfold State.journalHoldup
  repeat' first | (with_reducible rfl) | simp only [State.modJrnl_outView] | split

theorem State.journalHoldupEnds_outView (s : State) :
    (s.journalHoldupEnds).outView = s.outView := by
  unfold State.journalHoldupEnds
  repeat' first | (with_reducible rfl) | simp only [State.modJrnl_outView, State.storeKick_outView] | split

theorem State.journalFault_outView (s : State) (cause : StoreCause) :
    (s.journalFault cause).outView = s.outView := by
  unfold State.journalFault
  repeat' first | (with_reducible rfl) | simp only [State.modJrnl_outView, State.notify_outView, State.emptyReadAhead_outView, State.deliverVerdict_outView, State.forEach_outView, implies_true] | split

theorem State.giveVerdict_outView (s : State) (slot : Fin 32) (number : BitVec 16) (v : Verdict) :
    (s.giveVerdict slot number v).outView = s.outView := by
  unfold State.giveVerdict
  repeat' first | (with_reducible rfl) | simp only [State.modJrnl_outView, State.modAnswers_outView] | split

theorem State.judgeTxn_outView (s : State) (slot : Fin 32) (drop : Fin 4) (address : BitVec 5) (number : BitVec 16) (body : List Byte) :
    (s.judgeTxn slot drop address number body).outView = s.outView := by
  unfold State.judgeTxn
  repeat' first | (with_reducible rfl) | simp only [State.modJrnl_outView, State.modAnswers_outView, State.giveVerdict_outView, State.storeKick_outView] | split

theorem State.takeTxn_outView (s : State) (slot : Fin 32) (drop : Fin 4) (address : BitVec 5) (number : BitVec 16) (body : List Byte) :
    (s.takeTxn slot drop address number body).outView = s.outView := by
  unfold State.takeTxn
  repeat' first | (with_reducible rfl) | simp only [State.modJrnl_outView, State.modAnswers_outView, State.judgeTxn_outView] | split

theorem State.carryAnswers_outView (s : State) (slot : Fin 32) :
    (s.carryAnswers slot).outView = s.outView := by
  simp only [State.carryAnswers, State.modAnswers_outView]

theorem State.answersOutcome_outView (s : State) (slot : Fin 32) (good : Bool) :
    (s.answersOutcome slot good).outView = s.outView := by
  unfold State.answersOutcome
  repeat' first | (with_reducible rfl) | simp only [State.modJrnl_outView, State.modAnswers_outView] | split

theorem State.commitSucceeds_outView (s : State) (h : InHand) :
    (s.commitSucceeds h).outView = s.outView := by
  simp only [State.commitSucceeds, State.modJrnl_outView, State.requestReads_outView, State.testHighMark_outView, State.deliverVerdict_outView, State.testFull_outView]

theorem State.commitMismatches_outView (s : State) (h : InHand) :
    (s.commitMismatches h).outView = s.outView := by
  unfold State.commitMismatches
  repeat' first | (with_reducible rfl) | simp only [State.modJrnl_outView, State.journalFault_outView, State.testFull_outView] | split

theorem State.readDone_outView (s : State) (serial slot : Nat) (l : List Byte) :
    (s.readDone serial slot l).outView = s.outView := by
  unfold State.readDone
  repeat' first | (with_reducible rfl) | simp only [State.modJrnl_outView, State.modCtl_outView, State.storeKick_outView, State.offerTolls_outView] | split

theorem State.releaseOldest_outView (s : State) :
    (s.releaseOldest).outView = s.outView := by
  unfold State.releaseOldest
  repeat' first | (with_reducible rfl) | simp only [State.modJrnl_outView, State.modCtl_outView, State.storeKick_outView] | split

theorem State.release_outView (s : State) (n : Nat) :
    (s.release n).outView = s.outView := by
  induction n generalizing s with
  | zero => rfl
  | succ n ih =>
    unfold State.release
    repeat' first | (with_reducible rfl) | simp only [State.releaseOldest_outView, ih] | split

theorem State.testReopened_outView (s : State) :
    (s.testReopened).outView = s.outView := by
  unfold State.testReopened
  repeat' first | (with_reducible rfl) | simp only [State.modJrnl_outView, State.storeKick_outView] | split

theorem State.ack_outView (s : State) (k : Nat) :
    (s.ack k).outView = s.outView := by
  unfold State.ack
  repeat' first | (with_reducible rfl) | simp only [State.modJrnl_outView, State.release_outView, State.testReopened_outView, State.requestReads_outView, State.offerTolls_outView, State.retime_outView] | split

theorem State.pull_outView (s : State) (c : Nat) :
    (s.pull c).outView = s.outView := by
  simp only [State.pull, State.modJrnl_outView, State.requestReads_outView]

theorem State.drainEnd_outView (s : State) :
    (s.drainEnd).outView = s.outView := by
  simp only [State.drainEnd, State.modJrnl_outView, State.emptyReadAhead_outView]

theorem State.controlDiscarded_outView (s : State) :
    (s.controlDiscarded).outView = s.outView := by
  simp only [State.controlDiscarded, State.modJrnl_outView]

theorem State.takeTollControl_outView (s : State) (b : Block) :
    (s.takeTollControl b).outView = s.outView := by
  unfold State.takeTollControl
  repeat' first | (with_reducible rfl) | simp only [State.ack_outView, State.drainEnd_outView, State.controlDiscarded_outView, State.pull_outView] | split

theorem State.journalIsolated_outView (s : State) (handed : List Nat) :
    (s.journalIsolated handed).outView = s.outView := by
  simp only [State.journalIsolated, State.modJrnl_outView, State.retime_outView, State.emptyReadAhead_outView]

theorem State.restartJournal_outView (s : State) :
    (s.restartJournal).outView = s.outView := by
  simp only [State.restartJournal, State.modJrnl_outView, State.emptyReadAhead_outView]

theorem State.countVoice_outView (s : State) (r : Fin 16) (f : VoiceCounters → VoiceCounters) :
    (s.countVoice r f).outView = s.outView := by
  simp only [State.countVoice, State.modCalls_outView, State.modRecord_outView]

theorem State.modVoice_outView (s : State) (r : Fin 16) (f : VoiceFields → VoiceFields) :
    (s.modVoice r f).outView = s.outView := by
  simp only [State.modVoice, State.modRecord_outView]

theorem State.captureBlock_outView (s : State) (r : Fin 16) (samples : List Byte) :
    (s.captureBlock r samples).outView = s.outView := by
  unfold State.captureBlock
  repeat' first | (with_reducible rfl) | simp only [State.countVoice_outView, State.join_outView] | split

theorem State.voiceOutcome_outView (s : State) (slot : Fin 32) (o : VoiceOutcome) :
    (s.voiceOutcome slot o).outView = s.outView := by
  unfold State.voiceOutcome
  repeat' first | (with_reducible rfl) | simp only [State.modCalls_outView, State.countVoice_outView, State.captureBlock_outView, State.modVoice_outView] | split

theorem State.playStep_outView (s : State) (r : Fin 16) :
    (s.playStep r).2.outView = s.outView := by
  unfold State.playStep
  repeat' first | (with_reducible rfl) | simp only [State.countVoice_outView, State.modVoice_outView] | split

theorem State.insertVoice_outView (s : State) (r : Fin 16) (next : Byte) (f : VoiceFrame) :
    (s.insertVoice r next f).outView = s.outView := by
  simp only [State.insertVoice, State.countVoice_outView, State.modVoice_outView]

theorem State.resyncVoice_outView (s : State) (r : Fin 16) (f : VoiceFrame) :
    (s.resyncVoice r f).outView = s.outView := by
  unfold State.resyncVoice
  repeat' first | (with_reducible rfl) | simp only [State.countVoice_outView, State.modVoice_outView] | split

theorem State.placeVoice_outView (s : State) (r : Fin 16) (f : VoiceFrame) :
    (s.placeVoice r f).outView = s.outView := by
  unfold State.placeVoice
  repeat' first | (with_reducible rfl) | simp only [State.countVoice_outView, State.resyncVoice_outView, State.insertVoice_outView] | split

theorem State.takeVoice_outView (s : State) (r : Fin 16) (b : Block) :
    (s.takeVoice r b).outView = s.outView := by
  unfold State.takeVoice
  repeat' first | (with_reducible rfl) | simp only [State.countVoice_outView, State.placeVoice_outView] | split

theorem State.countSlot_outView (s : State) (k : Fin 8) (f : SlotCounters → SlotCounters) :
    (s.countSlot k f).outView = s.outView := by
  simp only [State.countSlot, State.modSlot_outView]

theorem State.forwardReading_outView (s : State) (k : Fin 8) (drop : Fin 4) (address : BitVec 5) (x : Reading) (speed : Option Nat) :
    (s.forwardReading k drop address x speed).outView = s.outView := by
  unfold State.forwardReading
  repeat' first | (with_reducible rfl) | simp only [State.countSlot_outView, State.join_outView] | split

theorem State.weatherOffline_outView (s : State) (k : Fin 8) :
    (s.weatherOffline k).outView = s.outView := by
  unfold State.weatherOffline
  repeat' first | (with_reducible rfl) | simp only [State.modSlot_outView, State.notify_outView] | split

theorem State.countSign_outView (s : State) (k : Fin 12) (f : SignCounters → SignCounters) :
    (s.countSign k f).outView = s.outView := by
  simp only [State.countSign, State.modSignRec_outView]

theorem State.arbitrate_outView (s : State) (k : Fin 12) :
    (s.arbitrate k).outView = s.outView := by
  simp only [State.arbitrate, State.modSignRec_outView]

theorem State.arbitrateSet_outView (s : State) (m : BitVec 12) :
    (s.arbitrateSet m).outView = s.outView := by
  simp only [State.arbitrateSet, State.arbitrate_outView, State.forEach_outView, implies_true]

theorem State.noticeRule_outView (s : State) (i : Fin 32) :
    (s.noticeRule i).outView = s.outView := by
  simp only [State.noticeRule, State.notify_outView]

theorem State.settle_outView (s : State) (also : BitVec 12) (but : Option (Fin 32)) :
    (s.settle also but).outView = s.outView := by
  unfold State.settle
  repeat' first | (with_reducible rfl) | simp only [State.modRules_outView, State.noticeRule_outView, State.arbitrateSet_outView, State.forEach_outView, implies_true] | split

theorem State.evaluate_outView (s : State) (k : Fin 8) :
    (s.evaluate k).outView = s.outView := by
  unfold State.evaluate
  repeat' first | (with_reducible rfl) | simp only [State.modRules_outView, State.settle_outView] | split

theorem State.writeRule_outView (s : State) (i : Fin 32) (x : RuleRecord) :
    (s.writeRule i x).outView = s.outView := by
  simp only [State.writeRule, State.modRule_outView, State.settle_outView]

theorem State.settleAll_outView (s : State) :
    (s.settleAll).outView = s.outView := by
  simp only [State.settleAll, State.modRules_outView, State.arbitrateSet_outView]

theorem State.restartSigns_outView (s : State) :
    (s.restartSigns).outView = s.outView := by
  simp only [State.restartSigns, State.modRules_outView, State.settleAll_outView]

theorem State.modPage_outView (s : State) (k : Fin 12) (p : Fin 8) (f : Page → Page) :
    (s.modPage k p f).outView = s.outView := by
  simp only [State.modPage, State.modSignRec_outView]

theorem State.pageOpen_outView (s : State) (k : Fin 12) (p : Fin 8) (code : Byte) :
    (s.pageOpen k p code).2.outView = s.outView := by
  unfold State.pageOpen
  repeat' first | (with_reducible rfl) | simp only [State.modSign_outView, State.modPage_outView] | split

theorem State.pageData_outView (s : State) (k : Fin 12) (p : Fin 8) (offset : Nat) (data : List Byte) :
    (s.pageData k p offset data).2.outView = s.outView := by
  unfold State.pageData
  repeat' first | (with_reducible rfl) | simp only [State.modSign_outView, State.modPage_outView, State.arbitrate_outView] | split

theorem State.pageDiscard_outView (s : State) (k : Fin 12) (p : Fin 8) :
    (s.pageDiscard k p).2.outView = s.outView := by
  unfold State.pageDiscard
  repeat' first | (with_reducible rfl) | simp only [State.modPage_outView, State.arbitrate_outView] | split

theorem State.signSet_outView (s : State) (k : Fin 12) (p : Fin 8) (priority minutes : Nat) :
    (s.signSet k p priority minutes).2.outView = s.outView := by
  unfold State.signSet
  repeat' first | (with_reducible rfl) | simp only [State.modSignRec_outView, State.arbitrate_outView] | split

theorem State.dropRequest_outView (s : State) (k : Fin 12) :
    (s.dropRequest k).outView = s.outView := by
  simp only [State.dropRequest, State.modSignRec_outView, State.arbitrate_outView]

theorem State.signCancel_outView (s : State) (k : Fin 12) :
    (s.signCancel k).2.outView = s.outView := by
  unfold State.signCancel
  repeat' first | (with_reducible rfl) | simp only [State.dropRequest_outView] | split

theorem State.signPayload_outView (s : State) (k : Fin 12) :
    (s.signPayload k).2.outView = s.outView := by
  unfold State.signPayload
  repeat' first | (with_reducible rfl) | simp only [State.modSignRec_outView] | split

theorem State.signOutcome_outView (s : State) (k : Fin 12) (o : SignOutcome) :
    (s.signOutcome k o).outView = s.outView := by
  simp only [State.signOutcome, State.modSignRec_outView]

theorem State.relinkSign_outView (s : State) (k : Fin 12) (station : Option (Fin 32)) :
    (s.relinkSign k station).outView = s.outView := by
  simp only [State.relinkSign, State.modSignRec_outView]

theorem State.writeSign_outView (s : State) (k : Fin 12) (m : IntensityMode) :
    (s.writeSign k m).outView = s.outView := by
  simp only [State.writeSign, State.modSignRec_outView, State.arbitrate_outView]

theorem State.stationPayload_outView (s : State) (slot : Fin 32) :
    (s.stationPayload slot).2.outView = s.outView := by
  unfold State.stationPayload
  repeat' first | (with_reducible rfl) | simp only [State.signPayload_outView, State.carryAnswers_outView] | split

theorem State.voicePayload_outView (s : State) (slot : Fin 32) :
    (s.voicePayload slot).2.outView = s.outView := by
  unfold State.voicePayload
  repeat' first | (with_reducible rfl) | simp only [State.playStep_outView] | split

theorem State.beginExchange_outView (s : State) (d : Fin 4) (x : Exchange) (count : DropCounters → DropCounters) :
    (s.beginExchange d x count).outView = s.outView := by
  simp only [State.beginExchange, State.modDrop_outView]

theorem State.beginBroadcast_outView (s : State) (d : Fin 4) :
    (s.beginBroadcast d).outView = s.outView := by
  simp only [State.beginBroadcast, State.modDrop_outView, State.beginExchange_outView]

theorem State.beginVoice_outView (s : State) (d : Fin 4) (slot : Fin 32) :
    (s.beginVoice d slot).outView = s.outView := by
  unfold State.beginVoice
  repeat' first | (with_reducible rfl) | simp only [State.beginExchange_outView, State.voicePayload_outView] | split

theorem State.beginPoll_outView (s : State) (d : Fin 4) (slot : Fin 32) :
    (s.beginPoll d slot).outView = s.outView := by
  unfold State.beginPoll
  repeat' first | (with_reducible rfl) | simp only [State.beginExchange_outView, State.stationPayload_outView] | split

theorem State.chooseFrom_outView (s : State) (d : Fin 4) (voices polls : List (Fin 32 × Nat)) :
    (s.chooseFrom d voices polls).outView = s.outView := by
  unfold State.chooseFrom
  repeat' first | (with_reducible rfl) | simp only [State.beginBroadcast_outView, State.beginVoice_outView, State.beginPoll_outView] | split

theorem State.dropChoose_outView (s : State) (d : Fin 4) :
    (s.dropChoose d).outView = s.outView := by
  simp only [State.dropChoose, State.chooseFrom_outView]

theorem State.endChoose_outView (s : State) (d : Fin 4) :
    (s.endChoose d).outView = s.outView := by
  simp only [State.endChoose, State.chooseFrom_outView]

theorem State.dueComes_outView (s : State) (slot : Fin 32) (due : Option Nat) :
    (s.dueComes slot due).outView = s.outView := by
  simp only [State.dueComes, State.modStation_outView]

theorem State.dropsChoose_outView (s : State) :
    (s.dropsChoose).outView = s.outView := by
  simp only [State.dropsChoose, State.dropChoose_outView, State.forEach_outView, implies_true]

theorem State.seatTaken_outView (s : State) (slot : Fin 32) :
    (s.seatTaken slot).outView = s.outView := by
  simp only [State.seatTaken, State.modStation_outView, State.dropChoose_outView]

theorem State.seatReleased_outView (s : State) (slot : Fin 32) :
    (s.seatReleased slot).outView = s.outView := by
  simp only [State.seatReleased, State.modStation_outView]

theorem State.countCalls_outView (s : State) (f : CallCounters → CallCounters) :
    (s.countCalls f).outView = s.outView := by
  simp only [State.countCalls, State.modCalls_outView]

theorem State.sendCall_outView (s : State) (subtype : BitVec 4) (seq : Byte) (body : List Byte) :
    (s.sendCall subtype seq body).outView = s.outView := by
  unfold State.sendCall
  repeat' first | (with_reducible rfl) | simp only [State.countCalls_outView, State.join_outView] | split

theorem State.sendRequest_outView (s : State) (r : Fin 16) :
    (s.sendRequest r).outView = s.outView := by
  simp only [State.sendRequest, State.sendCall_outView]

theorem State.sendResume_outView (s : State) (r : Fin 16) :
    (s.sendResume r).outView = s.outView := by
  simp only [State.sendResume, State.sendCall_outView]

theorem State.sendClear_outView (s : State) (r : Fin 16) (reason : ClearReason) :
    (s.sendClear r reason).outView = s.outView := by
  simp only [State.sendClear, State.sendCall_outView]

theorem State.enterCalling_outView (s : State) (r : Fin 16) (lane : Fin 64) :
    (s.enterCalling r lane).outView = s.outView := by
  unfold State.enterCalling
  repeat' first | (with_reducible rfl) | simp only [State.modCalls_outView, State.modLane_outView, State.modRecord_outView, State.countCalls_outView, State.sendRequest_outView] | split

theorem State.tryCalling_outView (s : State) (r : Fin 16) :
    (s.tryCalling r).outView = s.outView := by
  unfold State.tryCalling
  repeat' first | (with_reducible rfl) | simp only [State.enterCalling_outView] | split

theorem State.testSeized_outView (s : State) :
    (s.testSeized).outView = s.outView := by
  simp only [State.testSeized, State.tryCalling_outView, State.forEach_outView, implies_true]

theorem State.seize_outView (s : State) (r : Fin 16) (slot : Fin 32) :
    (s.seize r slot).outView = s.outView := by
  simp only [State.seize, State.modRecord_outView, State.seatTaken_outView]

theorem State.leaveWaitList_outView (s : State) (slot : Fin 32) :
    (s.leaveWaitList slot).outView = s.outView := by
  unfold State.leaveWaitList
  repeat' first | (with_reducible rfl) | simp only [State.modCalls_outView, State.notify_outView] | split

theorem State.refillOne_outView (s : State) (slot : Fin 32) :
    (s.refillOne slot).outView = s.outView := by
  unfold State.refillOne
  repeat' first | (with_reducible rfl) | simp only [State.leaveWaitList_outView, State.seize_outView] | split

theorem State.refillWalk_outView (s : State) :
    (s.refillWalk).outView = s.outView := by
  simp only [State.refillWalk, State.refillOne_outView, State.forEach_outView, implies_true]

theorem State.refill_outView (s : State) :
    (s.refill).outView = s.outView := by
  unfold State.refill
  repeat' first | (with_reducible rfl) | simp only [State.refillWalk_outView, State.testSeized_outView] | split

theorem State.offHook_outView (s : State) (slot : Fin 32) :
    (s.offHook slot).outView = s.outView := by
  unfold State.offHook
  repeat' first | (with_reducible rfl) | simp only [State.modCalls_outView, State.countCalls_outView, State.seize_outView, State.notify_outView, State.testSeized_outView] | split

theorem State.releaseSeat_outView (s : State) (r : Fin 16) :
    (s.releaseSeat r).outView = s.outView := by
  unfold State.releaseSeat
  repeat' first | (with_reducible rfl) | simp only [State.seatReleased_outView] | split

theorem State.unbind_outView (s : State) (r : Fin 16) :
    (s.unbind r).outView = s.outView := by
  unfold State.unbind
  repeat' first | (with_reducible rfl) | simp only [State.modLane_outView] | split

theorem State.clearRecord_outView (s : State) (r : Fin 16) :
    (s.clearRecord r).outView = s.outView := by
  simp only [State.clearRecord, State.modRecord_outView, State.unbind_outView, State.releaseSeat_outView]

theorem State.freeCall_outView (s : State) (r : Fin 16) :
    (s.freeCall r).outView = s.outView := by
  simp only [State.freeCall, State.refill_outView, State.clearRecord_outView, State.testSeized_outView]

theorem State.clearLocal_outView (s : State) (r : Fin 16) (reason : ClearReason) :
    (s.clearLocal r reason).outView = s.outView := by
  simp only [State.clearLocal, State.modRecord_outView, State.countCalls_outView, State.releaseSeat_outView, State.refill_outView, State.sendClear_outView]

theorem State.clearCentre_outView (s : State) (r : Fin 16) (seq : Byte) :
    (s.clearCentre r seq).outView = s.outView := by
  simp only [State.clearCentre, State.modRecord_outView, State.countCalls_outView, State.releaseSeat_outView, State.sendCall_outView, State.refill_outView]

theorem State.endCall_outView (s : State) (r : Fin 16) (reason : ClearReason) :
    (s.endCall r reason).outView = s.outView := by
  unfold State.endCall
  repeat' first | (with_reducible rfl) | simp only [State.freeCall_outView, State.clearLocal_outView] | split

theorem State.phoneGone_outView (s : State) (slot : Fin 32) (reason : ClearReason) :
    (s.phoneGone slot reason).outView = s.outView := by
  unfold State.phoneGone
  repeat' first | (with_reducible rfl) | simp only [State.leaveWaitList_outView, State.endCall_outView] | split

theorem State.takeHook_outView (s : State) (slot : Fin 32) (offHook : Bool) :
    (s.takeHook slot offHook).outView = s.outView := by
  unfold State.takeHook
  repeat' first | (with_reducible rfl) | simp only [State.offHook_outView, State.phoneGone_outView] | split

theorem State.unknownCall_outView (s : State) :
    (s.unknownCall).outView = s.outView := by
  simp only [State.unknownCall, State.countCalls_outView]

theorem State.lateSignal_outView (s : State) :
    (s.lateSignal).outView = s.outView := by
  simp only [State.lateSignal, State.countCalls_outView]

theorem State.connectCall_outView (s : State) (r : Fin 16) :
    (s.connectCall r).outView = s.outView := by
  simp only [State.connectCall, State.modRecord_outView, State.countCalls_outView, answered]

theorem State.queueCall_outView (s : State) (r : Fin 16) :
    (s.queueCall r).outView = s.outView := by
  simp only [State.queueCall, State.modRecord_outView]

theorem State.takeHeld_outView (s : State) (r : Fin 16) :
    (s.takeHeld r).outView = s.outView := by
  unfold State.takeHeld
  repeat' first | (with_reducible rfl) | simp only [State.queueCall_outView, State.lateSignal_outView] | split

theorem State.takeAnswer_outView (s : State) (r : Fin 16) :
    (s.takeAnswer r).outView = s.outView := by
  unfold State.takeAnswer
  repeat' first | (with_reducible rfl) | simp only [State.connectCall_outView, State.lateSignal_outView] | split

theorem State.takeClear_outView (s : State) (r : Fin 16) (seq : Byte) :
    (s.takeClear r seq).outView = s.outView := by
  unfold State.takeClear
  repeat' first | (with_reducible rfl) | simp only [State.freeCall_outView, State.clearCentre_outView, State.sendCall_outView] | split

theorem State.takeCleared_outView (s : State) (r : Fin 16) :
    (s.takeCleared r).outView = s.outView := by
  unfold State.takeCleared
  repeat' first | (with_reducible rfl) | simp only [State.freeCall_outView, State.lateSignal_outView] | split

theorem State.takeCallBlock_outView (s : State) (b : Block) :
    (s.takeCallBlock b).outView = s.outView := by
  unfold State.takeCallBlock
  repeat' first | (with_reducible rfl) | simp only [State.takeHeld_outView, State.takeCleared_outView, State.sendCall_outView, State.takeClear_outView, State.unknownCall_outView, State.takeAnswer_outView] | split

theorem State.callingExpires_outView (s : State) (r : Fin 16) :
    (s.callingExpires r).outView = s.outView := by
  unfold State.callingExpires
  repeat' first | (with_reducible rfl) | simp only [State.modRecord_outView, State.sendRequest_outView] | split

theorem State.clearingExpires_outView (s : State) (r : Fin 16) :
    (s.clearingExpires r).outView = s.outView := by
  unfold State.clearingExpires
  repeat' first | (with_reducible rfl) | simp only [State.modRecord_outView, State.freeCall_outView, State.sendClear_outView] | split

theorem State.isolatedSignals_outView (s : State) (r : Fin 16) :
    (s.isolatedSignals r).outView = s.outView := by
  unfold State.isolatedSignals
  repeat' first | (with_reducible rfl) | simp only [State.modRecord_outView, State.sendResume_outView, State.sendRequest_outView] | split

theorem State.callsIsolated_outView (s : State) :
    (s.callsIsolated).outView = s.outView := by
  simp only [State.callsIsolated, State.modRecord_outView, State.countCalls_outView, State.forEach_outView, implies_true]

theorem State.callsHealed_outView (s : State) :
    (s.callsHealed).outView = s.outView := by
  simp only [State.callsHealed, State.isolatedSignals_outView, State.testSeized_outView, State.forEach_outView, implies_true]

theorem State.forceClear_outView (s : State) (r : Fin 16) :
    (s.forceClear r).outView = s.outView := by
  unfold State.forceClear
  repeat' first | (with_reducible rfl) | simp only [State.modRecord_outView, State.countCalls_outView, State.sendClear_outView] | split

theorem State.restartCalls_outView (s : State) :
    (s.restartCalls).outView = s.outView := by
  unfold State.restartCalls
  repeat' first | (with_reducible rfl) | simp only [State.modCalls_outView, State.forceClear_outView, State.notify_outView, State.clearRecord_outView, State.forEach_outView, implies_true] | split

theorem State.countDrop_outView (s : State) (d : Fin 4) (f : DropCounters → DropCounters) :
    (s.countDrop d f).outView = s.outView := by
  simp only [State.countDrop, State.modDrop_outView]

theorem State.noticeStation_outView (s : State) (x : Snapshot) (before : StationState) :
    (s.noticeStation x before).outView = s.outView := by
  unfold State.noticeStation
  repeat' first | (with_reducible rfl) | simp only [State.notify_outView] | split

theorem State.reportOffline_outView (s : State) (x : Snapshot) (before : StationState) :
    (s.reportOffline x before).outView = s.outView := by
  unfold State.reportOffline
  repeat' first | (with_reducible rfl) | simp only [State.phoneGone_outView, State.weatherOffline_outView] | split

theorem State.takeReading_outView (s : State) (x : Snapshot) (k : Fin 8) (rd : Reading) :
    (s.takeReading x k rd).outView = s.outView := by
  unfold State.takeReading
  repeat' first | (with_reducible rfl) | simp only [State.modSlot_outView, State.forwardReading_outView, State.countSlot_outView, State.evaluate_outView] | split

theorem State.handOver_outView (s : State) (x : Snapshot) (n : Reply) :
    (s.handOver x n).outView = s.outView := by
  unfold State.handOver
  repeat' first | (with_reducible rfl) | simp only [State.takeTxn_outView, State.takeHook_outView, State.takeReading_outView] | split

theorem State.dispatch_outView (s : State) (x : Snapshot) (voice : Bool) (r : Reply) :
    (s.dispatch x voice r).outView = s.outView := by
  unfold State.dispatch
  repeat' first | (with_reducible rfl) | simp only [State.countDrop_outView, State.handOver_outView] | split

theorem State.reportOutcome_outView (s : State) (x : Snapshot) (o : ExchangeEnd) :
    (s.reportOutcome x o).outView = s.outView := by
  unfold State.reportOutcome
  repeat' first | (with_reducible rfl) | simp only [State.signOutcome_outView, State.answersOutcome_outView] | split

theorem State.reportVoice_outView (s : State) (x : Snapshot) (voice : Bool) (o : ExchangeEnd) :
    (s.reportVoice x voice o).outView = s.outView := by
  unfold State.reportVoice
  repeat' first | (with_reducible rfl) | simp only [State.voiceOutcome_outView] | split

theorem State.applyEnd_outView (s : State) (x : Snapshot) (voice : Bool) (begun : Nat) (o : ExchangeEnd) :
    (s.applyEnd x voice begun o).outView = s.outView := by
  unfold State.applyEnd
  repeat' first | (with_reducible rfl) | simp only [State.modStation_outView, State.noticeStation_outView, State.reportOutcome_outView, State.dispatch_outView, State.reportVoice_outView, State.reportOffline_outView, State.countDrop_outView] | split

theorem State.settleEnd_outView (s : State) (x : Snapshot) (voice : Bool) (begun : Nat) (o : ExchangeEnd) :
    (s.settleEnd x voice begun o).outView = s.outView := by
  unfold State.settleEnd
  repeat' first | (with_reducible rfl) | simp only [State.countDrop_outView, State.applyEnd_outView] | split

theorem State.lineIdle_outView (s : State) (d : Fin 4) :
    (s.lineIdle d).outView = s.outView := by
  simp only [State.lineIdle, State.modDrop_outView]

theorem State.completeWith_outView (s : State) (d : Fin 4) (o : ExchangeEnd) :
    (s.completeWith d o).outView = s.outView := by
  unfold State.completeWith
  repeat' first | (with_reducible rfl) | simp only [State.endChoose_outView, State.settleEnd_outView, State.lineIdle_outView] | split

theorem State.countBad_outView (s : State) (d : Fin 4) (o : ExchangeEnd) :
    (s.countBad d o).outView = s.outView := by
  unfold State.countBad
  repeat' first | (with_reducible rfl) | simp only [State.countDrop_outView] | split

theorem State.frameEnds_outView (s : State) (d : Fin 4) (o : ExchangeEnd) :
    (s.frameEnds d o).outView = s.outView := by
  unfold State.frameEnds
  repeat' first | (with_reducible rfl) | simp only [State.completeWith_outView, State.countBad_outView] | split

theorem State.countUnsolicited_outView (s : State) (d : Fin 4) :
    (s.countUnsolicited d).outView = s.outView := by
  simp only [State.countUnsolicited, State.countDrop_outView]

theorem State.frameArrives_outView (s : State) (d : Fin 4) (o : ExchangeEnd) :
    (s.frameArrives d o).outView = s.outView := by
  unfold State.frameArrives
  repeat' first | (with_reducible rfl) | simp only [State.frameEnds_outView, State.countUnsolicited_outView] | split

theorem State.frameSent_outView (s : State) (d : Fin 4) :
    (s.frameSent d).outView = s.outView := by
  unfold State.frameSent
  repeat' first | (with_reducible rfl) | simp only [State.modDrop_outView, State.endChoose_outView, State.lineIdle_outView] | split

theorem State.supplyToJournal_outView (s : State) (old new : SupplyState) :
    (s.supplyToJournal old new).outView = s.outView := by
  unfold State.supplyToJournal
  repeat' first | (with_reducible rfl) | simp only [State.journalHoldup_outView, State.journalHoldupEnds_outView] | split

theorem State.setBroadcasts_outView (s : State) :
    (s.setBroadcasts).outView = s.outView := by
  simp only [State.setBroadcasts, State.modPoll_outView]

theorem State.changeSupply_outView (s : State) (new : SupplyState) (cause : SupplyCause) :
    (s.changeSupply new cause).outView = s.outView := by
  unfold State.changeSupply
  repeat' first | (with_reducible rfl) | simp only [State.modSup_outView, State.dropsChoose_outView, State.supplyToJournal_outView, State.notify_outView, State.setBroadcasts_outView] | split

theorem State.judgeAverage_outView (s : State) (avg : Nat) :
    (s.judgeAverage avg).outView = s.outView := by
  unfold State.judgeAverage
  repeat' first | (with_reducible rfl) | simp only [State.modSup_outView, State.changeSupply_outView] | split

theorem State.sampleFeed_outView (s : State) (level : Nat) :
    (s.sampleFeed level).outView = s.outView := by
  unfold State.sampleFeed
  repeat' first | (with_reducible rfl) | simp only [State.modSup_outView, State.judgeAverage_outView] | split

theorem State.settleExpires_outView (s : State) :
    (s.settleExpires).outView = s.outView := by
  unfold State.settleExpires
  repeat' first | (with_reducible rfl) | simp only [State.changeSupply_outView] | split

theorem State.assertFeedLost_outView (s : State) :
    (s.assertFeedLost).outView = s.outView := by
  unfold State.assertFeedLost
  repeat' first | (with_reducible rfl) | simp only [State.modSup_outView, State.changeSupply_outView] | split

theorem State.negateFeedLost_outView (s : State) :
    (s.negateFeedLost).outView = s.outView := by
  unfold State.negateFeedLost
  repeat' first | (with_reducible rfl) | simp only [State.modSup_outView] | split

theorem State.clearRing_outView (s : State) :
    (s.clearRing).outView = s.outView := by
  rfl

theorem State.clearDrop_outView (s : State) :
    (s.clearDrop).outView = s.outView := by
  simp only [State.clearDrop, State.modPoll_outView]

theorem State.clearCalls_outView (s : State) :
    (s.clearCalls).outView = s.outView := by
  simp only [State.clearCalls, State.modCalls_outView]

theorem State.clearJournal_outView (s : State) :
    (s.clearJournal).outView = s.outView := by
  simp only [State.clearJournal, State.modJrnl_outView, State.modCtl_outView]

theorem State.clearSupply_outView (s : State) :
    (s.clearSupply).outView = s.outView := by
  simp only [State.clearSupply, State.modSup_outView]

theorem State.clearLanes_outView (s : State) :
    (s.clearLanes).outView = s.outView := by
  simp only [State.clearLanes, State.modLanes_outView]

theorem State.clearSigns_outView (s : State) :
    (s.clearSigns).outView = s.outView := by
  simp only [State.clearSigns, State.modRules_outView, State.modSign_outView]

theorem State.clearSlots_outView (s : State) :
    (s.clearSlots).outView = s.outView := by
  simp only [State.clearSlots, State.modSlots_outView, State.modAgent_outView]

theorem State.clearGroup_outView (s : State) (n : Group) :
    (s.clearGroup n).outView = s.outView := by
  unfold State.clearGroup
  split <;> first | rfl | simp only [State.clearRing_outView, State.clearDrop_outView, State.clearCalls_outView, State.clearJournal_outView, State.clearSupply_outView, State.clearLanes_outView, State.clearSigns_outView, State.clearSlots_outView]

theorem State.writeLane_outView (s : State) (i : Fin 64) (l : List Byte) :
    (s.writeLane i l).2.outView = s.outView := by
  unfold State.writeLane
  repeat' first | (with_reducible rfl) | simp only [State.modLane_outView, State.testSeized_outView, State.offerTolls_outView] | split

theorem State.reportLink_outView (s : State) (e : Station) :
    (s.reportLink e).outView = s.outView := by
  unfold State.reportLink
  repeat' first | (with_reducible rfl) | simp only [State.modSlot_outView, State.relinkSign_outView] | split

theorem State.reportStation_outView (s : State) (i : Fin 32) (old : Station) (x : StationRecord) :
    (s.reportStation i old x).outView = s.outView := by
  unfold State.reportStation
  repeat' first | (with_reducible rfl) | simp only [State.emptyAnswers_outView, State.reportLink_outView] | split

theorem State.writeStation_outView (s : State) (i : Fin 32) (l : List Byte) :
    (s.writeStation i l).2.outView = s.outView := by
  unfold State.writeStation
  repeat' first | (with_reducible rfl) | simp only [State.modStation_outView, State.reportStation_outView, State.dropChoose_outView] | split

theorem State.writeRuleEntry_outView (s : State) (i : Fin 32) (l : List Byte) :
    (s.writeRuleEntry i l).2.outView = s.outView := by
  unfold State.writeRuleEntry
  repeat' first | (with_reducible rfl) | simp only [State.writeRule_outView] | split

theorem State.writeSignEntry_outView (s : State) (k : Fin 12) (l : List Byte) :
    (s.writeSignEntry k l).2.outView = s.outView := by
  unfold State.writeSignEntry
  repeat' first | (with_reducible rfl) | simp only [State.writeSign_outView] | split

theorem State.writeSlotEntry_outView (s : State) (k : Fin 8) (l : List Byte) :
    (s.writeSlotEntry k l).2.outView = s.outView := by
  unfold State.writeSlotEntry
  repeat' first | (with_reducible rfl) | simp only [State.modSlot_outView] | split

theorem State.writeParams_outView (s : State) (l : List Byte) :
    (s.writeParams l).2.outView = s.outView := by
  unfold State.writeParams
  repeat' first | (with_reducible rfl) | simp only [State.modAgent_outView] | split

theorem State.writeEntry_outView (s : State) (t : Table) (i : Nat) (l : List Byte) :
    (s.writeEntry t i l).2.outView = s.outView := by
  unfold State.writeEntry
  split
  · cases fin? 64 i <;> simp only [Option.elim, State.writeLane_outView]
  · cases fin? 32 i <;> simp only [Option.elim, State.writeStation_outView]
  · cases fin? 32 i <;> simp only [Option.elim, State.writeRuleEntry_outView]
  · cases fin? 12 i <;> simp only [Option.elim, State.writeSignEntry_outView]
  · cases fin? 8 i <;> simp only [Option.elim, State.writeSlotEntry_outView]
  · simp only [State.writeParams_outView]

theorem State.cutSlot_outView (s : State) (slot : Nat) :
    (s.cutSlot slot).outView = s.outView := by
  unfold State.cutSlot
  rw [State.spend_outView, State.putSlot_outView]

theorem State.cutMark_outView (s : State) (slot : Nat) :
    (s.cutMark slot).outView = s.outView := by
  simp only [State.cutMark, State.spend_outView, State.putMark_outView]

theorem State.cutShort_outView (s : State) :
    (s.cutShort).outView = s.outView := by
  unfold State.cutShort
  repeat' first | (with_reducible rfl) | simp only [State.cutMark_outView, State.cutSlot_outView] | split

theorem State.rescan_outView (s : State) :
    (s.rescan).outView = s.outView := by
  unfold State.rescan
  repeat' first | (with_reducible rfl) | simp only [State.modCtl_outView, State.scanRead_outView] | split

theorem State.restartCustody_outView (s : State) :
    (s.restartCustody).outView = s.outView := by
  unfold State.restartCustody
  repeat' first | (with_reducible rfl) | simp only [State.rescan_outView, State.restartJournal_outView] | split

theorem State.unbindAll_outView (s : State) :
    (s.unbindAll).outView = s.outView := by
  simp only [State.unbindAll, State.modLanes_outView]

theorem State.restartWeather_outView (s : State) :
    (s.restartWeather).outView = s.outView := by
  simp only [State.restartWeather, State.modSlots_outView]

theorem State.restartAll_outView (s : State) :
    (s.restartAll).outView = s.outView := by
  unfold State.restartAll
  simp only [State.restartSigns_outView, State.restartWeather_outView, State.restartCustody_outView, State.unbindAll_outView, State.restartCalls_outView]
  rfl

theorem State.beginSave_outView (s : State) (src : NodeId) (tag : Byte) :
    (s.beginSave src tag).outView = s.outView := by
  simp only [State.beginSave, State.modCtl_outView, State.modAgent_outView, State.storeKick_outView]

theorem State.perform_outView (s : State) (src : NodeId) (tag : Byte) (o : Order) :
    (s.perform src tag o).2.outView = s.outView := by
  unfold State.perform
  repeat' first | (with_reducible rfl) | simp only [State.signSet_outView, State.pageDiscard_outView, State.signCancel_outView, State.pageOpen_outView, State.restartAll_outView, State.beginSave_outView, State.pageData_outView, State.clearGroup_outView, State.writeEntry_outView, answered] | split

theorem State.carryOut_outView (s : State) (c : Command) :
    (s.carryOut c).2.outView = s.outView := by
  unfold State.carryOut
  repeat' first | (with_reducible rfl) | simp only [State.perform_outView] | split

theorem State.reply_outView (s : State) (c : Command) (a : Answer) :
    (s.reply c a).outView = s.outView := by
  unfold State.reply
  repeat' first | (with_reducible rfl) | simp only [State.modAgent_outView] | split

theorem State.takeCommand_outView (s : State) (c : Command) (rest : List Command) :
    (s.takeCommand c rest).outView = s.outView := by
  unfold State.takeCommand
  repeat' first | (with_reducible rfl) | simp only [State.modAgent_outView, State.carryOut_outView, State.reply_outView] | split

theorem State.passReply_outView (s : State) (b : Block) (rest : List Block) :
    (s.passReply b rest).outView = s.outView := by
  simp only [State.passReply, State.modAgent_outView, State.join_outView]

theorem State.agentTurn_outView (s : State) (t : State) (h : s.agentTurn = some t) :
    t.outView = s.outView := by
  unfold State.agentTurn at h
  split at h
  · split at h
    · cases h; exact State.passReply_outView s _ _
    · cases h
  · cases h; exact State.takeCommand_outView s _ _
  · cases h

theorem State.noticeTurn_outView (s : State) (t : State) (h : s.noticeTurn = some t) :
    t.outView = s.outView := by
  unfold State.noticeTurn at h
  split at h
  · cases h; exact State.passNotice_outView s
  · cases h

theorem State.agentTurns_outView (s : State) (n : Nat) :
    (s.agentTurns n).outView = s.outView := by
  induction n generalizing s with
  | zero => rfl
  | succ n ih =>
    unfold State.agentTurns
    split
    · rfl
    · rename_i ha _; rw [ih, State.agentTurn_outView s _ ha]
    · rename_i _ hb; rw [ih, State.noticeTurn_outView s _ hb]
    · rename_i ha hb
      split
      · rw [ih, State.spend_outView, State.agentTurn_outView s _ ha]
      · rw [ih, State.spend_outView, State.noticeTurn_outView s _ hb]

theorem State.agentRun_outView (s : State) :
    (s.agentRun).outView = s.outView := by
  simp only [State.agentRun, State.agentTurns_outView]

theorem State.refuseBusy_outView (s : State) (c : Command) :
    (s.refuseBusy c).outView = s.outView := by
  unfold State.refuseBusy
  repeat' first | (with_reducible rfl) | simp only [State.modAgent_outView, State.join_outView] | split

theorem State.agentReceive_outView (s : State) (c : Command) :
    (s.agentReceive c).outView = s.outView := by
  unfold State.agentReceive
  repeat' first | (with_reducible rfl) | simp only [State.modAgent_outView, State.refuseBusy_outView, State.agentRun_outView] | split

theorem State.saveReplies_outView (s : State) (st : Status) (content : List Byte) :
    (s.saveReplies st content).outView = s.outView := by
  unfold State.saveReplies
  repeat' first | (with_reducible rfl) | simp only [State.modAgent_outView, State.reply_outView, State.agentRun_outView] | split

theorem State.failSave_outView (s : State) (cause : StoreCause) :
    (s.failSave cause).outView = s.outView := by
  unfold State.failSave
  repeat' first | (with_reducible rfl) | simp only [State.modCtl_outView, State.saveReplies_outView, State.notify_outView] | split

theorem State.saveSucceeds_outView (s : State) (sv : Save) :
    (s.saveSucceeds sv).outView = s.outView := by
  simp only [State.saveSucceeds, State.modCtl_outView, State.saveReplies_outView, State.notify_outView]

theorem State.saveStepVerified_outView (s : State) (bytes : List Byte) :
    (s.saveStepVerified bytes).outView = s.outView := by
  unfold State.saveStepVerified
  repeat' first | (with_reducible rfl) | simp only [State.modCtl_outView, State.saveSucceeds_outView] | split

theorem State.countMismatch_outView (s : State) :
    (s.countMismatch).outView = s.outView := by
  simp only [State.countMismatch, State.modCtl_outView]

theorem State.commitCompletes_outView (s : State) (slot : Nat) (bytes : List Byte) (got : ReadBack) :
    (s.commitCompletes slot bytes got).outView = s.outView := by
  unfold State.commitCompletes
  repeat' first | (with_reducible rfl) | simp only [State.commitMismatches_outView, State.storeKick_outView, State.commitSucceeds_outView, State.countMismatch_outView, State.endOp_outView, State.afterRead_outView] | split

theorem State.markCompletes_outView (s : State) (slot : Nat) :
    (s.markCompletes slot).outView = s.outView := by
  simp only [State.markCompletes, State.modJrnl_outView, State.putMark_outView, State.storeKick_outView, State.endOp_outView]

theorem State.readCompletes_outView (s : State) (serial slot : Nat) (live : Bool) (got : ReadBack) :
    (s.readCompletes serial slot live got).outView = s.outView := by
  unfold State.readCompletes
  repeat' first | (with_reducible rfl) | simp only [State.readDone_outView, State.storeKick_outView, State.endOp_outView, State.afterRead_outView] | split

theorem State.saveMarkCompletes_outView (s : State) :
    (s.saveMarkCompletes).outView = s.outView := by
  simp only [State.saveMarkCompletes, State.modCtl_outView, State.putMark_outView, State.storeKick_outView, State.endOp_outView]

theorem State.spoilHeader_outView (s : State) (slot : Nat) :
    (s.spoilHeader slot).outView = s.outView := by
  unfold State.spoilHeader
  repeat' first | (with_reducible rfl) | simp only [State.cutSlot_outView] | split

theorem State.saveSlotCompletes_outView (s : State) (slot : Nat) (bytes : List Byte) (got : ReadBack) :
    (s.saveSlotCompletes slot bytes got).outView = s.outView := by
  unfold State.saveSlotCompletes
  repeat' first | (with_reducible rfl) | simp only [State.saveStepVerified_outView, State.failSave_outView, State.storeKick_outView, State.countMismatch_outView, State.spoilHeader_outView, State.endOp_outView, State.afterRead_outView] | split

theorem State.journalScanned_outView (s : State) (r : Rebuilt) :
    (s.journalScanned r).outView = s.outView := by
  unfold State.journalScanned
  repeat' first | (with_reducible rfl) | simp only [State.modJrnl_outView, State.journalFault_outView, State.notify_outView] | split

theorem State.loadRead_outView (s : State) (slot : Nat) :
    (s.loadRead slot).outView = s.outView := by
  simp only [State.loadRead, State.startStep_outView]

theorem State.afterScan_outView (s : State) :
    (s.afterScan).outView = s.outView := by
  unfold State.afterScan
  repeat' first | (with_reducible rfl) | simp only [State.modCtl_outView, State.dropsChoose_outView, State.loadRead_outView, State.storeKick_outView] | split

theorem State.scanEnds_outView (s : State) :
    (s.scanEnds).outView = s.outView := by
  unfold State.scanEnds
  repeat' first | (with_reducible rfl) | simp only [State.modCtl_outView, State.journalScanned_outView, State.afterScan_outView] | split

theorem State.scanReadCompletes_outView (s : State) (slot : Nat) (got : ReadBack) :
    (s.scanReadCompletes slot got).outView = s.outView := by
  unfold State.scanReadCompletes
  repeat' first | (with_reducible rfl) | simp only [State.modCtl_outView, State.scanEnds_outView, State.scanRead_outView, State.afterRead_outView] | split

theorem State.applyImage_outView (s : State) (slots : List (List Byte)) :
    (s.applyImage slots).outView = s.outView := by
  unfold State.applyImage
  repeat' first | (with_reducible rfl) | simp only [State.modLanes_outView, State.modPoll_outView, State.modSlots_outView, State.modRules_outView, State.modSign_outView, State.modAgent_outView, State.modSup_outView] | split

theorem State.noteLoad_outView (s : State) (o : LoadOutcome) :
    (s.noteLoad o).outView = s.outView := by
  unfold State.noteLoad
  repeat' first | (with_reducible rfl) | simp only [State.notify_outView] | split

theorem State.endLoad_outView (s : State) (o : LoadOutcome) :
    (s.endLoad o).outView = s.outView := by
  simp only [State.endLoad, State.modCtl_outView, State.dropsChoose_outView, State.noteLoad_outView, State.storeKick_outView, State.settleAll_outView]

theorem State.judgeImage_outView (s : State) (ld : Load) :
    (s.judgeImage ld).outView = s.outView := by
  unfold State.judgeImage
  repeat' first | (with_reducible rfl) | simp only [State.applyImage_outView, State.endLoad_outView] | split

theorem State.loadReadCompletes_outView (s : State) (slot : Nat) (got : ReadBack) :
    (s.loadReadCompletes slot got).outView = s.outView := by
  unfold State.loadReadCompletes
  repeat' first | (with_reducible rfl) | simp only [State.modCtl_outView, State.loadRead_outView, State.judgeImage_outView, State.endLoad_outView, State.afterRead_outView] | split

theorem State.looseSlot_outView (s : State) (slot : Nat) :
    (s.looseSlot slot).outView = s.outView := by
  simp only [State.looseSlot, State.spend_outView, State.putSlot_outView]

theorem State.looseHeaderMark_outView (s : State) :
    (s.looseHeaderMark).outView = s.outView := by
  simp only [State.looseHeaderMark, State.spend_outView, State.putMark_outView]

theorem State.abandonWrite_outView (s : State) :
    (s.abandonWrite).outView = s.outView := by
  unfold State.abandonWrite
  repeat' first | (with_reducible rfl) | simp only [State.cutSlot_outView, State.cutMark_outView, State.looseSlot_outView, State.looseHeaderMark_outView] | split

theorem State.countTimeout_outView (s : State) :
    (s.countTimeout).outView = s.outView := by
  simp only [State.countTimeout, State.modCtl_outView]

theorem State.reportTimeout_outView (s : State) :
    (s.reportTimeout).outView = s.outView := by
  simp only [State.reportTimeout, State.journalFault_outView, State.failSave_outView]

theorem State.scanResumes_outView (s : State) :
    (s.scanResumes).outView = s.outView := by
  simp only [State.scanResumes, State.modJrnl_outView]

theorem State.stepExpires_outView (s : State) :
    (s.stepExpires).outView = s.outView := by
  unfold State.stepExpires
  repeat' first | (with_reducible rfl) | simp only [State.scanResumes_outView, State.storeKick_outView, State.endLoad_outView, State.countTimeout_outView, State.endOp_outView, State.abandonWrite_outView, State.reportTimeout_outView, State.afterScan_outView] | split

theorem State.enterIsolated_outView (s : State) :
    (s.enterIsolated).outView = s.outView := by
  unfold State.enterIsolated
  simp only [State.journalIsolated_outView, State.callsIsolated_outView]
  rfl

theorem State.leaveIsolated_outView (s : State) :
    (s.leaveIsolated).outView = s.outView := by
  simp only [State.leaveIsolated, State.callsHealed_outView, State.offerTolls_outView, State.agentRun_outView]

theorem State.changeRing_outView (s : State) (new : RingState) :
    (s.changeRing new).outView = s.outView := by
  unfold State.changeRing
  repeat' first | (with_reducible rfl) | simp only [State.modProt_outView, State.enterIsolated_outView, State.leaveIsolated_outView, State.notify_outView] | split

theorem State.deriveRing_outView (s : State) :
    (s.deriveRing).outView = s.outView := by
  unfold State.deriveRing
  repeat' first | (with_reducible rfl) | simp only [State.changeRing_outView] | split

theorem State.noticeLink_outView (s : State) (p : Side) (cause : Option LinkCause) :
    (s.noticeLink p cause).outView = s.outView := by
  unfold State.noticeLink
  repeat' first | (with_reducible rfl) | simp only [State.notify_outView] | split

theorem State.portDown_outView (s : State) (p : Side) (cause : LinkCause) :
    (s.portDown p cause).outView = s.outView := by
  unfold State.portDown
  repeat' first | (with_reducible rfl) | simp only [State.modPort_outView, State.noticeLink_outView, State.deriveRing_outView] | split

theorem State.validArrival_outView (s : State) (p : Side) :
    (s.validArrival p).outView = s.outView := by
  unfold State.validArrival
  repeat' first | (with_reducible rfl) | simp only [State.modPort_outView, State.deriveRing_outView] | split

theorem State.erroredArrival_outView (s : State) (p : Side) :
    (s.erroredArrival p).outView = s.outView := by
  unfold State.erroredArrival
  repeat' first | (with_reducible rfl) | simp only [State.modPort_outView, State.portDown_outView] | split

theorem State.portUp_outView (s : State) (p : Side) :
    (s.portUp p).outView = s.outView := by
  simp only [State.portUp, State.modPort_outView, State.noticeLink_outView, State.deriveRing_outView]

theorem State.offerKeep_outView (s : State) (p : Side) :
    (s.offerKeep p).outView = s.outView := by
  simp only [State.offerKeep, State.offerRing_outView]

theorem State.validKeep_outView (s : State) (p : Side) (b : Block) :
    (s.validKeep p b).outView = s.outView := by
  unfold State.validKeep
  repeat' first | (with_reducible rfl) | simp only [State.modPort_outView, State.noticeLink_outView, State.deriveRing_outView] | split

theorem State.takeKeep_outView (s : State) (p : Side) (b : Block) :
    (s.takeKeep p b).outView = s.outView := by
  unfold State.takeKeep
  repeat' first | (with_reducible rfl) | simp only [State.modPort_outView, State.validKeep_outView] | split

theorem State.countRx_outView (s : State) (p : Side) (f : RxCounters → RxCounters) :
    (s.countRx p f).outView = s.outView := by
  rfl

theorem State.countDir_outView (s : State) (d : Dir) (f : DirCounters → DirCounters) :
    (s.countDir d f).outView = s.outView := by
  rfl

theorem State.modSender_outView (s : State) (d : Dir) (f : HoldSender → HoldSender) :
    (s.modSender d f).outView = s.outView := by
  rfl

theorem State.sendHoldoff_outView (s : State) (d : Dir) :
    (s.sendHoldoff d).outView = s.outView := by
  simp only [State.sendHoldoff, State.offerRing_outView, State.modSender_outView]

theorem State.sendRelease_outView (s : State) (d : Dir) :
    (s.sendRelease d).outView = s.outView := by
  simp only [State.sendRelease, State.offerRing_outView, State.modSender_outView]

theorem State.afterJoin_outView (s : State) (d : Dir) :
    (s.afterJoin d).outView = s.outView := by
  unfold State.afterJoin
  repeat' first | (with_reducible rfl) | simp only [State.sendHoldoff_outView] | split

theorem State.afterDeparture_outView (s : State) (d : Dir) :
    (s.afterDeparture d).outView = s.outView := by
  unfold State.afterDeparture
  repeat' first | (with_reducible rfl) | simp only [State.sendRelease_outView] | split

theorem State.setBuffer_outView (s : State) (d : Dir) (l : List Block) :
    (s.setBuffer d l).outView = s.outView := by
  rfl

theorem State.overflow_outView (s : State) (d : Dir) (b : Block) :
    (s.overflow d b).outView = s.outView := by
  unfold State.overflow
  repeat' first | (with_reducible rfl) | simp only [State.setBuffer_outView, State.countDir_outView] | split

theorem State.joinTransit_outView (s : State) (d : Dir) (b : Block) :
    (s.joinTransit d b).outView = s.outView := by
  unfold State.joinTransit
  repeat' first | (with_reducible rfl) | simp only [State.setBuffer_outView, State.afterJoin_outView, State.overflow_outView] | split

theorem State.forward_outView (s : State) (d : Dir) (b : Block) :
    (s.forward d b).outView = s.outView := by
  unfold State.forward
  repeat' first | (with_reducible rfl) | simp only [State.countDir_outView, State.joinTransit_outView] | split

theorem State.handBlock_outView (s : State) (b : Block) :
    (s.handBlock b).outView = s.outView := by
  unfold State.handBlock
  repeat' first | (with_reducible rfl) | simp only [State.takeCallBlock_outView, State.takeTollControl_outView, State.takeVoice_outView, State.agentReceive_outView] | split

theorem State.deliver_outView (s : State) (b : Block) :
    (s.deliver b).outView = s.outView := by
  unfold State.deliver
  repeat' first | (with_reducible rfl) | simp only [State.modLane_outView, State.handBlock_outView] | split

theorem State.classifyBlock_outView (s : State) (d : Dir) (b : Block) :
    (s.classifyBlock d b).outView = s.outView := by
  unfold State.classifyBlock
  repeat' first | (with_reducible rfl) | simp only [State.forward_outView, State.deliver_outView] | split

theorem State.sourceTest_outView (s : State) (d : Dir) (b : Block) :
    (s.sourceTest d b).outView = s.outView := by
  unfold State.sourceTest
  repeat' first | (with_reducible rfl) | simp only [State.countDir_outView, State.classifyBlock_outView] | split

theorem State.transitArrival_outView (s : State) (p : Side) (b : Block) :
    (s.transitArrival p b).outView = s.outView := by
  unfold State.transitArrival
  repeat' first | (with_reducible rfl) | simp only [State.countRx_outView, State.sourceTest_outView] | split

theorem State.countMalformed_outView (s : State) (p : Side) :
    (s.countMalformed p).outView = s.outView := by
  simp only [State.countMalformed, State.countRx_outView]

theorem State.afterPop_outView (s : State) (n : ClassQueue) :
    (s.afterPop n).outView = s.outView := by
  unfold State.afterPop
  repeat' first | (with_reducible rfl) | simp only [State.offerTolls_outView, State.agentRun_outView] | split

theorem State.depart_outView (s : State) (n : Choice) :
    (s.depart n).outView = s.outView := by
  unfold State.depart
  split
  · rfl
  · rfl
  · rw [State.afterDeparture_outView, State.setBuffer_outView]
  · rw [State.afterPop_outView, State.popFrom_outView]
  · rw [State.afterPop_outView, State.popFrom_outView]
  · rfl

theorem State.unlessRepeater_outView (s : State) (f : State → State) (h : (f s).outView = s.outView) :
    (s.unlessRepeater f).outView = s.outView := by
  unfold State.unlessRepeater
  split
  · rfl
  · exact h

theorem State.command_outView (s : State) (src : NodeId) (tag : Byte) (code : BitVec 4) (body : List Byte) :
    (s.command src tag code body).outView = s.outView := by
  exact State.unlessRepeater_outView s _ (State.agentReceive_outView s _)

end Sys2Proof.Machine
end

