-- ==== Sys2Proof/Laws/FrameOuter.lean ====
section
/-! SUPPORT. What the shared operations leave: the clock, the strapped value, the external store and the queue. -/

namespace Sys2Proof.Machine

/-- What no effect of a command but a few reaches: the clock, the strapped value, the external store and the queue. -/
def State.outer (s : State) : Nat × BitVec 5 × Memory × List Instr := (s.now, s.straps, s.nv, s.pending)

theorem State.modRing_outer (s : State) (f : RingTransit → RingTransit) :
    (s.modRing f).outer = s.outer := rfl

theorem State.modLanes_outer (s : State) (f : Vector LaneEntry 64 → Vector LaneEntry 64) :
    (s.modLanes f).outer = s.outer := rfl

theorem State.modProt_outer (s : State) (f : Protection → Protection) :
    (s.modProt f).outer = s.outer := rfl

theorem State.modPoll_outer (s : State) (f : Poller → Poller) :
    (s.modPoll f).outer = s.outer := rfl

theorem State.modCalls_outer (s : State) (f : CallEngine → CallEngine) :
    (s.modCalls f).outer = s.outer := rfl

theorem State.modJrnl_outer (s : State) (f : Journal → Journal) :
    (s.modJrnl f).outer = s.outer := rfl

theorem State.modCtl_outer (s : State) (f : StoreController → StoreController) :
    (s.modCtl f).outer = s.outer := rfl

theorem State.modSlots_outer (s : State) (f : Vector ReductionSlot 8 → Vector ReductionSlot 8) :
    (s.modSlots f).outer = s.outer := rfl

theorem State.modRules_outer (s : State) (f : Vector Rule 32 → Vector Rule 32) :
    (s.modRules f).outer = s.outer := rfl

theorem State.modSign_outer (s : State) (f : SignService → SignService) :
    (s.modSign f).outer = s.outer := rfl

theorem State.modSup_outer (s : State) (f : Supply → Supply) :
    (s.modSup f).outer = s.outer := rfl

theorem State.modAgent_outer (s : State) (f : Agent → Agent) :
    (s.modAgent f).outer = s.outer := rfl

theorem State.modLane_outer (s : State) (i : Fin 64) (f : LaneEntry → LaneEntry) :
    (s.modLane i f).outer = s.outer := rfl

theorem State.modStation_outer (s : State) (i : Fin 32) (f : Station → Station) :
    (s.modStation i f).outer = s.outer := rfl

theorem State.modDrop_outer (s : State) (i : Fin 4) (f : Drop → Drop) :
    (s.modDrop i f).outer = s.outer := rfl

theorem State.modRecord_outer (s : State) (i : Fin 16) (f : CallRecord → CallRecord) :
    (s.modRecord i f).outer = s.outer := rfl

theorem State.modAnswers_outer (s : State) (i : Fin 32) (f : List AnswerEntry → List AnswerEntry) :
    (s.modAnswers i f).outer = s.outer := rfl

theorem State.modSlot_outer (s : State) (i : Fin 8) (f : ReductionSlot → ReductionSlot) :
    (s.modSlot i f).outer = s.outer := rfl

theorem State.modRule_outer (s : State) (i : Fin 32) (f : Rule → Rule) :
    (s.modRule i f).outer = s.outer := rfl

theorem State.modSignRec_outer (s : State) (i : Fin 12) (f : Sign → Sign) :
    (s.modSignRec i f).outer = s.outer := rfl

theorem State.modPort_outer (s : State) (i : Side) (f : RxPort → RxPort) :
    (s.modPort i f).outer = s.outer := rfl

theorem State.modOut_outer (s : State) (i : Side) (f : OutPort → OutPort) :
    (s.modOut i f).outer = s.outer := rfl

theorem State.spend_outer (s : State) (n : Nat) :
    (s.spend n).outer = s.outer := rfl

/-- A loop whose steps leave it leaves it. -/
theorem State.forEach_outer {α : Type} (f : α → State → State) (h : ∀ a t, (f a t).outer = t.outer) (l : List α) :
    ∀ s : State, (s.forEach l f).outer = s.outer := by
  induction l with
  | nil => intro s; rfl
  | cons a l ih => intro s; exact (ih (f a s)).trans (h a s)


theorem State.join_outer (s : State) (q : LocalQueue) (b : Block) :
    (s.join q b).outer = s.outer := by
  unfold State.join
  repeat' first | (with_reducible rfl) | simp only [State.modRing_outer] | split

theorem State.offerRing_outer (s : State) (port : Side) (subtype : BitVec 4) (body : List Byte) :
    (s.offerRing port subtype body).outer = s.outer := by
  unfold State.offerRing
  repeat' first | (with_reducible rfl) | simp only [State.modRing_outer] | split

theorem State.passNotice_outer (s : State) :
    (s.passNotice).outer = s.outer := by
  unfold State.passNotice
  repeat' first | (with_reducible rfl) | simp only [State.modAgent_outer, State.join_outer] | split

theorem State.offerNotice_outer (s : State) :
    (s.offerNotice).outer = s.outer := by
  unfold State.offerNotice
  repeat' first | (with_reducible rfl) | simp only [State.passNotice_outer] | split

theorem State.notify_outer (s : State) (body : NoticeBody) :
    (s.notify body).outer = s.outer := by
  unfold State.notify
  repeat' first | (with_reducible rfl) | simp only [State.modAgent_outer, State.offerNotice_outer] | split

theorem State.startStep_outer (s : State) (op : StoreOp) :
    (s.startStep op).outer = s.outer := by
  simp only [State.startStep, State.modCtl_outer]

theorem State.startOp_outer (s : State) (op : StoreOp) :
    (s.startOp op).outer = s.outer := by
  simp only [State.startOp, State.modCtl_outer, State.startStep_outer]

theorem State.startCommit_outer (s : State) :
    (s.startCommit).outer = s.outer := by
  unfold State.startCommit
  repeat' first | (with_reducible rfl) | simp only [State.modJrnl_outer, State.startOp_outer] | split

theorem State.startRead_outer (s : State) (serial : Nat) (rest : List Nat) :
    (s.startRead serial rest).outer = s.outer := by
  unfold State.startRead
  repeat' first | (with_reducible rfl) | simp only [State.modJrnl_outer, State.modCtl_outer, State.startOp_outer] | split

theorem State.startSave_outer (s : State) (sv : Save) :
    (s.startSave sv).outer = s.outer := by
  unfold State.startSave
  repeat' first | (with_reducible rfl) | simp only [State.startOp_outer] | split

theorem State.storeKick_outer (s : State) :
    (s.storeKick).outer = s.outer := by
  unfold State.storeKick
  repeat' first | (with_reducible rfl) | simp only [State.startCommit_outer, State.startOp_outer, State.startSave_outer, State.startRead_outer] | split

theorem State.scanRead_outer (s : State) (slot : Nat) :
    (s.scanRead slot).outer = s.outer := by
  simp only [State.scanRead, State.startStep_outer]

theorem State.endOp_outer (s : State) :
    (s.endOp).outer = s.outer := by
  unfold State.endOp
  repeat' first | (with_reducible rfl) | simp only [State.modCtl_outer, State.scanRead_outer] | split

theorem State.deliverVerdict_outer (s : State) (t : Txn) (v : Verdict) :
    (s.deliverVerdict t v).outer = s.outer := by
  unfold State.deliverVerdict
  repeat' first | (with_reducible rfl) | simp only [State.modJrnl_outer, State.modAnswers_outer] | split

theorem State.emptyAnswers_outer (s : State) (slot : Fin 32) :
    (s.emptyAnswers slot).outer = s.outer := by
  simp only [State.emptyAnswers, State.modJrnl_outer, State.modAnswers_outer]

theorem State.emptyReadAhead_outer (s : State) :
    (s.emptyReadAhead).outer = s.outer := by
  simp only [State.emptyReadAhead, State.modJrnl_outer, State.modCtl_outer]

theorem State.requestRead_outer (s : State) (serial : Nat) :
    (s.requestRead serial).outer = s.outer := by
  simp only [State.requestRead, State.modJrnl_outer, State.modCtl_outer, State.storeKick_outer]

theorem State.requestReadsUpTo_outer (s : State) (n : Nat) :
    (s.requestReadsUpTo n).outer = s.outer := by
  induction n generalizing s with
  | zero => rfl
  | succ n ih =>
    unfold State.requestReadsUpTo
    repeat' first | (with_reducible rfl) | simp only [State.requestRead_outer, ih] | split

theorem State.requestReads_outer (s : State) :
    (s.requestReads).outer = s.outer := by
  simp only [State.requestReads, State.requestReadsUpTo_outer]

theorem State.offerTollsUpTo_outer (s : State) (n : Nat) :
    (s.offerTollsUpTo n).outer = s.outer := by
  induction n generalizing s with
  | zero => rfl
  | succ n ih =>
    unfold State.offerTollsUpTo
    repeat' first | (with_reducible rfl) | simp only [State.modJrnl_outer, State.requestReads_outer, State.join_outer, ih] | split

theorem State.offerTolls_outer (s : State) :
    (s.offerTolls).outer = s.outer := by
  simp only [State.offerTolls, State.offerTollsUpTo_outer]

theorem State.revert_outer (s : State) :
    (s.revert).outer = s.outer := by
  simp only [State.revert, State.modJrnl_outer, State.modCtl_outer, State.requestReads_outer]

theorem State.retime_outer (s : State) :
    (s.retime).outer = s.outer := by
  unfold State.retime
  repeat' first | (with_reducible rfl) | simp only [State.revert_outer] | split

theorem State.testFull_outer (s : State) :
    (s.testFull).outer = s.outer := by
  unfold State.testFull
  repeat' first | (with_reducible rfl) | simp only [State.modJrnl_outer, State.notify_outer] | split

theorem State.testHighMark_outer (s : State) :
    (s.testHighMark).outer = s.outer := by
  unfold State.testHighMark
  repeat' first | (with_reducible rfl) | simp only [State.modJrnl_outer, State.notify_outer] | split

theorem State.journalHoldup_outer (s : State) :
    (s.journalHoldup).outer = s.outer := by
  unfold State.journalHoldup
  repeat' first | (with_reducible rfl) | simp only [State.modJrnl_outer] | split

theorem State.journalHoldupEnds_outer (s : State) :
    (s.journalHoldupEnds).outer = s.outer := by
  unfold State.journalHoldupEnds
  repeat' first | (with_reducible rfl) | simp only [State.modJrnl_outer, State.storeKick_outer] | split

theorem State.journalFault_outer (s : State) (cause : StoreCause) :
    (s.journalFault cause).outer = s.outer := by
  unfold State.journalFault
  repeat' first | (with_reducible rfl) | simp only [State.modJrnl_outer, State.notify_outer, State.emptyReadAhead_outer, State.deliverVerdict_outer, State.forEach_outer, implies_true] | split

theorem State.giveVerdict_outer (s : State) (slot : Fin 32) (number : BitVec 16) (v : Verdict) :
    (s.giveVerdict slot number v).outer = s.outer := by
  unfold State.giveVerdict
  repeat' first | (with_reducible rfl) | simp only [State.modJrnl_outer, State.modAnswers_outer] | split

theorem State.judgeTxn_outer (s : State) (slot : Fin 32) (drop : Fin 4) (address : BitVec 5) (number : BitVec 16) (body : List Byte) :
    (s.judgeTxn slot drop address number body).outer = s.outer := by
  unfold State.judgeTxn
  repeat' first | (with_reducible rfl) | simp only [State.modJrnl_outer, State.modAnswers_outer, State.giveVerdict_outer, State.storeKick_outer] | split

theorem State.takeTxn_outer (s : State) (slot : Fin 32) (drop : Fin 4) (address : BitVec 5) (number : BitVec 16) (body : List Byte) :
    (s.takeTxn slot drop address number body).outer = s.outer := by
  unfold State.takeTxn
  repeat' first | (with_reducible rfl) | simp only [State.modJrnl_outer, State.modAnswers_outer, State.judgeTxn_outer] | split

theorem State.carryAnswers_outer (s : State) (slot : Fin 32) :
    (s.carryAnswers slot).outer = s.outer := by
  simp only [State.carryAnswers, State.modAnswers_outer]

theorem State.answersOutcome_outer (s : State) (slot : Fin 32) (good : Bool) :
    (s.answersOutcome slot good).outer = s.outer := by
  unfold State.answersOutcome
  repeat' first | (with_reducible rfl) | simp only [State.modJrnl_outer, State.modAnswers_outer] | split

theorem State.commitSucceeds_outer (s : State) (h : InHand) :
    (s.commitSucceeds h).outer = s.outer := by
  simp only [State.commitSucceeds, State.modJrnl_outer, State.requestReads_outer, State.testHighMark_outer, State.deliverVerdict_outer, State.testFull_outer]

theorem State.commitMismatches_outer (s : State) (h : InHand) :
    (s.commitMismatches h).outer = s.outer := by
  unfold State.commitMismatches
  repeat' first | (with_reducible rfl) | simp only [State.modJrnl_outer, State.journalFault_outer, State.testFull_outer] | split

theorem State.readDone_outer (s : State) (serial slot : Nat) (l : List Byte) :
    (s.readDone serial slot l).outer = s.outer := by
  unfold State.readDone
  repeat' first | (with_reducible rfl) | simp only [State.modJrnl_outer, State.modCtl_outer, State.storeKick_outer, State.offerTolls_outer] | split

theorem State.releaseOldest_outer (s : State) :
    (s.releaseOldest).outer = s.outer := by
  unfold State.releaseOldest
  repeat' first | (with_reducible rfl) | simp only [State.modJrnl_outer, State.modCtl_outer, State.storeKick_outer] | split

theorem State.release_outer (s : State) (n : Nat) :
    (s.release n).outer = s.outer := by
  induction n generalizing s with
  | zero => rfl
  | succ n ih =>
    unfold State.release
    repeat' first | (with_reducible rfl) | simp only [State.releaseOldest_outer, ih] | split

theorem State.testReopened_outer (s : State) :
    (s.testReopened).outer = s.outer := by
  unfold State.testReopened
  repeat' first | (with_reducible rfl) | simp only [State.modJrnl_outer, State.storeKick_outer] | split

theorem State.ack_outer (s : State) (k : Nat) :
    (s.ack k).outer = s.outer := by
  unfold State.ack
  repeat' first | (with_reducible rfl) | simp only [State.modJrnl_outer, State.release_outer, State.testReopened_outer, State.requestReads_outer, State.offerTolls_outer, State.retime_outer] | split

theorem State.pull_outer (s : State) (c : Nat) :
    (s.pull c).outer = s.outer := by
  simp only [State.pull, State.modJrnl_outer, State.requestReads_outer]

theorem State.drainEnd_outer (s : State) :
    (s.drainEnd).outer = s.outer := by
  simp only [State.drainEnd, State.modJrnl_outer, State.emptyReadAhead_outer]

theorem State.controlDiscarded_outer (s : State) :
    (s.controlDiscarded).outer = s.outer := by
  simp only [State.controlDiscarded, State.modJrnl_outer]

theorem State.takeTollControl_outer (s : State) (b : Block) :
    (s.takeTollControl b).outer = s.outer := by
  unfold State.takeTollControl
  repeat' first | (with_reducible rfl) | simp only [State.ack_outer, State.drainEnd_outer, State.controlDiscarded_outer, State.pull_outer] | split

theorem State.journalIsolated_outer (s : State) (handed : List Nat) :
    (s.journalIsolated handed).outer = s.outer := by
  simp only [State.journalIsolated, State.modJrnl_outer, State.retime_outer, State.emptyReadAhead_outer]

theorem State.restartJournal_outer (s : State) :
    (s.restartJournal).outer = s.outer := by
  simp only [State.restartJournal, State.modJrnl_outer, State.emptyReadAhead_outer]

theorem State.countVoice_outer (s : State) (r : Fin 16) (f : VoiceCounters → VoiceCounters) :
    (s.countVoice r f).outer = s.outer := by
  simp only [State.countVoice, State.modCalls_outer, State.modRecord_outer]

theorem State.modVoice_outer (s : State) (r : Fin 16) (f : VoiceFields → VoiceFields) :
    (s.modVoice r f).outer = s.outer := by
  simp only [State.modVoice, State.modRecord_outer]

theorem State.captureBlock_outer (s : State) (r : Fin 16) (samples : List Byte) :
    (s.captureBlock r samples).outer = s.outer := by
  unfold State.captureBlock
  repeat' first | (with_reducible rfl) | simp only [State.countVoice_outer, State.join_outer] | split

theorem State.voiceOutcome_outer (s : State) (slot : Fin 32) (o : VoiceOutcome) :
    (s.voiceOutcome slot o).outer = s.outer := by
  unfold State.voiceOutcome
  repeat' first | (with_reducible rfl) | simp only [State.modCalls_outer, State.countVoice_outer, State.captureBlock_outer, State.modVoice_outer] | split

theorem State.playStep_outer (s : State) (r : Fin 16) :
    (s.playStep r).2.outer = s.outer := by
  unfold State.playStep
  repeat' first | (with_reducible rfl) | simp only [State.countVoice_outer, State.modVoice_outer] | split

theorem State.insertVoice_outer (s : State) (r : Fin 16) (next : Byte) (f : VoiceFrame) :
    (s.insertVoice r next f).outer = s.outer := by
  simp only [State.insertVoice, State.countVoice_outer, State.modVoice_outer]

theorem State.resyncVoice_outer (s : State) (r : Fin 16) (f : VoiceFrame) :
    (s.resyncVoice r f).outer = s.outer := by
  unfold State.resyncVoice
  repeat' first | (with_reducible rfl) | simp only [State.countVoice_outer, State.modVoice_outer] | split

theorem State.placeVoice_outer (s : State) (r : Fin 16) (f : VoiceFrame) :
    (s.placeVoice r f).outer = s.outer := by
  unfold State.placeVoice
  repeat' first | (with_reducible rfl) | simp only [State.countVoice_outer, State.resyncVoice_outer, State.insertVoice_outer] | split

theorem State.takeVoice_outer (s : State) (r : Fin 16) (b : Block) :
    (s.takeVoice r b).outer = s.outer := by
  unfold State.takeVoice
  repeat' first | (with_reducible rfl) | simp only [State.countVoice_outer, State.placeVoice_outer] | split

theorem State.countSlot_outer (s : State) (k : Fin 8) (f : SlotCounters → SlotCounters) :
    (s.countSlot k f).outer = s.outer := by
  simp only [State.countSlot, State.modSlot_outer]

theorem State.forwardReading_outer (s : State) (k : Fin 8) (drop : Fin 4) (address : BitVec 5) (x : Reading) (speed : Option Nat) :
    (s.forwardReading k drop address x speed).outer = s.outer := by
  unfold State.forwardReading
  repeat' first | (with_reducible rfl) | simp only [State.countSlot_outer, State.join_outer] | split

theorem State.weatherOffline_outer (s : State) (k : Fin 8) :
    (s.weatherOffline k).outer = s.outer := by
  unfold State.weatherOffline
  repeat' first | (with_reducible rfl) | simp only [State.modSlot_outer, State.notify_outer] | split

theorem State.countSign_outer (s : State) (k : Fin 12) (f : SignCounters → SignCounters) :
    (s.countSign k f).outer = s.outer := by
  simp only [State.countSign, State.modSignRec_outer]

theorem State.arbitrate_outer (s : State) (k : Fin 12) :
    (s.arbitrate k).outer = s.outer := by
  simp only [State.arbitrate, State.modSignRec_outer]

theorem State.arbitrateSet_outer (s : State) (m : BitVec 12) :
    (s.arbitrateSet m).outer = s.outer := by
  simp only [State.arbitrateSet, State.arbitrate_outer, State.forEach_outer, implies_true]

theorem State.noticeRule_outer (s : State) (i : Fin 32) :
    (s.noticeRule i).outer = s.outer := by
  simp only [State.noticeRule, State.notify_outer]

theorem State.settle_outer (s : State) (also : BitVec 12) (but : Option (Fin 32)) :
    (s.settle also but).outer = s.outer := by
  unfold State.settle
  repeat' first | (with_reducible rfl) | simp only [State.modRules_outer, State.noticeRule_outer, State.arbitrateSet_outer, State.forEach_outer, implies_true] | split

theorem State.evaluate_outer (s : State) (k : Fin 8) :
    (s.evaluate k).outer = s.outer := by
  unfold State.evaluate
  repeat' first | (with_reducible rfl) | simp only [State.modRules_outer, State.settle_outer] | split

theorem State.writeRule_outer (s : State) (i : Fin 32) (x : RuleRecord) :
    (s.writeRule i x).outer = s.outer := by
  simp only [State.writeRule, State.modRule_outer, State.settle_outer]

theorem State.settleAll_outer (s : State) :
    (s.settleAll).outer = s.outer := by
  simp only [State.settleAll, State.modRules_outer, State.arbitrateSet_outer]

theorem State.restartSigns_outer (s : State) :
    (s.restartSigns).outer = s.outer := by
  simp only [State.restartSigns, State.modRules_outer, State.settleAll_outer]

theorem State.modPage_outer (s : State) (k : Fin 12) (p : Fin 8) (f : Page → Page) :
    (s.modPage k p f).outer = s.outer := by
  simp only [State.modPage, State.modSignRec_outer]

theorem State.pageOpen_outer (s : State) (k : Fin 12) (p : Fin 8) (code : Byte) :
    (s.pageOpen k p code).2.outer = s.outer := by
  unfold State.pageOpen
  repeat' first | (with_reducible rfl) | simp only [State.modSign_outer, State.modPage_outer] | split

theorem State.pageData_outer (s : State) (k : Fin 12) (p : Fin 8) (offset : Nat) (data : List Byte) :
    (s.pageData k p offset data).2.outer = s.outer := by
  unfold State.pageData
  repeat' first | (with_reducible rfl) | simp only [State.modSign_outer, State.modPage_outer, State.arbitrate_outer] | split

theorem State.pageDiscard_outer (s : State) (k : Fin 12) (p : Fin 8) :
    (s.pageDiscard k p).2.outer = s.outer := by
  unfold State.pageDiscard
  repeat' first | (with_reducible rfl) | simp only [State.modPage_outer, State.arbitrate_outer] | split

theorem State.signSet_outer (s : State) (k : Fin 12) (p : Fin 8) (priority minutes : Nat) :
    (s.signSet k p priority minutes).2.outer = s.outer := by
  unfold State.signSet
  repeat' first | (with_reducible rfl) | simp only [State.modSignRec_outer, State.arbitrate_outer] | split

theorem State.dropRequest_outer (s : State) (k : Fin 12) :
    (s.dropRequest k).outer = s.outer := by
  simp only [State.dropRequest, State.modSignRec_outer, State.arbitrate_outer]

theorem State.signCancel_outer (s : State) (k : Fin 12) :
    (s.signCancel k).2.outer = s.outer := by
  unfold State.signCancel
  repeat' first | (with_reducible rfl) | simp only [State.dropRequest_outer] | split

theorem State.signPayload_outer (s : State) (k : Fin 12) :
    (s.signPayload k).2.outer = s.outer := by
  unfold State.signPayload
  repeat' first | (with_reducible rfl) | simp only [State.modSignRec_outer] | split

theorem State.signOutcome_outer (s : State) (k : Fin 12) (o : SignOutcome) :
    (s.signOutcome k o).outer = s.outer := by
  simp only [State.signOutcome, State.modSignRec_outer]

theorem State.relinkSign_outer (s : State) (k : Fin 12) (station : Option (Fin 32)) :
    (s.relinkSign k station).outer = s.outer := by
  simp only [State.relinkSign, State.modSignRec_outer]

theorem State.writeSign_outer (s : State) (k : Fin 12) (m : IntensityMode) :
    (s.writeSign k m).outer = s.outer := by
  simp only [State.writeSign, State.modSignRec_outer, State.arbitrate_outer]

theorem State.stationPayload_outer (s : State) (slot : Fin 32) :
    (s.stationPayload slot).2.outer = s.outer := by
  unfold State.stationPayload
  repeat' first | (with_reducible rfl) | simp only [State.signPayload_outer, State.carryAnswers_outer] | split

theorem State.voicePayload_outer (s : State) (slot : Fin 32) :
    (s.voicePayload slot).2.outer = s.outer := by
  unfold State.voicePayload
  repeat' first | (with_reducible rfl) | simp only [State.playStep_outer] | split

theorem State.beginExchange_outer (s : State) (d : Fin 4) (x : Exchange) (count : DropCounters → DropCounters) :
    (s.beginExchange d x count).outer = s.outer := by
  simp only [State.beginExchange, State.modDrop_outer]

theorem State.beginBroadcast_outer (s : State) (d : Fin 4) :
    (s.beginBroadcast d).outer = s.outer := by
  simp only [State.beginBroadcast, State.modDrop_outer, State.beginExchange_outer]

theorem State.beginVoice_outer (s : State) (d : Fin 4) (slot : Fin 32) :
    (s.beginVoice d slot).outer = s.outer := by
  unfold State.beginVoice
  repeat' first | (with_reducible rfl) | simp only [State.beginExchange_outer, State.voicePayload_outer] | split

theorem State.beginPoll_outer (s : State) (d : Fin 4) (slot : Fin 32) :
    (s.beginPoll d slot).outer = s.outer := by
  unfold State.beginPoll
  repeat' first | (with_reducible rfl) | simp only [State.beginExchange_outer, State.stationPayload_outer] | split

theorem State.chooseFrom_outer (s : State) (d : Fin 4) (voices polls : List (Fin 32 × Nat)) :
    (s.chooseFrom d voices polls).outer = s.outer := by
  unfold State.chooseFrom
  repeat' first | (with_reducible rfl) | simp only [State.beginBroadcast_outer, State.beginVoice_outer, State.beginPoll_outer] | split

theorem State.dropChoose_outer (s : State) (d : Fin 4) :
    (s.dropChoose d).outer = s.outer := by
  simp only [State.dropChoose, State.chooseFrom_outer]

theorem State.endChoose_outer (s : State) (d : Fin 4) :
    (s.endChoose d).outer = s.outer := by
  simp only [State.endChoose, State.chooseFrom_outer]

theorem State.dueComes_outer (s : State) (slot : Fin 32) (due : Option Nat) :
    (s.dueComes slot due).outer = s.outer := by
  simp only [State.dueComes, State.modStation_outer]

theorem State.dropsChoose_outer (s : State) :
    (s.dropsChoose).outer = s.outer := by
  simp only [State.dropsChoose, State.dropChoose_outer, State.forEach_outer, implies_true]

theorem State.seatTaken_outer (s : State) (slot : Fin 32) :
    (s.seatTaken slot).outer = s.outer := by
  simp only [State.seatTaken, State.modStation_outer, State.dropChoose_outer]

theorem State.seatReleased_outer (s : State) (slot : Fin 32) :
    (s.seatReleased slot).outer = s.outer := by
  simp only [State.seatReleased, State.modStation_outer]

theorem State.countCalls_outer (s : State) (f : CallCounters → CallCounters) :
    (s.countCalls f).outer = s.outer := by
  simp only [State.countCalls, State.modCalls_outer]

theorem State.sendCall_outer (s : State) (subtype : BitVec 4) (seq : Byte) (body : List Byte) :
    (s.sendCall subtype seq body).outer = s.outer := by
  unfold State.sendCall
  repeat' first | (with_reducible rfl) | simp only [State.countCalls_outer, State.join_outer] | split

theorem State.sendRequest_outer (s : State) (r : Fin 16) :
    (s.sendRequest r).outer = s.outer := by
  simp only [State.sendRequest, State.sendCall_outer]

theorem State.sendResume_outer (s : State) (r : Fin 16) :
    (s.sendResume r).outer = s.outer := by
  simp only [State.sendResume, State.sendCall_outer]

theorem State.sendClear_outer (s : State) (r : Fin 16) (reason : ClearReason) :
    (s.sendClear r reason).outer = s.outer := by
  simp only [State.sendClear, State.sendCall_outer]

theorem State.enterCalling_outer (s : State) (r : Fin 16) (lane : Fin 64) :
    (s.enterCalling r lane).outer = s.outer := by
  unfold State.enterCalling
  repeat' first | (with_reducible rfl) | simp only [State.modCalls_outer, State.modLane_outer, State.modRecord_outer, State.countCalls_outer, State.sendRequest_outer] | split

theorem State.tryCalling_outer (s : State) (r : Fin 16) :
    (s.tryCalling r).outer = s.outer := by
  unfold State.tryCalling
  repeat' first | (with_reducible rfl) | simp only [State.enterCalling_outer] | split

theorem State.testSeized_outer (s : State) :
    (s.testSeized).outer = s.outer := by
  simp only [State.testSeized, State.tryCalling_outer, State.forEach_outer, implies_true]

theorem State.seize_outer (s : State) (r : Fin 16) (slot : Fin 32) :
    (s.seize r slot).outer = s.outer := by
  simp only [State.seize, State.modRecord_outer, State.seatTaken_outer]

theorem State.leaveWaitList_outer (s : State) (slot : Fin 32) :
    (s.leaveWaitList slot).outer = s.outer := by
  unfold State.leaveWaitList
  repeat' first | (with_reducible rfl) | simp only [State.modCalls_outer, State.notify_outer] | split

theorem State.refillOne_outer (s : State) (slot : Fin 32) :
    (s.refillOne slot).outer = s.outer := by
  unfold State.refillOne
  repeat' first | (with_reducible rfl) | simp only [State.leaveWaitList_outer, State.seize_outer] | split

theorem State.refillWalk_outer (s : State) :
    (s.refillWalk).outer = s.outer := by
  simp only [State.refillWalk, State.refillOne_outer, State.forEach_outer, implies_true]

theorem State.refill_outer (s : State) :
    (s.refill).outer = s.outer := by
  unfold State.refill
  repeat' first | (with_reducible rfl) | simp only [State.refillWalk_outer, State.testSeized_outer] | split

theorem State.offHook_outer (s : State) (slot : Fin 32) :
    (s.offHook slot).outer = s.outer := by
  unfold State.offHook
  repeat' first | (with_reducible rfl) | simp only [State.modCalls_outer, State.countCalls_outer, State.seize_outer, State.notify_outer, State.testSeized_outer] | split

theorem State.releaseSeat_outer (s : State) (r : Fin 16) :
    (s.releaseSeat r).outer = s.outer := by
  unfold State.releaseSeat
  repeat' first | (with_reducible rfl) | simp only [State.seatReleased_outer] | split

theorem State.unbind_outer (s : State) (r : Fin 16) :
    (s.unbind r).outer = s.outer := by
  unfold State.unbind
  repeat' first | (with_reducible rfl) | simp only [State.modLane_outer] | split

theorem State.clearRecord_outer (s : State) (r : Fin 16) :
    (s.clearRecord r).outer = s.outer := by
  simp only [State.clearRecord, State.modRecord_outer, State.unbind_outer, State.releaseSeat_outer]

theorem State.freeCall_outer (s : State) (r : Fin 16) :
    (s.freeCall r).outer = s.outer := by
  simp only [State.freeCall, State.refill_outer, State.clearRecord_outer, State.testSeized_outer]

theorem State.clearLocal_outer (s : State) (r : Fin 16) (reason : ClearReason) :
    (s.clearLocal r reason).outer = s.outer := by
  simp only [State.clearLocal, State.modRecord_outer, State.countCalls_outer, State.releaseSeat_outer, State.refill_outer, State.sendClear_outer]

theorem State.clearCentre_outer (s : State) (r : Fin 16) (seq : Byte) :
    (s.clearCentre r seq).outer = s.outer := by
  simp only [State.clearCentre, State.modRecord_outer, State.countCalls_outer, State.releaseSeat_outer, State.sendCall_outer, State.refill_outer]

theorem State.endCall_outer (s : State) (r : Fin 16) (reason : ClearReason) :
    (s.endCall r reason).outer = s.outer := by
  unfold State.endCall
  repeat' first | (with_reducible rfl) | simp only [State.freeCall_outer, State.clearLocal_outer] | split

theorem State.phoneGone_outer (s : State) (slot : Fin 32) (reason : ClearReason) :
    (s.phoneGone slot reason).outer = s.outer := by
  unfold State.phoneGone
  repeat' first | (with_reducible rfl) | simp only [State.leaveWaitList_outer, State.endCall_outer] | split

theorem State.takeHook_outer (s : State) (slot : Fin 32) (offHook : Bool) :
    (s.takeHook slot offHook).outer = s.outer := by
  unfold State.takeHook
  repeat' first | (with_reducible rfl) | simp only [State.offHook_outer, State.phoneGone_outer] | split

theorem State.unknownCall_outer (s : State) :
    (s.unknownCall).outer = s.outer := by
  simp only [State.unknownCall, State.countCalls_outer]

theorem State.lateSignal_outer (s : State) :
    (s.lateSignal).outer = s.outer := by
  simp only [State.lateSignal, State.countCalls_outer]

theorem State.connectCall_outer (s : State) (r : Fin 16) :
    (s.connectCall r).outer = s.outer := by
  simp only [State.connectCall, State.modRecord_outer, State.countCalls_outer, answered]

theorem State.queueCall_outer (s : State) (r : Fin 16) :
    (s.queueCall r).outer = s.outer := by
  simp only [State.queueCall, State.modRecord_outer]

theorem State.takeHeld_outer (s : State) (r : Fin 16) :
    (s.takeHeld r).outer = s.outer := by
  unfold State.takeHeld
  repeat' first | (with_reducible rfl) | simp only [State.queueCall_outer, State.lateSignal_outer] | split

theorem State.takeAnswer_outer (s : State) (r : Fin 16) :
    (s.takeAnswer r).outer = s.outer := by
  unfold State.takeAnswer
  repeat' first | (with_reducible rfl) | simp only [State.connectCall_outer, State.lateSignal_outer] | split

theorem State.takeClear_outer (s : State) (r : Fin 16) (seq : Byte) :
    (s.takeClear r seq).outer = s.outer := by
  unfold State.takeClear
  repeat' first | (with_reducible rfl) | simp only [State.freeCall_outer, State.clearCentre_outer, State.sendCall_outer] | split

theorem State.takeCleared_outer (s : State) (r : Fin 16) :
    (s.takeCleared r).outer = s.outer := by
  unfold State.takeCleared
  repeat' first | (with_reducible rfl) | simp only [State.freeCall_outer, State.lateSignal_outer] | split

theorem State.takeCallBlock_outer (s : State) (b : Block) :
    (s.takeCallBlock b).outer = s.outer := by
  unfold State.takeCallBlock
  repeat' first | (with_reducible rfl) | simp only [State.takeHeld_outer, State.takeCleared_outer, State.sendCall_outer, State.takeClear_outer, State.unknownCall_outer, State.takeAnswer_outer] | split

theorem State.callingExpires_outer (s : State) (r : Fin 16) :
    (s.callingExpires r).outer = s.outer := by
  unfold State.callingExpires
  repeat' first | (with_reducible rfl) | simp only [State.modRecord_outer, State.sendRequest_outer] | split

theorem State.clearingExpires_outer (s : State) (r : Fin 16) :
    (s.clearingExpires r).outer = s.outer := by
  unfold State.clearingExpires
  repeat' first | (with_reducible rfl) | simp only [State.modRecord_outer, State.freeCall_outer, State.sendClear_outer] | split

theorem State.isolatedSignals_outer (s : State) (r : Fin 16) :
    (s.isolatedSignals r).outer = s.outer := by
  unfold State.isolatedSignals
  repeat' first | (with_reducible rfl) | simp only [State.modRecord_outer, State.sendResume_outer, State.sendRequest_outer] | split

theorem State.callsIsolated_outer (s : State) :
    (s.callsIsolated).outer = s.outer := by
  simp only [State.callsIsolated, State.modRecord_outer, State.countCalls_outer, State.forEach_outer, implies_true]

theorem State.callsHealed_outer (s : State) :
    (s.callsHealed).outer = s.outer := by
  simp only [State.callsHealed, State.isolatedSignals_outer, State.testSeized_outer, State.forEach_outer, implies_true]

theorem State.forceClear_outer (s : State) (r : Fin 16) :
    (s.forceClear r).outer = s.outer := by
  unfold State.forceClear
  repeat' first | (with_reducible rfl) | simp only [State.modRecord_outer, State.countCalls_outer, State.sendClear_outer] | split

theorem State.restartCalls_outer (s : State) :
    (s.restartCalls).outer = s.outer := by
  unfold State.restartCalls
  repeat' first | (with_reducible rfl) | simp only [State.modCalls_outer, State.forceClear_outer, State.notify_outer, State.clearRecord_outer, State.forEach_outer, implies_true] | split

theorem State.countDrop_outer (s : State) (d : Fin 4) (f : DropCounters → DropCounters) :
    (s.countDrop d f).outer = s.outer := by
  simp only [State.countDrop, State.modDrop_outer]

theorem State.noticeStation_outer (s : State) (x : Snapshot) (before : StationState) :
    (s.noticeStation x before).outer = s.outer := by
  unfold State.noticeStation
  repeat' first | (with_reducible rfl) | simp only [State.notify_outer] | split

theorem State.reportOffline_outer (s : State) (x : Snapshot) (before : StationState) :
    (s.reportOffline x before).outer = s.outer := by
  unfold State.reportOffline
  repeat' first | (with_reducible rfl) | simp only [State.phoneGone_outer, State.weatherOffline_outer] | split

theorem State.takeReading_outer (s : State) (x : Snapshot) (k : Fin 8) (rd : Reading) :
    (s.takeReading x k rd).outer = s.outer := by
  unfold State.takeReading
  repeat' first | (with_reducible rfl) | simp only [State.modSlot_outer, State.forwardReading_outer, State.countSlot_outer, State.evaluate_outer] | split

theorem State.handOver_outer (s : State) (x : Snapshot) (n : Reply) :
    (s.handOver x n).outer = s.outer := by
  unfold State.handOver
  repeat' first | (with_reducible rfl) | simp only [State.takeTxn_outer, State.takeHook_outer, State.takeReading_outer] | split

theorem State.dispatch_outer (s : State) (x : Snapshot) (voice : Bool) (r : Reply) :
    (s.dispatch x voice r).outer = s.outer := by
  unfold State.dispatch
  repeat' first | (with_reducible rfl) | simp only [State.countDrop_outer, State.handOver_outer] | split

theorem State.reportOutcome_outer (s : State) (x : Snapshot) (o : ExchangeEnd) :
    (s.reportOutcome x o).outer = s.outer := by
  unfold State.reportOutcome
  repeat' first | (with_reducible rfl) | simp only [State.signOutcome_outer, State.answersOutcome_outer] | split

theorem State.reportVoice_outer (s : State) (x : Snapshot) (voice : Bool) (o : ExchangeEnd) :
    (s.reportVoice x voice o).outer = s.outer := by
  unfold State.reportVoice
  repeat' first | (with_reducible rfl) | simp only [State.voiceOutcome_outer] | split

theorem State.applyEnd_outer (s : State) (x : Snapshot) (voice : Bool) (begun : Nat) (o : ExchangeEnd) :
    (s.applyEnd x voice begun o).outer = s.outer := by
  unfold State.applyEnd
  repeat' first | (with_reducible rfl) | simp only [State.modStation_outer, State.noticeStation_outer, State.reportOutcome_outer, State.dispatch_outer, State.reportVoice_outer, State.reportOffline_outer, State.countDrop_outer] | split

theorem State.settleEnd_outer (s : State) (x : Snapshot) (voice : Bool) (begun : Nat) (o : ExchangeEnd) :
    (s.settleEnd x voice begun o).outer = s.outer := by
  unfold State.settleEnd
  repeat' first | (with_reducible rfl) | simp only [State.countDrop_outer, State.applyEnd_outer] | split

theorem State.lineIdle_outer (s : State) (d : Fin 4) :
    (s.lineIdle d).outer = s.outer := by
  simp only [State.lineIdle, State.modDrop_outer]

theorem State.completeWith_outer (s : State) (d : Fin 4) (o : ExchangeEnd) :
    (s.completeWith d o).outer = s.outer := by
  unfold State.completeWith
  repeat' first | (with_reducible rfl) | simp only [State.endChoose_outer, State.settleEnd_outer, State.lineIdle_outer] | split

theorem State.countBad_outer (s : State) (d : Fin 4) (o : ExchangeEnd) :
    (s.countBad d o).outer = s.outer := by
  unfold State.countBad
  repeat' first | (with_reducible rfl) | simp only [State.countDrop_outer] | split

theorem State.frameEnds_outer (s : State) (d : Fin 4) (o : ExchangeEnd) :
    (s.frameEnds d o).outer = s.outer := by
  unfold State.frameEnds
  repeat' first | (with_reducible rfl) | simp only [State.completeWith_outer, State.countBad_outer] | split

theorem State.countUnsolicited_outer (s : State) (d : Fin 4) :
    (s.countUnsolicited d).outer = s.outer := by
  simp only [State.countUnsolicited, State.countDrop_outer]

theorem State.frameArrives_outer (s : State) (d : Fin 4) (o : ExchangeEnd) :
    (s.frameArrives d o).outer = s.outer := by
  unfold State.frameArrives
  repeat' first | (with_reducible rfl) | simp only [State.frameEnds_outer, State.countUnsolicited_outer] | split

theorem State.frameSent_outer (s : State) (d : Fin 4) :
    (s.frameSent d).outer = s.outer := by
  unfold State.frameSent
  repeat' first | (with_reducible rfl) | simp only [State.modDrop_outer, State.endChoose_outer, State.lineIdle_outer] | split

theorem State.supplyToJournal_outer (s : State) (old new : SupplyState) :
    (s.supplyToJournal old new).outer = s.outer := by
  unfold State.supplyToJournal
  repeat' first | (with_reducible rfl) | simp only [State.journalHoldup_outer, State.journalHoldupEnds_outer] | split

theorem State.setBroadcasts_outer (s : State) :
    (s.setBroadcasts).outer = s.outer := by
  simp only [State.setBroadcasts, State.modPoll_outer]

theorem State.changeSupply_outer (s : State) (new : SupplyState) (cause : SupplyCause) :
    (s.changeSupply new cause).outer = s.outer := by
  unfold State.changeSupply
  repeat' first | (with_reducible rfl) | simp only [State.modSup_outer, State.dropsChoose_outer, State.supplyToJournal_outer, State.notify_outer, State.setBroadcasts_outer] | split

theorem State.judgeAverage_outer (s : State) (avg : Nat) :
    (s.judgeAverage avg).outer = s.outer := by
  unfold State.judgeAverage
  repeat' first | (with_reducible rfl) | simp only [State.modSup_outer, State.changeSupply_outer] | split

theorem State.sampleFeed_outer (s : State) (level : Nat) :
    (s.sampleFeed level).outer = s.outer := by
  unfold State.sampleFeed
  repeat' first | (with_reducible rfl) | simp only [State.modSup_outer, State.judgeAverage_outer] | split

theorem State.settleExpires_outer (s : State) :
    (s.settleExpires).outer = s.outer := by
  unfold State.settleExpires
  repeat' first | (with_reducible rfl) | simp only [State.changeSupply_outer] | split

theorem State.assertFeedLost_outer (s : State) :
    (s.assertFeedLost).outer = s.outer := by
  unfold State.assertFeedLost
  repeat' first | (with_reducible rfl) | simp only [State.modSup_outer, State.changeSupply_outer] | split

theorem State.negateFeedLost_outer (s : State) :
    (s.negateFeedLost).outer = s.outer := by
  unfold State.negateFeedLost
  repeat' first | (with_reducible rfl) | simp only [State.modSup_outer] | split

theorem State.clearRing_outer (s : State) :
    (s.clearRing).outer = s.outer := by
  unfold State.clearRing
  repeat' first | (with_reducible rfl) | simp only [State.modRing_outer, State.modProt_outer] | split

theorem State.clearDrop_outer (s : State) :
    (s.clearDrop).outer = s.outer := by
  simp only [State.clearDrop, State.modPoll_outer]

theorem State.clearCalls_outer (s : State) :
    (s.clearCalls).outer = s.outer := by
  simp only [State.clearCalls, State.modCalls_outer]

theorem State.clearJournal_outer (s : State) :
    (s.clearJournal).outer = s.outer := by
  simp only [State.clearJournal, State.modJrnl_outer, State.modCtl_outer]

theorem State.clearSupply_outer (s : State) :
    (s.clearSupply).outer = s.outer := by
  simp only [State.clearSupply, State.modSup_outer]

theorem State.clearLanes_outer (s : State) :
    (s.clearLanes).outer = s.outer := by
  simp only [State.clearLanes, State.modLanes_outer]

theorem State.clearSigns_outer (s : State) :
    (s.clearSigns).outer = s.outer := by
  simp only [State.clearSigns, State.modRules_outer, State.modSign_outer]

theorem State.clearSlots_outer (s : State) :
    (s.clearSlots).outer = s.outer := by
  simp only [State.clearSlots, State.modSlots_outer, State.modAgent_outer]

theorem State.clearGroup_outer (s : State) (n : Group) :
    (s.clearGroup n).outer = s.outer := by
  unfold State.clearGroup
  repeat' first | (with_reducible rfl) | simp only [State.clearSigns_outer, State.clearCalls_outer, State.clearSupply_outer, State.clearJournal_outer, State.clearLanes_outer, State.clearRing_outer, State.clearSlots_outer, State.clearDrop_outer] | split

theorem State.writeLane_outer (s : State) (i : Fin 64) (l : List Byte) :
    (s.writeLane i l).2.outer = s.outer := by
  unfold State.writeLane
  repeat' first | (with_reducible rfl) | simp only [State.modLane_outer, State.testSeized_outer, State.offerTolls_outer] | split

theorem State.reportLink_outer (s : State) (e : Station) :
    (s.reportLink e).outer = s.outer := by
  unfold State.reportLink
  repeat' first | (with_reducible rfl) | simp only [State.modSlot_outer, State.relinkSign_outer] | split

theorem State.reportStation_outer (s : State) (i : Fin 32) (old : Station) (x : StationRecord) :
    (s.reportStation i old x).outer = s.outer := by
  unfold State.reportStation
  repeat' first | (with_reducible rfl) | simp only [State.emptyAnswers_outer, State.reportLink_outer] | split

theorem State.writeStation_outer (s : State) (i : Fin 32) (l : List Byte) :
    (s.writeStation i l).2.outer = s.outer := by
  unfold State.writeStation
  repeat' first | (with_reducible rfl) | simp only [State.modStation_outer, State.reportStation_outer, State.dropChoose_outer] | split

theorem State.writeRuleEntry_outer (s : State) (i : Fin 32) (l : List Byte) :
    (s.writeRuleEntry i l).2.outer = s.outer := by
  unfold State.writeRuleEntry
  repeat' first | (with_reducible rfl) | simp only [State.writeRule_outer] | split

theorem State.writeSignEntry_outer (s : State) (k : Fin 12) (l : List Byte) :
    (s.writeSignEntry k l).2.outer = s.outer := by
  unfold State.writeSignEntry
  repeat' first | (with_reducible rfl) | simp only [State.writeSign_outer] | split

theorem State.writeSlotEntry_outer (s : State) (k : Fin 8) (l : List Byte) :
    (s.writeSlotEntry k l).2.outer = s.outer := by
  unfold State.writeSlotEntry
  repeat' first | (with_reducible rfl) | simp only [State.modSlot_outer] | split

theorem State.writeParams_outer (s : State) (l : List Byte) :
    (s.writeParams l).2.outer = s.outer := by
  unfold State.writeParams
  repeat' first | (with_reducible rfl) | simp only [State.modAgent_outer] | split

theorem State.writeEntry_outer (s : State) (t : Table) (i : Nat) (l : List Byte) :
    (s.writeEntry t i l).2.outer = s.outer := by
  unfold State.writeEntry
  split
  · cases fin? 64 i <;> simp only [Option.elim, State.writeLane_outer]
  · cases fin? 32 i <;> simp only [Option.elim, State.writeStation_outer]
  · cases fin? 32 i <;> simp only [Option.elim, State.writeRuleEntry_outer]
  · cases fin? 12 i <;> simp only [Option.elim, State.writeSignEntry_outer]
  · cases fin? 8 i <;> simp only [Option.elim, State.writeSlotEntry_outer]
  · simp only [State.writeParams_outer]

theorem State.rescan_outer (s : State) :
    (s.rescan).outer = s.outer := by
  unfold State.rescan
  repeat' first | (with_reducible rfl) | simp only [State.modCtl_outer, State.scanRead_outer] | split

theorem State.restartCustody_outer (s : State) :
    (s.restartCustody).outer = s.outer := by
  unfold State.restartCustody
  repeat' first | (with_reducible rfl) | simp only [State.rescan_outer, State.restartJournal_outer] | split

theorem State.unbindAll_outer (s : State) :
    (s.unbindAll).outer = s.outer := by
  simp only [State.unbindAll, State.modLanes_outer]

theorem State.restartWeather_outer (s : State) :
    (s.restartWeather).outer = s.outer := by
  simp only [State.restartWeather, State.modSlots_outer]

theorem State.restartAll_outer (s : State) :
    (s.restartAll).outer = s.outer := by
  simp only [State.restartAll, State.modRing_outer, State.restartWeather_outer, State.unbindAll_outer, State.restartCalls_outer, State.restartSigns_outer, State.restartCustody_outer]

theorem State.beginSave_outer (s : State) (src : NodeId) (tag : Byte) :
    (s.beginSave src tag).outer = s.outer := by
  simp only [State.beginSave, State.modCtl_outer, State.modAgent_outer, State.storeKick_outer]

theorem State.perform_outer (s : State) (src : NodeId) (tag : Byte) (o : Order) :
    (s.perform src tag o).2.outer = s.outer := by
  unfold State.perform
  repeat' first | (with_reducible rfl) | simp only [State.signSet_outer, State.pageDiscard_outer, State.signCancel_outer, State.pageOpen_outer, State.restartAll_outer, State.beginSave_outer, State.pageData_outer, State.clearGroup_outer, State.writeEntry_outer, answered] | split

theorem State.carryOut_outer (s : State) (c : Command) :
    (s.carryOut c).2.outer = s.outer := by
  unfold State.carryOut
  repeat' first | (with_reducible rfl) | simp only [State.perform_outer] | split

theorem State.reply_outer (s : State) (c : Command) (a : Answer) :
    (s.reply c a).outer = s.outer := by
  unfold State.reply
  repeat' first | (with_reducible rfl) | simp only [State.modAgent_outer] | split

theorem State.takeCommand_outer (s : State) (c : Command) (rest : List Command) :
    (s.takeCommand c rest).outer = s.outer := by
  unfold State.takeCommand
  repeat' first | (with_reducible rfl) | simp only [State.modAgent_outer, State.carryOut_outer, State.reply_outer] | split

theorem State.passReply_outer (s : State) (b : Block) (rest : List Block) :
    (s.passReply b rest).outer = s.outer := by
  simp only [State.passReply, State.modAgent_outer, State.join_outer]

theorem State.agentTurn_outer (s : State) (t : State) (h : s.agentTurn = some t) :
    t.outer = s.outer := by
  unfold State.agentTurn at h
  split at h
  · split at h
    · cases h; exact State.passReply_outer s _ _
    · cases h
  · cases h; exact State.takeCommand_outer s _ _
  · cases h

theorem State.noticeTurn_outer (s : State) (t : State) (h : s.noticeTurn = some t) :
    t.outer = s.outer := by
  unfold State.noticeTurn at h
  split at h
  · cases h; exact State.passNotice_outer s
  · cases h

theorem State.agentTurns_outer (s : State) (n : Nat) :
    (s.agentTurns n).outer = s.outer := by
  induction n generalizing s with
  | zero => rfl
  | succ n ih =>
    unfold State.agentTurns
    split
    · rfl
    · rename_i ha _; rw [ih, State.agentTurn_outer s _ ha]
    · rename_i _ hb; rw [ih, State.noticeTurn_outer s _ hb]
    · rename_i ha hb
      split
      · rw [ih, State.spend_outer, State.agentTurn_outer s _ ha]
      · rw [ih, State.spend_outer, State.noticeTurn_outer s _ hb]

theorem State.agentRun_outer (s : State) :
    (s.agentRun).outer = s.outer := by
  simp only [State.agentRun, State.agentTurns_outer]

theorem State.refuseBusy_outer (s : State) (c : Command) :
    (s.refuseBusy c).outer = s.outer := by
  unfold State.refuseBusy
  repeat' first | (with_reducible rfl) | simp only [State.modAgent_outer, State.join_outer] | split

theorem State.agentReceive_outer (s : State) (c : Command) :
    (s.agentReceive c).outer = s.outer := by
  unfold State.agentReceive
  repeat' first | (with_reducible rfl) | simp only [State.modAgent_outer, State.refuseBusy_outer, State.agentRun_outer] | split

theorem State.saveReplies_outer (s : State) (st : Status) (content : List Byte) :
    (s.saveReplies st content).outer = s.outer := by
  unfold State.saveReplies
  repeat' first | (with_reducible rfl) | simp only [State.modAgent_outer, State.reply_outer, State.agentRun_outer] | split

theorem State.failSave_outer (s : State) (cause : StoreCause) :
    (s.failSave cause).outer = s.outer := by
  unfold State.failSave
  repeat' first | (with_reducible rfl) | simp only [State.modCtl_outer, State.saveReplies_outer, State.notify_outer] | split

theorem State.saveSucceeds_outer (s : State) (sv : Save) :
    (s.saveSucceeds sv).outer = s.outer := by
  simp only [State.saveSucceeds, State.modCtl_outer, State.saveReplies_outer, State.notify_outer]

theorem State.saveStepVerified_outer (s : State) (bytes : List Byte) :
    (s.saveStepVerified bytes).outer = s.outer := by
  unfold State.saveStepVerified
  repeat' first | (with_reducible rfl) | simp only [State.modCtl_outer, State.saveSucceeds_outer] | split

theorem State.countMismatch_outer (s : State) :
    (s.countMismatch).outer = s.outer := by
  simp only [State.countMismatch, State.modCtl_outer]

theorem State.journalScanned_outer (s : State) (r : Rebuilt) :
    (s.journalScanned r).outer = s.outer := by
  unfold State.journalScanned
  repeat' first | (with_reducible rfl) | simp only [State.modJrnl_outer, State.journalFault_outer, State.notify_outer] | split

theorem State.loadRead_outer (s : State) (slot : Nat) :
    (s.loadRead slot).outer = s.outer := by
  simp only [State.loadRead, State.startStep_outer]

theorem State.afterScan_outer (s : State) :
    (s.afterScan).outer = s.outer := by
  unfold State.afterScan
  repeat' first | (with_reducible rfl) | simp only [State.modCtl_outer, State.dropsChoose_outer, State.loadRead_outer, State.storeKick_outer] | split

theorem State.scanEnds_outer (s : State) :
    (s.scanEnds).outer = s.outer := by
  unfold State.scanEnds
  repeat' first | (with_reducible rfl) | simp only [State.modCtl_outer, State.journalScanned_outer, State.afterScan_outer] | split

theorem State.applyImage_outer (s : State) (slots : List (List Byte)) :
    (s.applyImage slots).outer = s.outer := by
  unfold State.applyImage
  repeat' first | (with_reducible rfl) | simp only [State.modLanes_outer, State.modPoll_outer, State.modSlots_outer, State.modRules_outer, State.modSign_outer, State.modAgent_outer, State.modSup_outer] | split

theorem State.noteLoad_outer (s : State) (o : LoadOutcome) :
    (s.noteLoad o).outer = s.outer := by
  unfold State.noteLoad
  repeat' first | (with_reducible rfl) | simp only [State.notify_outer] | split

theorem State.endLoad_outer (s : State) (o : LoadOutcome) :
    (s.endLoad o).outer = s.outer := by
  simp only [State.endLoad, State.modCtl_outer, State.dropsChoose_outer, State.noteLoad_outer, State.storeKick_outer, State.settleAll_outer]

theorem State.judgeImage_outer (s : State) (ld : Load) :
    (s.judgeImage ld).outer = s.outer := by
  unfold State.judgeImage
  repeat' first | (with_reducible rfl) | simp only [State.applyImage_outer, State.endLoad_outer] | split

theorem State.countTimeout_outer (s : State) :
    (s.countTimeout).outer = s.outer := by
  simp only [State.countTimeout, State.modCtl_outer]

theorem State.reportTimeout_outer (s : State) :
    (s.reportTimeout).outer = s.outer := by
  simp only [State.reportTimeout, State.journalFault_outer, State.failSave_outer]

theorem State.scanResumes_outer (s : State) :
    (s.scanResumes).outer = s.outer := by
  simp only [State.scanResumes, State.modJrnl_outer]

theorem State.enterIsolated_outer (s : State) :
    (s.enterIsolated).outer = s.outer := by
  simp only [State.enterIsolated, State.modRing_outer, State.modProt_outer, State.journalIsolated_outer, State.callsIsolated_outer]

theorem State.leaveIsolated_outer (s : State) :
    (s.leaveIsolated).outer = s.outer := by
  simp only [State.leaveIsolated, State.callsHealed_outer, State.offerTolls_outer, State.agentRun_outer]

theorem State.changeRing_outer (s : State) (new : RingState) :
    (s.changeRing new).outer = s.outer := by
  unfold State.changeRing
  repeat' first | (with_reducible rfl) | simp only [State.modProt_outer, State.enterIsolated_outer, State.leaveIsolated_outer, State.notify_outer] | split

theorem State.deriveRing_outer (s : State) :
    (s.deriveRing).outer = s.outer := by
  unfold State.deriveRing
  repeat' first | (with_reducible rfl) | simp only [State.changeRing_outer] | split

theorem State.noticeLink_outer (s : State) (p : Side) (cause : Option LinkCause) :
    (s.noticeLink p cause).outer = s.outer := by
  unfold State.noticeLink
  repeat' first | (with_reducible rfl) | simp only [State.notify_outer] | split

theorem State.portDown_outer (s : State) (p : Side) (cause : LinkCause) :
    (s.portDown p cause).outer = s.outer := by
  unfold State.portDown
  repeat' first | (with_reducible rfl) | simp only [State.modPort_outer, State.noticeLink_outer, State.deriveRing_outer] | split

theorem State.validArrival_outer (s : State) (p : Side) :
    (s.validArrival p).outer = s.outer := by
  unfold State.validArrival
  repeat' first | (with_reducible rfl) | simp only [State.modPort_outer, State.deriveRing_outer] | split

theorem State.erroredArrival_outer (s : State) (p : Side) :
    (s.erroredArrival p).outer = s.outer := by
  unfold State.erroredArrival
  repeat' first | (with_reducible rfl) | simp only [State.modPort_outer, State.portDown_outer] | split

theorem State.portUp_outer (s : State) (p : Side) :
    (s.portUp p).outer = s.outer := by
  simp only [State.portUp, State.modPort_outer, State.noticeLink_outer, State.deriveRing_outer]

theorem State.offerKeep_outer (s : State) (p : Side) :
    (s.offerKeep p).outer = s.outer := by
  simp only [State.offerKeep, State.offerRing_outer]

theorem State.validKeep_outer (s : State) (p : Side) (b : Block) :
    (s.validKeep p b).outer = s.outer := by
  unfold State.validKeep
  repeat' first | (with_reducible rfl) | simp only [State.modPort_outer, State.noticeLink_outer, State.deriveRing_outer] | split

theorem State.takeKeep_outer (s : State) (p : Side) (b : Block) :
    (s.takeKeep p b).outer = s.outer := by
  unfold State.takeKeep
  repeat' first | (with_reducible rfl) | simp only [State.modPort_outer, State.validKeep_outer] | split

theorem State.countRx_outer (s : State) (p : Side) (f : RxCounters → RxCounters) :
    (s.countRx p f).outer = s.outer := by
  simp only [State.countRx, State.modRing_outer]

theorem State.countDir_outer (s : State) (d : Dir) (f : DirCounters → DirCounters) :
    (s.countDir d f).outer = s.outer := by
  simp only [State.countDir, State.modRing_outer]

theorem State.modSender_outer (s : State) (d : Dir) (f : HoldSender → HoldSender) :
    (s.modSender d f).outer = s.outer := by
  simp only [State.modSender, State.modRing_outer]

theorem State.sendHoldoff_outer (s : State) (d : Dir) :
    (s.sendHoldoff d).outer = s.outer := by
  simp only [State.sendHoldoff, State.offerRing_outer, State.modSender_outer]

theorem State.sendRelease_outer (s : State) (d : Dir) :
    (s.sendRelease d).outer = s.outer := by
  simp only [State.sendRelease, State.offerRing_outer, State.modSender_outer]

theorem State.afterJoin_outer (s : State) (d : Dir) :
    (s.afterJoin d).outer = s.outer := by
  unfold State.afterJoin
  repeat' first | (with_reducible rfl) | simp only [State.sendHoldoff_outer] | split

theorem State.afterDeparture_outer (s : State) (d : Dir) :
    (s.afterDeparture d).outer = s.outer := by
  unfold State.afterDeparture
  repeat' first | (with_reducible rfl) | simp only [State.sendRelease_outer] | split

theorem State.setBuffer_outer (s : State) (d : Dir) (l : List Block) :
    (s.setBuffer d l).outer = s.outer := by
  simp only [State.setBuffer, State.modRing_outer]

theorem State.overflow_outer (s : State) (d : Dir) (b : Block) :
    (s.overflow d b).outer = s.outer := by
  unfold State.overflow
  repeat' first | (with_reducible rfl) | simp only [State.setBuffer_outer, State.countDir_outer] | split

theorem State.joinTransit_outer (s : State) (d : Dir) (b : Block) :
    (s.joinTransit d b).outer = s.outer := by
  unfold State.joinTransit
  repeat' first | (with_reducible rfl) | simp only [State.setBuffer_outer, State.afterJoin_outer, State.overflow_outer] | split

theorem State.forward_outer (s : State) (d : Dir) (b : Block) :
    (s.forward d b).outer = s.outer := by
  unfold State.forward
  repeat' first | (with_reducible rfl) | simp only [State.countDir_outer, State.joinTransit_outer] | split

theorem State.handBlock_outer (s : State) (b : Block) :
    (s.handBlock b).outer = s.outer := by
  unfold State.handBlock
  repeat' first | (with_reducible rfl) | simp only [State.takeCallBlock_outer, State.takeTollControl_outer, State.takeVoice_outer, State.agentReceive_outer] | split

theorem State.deliver_outer (s : State) (b : Block) :
    (s.deliver b).outer = s.outer := by
  unfold State.deliver
  repeat' first | (with_reducible rfl) | simp only [State.modLane_outer, State.handBlock_outer] | split

theorem State.classifyBlock_outer (s : State) (d : Dir) (b : Block) :
    (s.classifyBlock d b).outer = s.outer := by
  unfold State.classifyBlock
  repeat' first | (with_reducible rfl) | simp only [State.forward_outer, State.deliver_outer] | split

theorem State.sourceTest_outer (s : State) (d : Dir) (b : Block) :
    (s.sourceTest d b).outer = s.outer := by
  unfold State.sourceTest
  repeat' first | (with_reducible rfl) | simp only [State.countDir_outer, State.classifyBlock_outer] | split

theorem State.transitArrival_outer (s : State) (p : Side) (b : Block) :
    (s.transitArrival p b).outer = s.outer := by
  unfold State.transitArrival
  repeat' first | (with_reducible rfl) | simp only [State.countRx_outer, State.sourceTest_outer] | split

theorem State.takeHoldoff_outer (s : State) (p : Side) :
    (s.takeHoldoff p).outer = s.outer := by
  simp only [State.takeHoldoff, State.modOut_outer]

theorem State.takeRelease_outer (s : State) (p : Side) :
    (s.takeRelease p).outer = s.outer := by
  simp only [State.takeRelease, State.modOut_outer]

theorem State.countMalformed_outer (s : State) (p : Side) :
    (s.countMalformed p).outer = s.outer := by
  simp only [State.countMalformed, State.countRx_outer]

theorem State.takeRing_outer (s : State) (p : Side) (b : Block) :
    (s.takeRing p b).outer = s.outer := by
  unfold State.takeRing
  repeat' first | (with_reducible rfl) | simp only [State.countMalformed_outer, State.takeKeep_outer, State.takeRelease_outer, State.takeHoldoff_outer] | split

theorem State.takeBlock_outer (s : State) (p : Side) (b : Block) :
    (s.takeBlock p b).outer = s.outer := by
  unfold State.takeBlock
  repeat' first | (with_reducible rfl) | simp only [State.transitArrival_outer, State.takeRing_outer] | split

theorem State.arrive_outer (s : State) (p : Side) (l : List Byte) :
    (s.arrive p l).outer = s.outer := by
  unfold State.arrive
  repeat' first | (with_reducible rfl) | simp only [State.takeBlock_outer, State.erroredArrival_outer, State.validArrival_outer, State.countRx_outer, State.countMalformed_outer] | split

theorem State.send_outer (s : State) (p : Side) (b : Block) :
    (s.send p b).outer = s.outer := by
  unfold State.send
  repeat' first | (with_reducible rfl) | simp only [State.modRing_outer, State.modOut_outer] | split

theorem State.afterPop_outer (s : State) (n : ClassQueue) :
    (s.afterPop n).outer = s.outer := by
  unfold State.afterPop
  repeat' first | (with_reducible rfl) | simp only [State.offerTolls_outer, State.agentRun_outer] | split

theorem State.depart_outer (s : State) (n : Choice) :
    (s.depart n).outer = s.outer := by
  unfold State.depart
  repeat' first | (with_reducible rfl) | simp only [State.modRing_outer, State.setBuffer_outer, State.afterDeparture_outer, State.afterPop_outer] | split

theorem State.chooseOnce_outer (s : State) (p : Side) :
    (s.chooseOnce p).1.outer = s.outer := by
  unfold State.chooseOnce
  repeat' first | (with_reducible rfl) | simp only [State.modProt_outer, State.modOut_outer, State.depart_outer] | split

theorem State.chooseUpTo_outer (s : State) (p : Side) (n : Nat) :
    (s.chooseUpTo p n).outer = s.outer := by
  induction n generalizing s with
  | zero => simp only [State.chooseUpTo, State.send_outer]
  | succ n ih =>
    have hc := State.chooseOnce_outer s p
    unfold State.chooseUpTo
    split
    · rename_i heq; rw [heq] at hc; rw [State.send_outer]; exact hc
    · rename_i heq; rw [heq] at hc; rw [ih]; exact hc

theorem State.arbiter_outer (s : State) (p : Side) :
    (s.arbiter p).outer = s.outer := by
  simp only [State.arbiter, State.chooseUpTo_outer]

theorem State.unlessRepeater_outer (s : State) (f : State → State) (h : (f s).outer = s.outer) :
    (s.unlessRepeater f).outer = s.outer := by
  unfold State.unlessRepeater
  split
  · rfl
  · exact h

theorem State.command_outer (s : State) (src : NodeId) (tag : Byte) (code : BitVec 4) (body : List Byte) :
    (s.command src tag code body).outer = s.outer := by
  exact State.unlessRepeater_outer s _ (State.agentReceive_outer s _)

end Sys2Proof.Machine
end

