-- ==== Sys2Proof/Laws/FrameRing.lean ====
section
/-! SUPPORT. The operations that change neither the ring state nor the faults it is derived from. -/

namespace Sys2Proof.Machine

/-- The ring state and the two receive ports without their counters. -/
def State.ringView (s : State) : RingState × RxPort × RxPort := (s.prot.ring, s.prot.ports.e.core, s.prot.ports.w.core)

/-- A port's faults show without its counters. -/
theorem RxPort.core_faulted (p : RxPort) : p.core.faulted = p.faulted := rfl

/-- States with the same view derive the same ring state. -/
theorem ringOk_of_view {s t : State} (h : t.ringView = s.ringView) : t.ringOk = s.ringOk := by
  have h1 : t.prot.ring = s.prot.ring := congrArg (·.1) h
  have h2 : t.prot.ports.e.faulted = s.prot.ports.e.faulted := congrArg (fun v => v.2.1.faulted) h
  have h3 : t.prot.ports.w.faulted = s.prot.ports.w.faulted := congrArg (fun v => v.2.2.faulted) h
  unfold State.ringOk Protection.derived; rw [h1, h2, h3]

theorem State.modRing_ringView (s : State) (f : RingTransit → RingTransit) :
    (s.modRing f).ringView = s.ringView := rfl

theorem State.modLanes_ringView (s : State) (f : Vector LaneEntry 64 → Vector LaneEntry 64) :
    (s.modLanes f).ringView = s.ringView := rfl

theorem State.modPoll_ringView (s : State) (f : Poller → Poller) :
    (s.modPoll f).ringView = s.ringView := rfl

theorem State.modCalls_ringView (s : State) (f : CallEngine → CallEngine) :
    (s.modCalls f).ringView = s.ringView := rfl

theorem State.modJrnl_ringView (s : State) (f : Journal → Journal) :
    (s.modJrnl f).ringView = s.ringView := rfl

theorem State.modCtl_ringView (s : State) (f : StoreController → StoreController) :
    (s.modCtl f).ringView = s.ringView := rfl

theorem State.modNv_ringView (s : State) (f : Memory → Memory) :
    (s.modNv f).ringView = s.ringView := rfl

theorem State.modSlots_ringView (s : State) (f : Vector ReductionSlot 8 → Vector ReductionSlot 8) :
    (s.modSlots f).ringView = s.ringView := rfl

theorem State.modRules_ringView (s : State) (f : Vector Rule 32 → Vector Rule 32) :
    (s.modRules f).ringView = s.ringView := rfl

theorem State.modSign_ringView (s : State) (f : SignService → SignService) :
    (s.modSign f).ringView = s.ringView := rfl

theorem State.modSup_ringView (s : State) (f : Supply → Supply) :
    (s.modSup f).ringView = s.ringView := rfl

theorem State.modAgent_ringView (s : State) (f : Agent → Agent) :
    (s.modAgent f).ringView = s.ringView := rfl

theorem State.modLane_ringView (s : State) (i : Fin 64) (f : LaneEntry → LaneEntry) :
    (s.modLane i f).ringView = s.ringView := rfl

theorem State.modStation_ringView (s : State) (i : Fin 32) (f : Station → Station) :
    (s.modStation i f).ringView = s.ringView := rfl

theorem State.modDrop_ringView (s : State) (i : Fin 4) (f : Drop → Drop) :
    (s.modDrop i f).ringView = s.ringView := rfl

theorem State.modRecord_ringView (s : State) (i : Fin 16) (f : CallRecord → CallRecord) :
    (s.modRecord i f).ringView = s.ringView := rfl

theorem State.modAnswers_ringView (s : State) (i : Fin 32) (f : List AnswerEntry → List AnswerEntry) :
    (s.modAnswers i f).ringView = s.ringView := rfl

theorem State.modSlot_ringView (s : State) (i : Fin 8) (f : ReductionSlot → ReductionSlot) :
    (s.modSlot i f).ringView = s.ringView := rfl

theorem State.modRule_ringView (s : State) (i : Fin 32) (f : Rule → Rule) :
    (s.modRule i f).ringView = s.ringView := rfl

theorem State.modSignRec_ringView (s : State) (i : Fin 12) (f : Sign → Sign) :
    (s.modSignRec i f).ringView = s.ringView := rfl

theorem State.modOut_ringView (s : State) (i : Side) (f : OutPort → OutPort) :
    (s.modOut i f).ringView = s.ringView := rfl

theorem State.spend_ringView (s : State) (n : Nat) :
    (s.spend n).ringView = s.ringView := rfl

theorem State.reach_ringView (s : State) (n : Nat) :
    (s.reach n).ringView = s.ringView := rfl

/-- A loop whose steps leave it leaves it. -/
theorem State.forEach_ringView {α : Type} (f : α → State → State) (h : ∀ a t, (f a t).ringView = t.ringView) (l : List α) :
    ∀ s : State, (s.forEach l f).ringView = s.ringView := by
  induction l with
  | nil => intro s; rfl
  | cons a l ih => intro s; exact (ih (f a s)).trans (h a s)


theorem State.putSlot_ringView (s : State) (slot : Nat) (l : List Byte) :
    (s.putSlot slot l).ringView = s.ringView := by
  simp only [State.putSlot, State.modNv_ringView]

theorem State.putMark_ringView (s : State) (slot : Nat) (mark : Byte) :
    (s.putMark slot mark).ringView = s.ringView := by
  simp only [State.putMark, State.modNv_ringView]

theorem State.afterRead_ringView (s : State) (slot : Nat) (got : ReadBack) :
    (s.afterRead slot got).ringView = s.ringView := by
  unfold State.afterRead
  repeat' first | (with_reducible rfl) | simp only [State.putSlot_ringView] | split

theorem State.join_ringView (s : State) (q : LocalQueue) (b : Block) :
    (s.join q b).ringView = s.ringView := by
  unfold State.join
  repeat' first | (with_reducible rfl) | simp only [State.modRing_ringView] | split

theorem State.offerRing_ringView (s : State) (port : Side) (subtype : BitVec 4) (body : List Byte) :
    (s.offerRing port subtype body).ringView = s.ringView := by
  unfold State.offerRing
  repeat' first | (with_reducible rfl) | simp only [State.modRing_ringView] | split

theorem State.passNotice_ringView (s : State) :
    (s.passNotice).ringView = s.ringView := by
  unfold State.passNotice
  repeat' first | (with_reducible rfl) | simp only [State.modAgent_ringView, State.join_ringView] | split

theorem State.offerNotice_ringView (s : State) :
    (s.offerNotice).ringView = s.ringView := by
  unfold State.offerNotice
  repeat' first | (with_reducible rfl) | simp only [State.passNotice_ringView] | split

theorem State.notify_ringView (s : State) (body : NoticeBody) :
    (s.notify body).ringView = s.ringView := by
  unfold State.notify
  repeat' first | (with_reducible rfl) | simp only [State.modAgent_ringView, State.offerNotice_ringView] | split

theorem State.startStep_ringView (s : State) (op : StoreOp) :
    (s.startStep op).ringView = s.ringView := by
  simp only [State.startStep, State.modCtl_ringView]

theorem State.startOp_ringView (s : State) (op : StoreOp) :
    (s.startOp op).ringView = s.ringView := by
  simp only [State.startOp, State.modCtl_ringView, State.startStep_ringView]

theorem State.startCommit_ringView (s : State) :
    (s.startCommit).ringView = s.ringView := by
  unfold State.startCommit
  repeat' first | (with_reducible rfl) | simp only [State.modJrnl_ringView, State.startOp_ringView] | split

theorem State.startRead_ringView (s : State) (serial : Nat) (rest : List Nat) :
    (s.startRead serial rest).ringView = s.ringView := by
  unfold State.startRead
  repeat' first | (with_reducible rfl) | simp only [State.modJrnl_ringView, State.modCtl_ringView, State.startOp_ringView] | split

theorem State.startSave_ringView (s : State) (sv : Save) :
    (s.startSave sv).ringView = s.ringView := by
  unfold State.startSave
  repeat' first | (with_reducible rfl) | simp only [State.startOp_ringView] | split

theorem State.storeKick_ringView (s : State) :
    (s.storeKick).ringView = s.ringView := by
  unfold State.storeKick
  repeat' first | (with_reducible rfl) | simp only [State.startCommit_ringView, State.startOp_ringView, State.startSave_ringView, State.startRead_ringView] | split

theorem State.scanRead_ringView (s : State) (slot : Nat) :
    (s.scanRead slot).ringView = s.ringView := by
  simp only [State.scanRead, State.startStep_ringView]

theorem State.endOp_ringView (s : State) :
    (s.endOp).ringView = s.ringView := by
  unfold State.endOp
  repeat' first | (with_reducible rfl) | simp only [State.modCtl_ringView, State.scanRead_ringView] | split

theorem State.startVerify_ringView (s : State) (slot : Nat) (bytes : List Byte) (op : StoreOp) :
    (s.startVerify slot bytes op).ringView = s.ringView := by
  simp only [State.startVerify, State.startStep_ringView, State.putSlot_ringView]

theorem State.deliverVerdict_ringView (s : State) (t : Txn) (v : Verdict) :
    (s.deliverVerdict t v).ringView = s.ringView := by
  unfold State.deliverVerdict
  repeat' first | (with_reducible rfl) | simp only [State.modJrnl_ringView, State.modAnswers_ringView] | split

theorem State.emptyAnswers_ringView (s : State) (slot : Fin 32) :
    (s.emptyAnswers slot).ringView = s.ringView := by
  simp only [State.emptyAnswers, State.modJrnl_ringView, State.modAnswers_ringView]

theorem State.emptyReadAhead_ringView (s : State) :
    (s.emptyReadAhead).ringView = s.ringView := by
  simp only [State.emptyReadAhead, State.modJrnl_ringView, State.modCtl_ringView]

theorem State.requestRead_ringView (s : State) (serial : Nat) :
    (s.requestRead serial).ringView = s.ringView := by
  simp only [State.requestRead, State.modJrnl_ringView, State.modCtl_ringView, State.storeKick_ringView]

theorem State.requestReadsUpTo_ringView (s : State) (n : Nat) :
    (s.requestReadsUpTo n).ringView = s.ringView := by
  induction n generalizing s with
  | zero => rfl
  | succ n ih =>
    unfold State.requestReadsUpTo
    repeat' first | (with_reducible rfl) | simp only [State.requestRead_ringView, ih] | split

theorem State.requestReads_ringView (s : State) :
    (s.requestReads).ringView = s.ringView := by
  simp only [State.requestReads, State.requestReadsUpTo_ringView]

theorem State.offerTollsUpTo_ringView (s : State) (n : Nat) :
    (s.offerTollsUpTo n).ringView = s.ringView := by
  induction n generalizing s with
  | zero => rfl
  | succ n ih =>
    unfold State.offerTollsUpTo
    repeat' first | (with_reducible rfl) | simp only [State.modJrnl_ringView, State.requestReads_ringView, State.join_ringView, ih] | split

theorem State.offerTolls_ringView (s : State) :
    (s.offerTolls).ringView = s.ringView := by
  simp only [State.offerTolls, State.offerTollsUpTo_ringView]

theorem State.revert_ringView (s : State) :
    (s.revert).ringView = s.ringView := by
  simp only [State.revert, State.modJrnl_ringView, State.modCtl_ringView, State.requestReads_ringView]

theorem State.retime_ringView (s : State) :
    (s.retime).ringView = s.ringView := by
  unfold State.retime
  repeat' first | (with_reducible rfl) | simp only [State.revert_ringView] | split

theorem State.testFull_ringView (s : State) :
    (s.testFull).ringView = s.ringView := by
  unfold State.testFull
  repeat' first | (with_reducible rfl) | simp only [State.modJrnl_ringView, State.notify_ringView] | split

theorem State.testHighMark_ringView (s : State) :
    (s.testHighMark).ringView = s.ringView := by
  unfold State.testHighMark
  repeat' first | (with_reducible rfl) | simp only [State.modJrnl_ringView, State.notify_ringView] | split

theorem State.journalHoldup_ringView (s : State) :
    (s.journalHoldup).ringView = s.ringView := by
  unfold State.journalHoldup
  repeat' first | (with_reducible rfl) | simp only [State.modJrnl_ringView] | split

theorem State.journalHoldupEnds_ringView (s : State) :
    (s.journalHoldupEnds).ringView = s.ringView := by
  unfold State.journalHoldupEnds
  repeat' first | (with_reducible rfl) | simp only [State.modJrnl_ringView, State.storeKick_ringView] | split

theorem State.journalFault_ringView (s : State) (cause : StoreCause) :
    (s.journalFault cause).ringView = s.ringView := by
  unfold State.journalFault
  repeat' first | (with_reducible rfl) | simp only [State.modJrnl_ringView, State.notify_ringView, State.emptyReadAhead_ringView, State.deliverVerdict_ringView, State.forEach_ringView, implies_true] | split

theorem State.giveVerdict_ringView (s : State) (slot : Fin 32) (number : BitVec 16) (v : Verdict) :
    (s.giveVerdict slot number v).ringView = s.ringView := by
  unfold State.giveVerdict
  repeat' first | (with_reducible rfl) | simp only [State.modJrnl_ringView, State.modAnswers_ringView] | split

theorem State.judgeTxn_ringView (s : State) (slot : Fin 32) (drop : Fin 4) (address : BitVec 5) (number : BitVec 16) (body : List Byte) :
    (s.judgeTxn slot drop address number body).ringView = s.ringView := by
  unfold State.judgeTxn
  repeat' first | (with_reducible rfl) | simp only [State.modJrnl_ringView, State.modAnswers_ringView, State.giveVerdict_ringView, State.storeKick_ringView] | split

theorem State.takeTxn_ringView (s : State) (slot : Fin 32) (drop : Fin 4) (address : BitVec 5) (number : BitVec 16) (body : List Byte) :
    (s.takeTxn slot drop address number body).ringView = s.ringView := by
  unfold State.takeTxn
  repeat' first | (with_reducible rfl) | simp only [State.modJrnl_ringView, State.modAnswers_ringView, State.judgeTxn_ringView] | split

theorem State.carryAnswers_ringView (s : State) (slot : Fin 32) :
    (s.carryAnswers slot).ringView = s.ringView := by
  simp only [State.carryAnswers, State.modAnswers_ringView]

theorem State.answersOutcome_ringView (s : State) (slot : Fin 32) (good : Bool) :
    (s.answersOutcome slot good).ringView = s.ringView := by
  unfold State.answersOutcome
  repeat' first | (with_reducible rfl) | simp only [State.modJrnl_ringView, State.modAnswers_ringView] | split

theorem State.commitSucceeds_ringView (s : State) (h : InHand) :
    (s.commitSucceeds h).ringView = s.ringView := by
  simp only [State.commitSucceeds, State.modJrnl_ringView, State.requestReads_ringView, State.testHighMark_ringView, State.deliverVerdict_ringView, State.testFull_ringView]

theorem State.commitMismatches_ringView (s : State) (h : InHand) :
    (s.commitMismatches h).ringView = s.ringView := by
  unfold State.commitMismatches
  repeat' first | (with_reducible rfl) | simp only [State.modJrnl_ringView, State.journalFault_ringView, State.testFull_ringView] | split

theorem State.readDone_ringView (s : State) (serial slot : Nat) (l : List Byte) :
    (s.readDone serial slot l).ringView = s.ringView := by
  unfold State.readDone
  repeat' first | (with_reducible rfl) | simp only [State.modJrnl_ringView, State.modCtl_ringView, State.storeKick_ringView, State.offerTolls_ringView] | split

theorem State.releaseOldest_ringView (s : State) :
    (s.releaseOldest).ringView = s.ringView := by
  unfold State.releaseOldest
  repeat' first | (with_reducible rfl) | simp only [State.modJrnl_ringView, State.modCtl_ringView, State.storeKick_ringView] | split

theorem State.release_ringView (s : State) (n : Nat) :
    (s.release n).ringView = s.ringView := by
  induction n generalizing s with
  | zero => rfl
  | succ n ih =>
    unfold State.release
    repeat' first | (with_reducible rfl) | simp only [State.releaseOldest_ringView, ih] | split

theorem State.testReopened_ringView (s : State) :
    (s.testReopened).ringView = s.ringView := by
  unfold State.testReopened
  repeat' first | (with_reducible rfl) | simp only [State.modJrnl_ringView, State.storeKick_ringView] | split

theorem State.ack_ringView (s : State) (k : Nat) :
    (s.ack k).ringView = s.ringView := by
  unfold State.ack
  repeat' first | (with_reducible rfl) | simp only [State.modJrnl_ringView, State.release_ringView, State.testReopened_ringView, State.requestReads_ringView, State.offerTolls_ringView, State.retime_ringView] | split

theorem State.pull_ringView (s : State) (c : Nat) :
    (s.pull c).ringView = s.ringView := by
  simp only [State.pull, State.modJrnl_ringView, State.requestReads_ringView]

theorem State.drainEnd_ringView (s : State) :
    (s.drainEnd).ringView = s.ringView := by
  simp only [State.drainEnd, State.modJrnl_ringView, State.emptyReadAhead_ringView]

theorem State.controlDiscarded_ringView (s : State) :
    (s.controlDiscarded).ringView = s.ringView := by
  simp only [State.controlDiscarded, State.modJrnl_ringView]

theorem State.takeTollControl_ringView (s : State) (b : Block) :
    (s.takeTollControl b).ringView = s.ringView := by
  unfold State.takeTollControl
  repeat' first | (with_reducible rfl) | simp only [State.ack_ringView, State.drainEnd_ringView, State.controlDiscarded_ringView, State.pull_ringView] | split

theorem State.journalIsolated_ringView (s : State) (handed : List Nat) :
    (s.journalIsolated handed).ringView = s.ringView := by
  simp only [State.journalIsolated, State.modJrnl_ringView, State.retime_ringView, State.emptyReadAhead_ringView]

theorem State.restartJournal_ringView (s : State) :
    (s.restartJournal).ringView = s.ringView := by
  simp only [State.restartJournal, State.modJrnl_ringView, State.emptyReadAhead_ringView]

theorem State.countVoice_ringView (s : State) (r : Fin 16) (f : VoiceCounters → VoiceCounters) :
    (s.countVoice r f).ringView = s.ringView := by
  simp only [State.countVoice, State.modCalls_ringView, State.modRecord_ringView]

theorem State.modVoice_ringView (s : State) (r : Fin 16) (f : VoiceFields → VoiceFields) :
    (s.modVoice r f).ringView = s.ringView := by
  simp only [State.modVoice, State.modRecord_ringView]

theorem State.captureBlock_ringView (s : State) (r : Fin 16) (samples : List Byte) :
    (s.captureBlock r samples).ringView = s.ringView := by
  unfold State.captureBlock
  repeat' first | (with_reducible rfl) | simp only [State.countVoice_ringView, State.join_ringView] | split

theorem State.voiceOutcome_ringView (s : State) (slot : Fin 32) (o : VoiceOutcome) :
    (s.voiceOutcome slot o).ringView = s.ringView := by
  unfold State.voiceOutcome
  repeat' first | (with_reducible rfl) | simp only [State.modCalls_ringView, State.countVoice_ringView, State.captureBlock_ringView, State.modVoice_ringView] | split

theorem State.playStep_ringView (s : State) (r : Fin 16) :
    (s.playStep r).2.ringView = s.ringView := by
  unfold State.playStep
  repeat' first | (with_reducible rfl) | simp only [State.countVoice_ringView, State.modVoice_ringView] | split

theorem State.insertVoice_ringView (s : State) (r : Fin 16) (next : Byte) (f : VoiceFrame) :
    (s.insertVoice r next f).ringView = s.ringView := by
  simp only [State.insertVoice, State.countVoice_ringView, State.modVoice_ringView]

theorem State.resyncVoice_ringView (s : State) (r : Fin 16) (f : VoiceFrame) :
    (s.resyncVoice r f).ringView = s.ringView := by
  unfold State.resyncVoice
  repeat' first | (with_reducible rfl) | simp only [State.countVoice_ringView, State.modVoice_ringView] | split

theorem State.placeVoice_ringView (s : State) (r : Fin 16) (f : VoiceFrame) :
    (s.placeVoice r f).ringView = s.ringView := by
  unfold State.placeVoice
  repeat' first | (with_reducible rfl) | simp only [State.countVoice_ringView, State.resyncVoice_ringView, State.insertVoice_ringView] | split

theorem State.takeVoice_ringView (s : State) (r : Fin 16) (b : Block) :
    (s.takeVoice r b).ringView = s.ringView := by
  unfold State.takeVoice
  repeat' first | (with_reducible rfl) | simp only [State.countVoice_ringView, State.placeVoice_ringView] | split

theorem State.countSlot_ringView (s : State) (k : Fin 8) (f : SlotCounters → SlotCounters) :
    (s.countSlot k f).ringView = s.ringView := by
  simp only [State.countSlot, State.modSlot_ringView]

theorem State.forwardReading_ringView (s : State) (k : Fin 8) (drop : Fin 4) (address : BitVec 5) (x : Reading) (speed : Option Nat) :
    (s.forwardReading k drop address x speed).ringView = s.ringView := by
  unfold State.forwardReading
  repeat' first | (with_reducible rfl) | simp only [State.countSlot_ringView, State.join_ringView] | split

theorem State.weatherOffline_ringView (s : State) (k : Fin 8) :
    (s.weatherOffline k).ringView = s.ringView := by
  unfold State.weatherOffline
  repeat' first | (with_reducible rfl) | simp only [State.modSlot_ringView, State.notify_ringView] | split

theorem State.countSign_ringView (s : State) (k : Fin 12) (f : SignCounters → SignCounters) :
    (s.countSign k f).ringView = s.ringView := by
  simp only [State.countSign, State.modSignRec_ringView]

theorem State.arbitrate_ringView (s : State) (k : Fin 12) :
    (s.arbitrate k).ringView = s.ringView := by
  simp only [State.arbitrate, State.modSignRec_ringView]

theorem State.arbitrateSet_ringView (s : State) (m : BitVec 12) :
    (s.arbitrateSet m).ringView = s.ringView := by
  simp only [State.arbitrateSet, State.arbitrate_ringView, State.forEach_ringView, implies_true]

theorem State.noticeRule_ringView (s : State) (i : Fin 32) :
    (s.noticeRule i).ringView = s.ringView := by
  simp only [State.noticeRule, State.notify_ringView]

theorem State.settle_ringView (s : State) (also : BitVec 12) (but : Option (Fin 32)) :
    (s.settle also but).ringView = s.ringView := by
  unfold State.settle
  repeat' first | (with_reducible rfl) | simp only [State.modRules_ringView, State.noticeRule_ringView, State.arbitrateSet_ringView, State.forEach_ringView, implies_true] | split

theorem State.evaluate_ringView (s : State) (k : Fin 8) :
    (s.evaluate k).ringView = s.ringView := by
  unfold State.evaluate
  repeat' first | (with_reducible rfl) | simp only [State.modRules_ringView, State.settle_ringView] | split

theorem State.writeRule_ringView (s : State) (i : Fin 32) (x : RuleRecord) :
    (s.writeRule i x).ringView = s.ringView := by
  simp only [State.writeRule, State.modRule_ringView, State.settle_ringView]

theorem State.settleAll_ringView (s : State) :
    (s.settleAll).ringView = s.ringView := by
  simp only [State.settleAll, State.modRules_ringView, State.arbitrateSet_ringView]

theorem State.restartSigns_ringView (s : State) :
    (s.restartSigns).ringView = s.ringView := by
  simp only [State.restartSigns, State.modRules_ringView, State.settleAll_ringView]

theorem State.modPage_ringView (s : State) (k : Fin 12) (p : Fin 8) (f : Page → Page) :
    (s.modPage k p f).ringView = s.ringView := by
  simp only [State.modPage, State.modSignRec_ringView]

theorem State.pageOpen_ringView (s : State) (k : Fin 12) (p : Fin 8) (code : Byte) :
    (s.pageOpen k p code).2.ringView = s.ringView := by
  unfold State.pageOpen
  repeat' first | (with_reducible rfl) | simp only [State.modSign_ringView, State.modPage_ringView] | split

theorem State.pageData_ringView (s : State) (k : Fin 12) (p : Fin 8) (offset : Nat) (data : List Byte) :
    (s.pageData k p offset data).2.ringView = s.ringView := by
  unfold State.pageData
  repeat' first | (with_reducible rfl) | simp only [State.modSign_ringView, State.modPage_ringView, State.arbitrate_ringView] | split

theorem State.pageDiscard_ringView (s : State) (k : Fin 12) (p : Fin 8) :
    (s.pageDiscard k p).2.ringView = s.ringView := by
  unfold State.pageDiscard
  repeat' first | (with_reducible rfl) | simp only [State.modPage_ringView, State.arbitrate_ringView] | split

theorem State.signSet_ringView (s : State) (k : Fin 12) (p : Fin 8) (priority minutes : Nat) :
    (s.signSet k p priority minutes).2.ringView = s.ringView := by
  unfold State.signSet
  repeat' first | (with_reducible rfl) | simp only [State.modSignRec_ringView, State.arbitrate_ringView] | split

theorem State.dropRequest_ringView (s : State) (k : Fin 12) :
    (s.dropRequest k).ringView = s.ringView := by
  simp only [State.dropRequest, State.modSignRec_ringView, State.arbitrate_ringView]

theorem State.signCancel_ringView (s : State) (k : Fin 12) :
    (s.signCancel k).2.ringView = s.ringView := by
  unfold State.signCancel
  repeat' first | (with_reducible rfl) | simp only [State.dropRequest_ringView] | split

theorem State.signPayload_ringView (s : State) (k : Fin 12) :
    (s.signPayload k).2.ringView = s.ringView := by
  unfold State.signPayload
  repeat' first | (with_reducible rfl) | simp only [State.modSignRec_ringView] | split

theorem State.signOutcome_ringView (s : State) (k : Fin 12) (o : SignOutcome) :
    (s.signOutcome k o).ringView = s.ringView := by
  simp only [State.signOutcome, State.modSignRec_ringView]

theorem State.relinkSign_ringView (s : State) (k : Fin 12) (station : Option (Fin 32)) :
    (s.relinkSign k station).ringView = s.ringView := by
  simp only [State.relinkSign, State.modSignRec_ringView]

theorem State.writeSign_ringView (s : State) (k : Fin 12) (m : IntensityMode) :
    (s.writeSign k m).ringView = s.ringView := by
  simp only [State.writeSign, State.modSignRec_ringView, State.arbitrate_ringView]

theorem State.stationPayload_ringView (s : State) (slot : Fin 32) :
    (s.stationPayload slot).2.ringView = s.ringView := by
  unfold State.stationPayload
  repeat' first | (with_reducible rfl) | simp only [State.signPayload_ringView, State.carryAnswers_ringView] | split

theorem State.voicePayload_ringView (s : State) (slot : Fin 32) :
    (s.voicePayload slot).2.ringView = s.ringView := by
  unfold State.voicePayload
  repeat' first | (with_reducible rfl) | simp only [State.playStep_ringView] | split

theorem State.beginExchange_ringView (s : State) (d : Fin 4) (x : Exchange) (count : DropCounters → DropCounters) :
    (s.beginExchange d x count).ringView = s.ringView := by
  simp only [State.beginExchange, State.modDrop_ringView]

theorem State.beginBroadcast_ringView (s : State) (d : Fin 4) :
    (s.beginBroadcast d).ringView = s.ringView := by
  simp only [State.beginBroadcast, State.modDrop_ringView, State.beginExchange_ringView]

theorem State.beginVoice_ringView (s : State) (d : Fin 4) (slot : Fin 32) :
    (s.beginVoice d slot).ringView = s.ringView := by
  unfold State.beginVoice
  repeat' first | (with_reducible rfl) | simp only [State.beginExchange_ringView, State.voicePayload_ringView] | split

theorem State.beginPoll_ringView (s : State) (d : Fin 4) (slot : Fin 32) :
    (s.beginPoll d slot).ringView = s.ringView := by
  unfold State.beginPoll
  repeat' first | (with_reducible rfl) | simp only [State.beginExchange_ringView, State.stationPayload_ringView] | split

theorem State.chooseFrom_ringView (s : State) (d : Fin 4) (voices polls : List (Fin 32 × Nat)) :
    (s.chooseFrom d voices polls).ringView = s.ringView := by
  unfold State.chooseFrom
  repeat' first | (with_reducible rfl) | simp only [State.beginBroadcast_ringView, State.beginVoice_ringView, State.beginPoll_ringView] | split

theorem State.dropChoose_ringView (s : State) (d : Fin 4) :
    (s.dropChoose d).ringView = s.ringView := by
  simp only [State.dropChoose, State.chooseFrom_ringView]

theorem State.endChoose_ringView (s : State) (d : Fin 4) :
    (s.endChoose d).ringView = s.ringView := by
  simp only [State.endChoose, State.chooseFrom_ringView]

theorem State.dueComes_ringView (s : State) (slot : Fin 32) (due : Option Nat) :
    (s.dueComes slot due).ringView = s.ringView := by
  simp only [State.dueComes, State.modStation_ringView]

theorem State.dropsChoose_ringView (s : State) :
    (s.dropsChoose).ringView = s.ringView := by
  simp only [State.dropsChoose, State.dropChoose_ringView, State.forEach_ringView, implies_true]

theorem State.seatTaken_ringView (s : State) (slot : Fin 32) :
    (s.seatTaken slot).ringView = s.ringView := by
  simp only [State.seatTaken, State.modStation_ringView, State.dropChoose_ringView]

theorem State.seatReleased_ringView (s : State) (slot : Fin 32) :
    (s.seatReleased slot).ringView = s.ringView := by
  simp only [State.seatReleased, State.modStation_ringView]

theorem State.countCalls_ringView (s : State) (f : CallCounters → CallCounters) :
    (s.countCalls f).ringView = s.ringView := by
  simp only [State.countCalls, State.modCalls_ringView]

theorem State.sendCall_ringView (s : State) (subtype : BitVec 4) (seq : Byte) (body : List Byte) :
    (s.sendCall subtype seq body).ringView = s.ringView := by
  unfold State.sendCall
  repeat' first | (with_reducible rfl) | simp only [State.countCalls_ringView, State.join_ringView] | split

theorem State.sendRequest_ringView (s : State) (r : Fin 16) :
    (s.sendRequest r).ringView = s.ringView := by
  simp only [State.sendRequest, State.sendCall_ringView]

theorem State.sendResume_ringView (s : State) (r : Fin 16) :
    (s.sendResume r).ringView = s.ringView := by
  simp only [State.sendResume, State.sendCall_ringView]

theorem State.sendClear_ringView (s : State) (r : Fin 16) (reason : ClearReason) :
    (s.sendClear r reason).ringView = s.ringView := by
  simp only [State.sendClear, State.sendCall_ringView]

theorem State.enterCalling_ringView (s : State) (r : Fin 16) (lane : Fin 64) :
    (s.enterCalling r lane).ringView = s.ringView := by
  unfold State.enterCalling
  repeat' first | (with_reducible rfl) | simp only [State.modCalls_ringView, State.modLane_ringView, State.modRecord_ringView, State.countCalls_ringView, State.sendRequest_ringView] | split

theorem State.tryCalling_ringView (s : State) (r : Fin 16) :
    (s.tryCalling r).ringView = s.ringView := by
  unfold State.tryCalling
  repeat' first | (with_reducible rfl) | simp only [State.enterCalling_ringView] | split

theorem State.testSeized_ringView (s : State) :
    (s.testSeized).ringView = s.ringView := by
  simp only [State.testSeized, State.tryCalling_ringView, State.forEach_ringView, implies_true]

theorem State.seize_ringView (s : State) (r : Fin 16) (slot : Fin 32) :
    (s.seize r slot).ringView = s.ringView := by
  simp only [State.seize, State.modRecord_ringView, State.seatTaken_ringView]

theorem State.leaveWaitList_ringView (s : State) (slot : Fin 32) :
    (s.leaveWaitList slot).ringView = s.ringView := by
  unfold State.leaveWaitList
  repeat' first | (with_reducible rfl) | simp only [State.modCalls_ringView, State.notify_ringView] | split

theorem State.refillOne_ringView (s : State) (slot : Fin 32) :
    (s.refillOne slot).ringView = s.ringView := by
  unfold State.refillOne
  repeat' first | (with_reducible rfl) | simp only [State.leaveWaitList_ringView, State.seize_ringView] | split

theorem State.refillWalk_ringView (s : State) :
    (s.refillWalk).ringView = s.ringView := by
  simp only [State.refillWalk, State.refillOne_ringView, State.forEach_ringView, implies_true]

theorem State.refill_ringView (s : State) :
    (s.refill).ringView = s.ringView := by
  unfold State.refill
  repeat' first | (with_reducible rfl) | simp only [State.refillWalk_ringView, State.testSeized_ringView] | split

theorem State.offHook_ringView (s : State) (slot : Fin 32) :
    (s.offHook slot).ringView = s.ringView := by
  unfold State.offHook
  repeat' first | (with_reducible rfl) | simp only [State.modCalls_ringView, State.countCalls_ringView, State.seize_ringView, State.notify_ringView, State.testSeized_ringView] | split

theorem State.releaseSeat_ringView (s : State) (r : Fin 16) :
    (s.releaseSeat r).ringView = s.ringView := by
  unfold State.releaseSeat
  repeat' first | (with_reducible rfl) | simp only [State.seatReleased_ringView] | split

theorem State.unbind_ringView (s : State) (r : Fin 16) :
    (s.unbind r).ringView = s.ringView := by
  unfold State.unbind
  repeat' first | (with_reducible rfl) | simp only [State.modLane_ringView] | split

theorem State.clearRecord_ringView (s : State) (r : Fin 16) :
    (s.clearRecord r).ringView = s.ringView := by
  simp only [State.clearRecord, State.modRecord_ringView, State.unbind_ringView, State.releaseSeat_ringView]

theorem State.freeCall_ringView (s : State) (r : Fin 16) :
    (s.freeCall r).ringView = s.ringView := by
  simp only [State.freeCall, State.refill_ringView, State.clearRecord_ringView, State.testSeized_ringView]

theorem State.clearLocal_ringView (s : State) (r : Fin 16) (reason : ClearReason) :
    (s.clearLocal r reason).ringView = s.ringView := by
  simp only [State.clearLocal, State.modRecord_ringView, State.countCalls_ringView, State.releaseSeat_ringView, State.refill_ringView, State.sendClear_ringView]

theorem State.clearCentre_ringView (s : State) (r : Fin 16) (seq : Byte) :
    (s.clearCentre r seq).ringView = s.ringView := by
  simp only [State.clearCentre, State.modRecord_ringView, State.countCalls_ringView, State.releaseSeat_ringView, State.sendCall_ringView, State.refill_ringView]

theorem State.endCall_ringView (s : State) (r : Fin 16) (reason : ClearReason) :
    (s.endCall r reason).ringView = s.ringView := by
  unfold State.endCall
  repeat' first | (with_reducible rfl) | simp only [State.freeCall_ringView, State.clearLocal_ringView] | split

theorem State.phoneGone_ringView (s : State) (slot : Fin 32) (reason : ClearReason) :
    (s.phoneGone slot reason).ringView = s.ringView := by
  unfold State.phoneGone
  repeat' first | (with_reducible rfl) | simp only [State.leaveWaitList_ringView, State.endCall_ringView] | split

theorem State.takeHook_ringView (s : State) (slot : Fin 32) (offHook : Bool) :
    (s.takeHook slot offHook).ringView = s.ringView := by
  unfold State.takeHook
  repeat' first | (with_reducible rfl) | simp only [State.offHook_ringView, State.phoneGone_ringView] | split

theorem State.unknownCall_ringView (s : State) :
    (s.unknownCall).ringView = s.ringView := by
  simp only [State.unknownCall, State.countCalls_ringView]

theorem State.lateSignal_ringView (s : State) :
    (s.lateSignal).ringView = s.ringView := by
  simp only [State.lateSignal, State.countCalls_ringView]

theorem State.connectCall_ringView (s : State) (r : Fin 16) :
    (s.connectCall r).ringView = s.ringView := by
  simp only [State.connectCall, State.modRecord_ringView, State.countCalls_ringView, answered]

theorem State.queueCall_ringView (s : State) (r : Fin 16) :
    (s.queueCall r).ringView = s.ringView := by
  simp only [State.queueCall, State.modRecord_ringView]

theorem State.takeHeld_ringView (s : State) (r : Fin 16) :
    (s.takeHeld r).ringView = s.ringView := by
  unfold State.takeHeld
  repeat' first | (with_reducible rfl) | simp only [State.queueCall_ringView, State.lateSignal_ringView] | split

theorem State.takeAnswer_ringView (s : State) (r : Fin 16) :
    (s.takeAnswer r).ringView = s.ringView := by
  unfold State.takeAnswer
  repeat' first | (with_reducible rfl) | simp only [State.connectCall_ringView, State.lateSignal_ringView] | split

theorem State.takeClear_ringView (s : State) (r : Fin 16) (seq : Byte) :
    (s.takeClear r seq).ringView = s.ringView := by
  unfold State.takeClear
  repeat' first | (with_reducible rfl) | simp only [State.freeCall_ringView, State.clearCentre_ringView, State.sendCall_ringView] | split

theorem State.takeCleared_ringView (s : State) (r : Fin 16) :
    (s.takeCleared r).ringView = s.ringView := by
  unfold State.takeCleared
  repeat' first | (with_reducible rfl) | simp only [State.freeCall_ringView, State.lateSignal_ringView] | split

theorem State.takeCallBlock_ringView (s : State) (b : Block) :
    (s.takeCallBlock b).ringView = s.ringView := by
  unfold State.takeCallBlock
  repeat' first | (with_reducible rfl) | simp only [State.takeHeld_ringView, State.takeCleared_ringView, State.sendCall_ringView, State.takeClear_ringView, State.unknownCall_ringView, State.takeAnswer_ringView] | split

theorem State.callingExpires_ringView (s : State) (r : Fin 16) :
    (s.callingExpires r).ringView = s.ringView := by
  unfold State.callingExpires
  repeat' first | (with_reducible rfl) | simp only [State.modRecord_ringView, State.sendRequest_ringView] | split

theorem State.clearingExpires_ringView (s : State) (r : Fin 16) :
    (s.clearingExpires r).ringView = s.ringView := by
  unfold State.clearingExpires
  repeat' first | (with_reducible rfl) | simp only [State.modRecord_ringView, State.freeCall_ringView, State.sendClear_ringView] | split

theorem State.isolatedSignals_ringView (s : State) (r : Fin 16) :
    (s.isolatedSignals r).ringView = s.ringView := by
  unfold State.isolatedSignals
  repeat' first | (with_reducible rfl) | simp only [State.modRecord_ringView, State.sendResume_ringView, State.sendRequest_ringView] | split

theorem State.callsIsolated_ringView (s : State) :
    (s.callsIsolated).ringView = s.ringView := by
  simp only [State.callsIsolated, State.modRecord_ringView, State.countCalls_ringView, State.forEach_ringView, implies_true]

theorem State.callsHealed_ringView (s : State) :
    (s.callsHealed).ringView = s.ringView := by
  simp only [State.callsHealed, State.isolatedSignals_ringView, State.testSeized_ringView, State.forEach_ringView, implies_true]

theorem State.forceClear_ringView (s : State) (r : Fin 16) :
    (s.forceClear r).ringView = s.ringView := by
  unfold State.forceClear
  repeat' first | (with_reducible rfl) | simp only [State.modRecord_ringView, State.countCalls_ringView, State.sendClear_ringView] | split

theorem State.restartCalls_ringView (s : State) :
    (s.restartCalls).ringView = s.ringView := by
  unfold State.restartCalls
  repeat' first | (with_reducible rfl) | simp only [State.modCalls_ringView, State.forceClear_ringView, State.notify_ringView, State.clearRecord_ringView, State.forEach_ringView, implies_true] | split

theorem State.countDrop_ringView (s : State) (d : Fin 4) (f : DropCounters → DropCounters) :
    (s.countDrop d f).ringView = s.ringView := by
  simp only [State.countDrop, State.modDrop_ringView]

theorem State.noticeStation_ringView (s : State) (x : Snapshot) (before : StationState) :
    (s.noticeStation x before).ringView = s.ringView := by
  unfold State.noticeStation
  repeat' first | (with_reducible rfl) | simp only [State.notify_ringView] | split

theorem State.reportOffline_ringView (s : State) (x : Snapshot) (before : StationState) :
    (s.reportOffline x before).ringView = s.ringView := by
  unfold State.reportOffline
  repeat' first | (with_reducible rfl) | simp only [State.phoneGone_ringView, State.weatherOffline_ringView] | split

theorem State.takeReading_ringView (s : State) (x : Snapshot) (k : Fin 8) (rd : Reading) :
    (s.takeReading x k rd).ringView = s.ringView := by
  unfold State.takeReading
  repeat' first | (with_reducible rfl) | simp only [State.modSlot_ringView, State.forwardReading_ringView, State.countSlot_ringView, State.evaluate_ringView] | split

theorem State.handOver_ringView (s : State) (x : Snapshot) (n : Reply) :
    (s.handOver x n).ringView = s.ringView := by
  unfold State.handOver
  repeat' first | (with_reducible rfl) | simp only [State.takeTxn_ringView, State.takeHook_ringView, State.takeReading_ringView] | split

theorem State.dispatch_ringView (s : State) (x : Snapshot) (voice : Bool) (r : Reply) :
    (s.dispatch x voice r).ringView = s.ringView := by
  unfold State.dispatch
  repeat' first | (with_reducible rfl) | simp only [State.countDrop_ringView, State.handOver_ringView] | split

theorem State.reportOutcome_ringView (s : State) (x : Snapshot) (o : ExchangeEnd) :
    (s.reportOutcome x o).ringView = s.ringView := by
  unfold State.reportOutcome
  repeat' first | (with_reducible rfl) | simp only [State.signOutcome_ringView, State.answersOutcome_ringView] | split

theorem State.reportVoice_ringView (s : State) (x : Snapshot) (voice : Bool) (o : ExchangeEnd) :
    (s.reportVoice x voice o).ringView = s.ringView := by
  unfold State.reportVoice
  repeat' first | (with_reducible rfl) | simp only [State.voiceOutcome_ringView] | split

theorem State.applyEnd_ringView (s : State) (x : Snapshot) (voice : Bool) (begun : Nat) (o : ExchangeEnd) :
    (s.applyEnd x voice begun o).ringView = s.ringView := by
  unfold State.applyEnd
  repeat' first | (with_reducible rfl) | simp only [State.modStation_ringView, State.noticeStation_ringView, State.reportOutcome_ringView, State.dispatch_ringView, State.reportVoice_ringView, State.reportOffline_ringView, State.countDrop_ringView] | split

theorem State.settleEnd_ringView (s : State) (x : Snapshot) (voice : Bool) (begun : Nat) (o : ExchangeEnd) :
    (s.settleEnd x voice begun o).ringView = s.ringView := by
  unfold State.settleEnd
  repeat' first | (with_reducible rfl) | simp only [State.countDrop_ringView, State.applyEnd_ringView] | split

theorem State.lineIdle_ringView (s : State) (d : Fin 4) :
    (s.lineIdle d).ringView = s.ringView := by
  simp only [State.lineIdle, State.modDrop_ringView]

theorem State.completeWith_ringView (s : State) (d : Fin 4) (o : ExchangeEnd) :
    (s.completeWith d o).ringView = s.ringView := by
  unfold State.completeWith
  repeat' first | (with_reducible rfl) | simp only [State.endChoose_ringView, State.settleEnd_ringView, State.lineIdle_ringView] | split

theorem State.countBad_ringView (s : State) (d : Fin 4) (o : ExchangeEnd) :
    (s.countBad d o).ringView = s.ringView := by
  unfold State.countBad
  repeat' first | (with_reducible rfl) | simp only [State.countDrop_ringView] | split

theorem State.frameEnds_ringView (s : State) (d : Fin 4) (o : ExchangeEnd) :
    (s.frameEnds d o).ringView = s.ringView := by
  unfold State.frameEnds
  repeat' first | (with_reducible rfl) | simp only [State.completeWith_ringView, State.countBad_ringView] | split

theorem State.countUnsolicited_ringView (s : State) (d : Fin 4) :
    (s.countUnsolicited d).ringView = s.ringView := by
  simp only [State.countUnsolicited, State.countDrop_ringView]

theorem State.frameArrives_ringView (s : State) (d : Fin 4) (o : ExchangeEnd) :
    (s.frameArrives d o).ringView = s.ringView := by
  unfold State.frameArrives
  repeat' first | (with_reducible rfl) | simp only [State.frameEnds_ringView, State.countUnsolicited_ringView] | split

theorem State.frameSent_ringView (s : State) (d : Fin 4) :
    (s.frameSent d).ringView = s.ringView := by
  unfold State.frameSent
  repeat' first | (with_reducible rfl) | simp only [State.modDrop_ringView, State.endChoose_ringView, State.lineIdle_ringView] | split

theorem State.supplyToJournal_ringView (s : State) (old new : SupplyState) :
    (s.supplyToJournal old new).ringView = s.ringView := by
  unfold State.supplyToJournal
  repeat' first | (with_reducible rfl) | simp only [State.journalHoldup_ringView, State.journalHoldupEnds_ringView] | split

theorem State.setBroadcasts_ringView (s : State) :
    (s.setBroadcasts).ringView = s.ringView := by
  simp only [State.setBroadcasts, State.modPoll_ringView]

theorem State.changeSupply_ringView (s : State) (new : SupplyState) (cause : SupplyCause) :
    (s.changeSupply new cause).ringView = s.ringView := by
  unfold State.changeSupply
  repeat' first | (with_reducible rfl) | simp only [State.modSup_ringView, State.dropsChoose_ringView, State.supplyToJournal_ringView, State.notify_ringView, State.setBroadcasts_ringView] | split

theorem State.judgeAverage_ringView (s : State) (avg : Nat) :
    (s.judgeAverage avg).ringView = s.ringView := by
  unfold State.judgeAverage
  repeat' first | (with_reducible rfl) | simp only [State.modSup_ringView, State.changeSupply_ringView] | split

theorem State.sampleFeed_ringView (s : State) (level : Nat) :
    (s.sampleFeed level).ringView = s.ringView := by
  unfold State.sampleFeed
  repeat' first | (with_reducible rfl) | simp only [State.modSup_ringView, State.judgeAverage_ringView] | split

theorem State.settleExpires_ringView (s : State) :
    (s.settleExpires).ringView = s.ringView := by
  unfold State.settleExpires
  repeat' first | (with_reducible rfl) | simp only [State.changeSupply_ringView] | split

theorem State.assertFeedLost_ringView (s : State) :
    (s.assertFeedLost).ringView = s.ringView := by
  unfold State.assertFeedLost
  repeat' first | (with_reducible rfl) | simp only [State.modSup_ringView, State.changeSupply_ringView] | split

theorem State.negateFeedLost_ringView (s : State) :
    (s.negateFeedLost).ringView = s.ringView := by
  unfold State.negateFeedLost
  repeat' first | (with_reducible rfl) | simp only [State.modSup_ringView] | split

theorem State.clearRing_ringView (s : State) :
    (s.clearRing).ringView = s.ringView := by
  rfl

theorem State.clearDrop_ringView (s : State) :
    (s.clearDrop).ringView = s.ringView := by
  simp only [State.clearDrop, State.modPoll_ringView]

theorem State.clearCalls_ringView (s : State) :
    (s.clearCalls).ringView = s.ringView := by
  simp only [State.clearCalls, State.modCalls_ringView]

theorem State.clearJournal_ringView (s : State) :
    (s.clearJournal).ringView = s.ringView := by
  simp only [State.clearJournal, State.modJrnl_ringView, State.modCtl_ringView]

theorem State.clearSupply_ringView (s : State) :
    (s.clearSupply).ringView = s.ringView := by
  simp only [State.clearSupply, State.modSup_ringView]

theorem State.clearLanes_ringView (s : State) :
    (s.clearLanes).ringView = s.ringView := by
  simp only [State.clearLanes, State.modLanes_ringView]

theorem State.clearSigns_ringView (s : State) :
    (s.clearSigns).ringView = s.ringView := by
  simp only [State.clearSigns, State.modRules_ringView, State.modSign_ringView]

theorem State.clearSlots_ringView (s : State) :
    (s.clearSlots).ringView = s.ringView := by
  simp only [State.clearSlots, State.modSlots_ringView, State.modAgent_ringView]

theorem State.clearGroup_ringView (s : State) (n : Group) :
    (s.clearGroup n).ringView = s.ringView := by
  unfold State.clearGroup
  split <;> first | rfl | simp only [State.clearRing_ringView, State.clearDrop_ringView, State.clearCalls_ringView, State.clearJournal_ringView, State.clearSupply_ringView, State.clearLanes_ringView, State.clearSigns_ringView, State.clearSlots_ringView]

theorem State.writeLane_ringView (s : State) (i : Fin 64) (l : List Byte) :
    (s.writeLane i l).2.ringView = s.ringView := by
  unfold State.writeLane
  repeat' first | (with_reducible rfl) | simp only [State.modLane_ringView, State.testSeized_ringView, State.offerTolls_ringView] | split

theorem State.reportLink_ringView (s : State) (e : Station) :
    (s.reportLink e).ringView = s.ringView := by
  unfold State.reportLink
  repeat' first | (with_reducible rfl) | simp only [State.modSlot_ringView, State.relinkSign_ringView] | split

theorem State.reportStation_ringView (s : State) (i : Fin 32) (old : Station) (x : StationRecord) :
    (s.reportStation i old x).ringView = s.ringView := by
  unfold State.reportStation
  repeat' first | (with_reducible rfl) | simp only [State.emptyAnswers_ringView, State.reportLink_ringView] | split

theorem State.writeStation_ringView (s : State) (i : Fin 32) (l : List Byte) :
    (s.writeStation i l).2.ringView = s.ringView := by
  unfold State.writeStation
  repeat' first | (with_reducible rfl) | simp only [State.modStation_ringView, State.reportStation_ringView, State.dropChoose_ringView] | split

theorem State.writeRuleEntry_ringView (s : State) (i : Fin 32) (l : List Byte) :
    (s.writeRuleEntry i l).2.ringView = s.ringView := by
  unfold State.writeRuleEntry
  repeat' first | (with_reducible rfl) | simp only [State.writeRule_ringView] | split

theorem State.writeSignEntry_ringView (s : State) (k : Fin 12) (l : List Byte) :
    (s.writeSignEntry k l).2.ringView = s.ringView := by
  unfold State.writeSignEntry
  repeat' first | (with_reducible rfl) | simp only [State.writeSign_ringView] | split

theorem State.writeSlotEntry_ringView (s : State) (k : Fin 8) (l : List Byte) :
    (s.writeSlotEntry k l).2.ringView = s.ringView := by
  unfold State.writeSlotEntry
  repeat' first | (with_reducible rfl) | simp only [State.modSlot_ringView] | split

theorem State.writeParams_ringView (s : State) (l : List Byte) :
    (s.writeParams l).2.ringView = s.ringView := by
  unfold State.writeParams
  repeat' first | (with_reducible rfl) | simp only [State.modAgent_ringView] | split

theorem State.writeEntry_ringView (s : State) (t : Table) (i : Nat) (l : List Byte) :
    (s.writeEntry t i l).2.ringView = s.ringView := by
  unfold State.writeEntry
  split
  · cases fin? 64 i <;> simp only [Option.elim, State.writeLane_ringView]
  · cases fin? 32 i <;> simp only [Option.elim, State.writeStation_ringView]
  · cases fin? 32 i <;> simp only [Option.elim, State.writeRuleEntry_ringView]
  · cases fin? 12 i <;> simp only [Option.elim, State.writeSignEntry_ringView]
  · cases fin? 8 i <;> simp only [Option.elim, State.writeSlotEntry_ringView]
  · simp only [State.writeParams_ringView]

theorem State.cutSlot_ringView (s : State) (slot : Nat) :
    (s.cutSlot slot).ringView = s.ringView := by
  unfold State.cutSlot
  rw [State.spend_ringView, State.putSlot_ringView]

theorem State.cutMark_ringView (s : State) (slot : Nat) :
    (s.cutMark slot).ringView = s.ringView := by
  simp only [State.cutMark, State.spend_ringView, State.putMark_ringView]

theorem State.cutShort_ringView (s : State) :
    (s.cutShort).ringView = s.ringView := by
  unfold State.cutShort
  repeat' first | (with_reducible rfl) | simp only [State.cutMark_ringView, State.cutSlot_ringView] | split

theorem State.rescan_ringView (s : State) :
    (s.rescan).ringView = s.ringView := by
  unfold State.rescan
  repeat' first | (with_reducible rfl) | simp only [State.modCtl_ringView, State.scanRead_ringView] | split

theorem State.restartCustody_ringView (s : State) :
    (s.restartCustody).ringView = s.ringView := by
  unfold State.restartCustody
  repeat' first | (with_reducible rfl) | simp only [State.rescan_ringView, State.restartJournal_ringView] | split

theorem State.unbindAll_ringView (s : State) :
    (s.unbindAll).ringView = s.ringView := by
  simp only [State.unbindAll, State.modLanes_ringView]

theorem State.restartWeather_ringView (s : State) :
    (s.restartWeather).ringView = s.ringView := by
  simp only [State.restartWeather, State.modSlots_ringView]

theorem State.restartAll_ringView (s : State) :
    (s.restartAll).ringView = s.ringView := by
  simp only [State.restartAll, State.modRing_ringView, State.restartWeather_ringView, State.unbindAll_ringView, State.restartCalls_ringView, State.restartSigns_ringView, State.restartCustody_ringView]

theorem State.beginSave_ringView (s : State) (src : NodeId) (tag : Byte) :
    (s.beginSave src tag).ringView = s.ringView := by
  simp only [State.beginSave, State.modCtl_ringView, State.modAgent_ringView, State.storeKick_ringView]

theorem State.perform_ringView (s : State) (src : NodeId) (tag : Byte) (o : Order) :
    (s.perform src tag o).2.ringView = s.ringView := by
  unfold State.perform
  repeat' first | (with_reducible rfl) | simp only [State.signSet_ringView, State.pageDiscard_ringView, State.signCancel_ringView, State.pageOpen_ringView, State.restartAll_ringView, State.beginSave_ringView, State.pageData_ringView, State.clearGroup_ringView, State.writeEntry_ringView, answered] | split

theorem State.carryOut_ringView (s : State) (c : Command) :
    (s.carryOut c).2.ringView = s.ringView := by
  unfold State.carryOut
  repeat' first | (with_reducible rfl) | simp only [State.perform_ringView] | split

theorem State.reply_ringView (s : State) (c : Command) (a : Answer) :
    (s.reply c a).ringView = s.ringView := by
  unfold State.reply
  repeat' first | (with_reducible rfl) | simp only [State.modAgent_ringView] | split

theorem State.takeCommand_ringView (s : State) (c : Command) (rest : List Command) :
    (s.takeCommand c rest).ringView = s.ringView := by
  unfold State.takeCommand
  repeat' first | (with_reducible rfl) | simp only [State.modAgent_ringView, State.carryOut_ringView, State.reply_ringView] | split

theorem State.passReply_ringView (s : State) (b : Block) (rest : List Block) :
    (s.passReply b rest).ringView = s.ringView := by
  simp only [State.passReply, State.modAgent_ringView, State.join_ringView]

theorem State.agentTurn_ringView (s : State) (t : State) (h : s.agentTurn = some t) :
    t.ringView = s.ringView := by
  unfold State.agentTurn at h
  split at h
  · split at h
    · cases h; exact State.passReply_ringView s _ _
    · cases h
  · cases h; exact State.takeCommand_ringView s _ _
  · cases h

theorem State.noticeTurn_ringView (s : State) (t : State) (h : s.noticeTurn = some t) :
    t.ringView = s.ringView := by
  unfold State.noticeTurn at h
  split at h
  · cases h; exact State.passNotice_ringView s
  · cases h

theorem State.agentTurns_ringView (s : State) (n : Nat) :
    (s.agentTurns n).ringView = s.ringView := by
  induction n generalizing s with
  | zero => rfl
  | succ n ih =>
    unfold State.agentTurns
    split
    · rfl
    · rename_i ha _; rw [ih, State.agentTurn_ringView s _ ha]
    · rename_i _ hb; rw [ih, State.noticeTurn_ringView s _ hb]
    · rename_i ha hb
      split
      · rw [ih, State.spend_ringView, State.agentTurn_ringView s _ ha]
      · rw [ih, State.spend_ringView, State.noticeTurn_ringView s _ hb]

theorem State.agentRun_ringView (s : State) :
    (s.agentRun).ringView = s.ringView := by
  simp only [State.agentRun, State.agentTurns_ringView]

theorem State.refuseBusy_ringView (s : State) (c : Command) :
    (s.refuseBusy c).ringView = s.ringView := by
  unfold State.refuseBusy
  repeat' first | (with_reducible rfl) | simp only [State.modAgent_ringView, State.join_ringView] | split

theorem State.agentReceive_ringView (s : State) (c : Command) :
    (s.agentReceive c).ringView = s.ringView := by
  unfold State.agentReceive
  repeat' first | (with_reducible rfl) | simp only [State.modAgent_ringView, State.refuseBusy_ringView, State.agentRun_ringView] | split

theorem State.saveReplies_ringView (s : State) (st : Status) (content : List Byte) :
    (s.saveReplies st content).ringView = s.ringView := by
  unfold State.saveReplies
  repeat' first | (with_reducible rfl) | simp only [State.modAgent_ringView, State.reply_ringView, State.agentRun_ringView] | split

theorem State.failSave_ringView (s : State) (cause : StoreCause) :
    (s.failSave cause).ringView = s.ringView := by
  unfold State.failSave
  repeat' first | (with_reducible rfl) | simp only [State.modCtl_ringView, State.saveReplies_ringView, State.notify_ringView] | split

theorem State.saveSucceeds_ringView (s : State) (sv : Save) :
    (s.saveSucceeds sv).ringView = s.ringView := by
  simp only [State.saveSucceeds, State.modCtl_ringView, State.saveReplies_ringView, State.notify_ringView]

theorem State.saveStepVerified_ringView (s : State) (bytes : List Byte) :
    (s.saveStepVerified bytes).ringView = s.ringView := by
  unfold State.saveStepVerified
  repeat' first | (with_reducible rfl) | simp only [State.modCtl_ringView, State.saveSucceeds_ringView] | split

theorem State.countMismatch_ringView (s : State) :
    (s.countMismatch).ringView = s.ringView := by
  simp only [State.countMismatch, State.modCtl_ringView]

theorem State.commitCompletes_ringView (s : State) (slot : Nat) (bytes : List Byte) (got : ReadBack) :
    (s.commitCompletes slot bytes got).ringView = s.ringView := by
  unfold State.commitCompletes
  repeat' first | (with_reducible rfl) | simp only [State.commitMismatches_ringView, State.storeKick_ringView, State.commitSucceeds_ringView, State.countMismatch_ringView, State.endOp_ringView, State.afterRead_ringView] | split

theorem State.markCompletes_ringView (s : State) (slot : Nat) :
    (s.markCompletes slot).ringView = s.ringView := by
  simp only [State.markCompletes, State.modJrnl_ringView, State.putMark_ringView, State.storeKick_ringView, State.endOp_ringView]

theorem State.readCompletes_ringView (s : State) (serial slot : Nat) (live : Bool) (got : ReadBack) :
    (s.readCompletes serial slot live got).ringView = s.ringView := by
  unfold State.readCompletes
  repeat' first | (with_reducible rfl) | simp only [State.readDone_ringView, State.storeKick_ringView, State.endOp_ringView, State.afterRead_ringView] | split

theorem State.saveMarkCompletes_ringView (s : State) :
    (s.saveMarkCompletes).ringView = s.ringView := by
  simp only [State.saveMarkCompletes, State.modCtl_ringView, State.putMark_ringView, State.storeKick_ringView, State.endOp_ringView]

theorem State.spoilHeader_ringView (s : State) (slot : Nat) :
    (s.spoilHeader slot).ringView = s.ringView := by
  unfold State.spoilHeader
  repeat' first | (with_reducible rfl) | simp only [State.cutSlot_ringView] | split

theorem State.saveSlotCompletes_ringView (s : State) (slot : Nat) (bytes : List Byte) (got : ReadBack) :
    (s.saveSlotCompletes slot bytes got).ringView = s.ringView := by
  unfold State.saveSlotCompletes
  repeat' first | (with_reducible rfl) | simp only [State.saveStepVerified_ringView, State.failSave_ringView, State.storeKick_ringView, State.countMismatch_ringView, State.spoilHeader_ringView, State.endOp_ringView, State.afterRead_ringView] | split

theorem State.journalScanned_ringView (s : State) (r : Rebuilt) :
    (s.journalScanned r).ringView = s.ringView := by
  unfold State.journalScanned
  repeat' first | (with_reducible rfl) | simp only [State.modJrnl_ringView, State.journalFault_ringView, State.notify_ringView] | split

theorem State.loadRead_ringView (s : State) (slot : Nat) :
    (s.loadRead slot).ringView = s.ringView := by
  simp only [State.loadRead, State.startStep_ringView]

theorem State.afterScan_ringView (s : State) :
    (s.afterScan).ringView = s.ringView := by
  unfold State.afterScan
  repeat' first | (with_reducible rfl) | simp only [State.modCtl_ringView, State.dropsChoose_ringView, State.loadRead_ringView, State.storeKick_ringView] | split

theorem State.scanEnds_ringView (s : State) :
    (s.scanEnds).ringView = s.ringView := by
  unfold State.scanEnds
  repeat' first | (with_reducible rfl) | simp only [State.modCtl_ringView, State.journalScanned_ringView, State.afterScan_ringView] | split

theorem State.scanReadCompletes_ringView (s : State) (slot : Nat) (got : ReadBack) :
    (s.scanReadCompletes slot got).ringView = s.ringView := by
  unfold State.scanReadCompletes
  repeat' first | (with_reducible rfl) | simp only [State.modCtl_ringView, State.scanEnds_ringView, State.scanRead_ringView, State.afterRead_ringView] | split

theorem State.applyImage_ringView (s : State) (slots : List (List Byte)) :
    (s.applyImage slots).ringView = s.ringView := by
  unfold State.applyImage
  repeat' first | (with_reducible rfl) | simp only [State.modLanes_ringView, State.modPoll_ringView, State.modSlots_ringView, State.modRules_ringView, State.modSign_ringView, State.modAgent_ringView, State.modSup_ringView] | split

theorem State.noteLoad_ringView (s : State) (o : LoadOutcome) :
    (s.noteLoad o).ringView = s.ringView := by
  unfold State.noteLoad
  repeat' first | (with_reducible rfl) | simp only [State.notify_ringView] | split

theorem State.endLoad_ringView (s : State) (o : LoadOutcome) :
    (s.endLoad o).ringView = s.ringView := by
  simp only [State.endLoad, State.modCtl_ringView, State.dropsChoose_ringView, State.noteLoad_ringView, State.storeKick_ringView, State.settleAll_ringView]

theorem State.judgeImage_ringView (s : State) (ld : Load) :
    (s.judgeImage ld).ringView = s.ringView := by
  unfold State.judgeImage
  repeat' first | (with_reducible rfl) | simp only [State.applyImage_ringView, State.endLoad_ringView] | split

theorem State.loadReadCompletes_ringView (s : State) (slot : Nat) (got : ReadBack) :
    (s.loadReadCompletes slot got).ringView = s.ringView := by
  unfold State.loadReadCompletes
  repeat' first | (with_reducible rfl) | simp only [State.modCtl_ringView, State.loadRead_ringView, State.judgeImage_ringView, State.endLoad_ringView, State.afterRead_ringView] | split

theorem State.looseSlot_ringView (s : State) (slot : Nat) :
    (s.looseSlot slot).ringView = s.ringView := by
  simp only [State.looseSlot, State.spend_ringView, State.putSlot_ringView]

theorem State.looseHeaderMark_ringView (s : State) :
    (s.looseHeaderMark).ringView = s.ringView := by
  simp only [State.looseHeaderMark, State.spend_ringView, State.putMark_ringView]

theorem State.abandonWrite_ringView (s : State) :
    (s.abandonWrite).ringView = s.ringView := by
  unfold State.abandonWrite
  repeat' first | (with_reducible rfl) | simp only [State.cutSlot_ringView, State.cutMark_ringView, State.looseSlot_ringView, State.looseHeaderMark_ringView] | split

theorem State.countTimeout_ringView (s : State) :
    (s.countTimeout).ringView = s.ringView := by
  simp only [State.countTimeout, State.modCtl_ringView]

theorem State.reportTimeout_ringView (s : State) :
    (s.reportTimeout).ringView = s.ringView := by
  simp only [State.reportTimeout, State.journalFault_ringView, State.failSave_ringView]

theorem State.scanResumes_ringView (s : State) :
    (s.scanResumes).ringView = s.ringView := by
  simp only [State.scanResumes, State.modJrnl_ringView]

theorem State.stepExpires_ringView (s : State) :
    (s.stepExpires).ringView = s.ringView := by
  unfold State.stepExpires
  repeat' first | (with_reducible rfl) | simp only [State.scanResumes_ringView, State.storeKick_ringView, State.endLoad_ringView, State.countTimeout_ringView, State.endOp_ringView, State.abandonWrite_ringView, State.reportTimeout_ringView, State.afterScan_ringView] | split

theorem State.enterIsolated_ringView (s : State) :
    (s.enterIsolated).ringView = s.ringView := by
  unfold State.enterIsolated
  simp only [State.journalIsolated_ringView, State.callsIsolated_ringView, State.modRing_ringView]
  rfl

theorem State.leaveIsolated_ringView (s : State) :
    (s.leaveIsolated).ringView = s.ringView := by
  simp only [State.leaveIsolated, State.callsHealed_ringView, State.offerTolls_ringView, State.agentRun_ringView]

theorem State.noticeLink_ringView (s : State) (p : Side) (cause : Option LinkCause) :
    (s.noticeLink p cause).ringView = s.ringView := by
  unfold State.noticeLink
  repeat' first | (with_reducible rfl) | simp only [State.notify_ringView] | split

theorem State.offerKeep_ringView (s : State) (p : Side) :
    (s.offerKeep p).ringView = s.ringView := by
  simp only [State.offerKeep, State.offerRing_ringView]

theorem State.countRx_ringView (s : State) (p : Side) (f : RxCounters → RxCounters) :
    (s.countRx p f).ringView = s.ringView := by
  simp only [State.countRx, State.modRing_ringView]

theorem State.countDir_ringView (s : State) (d : Dir) (f : DirCounters → DirCounters) :
    (s.countDir d f).ringView = s.ringView := by
  simp only [State.countDir, State.modRing_ringView]

theorem State.modSender_ringView (s : State) (d : Dir) (f : HoldSender → HoldSender) :
    (s.modSender d f).ringView = s.ringView := by
  simp only [State.modSender, State.modRing_ringView]

theorem State.sendHoldoff_ringView (s : State) (d : Dir) :
    (s.sendHoldoff d).ringView = s.ringView := by
  simp only [State.sendHoldoff, State.offerRing_ringView, State.modSender_ringView]

theorem State.sendRelease_ringView (s : State) (d : Dir) :
    (s.sendRelease d).ringView = s.ringView := by
  simp only [State.sendRelease, State.offerRing_ringView, State.modSender_ringView]

theorem State.afterJoin_ringView (s : State) (d : Dir) :
    (s.afterJoin d).ringView = s.ringView := by
  unfold State.afterJoin
  repeat' first | (with_reducible rfl) | simp only [State.sendHoldoff_ringView] | split

theorem State.afterDeparture_ringView (s : State) (d : Dir) :
    (s.afterDeparture d).ringView = s.ringView := by
  unfold State.afterDeparture
  repeat' first | (with_reducible rfl) | simp only [State.sendRelease_ringView] | split

theorem State.setBuffer_ringView (s : State) (d : Dir) (l : List Block) :
    (s.setBuffer d l).ringView = s.ringView := by
  simp only [State.setBuffer, State.modRing_ringView]

theorem State.overflow_ringView (s : State) (d : Dir) (b : Block) :
    (s.overflow d b).ringView = s.ringView := by
  unfold State.overflow
  repeat' first | (with_reducible rfl) | simp only [State.setBuffer_ringView, State.countDir_ringView] | split

theorem State.joinTransit_ringView (s : State) (d : Dir) (b : Block) :
    (s.joinTransit d b).ringView = s.ringView := by
  unfold State.joinTransit
  repeat' first | (with_reducible rfl) | simp only [State.setBuffer_ringView, State.afterJoin_ringView, State.overflow_ringView] | split

theorem State.forward_ringView (s : State) (d : Dir) (b : Block) :
    (s.forward d b).ringView = s.ringView := by
  unfold State.forward
  repeat' first | (with_reducible rfl) | simp only [State.countDir_ringView, State.joinTransit_ringView] | split

theorem State.handBlock_ringView (s : State) (b : Block) :
    (s.handBlock b).ringView = s.ringView := by
  unfold State.handBlock
  repeat' first | (with_reducible rfl) | simp only [State.takeCallBlock_ringView, State.takeTollControl_ringView, State.takeVoice_ringView, State.agentReceive_ringView] | split

theorem State.deliver_ringView (s : State) (b : Block) :
    (s.deliver b).ringView = s.ringView := by
  unfold State.deliver
  repeat' first | (with_reducible rfl) | simp only [State.modLane_ringView, State.handBlock_ringView] | split

theorem State.classifyBlock_ringView (s : State) (d : Dir) (b : Block) :
    (s.classifyBlock d b).ringView = s.ringView := by
  unfold State.classifyBlock
  repeat' first | (with_reducible rfl) | simp only [State.forward_ringView, State.deliver_ringView] | split

theorem State.sourceTest_ringView (s : State) (d : Dir) (b : Block) :
    (s.sourceTest d b).ringView = s.ringView := by
  unfold State.sourceTest
  repeat' first | (with_reducible rfl) | simp only [State.countDir_ringView, State.classifyBlock_ringView] | split

theorem State.transitArrival_ringView (s : State) (p : Side) (b : Block) :
    (s.transitArrival p b).ringView = s.ringView := by
  unfold State.transitArrival
  repeat' first | (with_reducible rfl) | simp only [State.countRx_ringView, State.sourceTest_ringView] | split

theorem State.takeHoldoff_ringView (s : State) (p : Side) :
    (s.takeHoldoff p).ringView = s.ringView := by
  simp only [State.takeHoldoff, State.modOut_ringView]

theorem State.takeRelease_ringView (s : State) (p : Side) :
    (s.takeRelease p).ringView = s.ringView := by
  simp only [State.takeRelease, State.modOut_ringView]

theorem State.countMalformed_ringView (s : State) (p : Side) :
    (s.countMalformed p).ringView = s.ringView := by
  simp only [State.countMalformed, State.countRx_ringView]

theorem State.send_ringView (s : State) (p : Side) (b : Block) :
    (s.send p b).ringView = s.ringView := by
  unfold State.send
  repeat' first | (with_reducible rfl) | simp only [State.modRing_ringView, State.modOut_ringView] | split

theorem State.afterPop_ringView (s : State) (n : ClassQueue) :
    (s.afterPop n).ringView = s.ringView := by
  unfold State.afterPop
  repeat' first | (with_reducible rfl) | simp only [State.offerTolls_ringView, State.agentRun_ringView] | split

theorem State.depart_ringView (s : State) (n : Choice) :
    (s.depart n).ringView = s.ringView := by
  unfold State.depart
  repeat' first | (with_reducible rfl) | simp only [State.modRing_ringView, State.setBuffer_ringView, State.afterDeparture_ringView, State.afterPop_ringView] | split

theorem State.chooseOnce_ringView (s : State) (p : Side) :
    (s.chooseOnce p).1.ringView = s.ringView := by
  unfold State.chooseOnce
  dsimp only
  split <;> (simp only [State.depart_ringView]; rfl)

theorem State.chooseUpTo_ringView (s : State) (p : Side) (n : Nat) :
    (s.chooseUpTo p n).ringView = s.ringView := by
  induction n generalizing s with
  | zero => simp only [State.chooseUpTo, State.send_ringView]
  | succ n ih =>
    have hc := State.chooseOnce_ringView s p
    unfold State.chooseUpTo
    split
    · rename_i heq; rw [heq] at hc; rw [State.send_ringView]; exact hc
    · rename_i heq; rw [heq] at hc; rw [ih]; exact hc

theorem State.arbiter_ringView (s : State) (p : Side) :
    (s.arbiter p).ringView = s.ringView := by
  simp only [State.arbiter, State.chooseUpTo_ringView]

theorem State.unlessRepeater_ringView (s : State) (f : State → State) (h : (f s).ringView = s.ringView) :
    (s.unlessRepeater f).ringView = s.ringView := by
  unfold State.unlessRepeater
  split
  · rfl
  · exact h

theorem State.command_ringView (s : State) (src : NodeId) (tag : Byte) (code : BitVec 4) (body : List Byte) :
    (s.command src tag code body).ringView = s.ringView := by
  exact State.unlessRepeater_ringView s _ (State.agentReceive_ringView s _)

end Sys2Proof.Machine
end

