-- ==== Sys2Proof/Laws/FrameSign.lean ====
section
/-! SUPPORT. The operations that leave the sign table and the page store as they are. -/

namespace Sys2Proof.Machine

/-- The sign table and the page store. -/
def State.signView (s : State) : SignService := s.sign

theorem State.modRing_signView (s : State) (f : RingTransit → RingTransit) :
    (s.modRing f).signView = s.signView := rfl

theorem State.modLanes_signView (s : State) (f : Vector LaneEntry 64 → Vector LaneEntry 64) :
    (s.modLanes f).signView = s.signView := rfl

theorem State.modProt_signView (s : State) (f : Protection → Protection) :
    (s.modProt f).signView = s.signView := rfl

theorem State.modPoll_signView (s : State) (f : Poller → Poller) :
    (s.modPoll f).signView = s.signView := rfl

theorem State.modCalls_signView (s : State) (f : CallEngine → CallEngine) :
    (s.modCalls f).signView = s.signView := rfl

theorem State.modJrnl_signView (s : State) (f : Journal → Journal) :
    (s.modJrnl f).signView = s.signView := rfl

theorem State.modCtl_signView (s : State) (f : StoreController → StoreController) :
    (s.modCtl f).signView = s.signView := rfl

theorem State.modNv_signView (s : State) (f : Memory → Memory) :
    (s.modNv f).signView = s.signView := rfl

theorem State.modSlots_signView (s : State) (f : Vector ReductionSlot 8 → Vector ReductionSlot 8) :
    (s.modSlots f).signView = s.signView := rfl

theorem State.modRules_signView (s : State) (f : Vector Rule 32 → Vector Rule 32) :
    (s.modRules f).signView = s.signView := rfl

theorem State.modSup_signView (s : State) (f : Supply → Supply) :
    (s.modSup f).signView = s.signView := rfl

theorem State.modAgent_signView (s : State) (f : Agent → Agent) :
    (s.modAgent f).signView = s.signView := rfl

theorem State.modLane_signView (s : State) (i : Fin 64) (f : LaneEntry → LaneEntry) :
    (s.modLane i f).signView = s.signView := rfl

theorem State.modStation_signView (s : State) (i : Fin 32) (f : Station → Station) :
    (s.modStation i f).signView = s.signView := rfl

theorem State.modDrop_signView (s : State) (i : Fin 4) (f : Drop → Drop) :
    (s.modDrop i f).signView = s.signView := rfl

theorem State.modRecord_signView (s : State) (i : Fin 16) (f : CallRecord → CallRecord) :
    (s.modRecord i f).signView = s.signView := rfl

theorem State.modAnswers_signView (s : State) (i : Fin 32) (f : List AnswerEntry → List AnswerEntry) :
    (s.modAnswers i f).signView = s.signView := rfl

theorem State.modSlot_signView (s : State) (i : Fin 8) (f : ReductionSlot → ReductionSlot) :
    (s.modSlot i f).signView = s.signView := rfl

theorem State.modRule_signView (s : State) (i : Fin 32) (f : Rule → Rule) :
    (s.modRule i f).signView = s.signView := rfl

theorem State.modPort_signView (s : State) (i : Side) (f : RxPort → RxPort) :
    (s.modPort i f).signView = s.signView := rfl

theorem State.modOut_signView (s : State) (i : Side) (f : OutPort → OutPort) :
    (s.modOut i f).signView = s.signView := rfl

theorem State.spend_signView (s : State) (n : Nat) :
    (s.spend n).signView = s.signView := rfl

theorem State.reach_signView (s : State) (n : Nat) :
    (s.reach n).signView = s.signView := rfl

/-- A loop whose steps leave it leaves it. -/
theorem State.forEach_signView {α : Type} (f : α → State → State) (h : ∀ a t, (f a t).signView = t.signView) (l : List α) :
    ∀ s : State, (s.forEach l f).signView = s.signView := by
  induction l with
  | nil => intro s; rfl
  | cons a l ih => intro s; exact (ih (f a s)).trans (h a s)


theorem State.putSlot_signView (s : State) (slot : Nat) (l : List Byte) :
    (s.putSlot slot l).signView = s.signView := by
  simp only [State.putSlot, State.modNv_signView]

theorem State.putMark_signView (s : State) (slot : Nat) (mark : Byte) :
    (s.putMark slot mark).signView = s.signView := by
  simp only [State.putMark, State.modNv_signView]

theorem State.afterRead_signView (s : State) (slot : Nat) (got : ReadBack) :
    (s.afterRead slot got).signView = s.signView := by
  unfold State.afterRead
  repeat' first | (with_reducible rfl) | simp only [State.putSlot_signView] | split

theorem State.join_signView (s : State) (q : LocalQueue) (b : Block) :
    (s.join q b).signView = s.signView := by
  unfold State.join
  repeat' first | (with_reducible rfl) | simp only [State.modRing_signView] | split

theorem State.offerRing_signView (s : State) (port : Side) (subtype : BitVec 4) (body : List Byte) :
    (s.offerRing port subtype body).signView = s.signView := by
  unfold State.offerRing
  repeat' first | (with_reducible rfl) | simp only [State.modRing_signView] | split

theorem State.passNotice_signView (s : State) :
    (s.passNotice).signView = s.signView := by
  unfold State.passNotice
  repeat' first | (with_reducible rfl) | simp only [State.modAgent_signView, State.join_signView] | split

theorem State.offerNotice_signView (s : State) :
    (s.offerNotice).signView = s.signView := by
  unfold State.offerNotice
  repeat' first | (with_reducible rfl) | simp only [State.passNotice_signView] | split

theorem State.notify_signView (s : State) (body : NoticeBody) :
    (s.notify body).signView = s.signView := by
  unfold State.notify
  repeat' first | (with_reducible rfl) | simp only [State.modAgent_signView, State.offerNotice_signView] | split

theorem State.startStep_signView (s : State) (op : StoreOp) :
    (s.startStep op).signView = s.signView := by
  simp only [State.startStep, State.modCtl_signView]

theorem State.startOp_signView (s : State) (op : StoreOp) :
    (s.startOp op).signView = s.signView := by
  simp only [State.startOp, State.modCtl_signView, State.startStep_signView]

theorem State.startCommit_signView (s : State) :
    (s.startCommit).signView = s.signView := by
  unfold State.startCommit
  repeat' first | (with_reducible rfl) | simp only [State.modJrnl_signView, State.startOp_signView] | split

theorem State.startRead_signView (s : State) (serial : Nat) (rest : List Nat) :
    (s.startRead serial rest).signView = s.signView := by
  unfold State.startRead
  repeat' first | (with_reducible rfl) | simp only [State.modJrnl_signView, State.modCtl_signView, State.startOp_signView] | split

theorem State.startSave_signView (s : State) (sv : Save) :
    (s.startSave sv).signView = s.signView := by
  unfold State.startSave
  repeat' first | (with_reducible rfl) | simp only [State.startOp_signView] | split

theorem State.storeKick_signView (s : State) :
    (s.storeKick).signView = s.signView := by
  unfold State.storeKick
  repeat' first | (with_reducible rfl) | simp only [State.startCommit_signView, State.startOp_signView, State.startSave_signView, State.startRead_signView] | split

theorem State.scanRead_signView (s : State) (slot : Nat) :
    (s.scanRead slot).signView = s.signView := by
  simp only [State.scanRead, State.startStep_signView]

theorem State.endOp_signView (s : State) :
    (s.endOp).signView = s.signView := by
  unfold State.endOp
  repeat' first | (with_reducible rfl) | simp only [State.modCtl_signView, State.scanRead_signView] | split

theorem State.startVerify_signView (s : State) (slot : Nat) (bytes : List Byte) (op : StoreOp) :
    (s.startVerify slot bytes op).signView = s.signView := by
  simp only [State.startVerify, State.startStep_signView, State.putSlot_signView]

theorem State.deliverVerdict_signView (s : State) (t : Txn) (v : Verdict) :
    (s.deliverVerdict t v).signView = s.signView := by
  unfold State.deliverVerdict
  repeat' first | (with_reducible rfl) | simp only [State.modJrnl_signView, State.modAnswers_signView] | split

theorem State.emptyAnswers_signView (s : State) (slot : Fin 32) :
    (s.emptyAnswers slot).signView = s.signView := by
  simp only [State.emptyAnswers, State.modJrnl_signView, State.modAnswers_signView]

theorem State.emptyReadAhead_signView (s : State) :
    (s.emptyReadAhead).signView = s.signView := by
  simp only [State.emptyReadAhead, State.modJrnl_signView, State.modCtl_signView]

theorem State.requestRead_signView (s : State) (serial : Nat) :
    (s.requestRead serial).signView = s.signView := by
  simp only [State.requestRead, State.modJrnl_signView, State.modCtl_signView, State.storeKick_signView]

theorem State.requestReadsUpTo_signView (s : State) (n : Nat) :
    (s.requestReadsUpTo n).signView = s.signView := by
  induction n generalizing s with
  | zero => rfl
  | succ n ih =>
    unfold State.requestReadsUpTo
    repeat' first | (with_reducible rfl) | simp only [State.requestRead_signView, ih] | split

theorem State.requestReads_signView (s : State) :
    (s.requestReads).signView = s.signView := by
  simp only [State.requestReads, State.requestReadsUpTo_signView]

theorem State.offerTollsUpTo_signView (s : State) (n : Nat) :
    (s.offerTollsUpTo n).signView = s.signView := by
  induction n generalizing s with
  | zero => rfl
  | succ n ih =>
    unfold State.offerTollsUpTo
    repeat' first | (with_reducible rfl) | simp only [State.modJrnl_signView, State.requestReads_signView, State.join_signView, ih] | split

theorem State.offerTolls_signView (s : State) :
    (s.offerTolls).signView = s.signView := by
  simp only [State.offerTolls, State.offerTollsUpTo_signView]

theorem State.revert_signView (s : State) :
    (s.revert).signView = s.signView := by
  simp only [State.revert, State.modJrnl_signView, State.modCtl_signView, State.requestReads_signView]

theorem State.retime_signView (s : State) :
    (s.retime).signView = s.signView := by
  unfold State.retime
  repeat' first | (with_reducible rfl) | simp only [State.revert_signView] | split

theorem State.testFull_signView (s : State) :
    (s.testFull).signView = s.signView := by
  unfold State.testFull
  repeat' first | (with_reducible rfl) | simp only [State.modJrnl_signView, State.notify_signView] | split

theorem State.testHighMark_signView (s : State) :
    (s.testHighMark).signView = s.signView := by
  unfold State.testHighMark
  repeat' first | (with_reducible rfl) | simp only [State.modJrnl_signView, State.notify_signView] | split

theorem State.journalHoldup_signView (s : State) :
    (s.journalHoldup).signView = s.signView := by
  unfold State.journalHoldup
  repeat' first | (with_reducible rfl) | simp only [State.modJrnl_signView] | split

theorem State.journalHoldupEnds_signView (s : State) :
    (s.journalHoldupEnds).signView = s.signView := by
  unfold State.journalHoldupEnds
  repeat' first | (with_reducible rfl) | simp only [State.modJrnl_signView, State.storeKick_signView] | split

theorem State.journalFault_signView (s : State) (cause : StoreCause) :
    (s.journalFault cause).signView = s.signView := by
  unfold State.journalFault
  repeat' first | (with_reducible rfl) | simp only [State.modJrnl_signView, State.notify_signView, State.emptyReadAhead_signView, State.deliverVerdict_signView, State.forEach_signView, implies_true] | split

theorem State.giveVerdict_signView (s : State) (slot : Fin 32) (number : BitVec 16) (v : Verdict) :
    (s.giveVerdict slot number v).signView = s.signView := by
  unfold State.giveVerdict
  repeat' first | (with_reducible rfl) | simp only [State.modJrnl_signView, State.modAnswers_signView] | split

theorem State.judgeTxn_signView (s : State) (slot : Fin 32) (drop : Fin 4) (address : BitVec 5) (number : BitVec 16) (body : List Byte) :
    (s.judgeTxn slot drop address number body).signView = s.signView := by
  unfold State.judgeTxn
  repeat' first | (with_reducible rfl) | simp only [State.modJrnl_signView, State.modAnswers_signView, State.giveVerdict_signView, State.storeKick_signView] | split

theorem State.takeTxn_signView (s : State) (slot : Fin 32) (drop : Fin 4) (address : BitVec 5) (number : BitVec 16) (body : List Byte) :
    (s.takeTxn slot drop address number body).signView = s.signView := by
  unfold State.takeTxn
  repeat' first | (with_reducible rfl) | simp only [State.modJrnl_signView, State.modAnswers_signView, State.judgeTxn_signView] | split

theorem State.carryAnswers_signView (s : State) (slot : Fin 32) :
    (s.carryAnswers slot).signView = s.signView := by
  simp only [State.carryAnswers, State.modAnswers_signView]

theorem State.answersOutcome_signView (s : State) (slot : Fin 32) (good : Bool) :
    (s.answersOutcome slot good).signView = s.signView := by
  unfold State.answersOutcome
  repeat' first | (with_reducible rfl) | simp only [State.modJrnl_signView, State.modAnswers_signView] | split

theorem State.commitSucceeds_signView (s : State) (h : InHand) :
    (s.commitSucceeds h).signView = s.signView := by
  simp only [State.commitSucceeds, State.modJrnl_signView, State.requestReads_signView, State.testHighMark_signView, State.deliverVerdict_signView, State.testFull_signView]

theorem State.commitMismatches_signView (s : State) (h : InHand) :
    (s.commitMismatches h).signView = s.signView := by
  unfold State.commitMismatches
  repeat' first | (with_reducible rfl) | simp only [State.modJrnl_signView, State.journalFault_signView, State.testFull_signView] | split

theorem State.readDone_signView (s : State) (serial slot : Nat) (l : List Byte) :
    (s.readDone serial slot l).signView = s.signView := by
  unfold State.readDone
  repeat' first | (with_reducible rfl) | simp only [State.modJrnl_signView, State.modCtl_signView, State.storeKick_signView, State.offerTolls_signView] | split

theorem State.releaseOldest_signView (s : State) :
    (s.releaseOldest).signView = s.signView := by
  unfold State.releaseOldest
  repeat' first | (with_reducible rfl) | simp only [State.modJrnl_signView, State.modCtl_signView, State.storeKick_signView] | split

theorem State.release_signView (s : State) (n : Nat) :
    (s.release n).signView = s.signView := by
  induction n generalizing s with
  | zero => rfl
  | succ n ih =>
    unfold State.release
    repeat' first | (with_reducible rfl) | simp only [State.releaseOldest_signView, ih] | split

theorem State.testReopened_signView (s : State) :
    (s.testReopened).signView = s.signView := by
  unfold State.testReopened
  repeat' first | (with_reducible rfl) | simp only [State.modJrnl_signView, State.storeKick_signView] | split

theorem State.ack_signView (s : State) (k : Nat) :
    (s.ack k).signView = s.signView := by
  unfold State.ack
  repeat' first | (with_reducible rfl) | simp only [State.modJrnl_signView, State.release_signView, State.testReopened_signView, State.requestReads_signView, State.offerTolls_signView, State.retime_signView] | split

theorem State.pull_signView (s : State) (c : Nat) :
    (s.pull c).signView = s.signView := by
  simp only [State.pull, State.modJrnl_signView, State.requestReads_signView]

theorem State.drainEnd_signView (s : State) :
    (s.drainEnd).signView = s.signView := by
  simp only [State.drainEnd, State.modJrnl_signView, State.emptyReadAhead_signView]

theorem State.controlDiscarded_signView (s : State) :
    (s.controlDiscarded).signView = s.signView := by
  simp only [State.controlDiscarded, State.modJrnl_signView]

theorem State.takeTollControl_signView (s : State) (b : Block) :
    (s.takeTollControl b).signView = s.signView := by
  unfold State.takeTollControl
  repeat' first | (with_reducible rfl) | simp only [State.ack_signView, State.drainEnd_signView, State.controlDiscarded_signView, State.pull_signView] | split

theorem State.journalIsolated_signView (s : State) (handed : List Nat) :
    (s.journalIsolated handed).signView = s.signView := by
  simp only [State.journalIsolated, State.modJrnl_signView, State.retime_signView, State.emptyReadAhead_signView]

theorem State.restartJournal_signView (s : State) :
    (s.restartJournal).signView = s.signView := by
  simp only [State.restartJournal, State.modJrnl_signView, State.emptyReadAhead_signView]

theorem State.countVoice_signView (s : State) (r : Fin 16) (f : VoiceCounters → VoiceCounters) :
    (s.countVoice r f).signView = s.signView := by
  simp only [State.countVoice, State.modCalls_signView, State.modRecord_signView]

theorem State.modVoice_signView (s : State) (r : Fin 16) (f : VoiceFields → VoiceFields) :
    (s.modVoice r f).signView = s.signView := by
  simp only [State.modVoice, State.modRecord_signView]

theorem State.captureBlock_signView (s : State) (r : Fin 16) (samples : List Byte) :
    (s.captureBlock r samples).signView = s.signView := by
  unfold State.captureBlock
  repeat' first | (with_reducible rfl) | simp only [State.countVoice_signView, State.join_signView] | split

theorem State.voiceOutcome_signView (s : State) (slot : Fin 32) (o : VoiceOutcome) :
    (s.voiceOutcome slot o).signView = s.signView := by
  unfold State.voiceOutcome
  repeat' first | (with_reducible rfl) | simp only [State.modCalls_signView, State.countVoice_signView, State.captureBlock_signView, State.modVoice_signView] | split

theorem State.playStep_signView (s : State) (r : Fin 16) :
    (s.playStep r).2.signView = s.signView := by
  unfold State.playStep
  repeat' first | (with_reducible rfl) | simp only [State.countVoice_signView, State.modVoice_signView] | split

theorem State.insertVoice_signView (s : State) (r : Fin 16) (next : Byte) (f : VoiceFrame) :
    (s.insertVoice r next f).signView = s.signView := by
  simp only [State.insertVoice, State.countVoice_signView, State.modVoice_signView]

theorem State.resyncVoice_signView (s : State) (r : Fin 16) (f : VoiceFrame) :
    (s.resyncVoice r f).signView = s.signView := by
  unfold State.resyncVoice
  repeat' first | (with_reducible rfl) | simp only [State.countVoice_signView, State.modVoice_signView] | split

theorem State.placeVoice_signView (s : State) (r : Fin 16) (f : VoiceFrame) :
    (s.placeVoice r f).signView = s.signView := by
  unfold State.placeVoice
  repeat' first | (with_reducible rfl) | simp only [State.countVoice_signView, State.resyncVoice_signView, State.insertVoice_signView] | split

theorem State.takeVoice_signView (s : State) (r : Fin 16) (b : Block) :
    (s.takeVoice r b).signView = s.signView := by
  unfold State.takeVoice
  repeat' first | (with_reducible rfl) | simp only [State.countVoice_signView, State.placeVoice_signView] | split

theorem State.countSlot_signView (s : State) (k : Fin 8) (f : SlotCounters → SlotCounters) :
    (s.countSlot k f).signView = s.signView := by
  simp only [State.countSlot, State.modSlot_signView]

theorem State.forwardReading_signView (s : State) (k : Fin 8) (drop : Fin 4) (address : BitVec 5) (x : Reading) (speed : Option Nat) :
    (s.forwardReading k drop address x speed).signView = s.signView := by
  unfold State.forwardReading
  repeat' first | (with_reducible rfl) | simp only [State.countSlot_signView, State.join_signView] | split

theorem State.weatherOffline_signView (s : State) (k : Fin 8) :
    (s.weatherOffline k).signView = s.signView := by
  unfold State.weatherOffline
  repeat' first | (with_reducible rfl) | simp only [State.modSlot_signView, State.notify_signView] | split

theorem State.noticeRule_signView (s : State) (i : Fin 32) :
    (s.noticeRule i).signView = s.signView := by
  simp only [State.noticeRule, State.notify_signView]

theorem State.voicePayload_signView (s : State) (slot : Fin 32) :
    (s.voicePayload slot).2.signView = s.signView := by
  unfold State.voicePayload
  repeat' first | (with_reducible rfl) | simp only [State.playStep_signView] | split

theorem State.beginExchange_signView (s : State) (d : Fin 4) (x : Exchange) (count : DropCounters → DropCounters) :
    (s.beginExchange d x count).signView = s.signView := by
  simp only [State.beginExchange, State.modDrop_signView]

theorem State.beginBroadcast_signView (s : State) (d : Fin 4) :
    (s.beginBroadcast d).signView = s.signView := by
  simp only [State.beginBroadcast, State.modDrop_signView, State.beginExchange_signView]

theorem State.beginVoice_signView (s : State) (d : Fin 4) (slot : Fin 32) :
    (s.beginVoice d slot).signView = s.signView := by
  unfold State.beginVoice
  repeat' first | (with_reducible rfl) | simp only [State.beginExchange_signView, State.voicePayload_signView] | split

theorem State.dueComes_signView (s : State) (slot : Fin 32) (due : Option Nat) :
    (s.dueComes slot due).signView = s.signView := by
  simp only [State.dueComes, State.modStation_signView]

theorem State.seatReleased_signView (s : State) (slot : Fin 32) :
    (s.seatReleased slot).signView = s.signView := by
  simp only [State.seatReleased, State.modStation_signView]

theorem State.countCalls_signView (s : State) (f : CallCounters → CallCounters) :
    (s.countCalls f).signView = s.signView := by
  simp only [State.countCalls, State.modCalls_signView]

theorem State.sendCall_signView (s : State) (subtype : BitVec 4) (seq : Byte) (body : List Byte) :
    (s.sendCall subtype seq body).signView = s.signView := by
  unfold State.sendCall
  repeat' first | (with_reducible rfl) | simp only [State.countCalls_signView, State.join_signView] | split

theorem State.sendRequest_signView (s : State) (r : Fin 16) :
    (s.sendRequest r).signView = s.signView := by
  simp only [State.sendRequest, State.sendCall_signView]

theorem State.sendResume_signView (s : State) (r : Fin 16) :
    (s.sendResume r).signView = s.signView := by
  simp only [State.sendResume, State.sendCall_signView]

theorem State.sendClear_signView (s : State) (r : Fin 16) (reason : ClearReason) :
    (s.sendClear r reason).signView = s.signView := by
  simp only [State.sendClear, State.sendCall_signView]

theorem State.enterCalling_signView (s : State) (r : Fin 16) (lane : Fin 64) :
    (s.enterCalling r lane).signView = s.signView := by
  unfold State.enterCalling
  repeat' first | (with_reducible rfl) | simp only [State.modCalls_signView, State.modLane_signView, State.modRecord_signView, State.countCalls_signView, State.sendRequest_signView] | split

theorem State.tryCalling_signView (s : State) (r : Fin 16) :
    (s.tryCalling r).signView = s.signView := by
  unfold State.tryCalling
  repeat' first | (with_reducible rfl) | simp only [State.enterCalling_signView] | split

theorem State.testSeized_signView (s : State) :
    (s.testSeized).signView = s.signView := by
  simp only [State.testSeized, State.tryCalling_signView, State.forEach_signView, implies_true]

theorem State.leaveWaitList_signView (s : State) (slot : Fin 32) :
    (s.leaveWaitList slot).signView = s.signView := by
  unfold State.leaveWaitList
  repeat' first | (with_reducible rfl) | simp only [State.modCalls_signView, State.notify_signView] | split

theorem State.releaseSeat_signView (s : State) (r : Fin 16) :
    (s.releaseSeat r).signView = s.signView := by
  unfold State.releaseSeat
  repeat' first | (with_reducible rfl) | simp only [State.seatReleased_signView] | split

theorem State.unbind_signView (s : State) (r : Fin 16) :
    (s.unbind r).signView = s.signView := by
  unfold State.unbind
  repeat' first | (with_reducible rfl) | simp only [State.modLane_signView] | split

theorem State.clearRecord_signView (s : State) (r : Fin 16) :
    (s.clearRecord r).signView = s.signView := by
  simp only [State.clearRecord, State.modRecord_signView, State.unbind_signView, State.releaseSeat_signView]

theorem State.unknownCall_signView (s : State) :
    (s.unknownCall).signView = s.signView := by
  simp only [State.unknownCall, State.countCalls_signView]

theorem State.lateSignal_signView (s : State) :
    (s.lateSignal).signView = s.signView := by
  simp only [State.lateSignal, State.countCalls_signView]

theorem State.connectCall_signView (s : State) (r : Fin 16) :
    (s.connectCall r).signView = s.signView := by
  simp only [State.connectCall, State.modRecord_signView, State.countCalls_signView, answered]

theorem State.queueCall_signView (s : State) (r : Fin 16) :
    (s.queueCall r).signView = s.signView := by
  simp only [State.queueCall, State.modRecord_signView]

theorem State.takeHeld_signView (s : State) (r : Fin 16) :
    (s.takeHeld r).signView = s.signView := by
  unfold State.takeHeld
  repeat' first | (with_reducible rfl) | simp only [State.queueCall_signView, State.lateSignal_signView] | split

theorem State.takeAnswer_signView (s : State) (r : Fin 16) :
    (s.takeAnswer r).signView = s.signView := by
  unfold State.takeAnswer
  repeat' first | (with_reducible rfl) | simp only [State.connectCall_signView, State.lateSignal_signView] | split

theorem State.callingExpires_signView (s : State) (r : Fin 16) :
    (s.callingExpires r).signView = s.signView := by
  unfold State.callingExpires
  repeat' first | (with_reducible rfl) | simp only [State.modRecord_signView, State.sendRequest_signView] | split

theorem State.isolatedSignals_signView (s : State) (r : Fin 16) :
    (s.isolatedSignals r).signView = s.signView := by
  unfold State.isolatedSignals
  repeat' first | (with_reducible rfl) | simp only [State.modRecord_signView, State.sendResume_signView, State.sendRequest_signView] | split

theorem State.callsIsolated_signView (s : State) :
    (s.callsIsolated).signView = s.signView := by
  simp only [State.callsIsolated, State.modRecord_signView, State.countCalls_signView, State.forEach_signView, implies_true]

theorem State.callsHealed_signView (s : State) :
    (s.callsHealed).signView = s.signView := by
  simp only [State.callsHealed, State.isolatedSignals_signView, State.testSeized_signView, State.forEach_signView, implies_true]

theorem State.forceClear_signView (s : State) (r : Fin 16) :
    (s.forceClear r).signView = s.signView := by
  unfold State.forceClear
  repeat' first | (with_reducible rfl) | simp only [State.modRecord_signView, State.countCalls_signView, State.sendClear_signView] | split

theorem State.restartCalls_signView (s : State) :
    (s.restartCalls).signView = s.signView := by
  unfold State.restartCalls
  repeat' first | (with_reducible rfl) | simp only [State.modCalls_signView, State.forceClear_signView, State.notify_signView, State.clearRecord_signView, State.forEach_signView, implies_true] | split

theorem State.countDrop_signView (s : State) (d : Fin 4) (f : DropCounters → DropCounters) :
    (s.countDrop d f).signView = s.signView := by
  simp only [State.countDrop, State.modDrop_signView]

theorem State.noticeStation_signView (s : State) (x : Snapshot) (before : StationState) :
    (s.noticeStation x before).signView = s.signView := by
  unfold State.noticeStation
  repeat' first | (with_reducible rfl) | simp only [State.notify_signView] | split

theorem State.reportVoice_signView (s : State) (x : Snapshot) (voice : Bool) (o : ExchangeEnd) :
    (s.reportVoice x voice o).signView = s.signView := by
  unfold State.reportVoice
  repeat' first | (with_reducible rfl) | simp only [State.voiceOutcome_signView] | split

theorem State.lineIdle_signView (s : State) (d : Fin 4) :
    (s.lineIdle d).signView = s.signView := by
  simp only [State.lineIdle, State.modDrop_signView]

theorem State.countBad_signView (s : State) (d : Fin 4) (o : ExchangeEnd) :
    (s.countBad d o).signView = s.signView := by
  unfold State.countBad
  repeat' first | (with_reducible rfl) | simp only [State.countDrop_signView] | split

theorem State.countUnsolicited_signView (s : State) (d : Fin 4) :
    (s.countUnsolicited d).signView = s.signView := by
  simp only [State.countUnsolicited, State.countDrop_signView]

theorem State.supplyToJournal_signView (s : State) (old new : SupplyState) :
    (s.supplyToJournal old new).signView = s.signView := by
  unfold State.supplyToJournal
  repeat' first | (with_reducible rfl) | simp only [State.journalHoldup_signView, State.journalHoldupEnds_signView] | split

theorem State.setBroadcasts_signView (s : State) :
    (s.setBroadcasts).signView = s.signView := by
  simp only [State.setBroadcasts, State.modPoll_signView]

theorem State.negateFeedLost_signView (s : State) :
    (s.negateFeedLost).signView = s.signView := by
  unfold State.negateFeedLost
  repeat' first | (with_reducible rfl) | simp only [State.modSup_signView] | split

theorem State.clearRing_signView (s : State) :
    (s.clearRing).signView = s.signView := by
  unfold State.clearRing
  repeat' first | (with_reducible rfl) | simp only [State.modRing_signView, State.modProt_signView] | split

theorem State.clearDrop_signView (s : State) :
    (s.clearDrop).signView = s.signView := by
  simp only [State.clearDrop, State.modPoll_signView]

theorem State.clearCalls_signView (s : State) :
    (s.clearCalls).signView = s.signView := by
  simp only [State.clearCalls, State.modCalls_signView]

theorem State.clearJournal_signView (s : State) :
    (s.clearJournal).signView = s.signView := by
  simp only [State.clearJournal, State.modJrnl_signView, State.modCtl_signView]

theorem State.clearSupply_signView (s : State) :
    (s.clearSupply).signView = s.signView := by
  simp only [State.clearSupply, State.modSup_signView]

theorem State.clearLanes_signView (s : State) :
    (s.clearLanes).signView = s.signView := by
  simp only [State.clearLanes, State.modLanes_signView]

theorem State.clearSlots_signView (s : State) :
    (s.clearSlots).signView = s.signView := by
  simp only [State.clearSlots, State.modSlots_signView, State.modAgent_signView]

theorem State.writeLane_signView (s : State) (i : Fin 64) (l : List Byte) :
    (s.writeLane i l).2.signView = s.signView := by
  unfold State.writeLane
  repeat' first | (with_reducible rfl) | simp only [State.modLane_signView, State.testSeized_signView, State.offerTolls_signView] | split

theorem State.writeSlotEntry_signView (s : State) (k : Fin 8) (l : List Byte) :
    (s.writeSlotEntry k l).2.signView = s.signView := by
  unfold State.writeSlotEntry
  repeat' first | (with_reducible rfl) | simp only [State.modSlot_signView] | split

theorem State.writeParams_signView (s : State) (l : List Byte) :
    (s.writeParams l).2.signView = s.signView := by
  unfold State.writeParams
  repeat' first | (with_reducible rfl) | simp only [State.modAgent_signView] | split

theorem State.cutSlot_signView (s : State) (slot : Nat) :
    (s.cutSlot slot).signView = s.signView := by
  unfold State.cutSlot
  rw [State.spend_signView, State.putSlot_signView]

theorem State.cutMark_signView (s : State) (slot : Nat) :
    (s.cutMark slot).signView = s.signView := by
  simp only [State.cutMark, State.spend_signView, State.putMark_signView]

theorem State.cutShort_signView (s : State) :
    (s.cutShort).signView = s.signView := by
  unfold State.cutShort
  repeat' first | (with_reducible rfl) | simp only [State.cutMark_signView, State.cutSlot_signView] | split

theorem State.rescan_signView (s : State) :
    (s.rescan).signView = s.signView := by
  unfold State.rescan
  repeat' first | (with_reducible rfl) | simp only [State.modCtl_signView, State.scanRead_signView] | split

theorem State.restartCustody_signView (s : State) :
    (s.restartCustody).signView = s.signView := by
  unfold State.restartCustody
  repeat' first | (with_reducible rfl) | simp only [State.rescan_signView, State.restartJournal_signView] | split

theorem State.unbindAll_signView (s : State) :
    (s.unbindAll).signView = s.signView := by
  simp only [State.unbindAll, State.modLanes_signView]

theorem State.restartWeather_signView (s : State) :
    (s.restartWeather).signView = s.signView := by
  simp only [State.restartWeather, State.modSlots_signView]

theorem State.beginSave_signView (s : State) (src : NodeId) (tag : Byte) :
    (s.beginSave src tag).signView = s.signView := by
  simp only [State.beginSave, State.modCtl_signView, State.modAgent_signView, State.storeKick_signView]

theorem State.reply_signView (s : State) (c : Command) (a : Answer) :
    (s.reply c a).signView = s.signView := by
  unfold State.reply
  repeat' first | (with_reducible rfl) | simp only [State.modAgent_signView] | split

theorem State.passReply_signView (s : State) (b : Block) (rest : List Block) :
    (s.passReply b rest).signView = s.signView := by
  simp only [State.passReply, State.modAgent_signView, State.join_signView]

theorem State.noticeTurn_signView (s : State) (t : State) (h : s.noticeTurn = some t) :
    t.signView = s.signView := by
  unfold State.noticeTurn at h
  split at h
  · cases h; exact State.passNotice_signView s
  · cases h

theorem State.refuseBusy_signView (s : State) (c : Command) :
    (s.refuseBusy c).signView = s.signView := by
  unfold State.refuseBusy
  repeat' first | (with_reducible rfl) | simp only [State.modAgent_signView, State.join_signView] | split

theorem State.countMismatch_signView (s : State) :
    (s.countMismatch).signView = s.signView := by
  simp only [State.countMismatch, State.modCtl_signView]

theorem State.commitCompletes_signView (s : State) (slot : Nat) (bytes : List Byte) (got : ReadBack) :
    (s.commitCompletes slot bytes got).signView = s.signView := by
  unfold State.commitCompletes
  repeat' first | (with_reducible rfl) | simp only [State.commitMismatches_signView, State.storeKick_signView, State.commitSucceeds_signView, State.countMismatch_signView, State.endOp_signView, State.afterRead_signView] | split

theorem State.markCompletes_signView (s : State) (slot : Nat) :
    (s.markCompletes slot).signView = s.signView := by
  simp only [State.markCompletes, State.modJrnl_signView, State.putMark_signView, State.storeKick_signView, State.endOp_signView]

theorem State.readCompletes_signView (s : State) (serial slot : Nat) (live : Bool) (got : ReadBack) :
    (s.readCompletes serial slot live got).signView = s.signView := by
  unfold State.readCompletes
  repeat' first | (with_reducible rfl) | simp only [State.readDone_signView, State.storeKick_signView, State.endOp_signView, State.afterRead_signView] | split

theorem State.saveMarkCompletes_signView (s : State) :
    (s.saveMarkCompletes).signView = s.signView := by
  simp only [State.saveMarkCompletes, State.modCtl_signView, State.putMark_signView, State.storeKick_signView, State.endOp_signView]

theorem State.loadRead_signView (s : State) (slot : Nat) :
    (s.loadRead slot).signView = s.signView := by
  simp only [State.loadRead, State.startStep_signView]

theorem State.noteLoad_signView (s : State) (o : LoadOutcome) :
    (s.noteLoad o).signView = s.signView := by
  unfold State.noteLoad
  repeat' first | (with_reducible rfl) | simp only [State.notify_signView] | split

theorem State.spoilHeader_signView (s : State) (slot : Nat) :
    (s.spoilHeader slot).signView = s.signView := by
  unfold State.spoilHeader
  repeat' first | (with_reducible rfl) | simp only [State.cutSlot_signView] | split

theorem State.looseSlot_signView (s : State) (slot : Nat) :
    (s.looseSlot slot).signView = s.signView := by
  simp only [State.looseSlot, State.spend_signView, State.putSlot_signView]

theorem State.looseHeaderMark_signView (s : State) :
    (s.looseHeaderMark).signView = s.signView := by
  simp only [State.looseHeaderMark, State.spend_signView, State.putMark_signView]

theorem State.abandonWrite_signView (s : State) :
    (s.abandonWrite).signView = s.signView := by
  unfold State.abandonWrite
  repeat' first | (with_reducible rfl) | simp only [State.cutSlot_signView, State.cutMark_signView, State.looseSlot_signView, State.looseHeaderMark_signView] | split

theorem State.countTimeout_signView (s : State) :
    (s.countTimeout).signView = s.signView := by
  simp only [State.countTimeout, State.modCtl_signView]

theorem State.scanResumes_signView (s : State) :
    (s.scanResumes).signView = s.signView := by
  simp only [State.scanResumes, State.modJrnl_signView]

theorem State.enterIsolated_signView (s : State) :
    (s.enterIsolated).signView = s.signView := by
  simp only [State.enterIsolated, State.modRing_signView, State.modProt_signView, State.journalIsolated_signView, State.callsIsolated_signView]

theorem State.noticeLink_signView (s : State) (p : Side) (cause : Option LinkCause) :
    (s.noticeLink p cause).signView = s.signView := by
  unfold State.noticeLink
  repeat' first | (with_reducible rfl) | simp only [State.notify_signView] | split

theorem State.offerKeep_signView (s : State) (p : Side) :
    (s.offerKeep p).signView = s.signView := by
  simp only [State.offerKeep, State.offerRing_signView]

theorem State.countRx_signView (s : State) (p : Side) (f : RxCounters → RxCounters) :
    (s.countRx p f).signView = s.signView := by
  simp only [State.countRx, State.modRing_signView]

theorem State.countDir_signView (s : State) (d : Dir) (f : DirCounters → DirCounters) :
    (s.countDir d f).signView = s.signView := by
  simp only [State.countDir, State.modRing_signView]

theorem State.modSender_signView (s : State) (d : Dir) (f : HoldSender → HoldSender) :
    (s.modSender d f).signView = s.signView := by
  simp only [State.modSender, State.modRing_signView]

theorem State.sendHoldoff_signView (s : State) (d : Dir) :
    (s.sendHoldoff d).signView = s.signView := by
  simp only [State.sendHoldoff, State.offerRing_signView, State.modSender_signView]

theorem State.sendRelease_signView (s : State) (d : Dir) :
    (s.sendRelease d).signView = s.signView := by
  simp only [State.sendRelease, State.offerRing_signView, State.modSender_signView]

theorem State.afterJoin_signView (s : State) (d : Dir) :
    (s.afterJoin d).signView = s.signView := by
  unfold State.afterJoin
  repeat' first | (with_reducible rfl) | simp only [State.sendHoldoff_signView] | split

theorem State.afterDeparture_signView (s : State) (d : Dir) :
    (s.afterDeparture d).signView = s.signView := by
  unfold State.afterDeparture
  repeat' first | (with_reducible rfl) | simp only [State.sendRelease_signView] | split

theorem State.setBuffer_signView (s : State) (d : Dir) (l : List Block) :
    (s.setBuffer d l).signView = s.signView := by
  simp only [State.setBuffer, State.modRing_signView]

theorem State.overflow_signView (s : State) (d : Dir) (b : Block) :
    (s.overflow d b).signView = s.signView := by
  unfold State.overflow
  repeat' first | (with_reducible rfl) | simp only [State.setBuffer_signView, State.countDir_signView] | split

theorem State.joinTransit_signView (s : State) (d : Dir) (b : Block) :
    (s.joinTransit d b).signView = s.signView := by
  unfold State.joinTransit
  repeat' first | (with_reducible rfl) | simp only [State.setBuffer_signView, State.afterJoin_signView, State.overflow_signView] | split

theorem State.forward_signView (s : State) (d : Dir) (b : Block) :
    (s.forward d b).signView = s.signView := by
  unfold State.forward
  repeat' first | (with_reducible rfl) | simp only [State.countDir_signView, State.joinTransit_signView] | split

theorem State.takeHoldoff_signView (s : State) (p : Side) :
    (s.takeHoldoff p).signView = s.signView := by
  simp only [State.takeHoldoff, State.modOut_signView]

theorem State.takeRelease_signView (s : State) (p : Side) :
    (s.takeRelease p).signView = s.signView := by
  simp only [State.takeRelease, State.modOut_signView]

theorem State.countMalformed_signView (s : State) (p : Side) :
    (s.countMalformed p).signView = s.signView := by
  simp only [State.countMalformed, State.countRx_signView]

theorem State.send_signView (s : State) (p : Side) (b : Block) :
    (s.send p b).signView = s.signView := by
  unfold State.send
  repeat' first | (with_reducible rfl) | simp only [State.modRing_signView, State.modOut_signView] | split

theorem State.unlessRepeater_signView (s : State) (f : State → State) (h : (f s).signView = s.signView) :
    (s.unlessRepeater f).signView = s.signView := by
  unfold State.unlessRepeater
  split
  · rfl
  · exact h

end Sys2Proof.Machine
end

