-- ==== Sys2Proof/Laws/FrameStations.lean ====
section
/-! SUPPORT. The operations that leave the station table but for its due times. -/

namespace Sys2Proof.Machine

/-- The station table without its due times and their marks. -/
def State.stationView (s : State) : Vector Station 32 :=
  s.poll.stations.map fun e => { e with due := none, voiceDue := none, come := none }

/-- A change of one entry's due times. -/
theorem stations_due (s : State) (i : Fin 32) (f : Station → Station)
    (hf : ∀ e, { f e with due := none, voiceDue := none, come := none } = ({ e with due := none, voiceDue := none, come := none } : Station)) :
    (s.modStation i f).stationView = s.stationView := by
  unfold State.stationView
  ext1 j hj
  show (((updAt s.poll.stations i f).map _)[j]) = ((s.poll.stations.map _)[j])
  rw [Vector.getElem_map, Vector.getElem_map]
  by_cases h : i.val = j
  · subst h; rw [updAt_get_self]; exact hf _
  · have := updAt_get_other s.poll.stations i ⟨j, hj⟩ f fun e => h (congrArg Fin.val e)
    rw [show (updAt s.poll.stations i f)[j] = s.poll.stations[j] from this]

theorem State.modRing_stationView (s : State) (f : RingTransit → RingTransit) :
    (s.modRing f).stationView = s.stationView := rfl

theorem State.modLanes_stationView (s : State) (f : Vector LaneEntry 64 → Vector LaneEntry 64) :
    (s.modLanes f).stationView = s.stationView := rfl

theorem State.modProt_stationView (s : State) (f : Protection → Protection) :
    (s.modProt f).stationView = s.stationView := rfl

theorem State.modCalls_stationView (s : State) (f : CallEngine → CallEngine) :
    (s.modCalls f).stationView = s.stationView := rfl

theorem State.modJrnl_stationView (s : State) (f : Journal → Journal) :
    (s.modJrnl f).stationView = s.stationView := rfl

theorem State.modCtl_stationView (s : State) (f : StoreController → StoreController) :
    (s.modCtl f).stationView = s.stationView := rfl

theorem State.modNv_stationView (s : State) (f : Memory → Memory) :
    (s.modNv f).stationView = s.stationView := rfl

theorem State.modSlots_stationView (s : State) (f : Vector ReductionSlot 8 → Vector ReductionSlot 8) :
    (s.modSlots f).stationView = s.stationView := rfl

theorem State.modRules_stationView (s : State) (f : Vector Rule 32 → Vector Rule 32) :
    (s.modRules f).stationView = s.stationView := rfl

theorem State.modSign_stationView (s : State) (f : SignService → SignService) :
    (s.modSign f).stationView = s.stationView := rfl

theorem State.modSup_stationView (s : State) (f : Supply → Supply) :
    (s.modSup f).stationView = s.stationView := rfl

theorem State.modAgent_stationView (s : State) (f : Agent → Agent) :
    (s.modAgent f).stationView = s.stationView := rfl

theorem State.modLane_stationView (s : State) (i : Fin 64) (f : LaneEntry → LaneEntry) :
    (s.modLane i f).stationView = s.stationView := rfl

theorem State.modDrop_stationView (s : State) (i : Fin 4) (f : Drop → Drop) :
    (s.modDrop i f).stationView = s.stationView := rfl

theorem State.modRecord_stationView (s : State) (i : Fin 16) (f : CallRecord → CallRecord) :
    (s.modRecord i f).stationView = s.stationView := rfl

theorem State.modAnswers_stationView (s : State) (i : Fin 32) (f : List AnswerEntry → List AnswerEntry) :
    (s.modAnswers i f).stationView = s.stationView := rfl

theorem State.modSlot_stationView (s : State) (i : Fin 8) (f : ReductionSlot → ReductionSlot) :
    (s.modSlot i f).stationView = s.stationView := rfl

theorem State.modRule_stationView (s : State) (i : Fin 32) (f : Rule → Rule) :
    (s.modRule i f).stationView = s.stationView := rfl

theorem State.modSignRec_stationView (s : State) (i : Fin 12) (f : Sign → Sign) :
    (s.modSignRec i f).stationView = s.stationView := rfl

theorem State.modPort_stationView (s : State) (i : Side) (f : RxPort → RxPort) :
    (s.modPort i f).stationView = s.stationView := rfl

theorem State.modOut_stationView (s : State) (i : Side) (f : OutPort → OutPort) :
    (s.modOut i f).stationView = s.stationView := rfl

theorem State.spend_stationView (s : State) (n : Nat) :
    (s.spend n).stationView = s.stationView := rfl

theorem State.reach_stationView (s : State) (n : Nat) :
    (s.reach n).stationView = s.stationView := rfl

/-- A loop whose steps leave it leaves it. -/
theorem State.forEach_stationView {α : Type} (f : α → State → State) (h : ∀ a t, (f a t).stationView = t.stationView) (l : List α) :
    ∀ s : State, (s.forEach l f).stationView = s.stationView := by
  induction l with
  | nil => intro s; rfl
  | cons a l ih => intro s; exact (ih (f a s)).trans (h a s)


theorem State.putSlot_stationView (s : State) (slot : Nat) (l : List Byte) :
    (s.putSlot slot l).stationView = s.stationView := by
  simp only [State.putSlot, State.modNv_stationView]

theorem State.putMark_stationView (s : State) (slot : Nat) (mark : Byte) :
    (s.putMark slot mark).stationView = s.stationView := by
  simp only [State.putMark, State.modNv_stationView]

theorem State.afterRead_stationView (s : State) (slot : Nat) (got : ReadBack) :
    (s.afterRead slot got).stationView = s.stationView := by
  unfold State.afterRead
  repeat' first | (with_reducible rfl) | simp only [State.putSlot_stationView] | split

theorem State.join_stationView (s : State) (q : LocalQueue) (b : Block) :
    (s.join q b).stationView = s.stationView := by
  unfold State.join
  repeat' first | (with_reducible rfl) | simp only [State.modRing_stationView] | split

theorem State.offerRing_stationView (s : State) (port : Side) (subtype : BitVec 4) (body : List Byte) :
    (s.offerRing port subtype body).stationView = s.stationView := by
  unfold State.offerRing
  repeat' first | (with_reducible rfl) | simp only [State.modRing_stationView] | split

theorem State.passNotice_stationView (s : State) :
    (s.passNotice).stationView = s.stationView := by
  unfold State.passNotice
  repeat' first | (with_reducible rfl) | simp only [State.modAgent_stationView, State.join_stationView] | split

theorem State.offerNotice_stationView (s : State) :
    (s.offerNotice).stationView = s.stationView := by
  unfold State.offerNotice
  repeat' first | (with_reducible rfl) | simp only [State.passNotice_stationView] | split

theorem State.notify_stationView (s : State) (body : NoticeBody) :
    (s.notify body).stationView = s.stationView := by
  unfold State.notify
  repeat' first | (with_reducible rfl) | simp only [State.modAgent_stationView, State.offerNotice_stationView] | split

theorem State.startStep_stationView (s : State) (op : StoreOp) :
    (s.startStep op).stationView = s.stationView := by
  simp only [State.startStep, State.modCtl_stationView]

theorem State.startOp_stationView (s : State) (op : StoreOp) :
    (s.startOp op).stationView = s.stationView := by
  simp only [State.startOp, State.modCtl_stationView, State.startStep_stationView]

theorem State.startCommit_stationView (s : State) :
    (s.startCommit).stationView = s.stationView := by
  unfold State.startCommit
  repeat' first | (with_reducible rfl) | simp only [State.modJrnl_stationView, State.startOp_stationView] | split

theorem State.startRead_stationView (s : State) (serial : Nat) (rest : List Nat) :
    (s.startRead serial rest).stationView = s.stationView := by
  unfold State.startRead
  repeat' first | (with_reducible rfl) | simp only [State.modJrnl_stationView, State.modCtl_stationView, State.startOp_stationView] | split

theorem State.startSave_stationView (s : State) (sv : Save) :
    (s.startSave sv).stationView = s.stationView := by
  unfold State.startSave
  repeat' first | (with_reducible rfl) | simp only [State.startOp_stationView] | split

theorem State.storeKick_stationView (s : State) :
    (s.storeKick).stationView = s.stationView := by
  unfold State.storeKick
  repeat' first | (with_reducible rfl) | simp only [State.startCommit_stationView, State.startOp_stationView, State.startSave_stationView, State.startRead_stationView] | split

theorem State.scanRead_stationView (s : State) (slot : Nat) :
    (s.scanRead slot).stationView = s.stationView := by
  simp only [State.scanRead, State.startStep_stationView]

theorem State.endOp_stationView (s : State) :
    (s.endOp).stationView = s.stationView := by
  unfold State.endOp
  repeat' first | (with_reducible rfl) | simp only [State.modCtl_stationView, State.scanRead_stationView] | split

theorem State.startVerify_stationView (s : State) (slot : Nat) (bytes : List Byte) (op : StoreOp) :
    (s.startVerify slot bytes op).stationView = s.stationView := by
  simp only [State.startVerify, State.startStep_stationView, State.putSlot_stationView]

theorem State.deliverVerdict_stationView (s : State) (t : Txn) (v : Verdict) :
    (s.deliverVerdict t v).stationView = s.stationView := by
  unfold State.deliverVerdict
  repeat' first | (with_reducible rfl) | simp only [State.modJrnl_stationView, State.modAnswers_stationView] | split

theorem State.emptyAnswers_stationView (s : State) (slot : Fin 32) :
    (s.emptyAnswers slot).stationView = s.stationView := by
  simp only [State.emptyAnswers, State.modJrnl_stationView, State.modAnswers_stationView]

theorem State.emptyReadAhead_stationView (s : State) :
    (s.emptyReadAhead).stationView = s.stationView := by
  simp only [State.emptyReadAhead, State.modJrnl_stationView, State.modCtl_stationView]

theorem State.requestRead_stationView (s : State) (serial : Nat) :
    (s.requestRead serial).stationView = s.stationView := by
  simp only [State.requestRead, State.modJrnl_stationView, State.modCtl_stationView, State.storeKick_stationView]

theorem State.requestReadsUpTo_stationView (s : State) (n : Nat) :
    (s.requestReadsUpTo n).stationView = s.stationView := by
  induction n generalizing s with
  | zero => rfl
  | succ n ih =>
    unfold State.requestReadsUpTo
    repeat' first | (with_reducible rfl) | simp only [State.requestRead_stationView, ih] | split

theorem State.requestReads_stationView (s : State) :
    (s.requestReads).stationView = s.stationView := by
  simp only [State.requestReads, State.requestReadsUpTo_stationView]

theorem State.offerTollsUpTo_stationView (s : State) (n : Nat) :
    (s.offerTollsUpTo n).stationView = s.stationView := by
  induction n generalizing s with
  | zero => rfl
  | succ n ih =>
    unfold State.offerTollsUpTo
    repeat' first | (with_reducible rfl) | simp only [State.modJrnl_stationView, State.requestReads_stationView, State.join_stationView, ih] | split

theorem State.offerTolls_stationView (s : State) :
    (s.offerTolls).stationView = s.stationView := by
  simp only [State.offerTolls, State.offerTollsUpTo_stationView]

theorem State.revert_stationView (s : State) :
    (s.revert).stationView = s.stationView := by
  simp only [State.revert, State.modJrnl_stationView, State.modCtl_stationView, State.requestReads_stationView]

theorem State.retime_stationView (s : State) :
    (s.retime).stationView = s.stationView := by
  unfold State.retime
  repeat' first | (with_reducible rfl) | simp only [State.revert_stationView] | split

theorem State.testFull_stationView (s : State) :
    (s.testFull).stationView = s.stationView := by
  unfold State.testFull
  repeat' first | (with_reducible rfl) | simp only [State.modJrnl_stationView, State.notify_stationView] | split

theorem State.testHighMark_stationView (s : State) :
    (s.testHighMark).stationView = s.stationView := by
  unfold State.testHighMark
  repeat' first | (with_reducible rfl) | simp only [State.modJrnl_stationView, State.notify_stationView] | split

theorem State.journalHoldup_stationView (s : State) :
    (s.journalHoldup).stationView = s.stationView := by
  unfold State.journalHoldup
  repeat' first | (with_reducible rfl) | simp only [State.modJrnl_stationView] | split

theorem State.journalHoldupEnds_stationView (s : State) :
    (s.journalHoldupEnds).stationView = s.stationView := by
  unfold State.journalHoldupEnds
  repeat' first | (with_reducible rfl) | simp only [State.modJrnl_stationView, State.storeKick_stationView] | split

theorem State.journalFault_stationView (s : State) (cause : StoreCause) :
    (s.journalFault cause).stationView = s.stationView := by
  unfold State.journalFault
  repeat' first | (with_reducible rfl) | simp only [State.modJrnl_stationView, State.notify_stationView, State.emptyReadAhead_stationView, State.deliverVerdict_stationView, State.forEach_stationView, implies_true] | split

theorem State.giveVerdict_stationView (s : State) (slot : Fin 32) (number : BitVec 16) (v : Verdict) :
    (s.giveVerdict slot number v).stationView = s.stationView := by
  unfold State.giveVerdict
  repeat' first | (with_reducible rfl) | simp only [State.modJrnl_stationView, State.modAnswers_stationView] | split

theorem State.judgeTxn_stationView (s : State) (slot : Fin 32) (drop : Fin 4) (address : BitVec 5) (number : BitVec 16) (body : List Byte) :
    (s.judgeTxn slot drop address number body).stationView = s.stationView := by
  unfold State.judgeTxn
  repeat' first | (with_reducible rfl) | simp only [State.modJrnl_stationView, State.modAnswers_stationView, State.giveVerdict_stationView, State.storeKick_stationView] | split

theorem State.takeTxn_stationView (s : State) (slot : Fin 32) (drop : Fin 4) (address : BitVec 5) (number : BitVec 16) (body : List Byte) :
    (s.takeTxn slot drop address number body).stationView = s.stationView := by
  unfold State.takeTxn
  repeat' first | (with_reducible rfl) | simp only [State.modJrnl_stationView, State.modAnswers_stationView, State.judgeTxn_stationView] | split

theorem State.carryAnswers_stationView (s : State) (slot : Fin 32) :
    (s.carryAnswers slot).stationView = s.stationView := by
  simp only [State.carryAnswers, State.modAnswers_stationView]

theorem State.answersOutcome_stationView (s : State) (slot : Fin 32) (good : Bool) :
    (s.answersOutcome slot good).stationView = s.stationView := by
  unfold State.answersOutcome
  repeat' first | (with_reducible rfl) | simp only [State.modJrnl_stationView, State.modAnswers_stationView] | split

theorem State.commitSucceeds_stationView (s : State) (h : InHand) :
    (s.commitSucceeds h).stationView = s.stationView := by
  simp only [State.commitSucceeds, State.modJrnl_stationView, State.requestReads_stationView, State.testHighMark_stationView, State.deliverVerdict_stationView, State.testFull_stationView]

theorem State.commitMismatches_stationView (s : State) (h : InHand) :
    (s.commitMismatches h).stationView = s.stationView := by
  unfold State.commitMismatches
  repeat' first | (with_reducible rfl) | simp only [State.modJrnl_stationView, State.journalFault_stationView, State.testFull_stationView] | split

theorem State.readDone_stationView (s : State) (serial slot : Nat) (l : List Byte) :
    (s.readDone serial slot l).stationView = s.stationView := by
  unfold State.readDone
  repeat' first | (with_reducible rfl) | simp only [State.modJrnl_stationView, State.modCtl_stationView, State.storeKick_stationView, State.offerTolls_stationView] | split

theorem State.releaseOldest_stationView (s : State) :
    (s.releaseOldest).stationView = s.stationView := by
  unfold State.releaseOldest
  repeat' first | (with_reducible rfl) | simp only [State.modJrnl_stationView, State.modCtl_stationView, State.storeKick_stationView] | split

theorem State.release_stationView (s : State) (n : Nat) :
    (s.release n).stationView = s.stationView := by
  induction n generalizing s with
  | zero => rfl
  | succ n ih =>
    unfold State.release
    repeat' first | (with_reducible rfl) | simp only [State.releaseOldest_stationView, ih] | split

theorem State.testReopened_stationView (s : State) :
    (s.testReopened).stationView = s.stationView := by
  unfold State.testReopened
  repeat' first | (with_reducible rfl) | simp only [State.modJrnl_stationView, State.storeKick_stationView] | split

theorem State.ack_stationView (s : State) (k : Nat) :
    (s.ack k).stationView = s.stationView := by
  unfold State.ack
  repeat' first | (with_reducible rfl) | simp only [State.modJrnl_stationView, State.release_stationView, State.testReopened_stationView, State.requestReads_stationView, State.offerTolls_stationView, State.retime_stationView] | split

theorem State.pull_stationView (s : State) (c : Nat) :
    (s.pull c).stationView = s.stationView := by
  simp only [State.pull, State.modJrnl_stationView, State.requestReads_stationView]

theorem State.drainEnd_stationView (s : State) :
    (s.drainEnd).stationView = s.stationView := by
  simp only [State.drainEnd, State.modJrnl_stationView, State.emptyReadAhead_stationView]

theorem State.controlDiscarded_stationView (s : State) :
    (s.controlDiscarded).stationView = s.stationView := by
  simp only [State.controlDiscarded, State.modJrnl_stationView]

theorem State.takeTollControl_stationView (s : State) (b : Block) :
    (s.takeTollControl b).stationView = s.stationView := by
  unfold State.takeTollControl
  repeat' first | (with_reducible rfl) | simp only [State.ack_stationView, State.drainEnd_stationView, State.controlDiscarded_stationView, State.pull_stationView] | split

theorem State.journalIsolated_stationView (s : State) (handed : List Nat) :
    (s.journalIsolated handed).stationView = s.stationView := by
  simp only [State.journalIsolated, State.modJrnl_stationView, State.retime_stationView, State.emptyReadAhead_stationView]

theorem State.restartJournal_stationView (s : State) :
    (s.restartJournal).stationView = s.stationView := by
  simp only [State.restartJournal, State.modJrnl_stationView, State.emptyReadAhead_stationView]

theorem State.countVoice_stationView (s : State) (r : Fin 16) (f : VoiceCounters → VoiceCounters) :
    (s.countVoice r f).stationView = s.stationView := by
  simp only [State.countVoice, State.modCalls_stationView, State.modRecord_stationView]

theorem State.modVoice_stationView (s : State) (r : Fin 16) (f : VoiceFields → VoiceFields) :
    (s.modVoice r f).stationView = s.stationView := by
  simp only [State.modVoice, State.modRecord_stationView]

theorem State.captureBlock_stationView (s : State) (r : Fin 16) (samples : List Byte) :
    (s.captureBlock r samples).stationView = s.stationView := by
  unfold State.captureBlock
  repeat' first | (with_reducible rfl) | simp only [State.countVoice_stationView, State.join_stationView] | split

theorem State.voiceOutcome_stationView (s : State) (slot : Fin 32) (o : VoiceOutcome) :
    (s.voiceOutcome slot o).stationView = s.stationView := by
  unfold State.voiceOutcome
  repeat' first | (with_reducible rfl) | simp only [State.modCalls_stationView, State.countVoice_stationView, State.captureBlock_stationView, State.modVoice_stationView] | split

theorem State.playStep_stationView (s : State) (r : Fin 16) :
    (s.playStep r).2.stationView = s.stationView := by
  unfold State.playStep
  repeat' first | (with_reducible rfl) | simp only [State.countVoice_stationView, State.modVoice_stationView] | split

theorem State.insertVoice_stationView (s : State) (r : Fin 16) (next : Byte) (f : VoiceFrame) :
    (s.insertVoice r next f).stationView = s.stationView := by
  simp only [State.insertVoice, State.countVoice_stationView, State.modVoice_stationView]

theorem State.resyncVoice_stationView (s : State) (r : Fin 16) (f : VoiceFrame) :
    (s.resyncVoice r f).stationView = s.stationView := by
  unfold State.resyncVoice
  repeat' first | (with_reducible rfl) | simp only [State.countVoice_stationView, State.modVoice_stationView] | split

theorem State.placeVoice_stationView (s : State) (r : Fin 16) (f : VoiceFrame) :
    (s.placeVoice r f).stationView = s.stationView := by
  unfold State.placeVoice
  repeat' first | (with_reducible rfl) | simp only [State.countVoice_stationView, State.resyncVoice_stationView, State.insertVoice_stationView] | split

theorem State.takeVoice_stationView (s : State) (r : Fin 16) (b : Block) :
    (s.takeVoice r b).stationView = s.stationView := by
  unfold State.takeVoice
  repeat' first | (with_reducible rfl) | simp only [State.countVoice_stationView, State.placeVoice_stationView] | split

theorem State.countSlot_stationView (s : State) (k : Fin 8) (f : SlotCounters → SlotCounters) :
    (s.countSlot k f).stationView = s.stationView := by
  simp only [State.countSlot, State.modSlot_stationView]

theorem State.forwardReading_stationView (s : State) (k : Fin 8) (drop : Fin 4) (address : BitVec 5) (x : Reading) (speed : Option Nat) :
    (s.forwardReading k drop address x speed).stationView = s.stationView := by
  unfold State.forwardReading
  repeat' first | (with_reducible rfl) | simp only [State.countSlot_stationView, State.join_stationView] | split

theorem State.weatherOffline_stationView (s : State) (k : Fin 8) :
    (s.weatherOffline k).stationView = s.stationView := by
  unfold State.weatherOffline
  repeat' first | (with_reducible rfl) | simp only [State.modSlot_stationView, State.notify_stationView] | split

theorem State.countSign_stationView (s : State) (k : Fin 12) (f : SignCounters → SignCounters) :
    (s.countSign k f).stationView = s.stationView := by
  simp only [State.countSign, State.modSignRec_stationView]

theorem State.arbitrate_stationView (s : State) (k : Fin 12) :
    (s.arbitrate k).stationView = s.stationView := by
  simp only [State.arbitrate, State.modSignRec_stationView]

theorem State.arbitrateSet_stationView (s : State) (m : BitVec 12) :
    (s.arbitrateSet m).stationView = s.stationView := by
  simp only [State.arbitrateSet, State.arbitrate_stationView, State.forEach_stationView, implies_true]

theorem State.noticeRule_stationView (s : State) (i : Fin 32) :
    (s.noticeRule i).stationView = s.stationView := by
  simp only [State.noticeRule, State.notify_stationView]

theorem State.settle_stationView (s : State) (also : BitVec 12) (but : Option (Fin 32)) :
    (s.settle also but).stationView = s.stationView := by
  unfold State.settle
  repeat' first | (with_reducible rfl) | simp only [State.modRules_stationView, State.noticeRule_stationView, State.arbitrateSet_stationView, State.forEach_stationView, implies_true] | split

theorem State.evaluate_stationView (s : State) (k : Fin 8) :
    (s.evaluate k).stationView = s.stationView := by
  unfold State.evaluate
  repeat' first | (with_reducible rfl) | simp only [State.modRules_stationView, State.settle_stationView] | split

theorem State.writeRule_stationView (s : State) (i : Fin 32) (x : RuleRecord) :
    (s.writeRule i x).stationView = s.stationView := by
  simp only [State.writeRule, State.modRule_stationView, State.settle_stationView]

theorem State.settleAll_stationView (s : State) :
    (s.settleAll).stationView = s.stationView := by
  simp only [State.settleAll, State.modRules_stationView, State.arbitrateSet_stationView]

theorem State.restartSigns_stationView (s : State) :
    (s.restartSigns).stationView = s.stationView := by
  simp only [State.restartSigns, State.modRules_stationView, State.settleAll_stationView]

theorem State.modPage_stationView (s : State) (k : Fin 12) (p : Fin 8) (f : Page → Page) :
    (s.modPage k p f).stationView = s.stationView := by
  simp only [State.modPage, State.modSignRec_stationView]

theorem State.pageOpen_stationView (s : State) (k : Fin 12) (p : Fin 8) (code : Byte) :
    (s.pageOpen k p code).2.stationView = s.stationView := by
  unfold State.pageOpen
  repeat' first | (with_reducible rfl) | simp only [State.modSign_stationView, State.modPage_stationView] | split

theorem State.pageData_stationView (s : State) (k : Fin 12) (p : Fin 8) (offset : Nat) (data : List Byte) :
    (s.pageData k p offset data).2.stationView = s.stationView := by
  unfold State.pageData
  repeat' first | (with_reducible rfl) | simp only [State.modSign_stationView, State.modPage_stationView, State.arbitrate_stationView] | split

theorem State.pageDiscard_stationView (s : State) (k : Fin 12) (p : Fin 8) :
    (s.pageDiscard k p).2.stationView = s.stationView := by
  unfold State.pageDiscard
  repeat' first | (with_reducible rfl) | simp only [State.modPage_stationView, State.arbitrate_stationView] | split

theorem State.signSet_stationView (s : State) (k : Fin 12) (p : Fin 8) (priority minutes : Nat) :
    (s.signSet k p priority minutes).2.stationView = s.stationView := by
  unfold State.signSet
  repeat' first | (with_reducible rfl) | simp only [State.modSignRec_stationView, State.arbitrate_stationView] | split

theorem State.dropRequest_stationView (s : State) (k : Fin 12) :
    (s.dropRequest k).stationView = s.stationView := by
  simp only [State.dropRequest, State.modSignRec_stationView, State.arbitrate_stationView]

theorem State.signCancel_stationView (s : State) (k : Fin 12) :
    (s.signCancel k).2.stationView = s.stationView := by
  unfold State.signCancel
  repeat' first | (with_reducible rfl) | simp only [State.dropRequest_stationView] | split

theorem State.signPayload_stationView (s : State) (k : Fin 12) :
    (s.signPayload k).2.stationView = s.stationView := by
  unfold State.signPayload
  repeat' first | (with_reducible rfl) | simp only [State.modSignRec_stationView] | split

theorem State.signOutcome_stationView (s : State) (k : Fin 12) (o : SignOutcome) :
    (s.signOutcome k o).stationView = s.stationView := by
  simp only [State.signOutcome, State.modSignRec_stationView]

theorem State.relinkSign_stationView (s : State) (k : Fin 12) (station : Option (Fin 32)) :
    (s.relinkSign k station).stationView = s.stationView := by
  simp only [State.relinkSign, State.modSignRec_stationView]

theorem State.writeSign_stationView (s : State) (k : Fin 12) (m : IntensityMode) :
    (s.writeSign k m).stationView = s.stationView := by
  simp only [State.writeSign, State.modSignRec_stationView, State.arbitrate_stationView]

theorem State.stationPayload_stationView (s : State) (slot : Fin 32) :
    (s.stationPayload slot).2.stationView = s.stationView := by
  unfold State.stationPayload
  repeat' first | (with_reducible rfl) | simp only [State.signPayload_stationView, State.carryAnswers_stationView] | split

theorem State.voicePayload_stationView (s : State) (slot : Fin 32) :
    (s.voicePayload slot).2.stationView = s.stationView := by
  unfold State.voicePayload
  repeat' first | (with_reducible rfl) | simp only [State.playStep_stationView] | split

theorem State.beginExchange_stationView (s : State) (d : Fin 4) (x : Exchange) (count : DropCounters → DropCounters) :
    (s.beginExchange d x count).stationView = s.stationView := by
  simp only [State.beginExchange, State.modDrop_stationView]

theorem State.beginBroadcast_stationView (s : State) (d : Fin 4) :
    (s.beginBroadcast d).stationView = s.stationView := by
  simp only [State.beginBroadcast, State.modDrop_stationView, State.beginExchange_stationView]

theorem State.beginVoice_stationView (s : State) (d : Fin 4) (slot : Fin 32) :
    (s.beginVoice d slot).stationView = s.stationView := by
  unfold State.beginVoice
  repeat' first | (with_reducible rfl) | simp only [State.beginExchange_stationView, State.voicePayload_stationView] | split

theorem State.beginPoll_stationView (s : State) (d : Fin 4) (slot : Fin 32) :
    (s.beginPoll d slot).stationView = s.stationView := by
  unfold State.beginPoll
  repeat' first | (with_reducible rfl) | simp only [State.beginExchange_stationView, State.stationPayload_stationView] | split

theorem State.chooseFrom_stationView (s : State) (d : Fin 4) (voices polls : List (Fin 32 × Nat)) :
    (s.chooseFrom d voices polls).stationView = s.stationView := by
  unfold State.chooseFrom
  repeat' first | (with_reducible rfl) | simp only [State.beginBroadcast_stationView, State.beginVoice_stationView, State.beginPoll_stationView] | split

theorem State.dropChoose_stationView (s : State) (d : Fin 4) :
    (s.dropChoose d).stationView = s.stationView := by
  simp only [State.dropChoose, State.chooseFrom_stationView]

theorem State.endChoose_stationView (s : State) (d : Fin 4) :
    (s.endChoose d).stationView = s.stationView := by
  simp only [State.endChoose, State.chooseFrom_stationView]

theorem State.dueComes_stationView (s : State) (slot : Fin 32) (due : Option Nat) :
    (s.dueComes slot due).stationView = s.stationView := by
  exact stations_due s slot _ fun e => rfl

theorem State.dropsChoose_stationView (s : State) :
    (s.dropsChoose).stationView = s.stationView := by
  simp only [State.dropsChoose, State.dropChoose_stationView, State.forEach_stationView, implies_true]

theorem State.seatTaken_stationView (s : State) (slot : Fin 32) :
    (s.seatTaken slot).stationView = s.stationView := by
  unfold State.seatTaken
  rw [State.dropChoose_stationView]
  exact stations_due s slot _ fun e => rfl

theorem State.seatReleased_stationView (s : State) (slot : Fin 32) :
    (s.seatReleased slot).stationView = s.stationView := by
  exact stations_due s slot _ fun e => rfl

theorem State.countCalls_stationView (s : State) (f : CallCounters → CallCounters) :
    (s.countCalls f).stationView = s.stationView := by
  simp only [State.countCalls, State.modCalls_stationView]

theorem State.sendCall_stationView (s : State) (subtype : BitVec 4) (seq : Byte) (body : List Byte) :
    (s.sendCall subtype seq body).stationView = s.stationView := by
  unfold State.sendCall
  repeat' first | (with_reducible rfl) | simp only [State.countCalls_stationView, State.join_stationView] | split

theorem State.sendRequest_stationView (s : State) (r : Fin 16) :
    (s.sendRequest r).stationView = s.stationView := by
  simp only [State.sendRequest, State.sendCall_stationView]

theorem State.sendResume_stationView (s : State) (r : Fin 16) :
    (s.sendResume r).stationView = s.stationView := by
  simp only [State.sendResume, State.sendCall_stationView]

theorem State.sendClear_stationView (s : State) (r : Fin 16) (reason : ClearReason) :
    (s.sendClear r reason).stationView = s.stationView := by
  simp only [State.sendClear, State.sendCall_stationView]

theorem State.enterCalling_stationView (s : State) (r : Fin 16) (lane : Fin 64) :
    (s.enterCalling r lane).stationView = s.stationView := by
  unfold State.enterCalling
  repeat' first | (with_reducible rfl) | simp only [State.modCalls_stationView, State.modLane_stationView, State.modRecord_stationView, State.countCalls_stationView, State.sendRequest_stationView] | split

theorem State.tryCalling_stationView (s : State) (r : Fin 16) :
    (s.tryCalling r).stationView = s.stationView := by
  unfold State.tryCalling
  repeat' first | (with_reducible rfl) | simp only [State.enterCalling_stationView] | split

theorem State.testSeized_stationView (s : State) :
    (s.testSeized).stationView = s.stationView := by
  simp only [State.testSeized, State.tryCalling_stationView, State.forEach_stationView, implies_true]

theorem State.seize_stationView (s : State) (r : Fin 16) (slot : Fin 32) :
    (s.seize r slot).stationView = s.stationView := by
  simp only [State.seize, State.modRecord_stationView, State.seatTaken_stationView]

theorem State.leaveWaitList_stationView (s : State) (slot : Fin 32) :
    (s.leaveWaitList slot).stationView = s.stationView := by
  unfold State.leaveWaitList
  repeat' first | (with_reducible rfl) | simp only [State.modCalls_stationView, State.notify_stationView] | split

theorem State.refillOne_stationView (s : State) (slot : Fin 32) :
    (s.refillOne slot).stationView = s.stationView := by
  unfold State.refillOne
  repeat' first | (with_reducible rfl) | simp only [State.leaveWaitList_stationView, State.seize_stationView] | split

theorem State.refillWalk_stationView (s : State) :
    (s.refillWalk).stationView = s.stationView := by
  simp only [State.refillWalk, State.refillOne_stationView, State.forEach_stationView, implies_true]

theorem State.refill_stationView (s : State) :
    (s.refill).stationView = s.stationView := by
  unfold State.refill
  repeat' first | (with_reducible rfl) | simp only [State.refillWalk_stationView, State.testSeized_stationView] | split

theorem State.offHook_stationView (s : State) (slot : Fin 32) :
    (s.offHook slot).stationView = s.stationView := by
  unfold State.offHook
  repeat' first | (with_reducible rfl) | simp only [State.modCalls_stationView, State.countCalls_stationView, State.seize_stationView, State.notify_stationView, State.testSeized_stationView] | split

theorem State.releaseSeat_stationView (s : State) (r : Fin 16) :
    (s.releaseSeat r).stationView = s.stationView := by
  unfold State.releaseSeat
  repeat' first | (with_reducible rfl) | simp only [State.seatReleased_stationView] | split

theorem State.unbind_stationView (s : State) (r : Fin 16) :
    (s.unbind r).stationView = s.stationView := by
  unfold State.unbind
  repeat' first | (with_reducible rfl) | simp only [State.modLane_stationView] | split

theorem State.clearRecord_stationView (s : State) (r : Fin 16) :
    (s.clearRecord r).stationView = s.stationView := by
  simp only [State.clearRecord, State.modRecord_stationView, State.unbind_stationView, State.releaseSeat_stationView]

theorem State.freeCall_stationView (s : State) (r : Fin 16) :
    (s.freeCall r).stationView = s.stationView := by
  simp only [State.freeCall, State.refill_stationView, State.clearRecord_stationView, State.testSeized_stationView]

theorem State.clearLocal_stationView (s : State) (r : Fin 16) (reason : ClearReason) :
    (s.clearLocal r reason).stationView = s.stationView := by
  simp only [State.clearLocal, State.modRecord_stationView, State.countCalls_stationView, State.releaseSeat_stationView, State.refill_stationView, State.sendClear_stationView]

theorem State.clearCentre_stationView (s : State) (r : Fin 16) (seq : Byte) :
    (s.clearCentre r seq).stationView = s.stationView := by
  simp only [State.clearCentre, State.modRecord_stationView, State.countCalls_stationView, State.releaseSeat_stationView, State.sendCall_stationView, State.refill_stationView]

theorem State.endCall_stationView (s : State) (r : Fin 16) (reason : ClearReason) :
    (s.endCall r reason).stationView = s.stationView := by
  unfold State.endCall
  repeat' first | (with_reducible rfl) | simp only [State.freeCall_stationView, State.clearLocal_stationView] | split

theorem State.phoneGone_stationView (s : State) (slot : Fin 32) (reason : ClearReason) :
    (s.phoneGone slot reason).stationView = s.stationView := by
  unfold State.phoneGone
  repeat' first | (with_reducible rfl) | simp only [State.leaveWaitList_stationView, State.endCall_stationView] | split

theorem State.takeHook_stationView (s : State) (slot : Fin 32) (offHook : Bool) :
    (s.takeHook slot offHook).stationView = s.stationView := by
  unfold State.takeHook
  repeat' first | (with_reducible rfl) | simp only [State.offHook_stationView, State.phoneGone_stationView] | split

theorem State.unknownCall_stationView (s : State) :
    (s.unknownCall).stationView = s.stationView := by
  simp only [State.unknownCall, State.countCalls_stationView]

theorem State.lateSignal_stationView (s : State) :
    (s.lateSignal).stationView = s.stationView := by
  simp only [State.lateSignal, State.countCalls_stationView]

theorem State.connectCall_stationView (s : State) (r : Fin 16) :
    (s.connectCall r).stationView = s.stationView := by
  simp only [State.connectCall, State.modRecord_stationView, State.countCalls_stationView, answered]

theorem State.queueCall_stationView (s : State) (r : Fin 16) :
    (s.queueCall r).stationView = s.stationView := by
  simp only [State.queueCall, State.modRecord_stationView]

theorem State.takeHeld_stationView (s : State) (r : Fin 16) :
    (s.takeHeld r).stationView = s.stationView := by
  unfold State.takeHeld
  repeat' first | (with_reducible rfl) | simp only [State.queueCall_stationView, State.lateSignal_stationView] | split

theorem State.takeAnswer_stationView (s : State) (r : Fin 16) :
    (s.takeAnswer r).stationView = s.stationView := by
  unfold State.takeAnswer
  repeat' first | (with_reducible rfl) | simp only [State.connectCall_stationView, State.lateSignal_stationView] | split

theorem State.takeClear_stationView (s : State) (r : Fin 16) (seq : Byte) :
    (s.takeClear r seq).stationView = s.stationView := by
  unfold State.takeClear
  repeat' first | (with_reducible rfl) | simp only [State.freeCall_stationView, State.clearCentre_stationView, State.sendCall_stationView] | split

theorem State.takeCleared_stationView (s : State) (r : Fin 16) :
    (s.takeCleared r).stationView = s.stationView := by
  unfold State.takeCleared
  repeat' first | (with_reducible rfl) | simp only [State.freeCall_stationView, State.lateSignal_stationView] | split

theorem State.takeCallBlock_stationView (s : State) (b : Block) :
    (s.takeCallBlock b).stationView = s.stationView := by
  unfold State.takeCallBlock
  repeat' first | (with_reducible rfl) | simp only [State.takeHeld_stationView, State.takeCleared_stationView, State.sendCall_stationView, State.takeClear_stationView, State.unknownCall_stationView, State.takeAnswer_stationView] | split

theorem State.callingExpires_stationView (s : State) (r : Fin 16) :
    (s.callingExpires r).stationView = s.stationView := by
  unfold State.callingExpires
  repeat' first | (with_reducible rfl) | simp only [State.modRecord_stationView, State.sendRequest_stationView] | split

theorem State.clearingExpires_stationView (s : State) (r : Fin 16) :
    (s.clearingExpires r).stationView = s.stationView := by
  unfold State.clearingExpires
  repeat' first | (with_reducible rfl) | simp only [State.modRecord_stationView, State.freeCall_stationView, State.sendClear_stationView] | split

theorem State.isolatedSignals_stationView (s : State) (r : Fin 16) :
    (s.isolatedSignals r).stationView = s.stationView := by
  unfold State.isolatedSignals
  repeat' first | (with_reducible rfl) | simp only [State.modRecord_stationView, State.sendResume_stationView, State.sendRequest_stationView] | split

theorem State.callsIsolated_stationView (s : State) :
    (s.callsIsolated).stationView = s.stationView := by
  simp only [State.callsIsolated, State.modRecord_stationView, State.countCalls_stationView, State.forEach_stationView, implies_true]

theorem State.callsHealed_stationView (s : State) :
    (s.callsHealed).stationView = s.stationView := by
  simp only [State.callsHealed, State.isolatedSignals_stationView, State.testSeized_stationView, State.forEach_stationView, implies_true]

theorem State.forceClear_stationView (s : State) (r : Fin 16) :
    (s.forceClear r).stationView = s.stationView := by
  unfold State.forceClear
  repeat' first | (with_reducible rfl) | simp only [State.modRecord_stationView, State.countCalls_stationView, State.sendClear_stationView] | split

theorem State.restartCalls_stationView (s : State) :
    (s.restartCalls).stationView = s.stationView := by
  unfold State.restartCalls
  repeat' first | (with_reducible rfl) | simp only [State.modCalls_stationView, State.forceClear_stationView, State.notify_stationView, State.clearRecord_stationView, State.forEach_stationView, implies_true] | split

theorem State.countDrop_stationView (s : State) (d : Fin 4) (f : DropCounters → DropCounters) :
    (s.countDrop d f).stationView = s.stationView := by
  simp only [State.countDrop, State.modDrop_stationView]

theorem State.noticeStation_stationView (s : State) (x : Snapshot) (before : StationState) :
    (s.noticeStation x before).stationView = s.stationView := by
  unfold State.noticeStation
  repeat' first | (with_reducible rfl) | simp only [State.notify_stationView] | split

theorem State.reportOffline_stationView (s : State) (x : Snapshot) (before : StationState) :
    (s.reportOffline x before).stationView = s.stationView := by
  unfold State.reportOffline
  repeat' first | (with_reducible rfl) | simp only [State.phoneGone_stationView, State.weatherOffline_stationView] | split

theorem State.takeReading_stationView (s : State) (x : Snapshot) (k : Fin 8) (rd : Reading) :
    (s.takeReading x k rd).stationView = s.stationView := by
  unfold State.takeReading
  repeat' first | (with_reducible rfl) | simp only [State.modSlot_stationView, State.forwardReading_stationView, State.countSlot_stationView, State.evaluate_stationView] | split

theorem State.handOver_stationView (s : State) (x : Snapshot) (n : Reply) :
    (s.handOver x n).stationView = s.stationView := by
  unfold State.handOver
  repeat' first | (with_reducible rfl) | simp only [State.takeTxn_stationView, State.takeHook_stationView, State.takeReading_stationView] | split

theorem State.dispatch_stationView (s : State) (x : Snapshot) (voice : Bool) (r : Reply) :
    (s.dispatch x voice r).stationView = s.stationView := by
  unfold State.dispatch
  repeat' first | (with_reducible rfl) | simp only [State.countDrop_stationView, State.handOver_stationView] | split

theorem State.reportOutcome_stationView (s : State) (x : Snapshot) (o : ExchangeEnd) :
    (s.reportOutcome x o).stationView = s.stationView := by
  unfold State.reportOutcome
  repeat' first | (with_reducible rfl) | simp only [State.signOutcome_stationView, State.answersOutcome_stationView] | split

theorem State.reportVoice_stationView (s : State) (x : Snapshot) (voice : Bool) (o : ExchangeEnd) :
    (s.reportVoice x voice o).stationView = s.stationView := by
  unfold State.reportVoice
  repeat' first | (with_reducible rfl) | simp only [State.voiceOutcome_stationView] | split

theorem State.lineIdle_stationView (s : State) (d : Fin 4) :
    (s.lineIdle d).stationView = s.stationView := by
  simp only [State.lineIdle, State.modDrop_stationView]

theorem State.countBad_stationView (s : State) (d : Fin 4) (o : ExchangeEnd) :
    (s.countBad d o).stationView = s.stationView := by
  unfold State.countBad
  repeat' first | (with_reducible rfl) | simp only [State.countDrop_stationView] | split

theorem State.countUnsolicited_stationView (s : State) (d : Fin 4) :
    (s.countUnsolicited d).stationView = s.stationView := by
  simp only [State.countUnsolicited, State.countDrop_stationView]

theorem State.frameSent_stationView (s : State) (d : Fin 4) :
    (s.frameSent d).stationView = s.stationView := by
  unfold State.frameSent
  repeat' first | (with_reducible rfl) | simp only [State.modDrop_stationView, State.endChoose_stationView, State.lineIdle_stationView] | split

theorem State.supplyToJournal_stationView (s : State) (old new : SupplyState) :
    (s.supplyToJournal old new).stationView = s.stationView := by
  unfold State.supplyToJournal
  repeat' first | (with_reducible rfl) | simp only [State.journalHoldup_stationView, State.journalHoldupEnds_stationView] | split

theorem State.setBroadcasts_stationView (s : State) :
    (s.setBroadcasts).stationView = s.stationView := by
  rfl

theorem State.changeSupply_stationView (s : State) (new : SupplyState) (cause : SupplyCause) :
    (s.changeSupply new cause).stationView = s.stationView := by
  unfold State.changeSupply
  repeat' first | (with_reducible rfl) | simp only [State.modSup_stationView, State.dropsChoose_stationView, State.supplyToJournal_stationView, State.notify_stationView, State.setBroadcasts_stationView] | split

theorem State.judgeAverage_stationView (s : State) (avg : Nat) :
    (s.judgeAverage avg).stationView = s.stationView := by
  unfold State.judgeAverage
  repeat' first | (with_reducible rfl) | simp only [State.modSup_stationView, State.changeSupply_stationView] | split

theorem State.sampleFeed_stationView (s : State) (level : Nat) :
    (s.sampleFeed level).stationView = s.stationView := by
  unfold State.sampleFeed
  repeat' first | (with_reducible rfl) | simp only [State.modSup_stationView, State.judgeAverage_stationView] | split

theorem State.settleExpires_stationView (s : State) :
    (s.settleExpires).stationView = s.stationView := by
  unfold State.settleExpires
  repeat' first | (with_reducible rfl) | simp only [State.changeSupply_stationView] | split

theorem State.assertFeedLost_stationView (s : State) :
    (s.assertFeedLost).stationView = s.stationView := by
  unfold State.assertFeedLost
  repeat' first | (with_reducible rfl) | simp only [State.modSup_stationView, State.changeSupply_stationView] | split

theorem State.negateFeedLost_stationView (s : State) :
    (s.negateFeedLost).stationView = s.stationView := by
  unfold State.negateFeedLost
  repeat' first | (with_reducible rfl) | simp only [State.modSup_stationView] | split

theorem State.clearRing_stationView (s : State) :
    (s.clearRing).stationView = s.stationView := by
  unfold State.clearRing
  repeat' first | (with_reducible rfl) | simp only [State.modRing_stationView, State.modProt_stationView] | split

theorem State.clearCalls_stationView (s : State) :
    (s.clearCalls).stationView = s.stationView := by
  simp only [State.clearCalls, State.modCalls_stationView]

theorem State.clearJournal_stationView (s : State) :
    (s.clearJournal).stationView = s.stationView := by
  simp only [State.clearJournal, State.modJrnl_stationView, State.modCtl_stationView]

theorem State.clearSupply_stationView (s : State) :
    (s.clearSupply).stationView = s.stationView := by
  simp only [State.clearSupply, State.modSup_stationView]

theorem State.clearLanes_stationView (s : State) :
    (s.clearLanes).stationView = s.stationView := by
  simp only [State.clearLanes, State.modLanes_stationView]

theorem State.clearSigns_stationView (s : State) :
    (s.clearSigns).stationView = s.stationView := by
  simp only [State.clearSigns, State.modRules_stationView, State.modSign_stationView]

theorem State.clearSlots_stationView (s : State) :
    (s.clearSlots).stationView = s.stationView := by
  simp only [State.clearSlots, State.modSlots_stationView, State.modAgent_stationView]

theorem State.writeLane_stationView (s : State) (i : Fin 64) (l : List Byte) :
    (s.writeLane i l).2.stationView = s.stationView := by
  unfold State.writeLane
  repeat' first | (with_reducible rfl) | simp only [State.modLane_stationView, State.testSeized_stationView, State.offerTolls_stationView] | split

theorem State.reportLink_stationView (s : State) (e : Station) :
    (s.reportLink e).stationView = s.stationView := by
  unfold State.reportLink
  repeat' first | (with_reducible rfl) | simp only [State.modSlot_stationView, State.relinkSign_stationView] | split

theorem State.reportStation_stationView (s : State) (i : Fin 32) (old : Station) (x : StationRecord) :
    (s.reportStation i old x).stationView = s.stationView := by
  unfold State.reportStation
  repeat' first | (with_reducible rfl) | simp only [State.emptyAnswers_stationView, State.reportLink_stationView] | split

theorem State.writeRuleEntry_stationView (s : State) (i : Fin 32) (l : List Byte) :
    (s.writeRuleEntry i l).2.stationView = s.stationView := by
  unfold State.writeRuleEntry
  repeat' first | (with_reducible rfl) | simp only [State.writeRule_stationView] | split

theorem State.writeSignEntry_stationView (s : State) (k : Fin 12) (l : List Byte) :
    (s.writeSignEntry k l).2.stationView = s.stationView := by
  unfold State.writeSignEntry
  repeat' first | (with_reducible rfl) | simp only [State.writeSign_stationView] | split

theorem State.writeSlotEntry_stationView (s : State) (k : Fin 8) (l : List Byte) :
    (s.writeSlotEntry k l).2.stationView = s.stationView := by
  unfold State.writeSlotEntry
  repeat' first | (with_reducible rfl) | simp only [State.modSlot_stationView] | split

theorem State.writeParams_stationView (s : State) (l : List Byte) :
    (s.writeParams l).2.stationView = s.stationView := by
  unfold State.writeParams
  repeat' first | (with_reducible rfl) | simp only [State.modAgent_stationView] | split

theorem State.cutSlot_stationView (s : State) (slot : Nat) :
    (s.cutSlot slot).stationView = s.stationView := by
  unfold State.cutSlot
  rw [State.spend_stationView, State.putSlot_stationView]

theorem State.cutMark_stationView (s : State) (slot : Nat) :
    (s.cutMark slot).stationView = s.stationView := by
  simp only [State.cutMark, State.spend_stationView, State.putMark_stationView]

theorem State.cutShort_stationView (s : State) :
    (s.cutShort).stationView = s.stationView := by
  unfold State.cutShort
  repeat' first | (with_reducible rfl) | simp only [State.cutMark_stationView, State.cutSlot_stationView] | split

theorem State.rescan_stationView (s : State) :
    (s.rescan).stationView = s.stationView := by
  unfold State.rescan
  repeat' first | (with_reducible rfl) | simp only [State.modCtl_stationView, State.scanRead_stationView] | split

theorem State.restartCustody_stationView (s : State) :
    (s.restartCustody).stationView = s.stationView := by
  unfold State.restartCustody
  repeat' first | (with_reducible rfl) | simp only [State.rescan_stationView, State.restartJournal_stationView] | split

theorem State.unbindAll_stationView (s : State) :
    (s.unbindAll).stationView = s.stationView := by
  simp only [State.unbindAll, State.modLanes_stationView]

theorem State.restartWeather_stationView (s : State) :
    (s.restartWeather).stationView = s.stationView := by
  simp only [State.restartWeather, State.modSlots_stationView]

theorem State.restartAll_stationView (s : State) :
    (s.restartAll).stationView = s.stationView := by
  simp only [State.restartAll, State.modRing_stationView, State.restartWeather_stationView, State.unbindAll_stationView, State.restartCalls_stationView, State.restartSigns_stationView, State.restartCustody_stationView]

theorem State.beginSave_stationView (s : State) (src : NodeId) (tag : Byte) :
    (s.beginSave src tag).stationView = s.stationView := by
  simp only [State.beginSave, State.modCtl_stationView, State.modAgent_stationView, State.storeKick_stationView]

theorem State.reply_stationView (s : State) (c : Command) (a : Answer) :
    (s.reply c a).stationView = s.stationView := by
  unfold State.reply
  repeat' first | (with_reducible rfl) | simp only [State.modAgent_stationView] | split

theorem State.passReply_stationView (s : State) (b : Block) (rest : List Block) :
    (s.passReply b rest).stationView = s.stationView := by
  simp only [State.passReply, State.modAgent_stationView, State.join_stationView]

theorem State.noticeTurn_stationView (s : State) (t : State) (h : s.noticeTurn = some t) :
    t.stationView = s.stationView := by
  unfold State.noticeTurn at h
  split at h
  · cases h; exact State.passNotice_stationView s
  · cases h

theorem State.refuseBusy_stationView (s : State) (c : Command) :
    (s.refuseBusy c).stationView = s.stationView := by
  unfold State.refuseBusy
  repeat' first | (with_reducible rfl) | simp only [State.modAgent_stationView, State.join_stationView] | split

theorem State.countMismatch_stationView (s : State) :
    (s.countMismatch).stationView = s.stationView := by
  simp only [State.countMismatch, State.modCtl_stationView]

theorem State.commitCompletes_stationView (s : State) (slot : Nat) (bytes : List Byte) (got : ReadBack) :
    (s.commitCompletes slot bytes got).stationView = s.stationView := by
  unfold State.commitCompletes
  repeat' first | (with_reducible rfl) | simp only [State.commitMismatches_stationView, State.storeKick_stationView, State.commitSucceeds_stationView, State.countMismatch_stationView, State.endOp_stationView, State.afterRead_stationView] | split

theorem State.markCompletes_stationView (s : State) (slot : Nat) :
    (s.markCompletes slot).stationView = s.stationView := by
  simp only [State.markCompletes, State.modJrnl_stationView, State.putMark_stationView, State.storeKick_stationView, State.endOp_stationView]

theorem State.readCompletes_stationView (s : State) (serial slot : Nat) (live : Bool) (got : ReadBack) :
    (s.readCompletes serial slot live got).stationView = s.stationView := by
  unfold State.readCompletes
  repeat' first | (with_reducible rfl) | simp only [State.readDone_stationView, State.storeKick_stationView, State.endOp_stationView, State.afterRead_stationView] | split

theorem State.saveMarkCompletes_stationView (s : State) :
    (s.saveMarkCompletes).stationView = s.stationView := by
  simp only [State.saveMarkCompletes, State.modCtl_stationView, State.putMark_stationView, State.storeKick_stationView, State.endOp_stationView]

theorem State.journalScanned_stationView (s : State) (r : Rebuilt) :
    (s.journalScanned r).stationView = s.stationView := by
  unfold State.journalScanned
  repeat' first | (with_reducible rfl) | simp only [State.modJrnl_stationView, State.journalFault_stationView, State.notify_stationView] | split

theorem State.loadRead_stationView (s : State) (slot : Nat) :
    (s.loadRead slot).stationView = s.stationView := by
  simp only [State.loadRead, State.startStep_stationView]

theorem State.afterScan_stationView (s : State) :
    (s.afterScan).stationView = s.stationView := by
  unfold State.afterScan
  repeat' first | (with_reducible rfl) | simp only [State.modCtl_stationView, State.dropsChoose_stationView, State.loadRead_stationView, State.storeKick_stationView] | split

theorem State.scanEnds_stationView (s : State) :
    (s.scanEnds).stationView = s.stationView := by
  unfold State.scanEnds
  repeat' first | (with_reducible rfl) | simp only [State.modCtl_stationView, State.journalScanned_stationView, State.afterScan_stationView] | split

theorem State.scanReadCompletes_stationView (s : State) (slot : Nat) (got : ReadBack) :
    (s.scanReadCompletes slot got).stationView = s.stationView := by
  unfold State.scanReadCompletes
  repeat' first | (with_reducible rfl) | simp only [State.modCtl_stationView, State.scanEnds_stationView, State.scanRead_stationView, State.afterRead_stationView] | split

theorem State.noteLoad_stationView (s : State) (o : LoadOutcome) :
    (s.noteLoad o).stationView = s.stationView := by
  unfold State.noteLoad
  repeat' first | (with_reducible rfl) | simp only [State.notify_stationView] | split

theorem State.endLoad_stationView (s : State) (o : LoadOutcome) :
    (s.endLoad o).stationView = s.stationView := by
  simp only [State.endLoad, State.modCtl_stationView, State.dropsChoose_stationView, State.noteLoad_stationView, State.storeKick_stationView, State.settleAll_stationView]

theorem State.looseSlot_stationView (s : State) (slot : Nat) :
    (s.looseSlot slot).stationView = s.stationView := by
  simp only [State.looseSlot, State.spend_stationView, State.putSlot_stationView]

theorem State.looseHeaderMark_stationView (s : State) :
    (s.looseHeaderMark).stationView = s.stationView := by
  simp only [State.looseHeaderMark, State.spend_stationView, State.putMark_stationView]

theorem State.abandonWrite_stationView (s : State) :
    (s.abandonWrite).stationView = s.stationView := by
  unfold State.abandonWrite
  repeat' first | (with_reducible rfl) | simp only [State.cutSlot_stationView, State.cutMark_stationView, State.looseSlot_stationView, State.looseHeaderMark_stationView] | split

theorem State.countTimeout_stationView (s : State) :
    (s.countTimeout).stationView = s.stationView := by
  simp only [State.countTimeout, State.modCtl_stationView]

theorem State.scanResumes_stationView (s : State) :
    (s.scanResumes).stationView = s.stationView := by
  simp only [State.scanResumes, State.modJrnl_stationView]

theorem State.enterIsolated_stationView (s : State) :
    (s.enterIsolated).stationView = s.stationView := by
  simp only [State.enterIsolated, State.modRing_stationView, State.modProt_stationView, State.journalIsolated_stationView, State.callsIsolated_stationView]

theorem State.noticeLink_stationView (s : State) (p : Side) (cause : Option LinkCause) :
    (s.noticeLink p cause).stationView = s.stationView := by
  unfold State.noticeLink
  repeat' first | (with_reducible rfl) | simp only [State.notify_stationView] | split

theorem State.offerKeep_stationView (s : State) (p : Side) :
    (s.offerKeep p).stationView = s.stationView := by
  simp only [State.offerKeep, State.offerRing_stationView]

theorem State.countRx_stationView (s : State) (p : Side) (f : RxCounters → RxCounters) :
    (s.countRx p f).stationView = s.stationView := by
  simp only [State.countRx, State.modRing_stationView]

theorem State.countDir_stationView (s : State) (d : Dir) (f : DirCounters → DirCounters) :
    (s.countDir d f).stationView = s.stationView := by
  simp only [State.countDir, State.modRing_stationView]

theorem State.modSender_stationView (s : State) (d : Dir) (f : HoldSender → HoldSender) :
    (s.modSender d f).stationView = s.stationView := by
  simp only [State.modSender, State.modRing_stationView]

theorem State.sendHoldoff_stationView (s : State) (d : Dir) :
    (s.sendHoldoff d).stationView = s.stationView := by
  simp only [State.sendHoldoff, State.offerRing_stationView, State.modSender_stationView]

theorem State.sendRelease_stationView (s : State) (d : Dir) :
    (s.sendRelease d).stationView = s.stationView := by
  simp only [State.sendRelease, State.offerRing_stationView, State.modSender_stationView]

theorem State.afterJoin_stationView (s : State) (d : Dir) :
    (s.afterJoin d).stationView = s.stationView := by
  unfold State.afterJoin
  repeat' first | (with_reducible rfl) | simp only [State.sendHoldoff_stationView] | split

theorem State.afterDeparture_stationView (s : State) (d : Dir) :
    (s.afterDeparture d).stationView = s.stationView := by
  unfold State.afterDeparture
  repeat' first | (with_reducible rfl) | simp only [State.sendRelease_stationView] | split

theorem State.setBuffer_stationView (s : State) (d : Dir) (l : List Block) :
    (s.setBuffer d l).stationView = s.stationView := by
  simp only [State.setBuffer, State.modRing_stationView]

theorem State.overflow_stationView (s : State) (d : Dir) (b : Block) :
    (s.overflow d b).stationView = s.stationView := by
  unfold State.overflow
  repeat' first | (with_reducible rfl) | simp only [State.setBuffer_stationView, State.countDir_stationView] | split

theorem State.joinTransit_stationView (s : State) (d : Dir) (b : Block) :
    (s.joinTransit d b).stationView = s.stationView := by
  unfold State.joinTransit
  repeat' first | (with_reducible rfl) | simp only [State.setBuffer_stationView, State.afterJoin_stationView, State.overflow_stationView] | split

theorem State.forward_stationView (s : State) (d : Dir) (b : Block) :
    (s.forward d b).stationView = s.stationView := by
  unfold State.forward
  repeat' first | (with_reducible rfl) | simp only [State.countDir_stationView, State.joinTransit_stationView] | split

theorem State.takeHoldoff_stationView (s : State) (p : Side) :
    (s.takeHoldoff p).stationView = s.stationView := by
  simp only [State.takeHoldoff, State.modOut_stationView]

theorem State.takeRelease_stationView (s : State) (p : Side) :
    (s.takeRelease p).stationView = s.stationView := by
  simp only [State.takeRelease, State.modOut_stationView]

theorem State.countMalformed_stationView (s : State) (p : Side) :
    (s.countMalformed p).stationView = s.stationView := by
  simp only [State.countMalformed, State.countRx_stationView]

theorem State.send_stationView (s : State) (p : Side) (b : Block) :
    (s.send p b).stationView = s.stationView := by
  unfold State.send
  repeat' first | (with_reducible rfl) | simp only [State.modRing_stationView, State.modOut_stationView] | split

theorem State.unlessRepeater_stationView (s : State) (f : State → State) (h : (f s).stationView = s.stationView) :
    (s.unlessRepeater f).stationView = s.stationView := by
  unfold State.unlessRepeater
  split
  · rfl
  · exact h

end Sys2Proof.Machine
end

