-- ==== Sys2Proof/Laws/Memory.lean ====
section
/-! SUPPORT. The addressed memories: a write is read back, leaves every other byte, and keeps the canonical form, in which equal
contents are equal data. -/

namespace Sys2Proof.Machine

/-- The first listed address of a memory, if any, lies above k. -/
def Memory.above (k : Nat) : Memory → Prop
  | [] => True
  | (k', _) :: _ => k < k'

theorem Memory.wf_cons (d : Byte) (k : Nat) (c : Byte) (m : Memory) :
    Memory.wf d ((k, c) :: m) = true ↔ c ≠ d ∧ Memory.above k m ∧ Memory.wf d m = true := by
  cases m with
  | nil => simp [Memory.wf, Memory.above]
  | cons y m => simp [Memory.wf, Memory.above, and_assoc]

theorem Memory.above_lt (j k : Nat) (m : Memory) (hj : j < k) (h : Memory.above k m) : Memory.above j m := by
  cases m with
  | nil => trivial
  | cons y m => exact Nat.lt_trans hj h

/-- An address below every listed one reads as unlisted. -/
theorem Memory.read_above (d : Byte) (a : Nat) (m : Memory) (hw : Memory.wf d m = true) (h : Memory.above a m) :
    Memory.read d m a = d := by
  induction m with
  | nil => rfl
  | cons y m ih =>
    obtain ⟨k, c⟩ := y
    rw [Memory.wf_cons] at hw
    have hk : a < k := h
    have hne : k ≠ a := by omega
    simp only [Memory.read, hne, if_false]
    exact ih hw.2.2 (Memory.above_lt _ _ _ hk hw.2.1)

/-- A byte written is read back. -/
theorem Memory.read_write_self (d : Byte) (m : Memory) (a : Nat) (b : Byte) (h : Memory.wf d m = true) :
    Memory.read d (Memory.write d m a b) a = b := by
  induction m with
  | nil => by_cases hb : b = d <;> simp [Memory.write, Memory.read, hb]
  | cons x m ih =>
    obtain ⟨k, c⟩ := x
    have hw := (Memory.wf_cons d k c m).1 h
    simp only [Memory.write]
    split
    · rename_i hlt
      split
      · rename_i hb
        subst hb
        exact Memory.read_above _ _ _ h hlt
      · simp [Memory.read]
    · split
      · rename_i hlt hak
        subst hak
        split
        · rename_i hb
          subst hb
          exact Memory.read_above _ _ _ hw.2.2 hw.2.1
        · simp [Memory.read]
      · rename_i hlt hak
        have : k ≠ a := fun e => hak e.symm
        simp [Memory.read, this, ih hw.2.2]

/-- A write leaves every other byte. -/
theorem Memory.read_write_other (d : Byte) (m : Memory) (a x : Nat) (b : Byte) (h : a ≠ x) :
    Memory.read d (Memory.write d m a b) x = Memory.read d m x := by
  induction m with
  | nil => by_cases hb : b = d <;> simp [Memory.write, Memory.read, hb, h]
  | cons y m ih =>
    obtain ⟨k, c⟩ := y
    simp only [Memory.write]
    split
    · split <;> simp [Memory.read, h]
    · split
      · rename_i hak
        subst hak
        split <;> simp [Memory.read, h]
      · simp [Memory.read, ih]

/-- What a write puts at the head of a memory lies above what the address and the old head lie above. -/
theorem Memory.above_write (d : Byte) (m : Memory) (a k : Nat) (b : Byte) (hk : k < a) (h : Memory.above k m)
    (hm : Memory.wf d m = true) : Memory.above k (Memory.write d m a b) := by
  cases m with
  | nil =>
    simp only [Memory.write]
    split
    · trivial
    · exact hk
  | cons y m =>
    obtain ⟨k2, c2⟩ := y
    rw [Memory.wf_cons] at hm
    simp only [Memory.write]
    split
    · split
      · exact h
      · exact hk
    · split
      · split
        · exact Memory.above_lt _ _ _ h hm.2.1
        · exact hk
      · exact h

/-- A write keeps the canonical form. -/
theorem Memory.write_wf (d : Byte) (m : Memory) (a : Nat) (b : Byte) (h : Memory.wf d m = true) :
    Memory.wf d (Memory.write d m a b) = true := by
  induction m with
  | nil => by_cases hb : b = d <;> simp [Memory.write, Memory.wf, hb]
  | cons y m ih =>
    obtain ⟨k, c⟩ := y
    have hw := (Memory.wf_cons d k c m).1 h
    simp only [Memory.write]
    split
    · rename_i hlt
      split
      · exact h
      · rename_i hb
        exact (Memory.wf_cons _ _ _ _).2 ⟨hb, hlt, h⟩
    · split
      · rename_i hak
        subst hak
        split
        · exact hw.2.2
        · rename_i hb
          exact (Memory.wf_cons _ _ _ _).2 ⟨hb, hw.2.1, hw.2.2⟩
      · rename_i hlt hak
        exact (Memory.wf_cons _ _ _ _).2 ⟨hw.1, Memory.above_write d m a k b (by omega) hw.2.1 hw.2.2, ih hw.2.2⟩

/-- A run of bytes written keeps the canonical form. -/
theorem Memory.writeList_wf (d : Byte) (l : List Byte) : ∀ (m : Memory) (a : Nat), Memory.wf d m = true →
    Memory.wf d (Memory.writeList d m a l) = true := by
  induction l with
  | nil => intro m a h; exact h
  | cons b l ih => intro m a h; exact ih _ _ (Memory.write_wf d m a b h)

/-- A run of bytes written leaves every byte outside it. -/
theorem Memory.read_writeList_other (d : Byte) (l : List Byte) : ∀ (m : Memory) (a x : Nat), (x < a ∨ a + l.length ≤ x) →
    Memory.read d (Memory.writeList d m a l) x = Memory.read d m x := by
  induction l with
  | nil => intro m a x _; rfl
  | cons b l ih =>
    intro m a x h
    simp only [List.length_cons] at h
    rw [Memory.writeList, ih _ _ _ (by omega), Memory.read_write_other _ _ _ _ _ (by omega)]

/-- A run of bytes written is read back, byte by byte. -/
theorem Memory.read_writeList (d : Byte) (l : List Byte) : ∀ (m : Memory) (a i : Nat) (h : i < l.length), Memory.wf d m = true →
    Memory.read d (Memory.writeList d m a l) (a + i) = l[i] := by
  induction l with
  | nil => intro m a i h; simp at h
  | cons b l ih =>
    intro m a i h hw
    cases i with
    | zero =>
      rw [Memory.writeList, Memory.read_writeList_other _ _ _ _ _ (by omega)]
      simpa using Memory.read_write_self d m a b hw
    | succ i =>
      have := ih (Memory.write d m a b) (a + 1) i (by simpa using h) (Memory.write_wf d m a b hw)
      rw [Memory.writeList, show a + (i + 1) = a + 1 + i by omega, this]
      rfl

theorem Memory.readList_length (d : Byte) (m : Memory) (n : Nat) : ∀ a, (Memory.readList d m a n).length = n := by
  induction n with
  | zero => intro a; rfl
  | succ n ih => intro a; simp [Memory.readList, ih]

theorem Memory.getElem_readList (d : Byte) (m : Memory) (n : Nat) : ∀ (a i : Nat) (h : i < n),
    (Memory.readList d m a n)[i]'(by rw [Memory.readList_length]; exact h) = Memory.read d m (a + i) := by
  induction n with
  | zero => intro a i h; omega
  | succ n ih =>
    intro a i h
    cases i with
    | zero => rfl
    | succ i =>
      simp only [Memory.readList, List.getElem_cons_succ]
      rw [ih (a + 1) i (by omega)]
      congr 1
      omega

/-- A run read back from where it was written is what was written. -/
theorem Memory.readList_writeList (d : Byte) (l : List Byte) (m : Memory) (a : Nat) (h : Memory.wf d m = true) :
    Memory.readList d (Memory.writeList d m a l) a l.length = l := by
  apply List.ext_getElem (Memory.readList_length _ _ _ _)
  intro i h1 h2
  rw [Memory.getElem_readList _ _ _ _ _ h2, Memory.read_writeList _ _ _ _ _ h2 h]

end Sys2Proof.Machine
end

