-- ==== Sys2Proof/Laws/Ops.lean ====
section
/-! SUPPORT. What each shared operation does, said once: counters, offers, notices, the store arbiter, the drop arbiter and the
timers. -/

namespace Sys2Proof.Machine

/-! ### Counters -/

/-- A counter below its stop counts by one. -/
theorem bump_lt (n : Nat) (h : n < 4294967295) : bump n = n + 1 := by unfold bump bumpBy; omega

/-- No counter passes its stop. -/
theorem bumpBy_le (n k : Nat) : bumpBy n k ≤ 4294967295 := by unfold bumpBy; omega

/-- A counter never falls. -/
theorem le_bump (n : Nat) (h : n ≤ 4294967295) : n ≤ bump n := by unfold bump bumpBy; omega

/-! ### Offers -/

/-- An offer to RQ joins it, or is refused and counted (R15). -/
theorem State.offerRing_cases (s : State) (p : Side) (st : BitVec 4) (body : List Byte) :
    (s.ring.rq.length < 4 ∧
      s.offerRing p st body = s.modRing fun r => { r with rq := r.rq ++ [{ port := p, block := s.ringBlock st body }] }) ∨
    (4 ≤ s.ring.rq.length ∧
      s.offerRing p st body = s.modRing fun r => { r with tx := r.tx.upd p fun c => { c with rqRefused := bump c.rqRefused } }) := by
  unfold State.offerRing
  split
  · rename_i h; exact Or.inl ⟨h, rfl⟩
  · rename_i h; exact Or.inr ⟨by omega, rfl⟩

/-- RQ never holds more than 4 blocks by an offer. -/
theorem State.offerRing_rq_le (s : State) (p : Side) (st : BitVec 4) (body : List Byte) (h : s.ring.rq.length ≤ 4) :
    (s.offerRing p st body).ring.rq.length ≤ 4 := by
  rcases s.offerRing_cases p st body with ⟨hl, e⟩ | ⟨_, e⟩
  · rw [e]; show (s.ring.rq ++ _).length ≤ 4; rw [List.length_append]; simp; omega
  · rw [e]; exact h

/-- A queue that takes a block has room, outside REPEATER condition and ISOLATED (R1, R15, R16). -/
theorem State.takes_iff (s : State) (q : LocalQueue) : s.takes q = true ↔
    s.repeater = false ∧ s.prot.ring ≠ .isolated ∧ (s.ring.queue q).length < q.capacity := by
  simp [State.takes, and_assoc]

/-- A block pushed into a queue is its last. -/
theorem RingTransit.push_queue (r : RingTransit) (q : LocalQueue) (b : Block) : (r.push q b).queue q = r.queue q ++ [b] := by
  cases q <;> rfl

/-- A push leaves the other queues. -/
theorem RingTransit.push_other (r : RingTransit) (q q' : LocalQueue) (b : Block) (h : q ≠ q') :
    (r.push q b).queue q' = r.queue q' := by
  cases q <;> cases q' <;> first | rfl | exact absurd rfl h

theorem State.join_queue (s : State) (q : LocalQueue) (b : Block) :
    (s.join q b).ring.queue q = s.ring.queue q ++ [s.completed b] := RingTransit.push_queue _ _ _

/-! ### Transit buffers (R12, R13) -/

/-- A buffer that is replaced. -/
theorem State.setBuffer_get (s : State) (d : Dir) (l : List Block) : (s.setBuffer d l).ring.buffers.get d = l := by
  cases d <;> rfl

theorem State.setBuffer_other (s : State) (d e : Dir) (l : List Block) (h : d ≠ e) :
    (s.setBuffer d l).ring.buffers.get e = s.ring.buffers.get e := by
  cases d <;> cases e <;> first | rfl | exact absurd rfl h

/-- The hold-off test changes no buffer. -/
theorem State.afterJoin_buffers (s : State) (d : Dir) : (s.afterJoin d).ring.buffers = s.ring.buffers := by
  unfold State.afterJoin
  split
  · unfold State.sendHoldoff
    rcases s.offerRing_cases (fedFrom d) subHoldoff [] with ⟨_, e⟩ | ⟨_, e⟩ <;> rw [e] <;> rfl
  · rfl

theorem State.afterDeparture_buffers (s : State) (d : Dir) : (s.afterDeparture d).ring.buffers = s.ring.buffers := by
  unfold State.afterDeparture
  split
  · unfold State.sendRelease
    rcases s.offerRing_cases (fedFrom d) subRelease [] with ⟨_, e⟩ | ⟨_, e⟩ <;> rw [e] <;> rfl
  · rfl

/-- A block displaced leaves one block fewer. -/
theorem displaceFrom_length (l m : List Block) (h : displaceFrom l = some m) : m.length + 1 = l.length := by
  induction l generalizing m with
  | nil => cases h
  | cons b l ih =>
    unfold displaceFrom at h
    split at h
    · cases hd : displaceFrom l with
      | none => rw [hd] at h; cases h
      | some k => rw [hd] at h; cases h; simp [ih k hd]
    · cases h; rfl

/-! ### Notices (R179) -/

/-- In REPEATER condition nothing is queued. -/
theorem State.notify_repeater (s : State) (b : NoticeBody) (h : s.repeater = true) : s.notify b = s := by
  unfold State.notify; rw [if_pos h]

/-- A notice that meets a full queue is lost, and takes its serial all the same. -/
theorem State.notify_full (s : State) (b : NoticeBody) (hr : s.repeater = false) (h : 16 ≤ s.agent.notices.length) :
    s.notify b = s.modAgent fun a => { a with serial := a.serial + 1, lost := bump a.lost } := by
  unfold State.notify
  rw [if_neg (by rw [hr]; decide)]
  dsimp only
  rw [if_neg (by omega)]

/-- The offer of a notice changes ring transit and the agent alone. -/
theorem State.offerNotice_kept (s : State) :
    s.offerNotice = { s with ring := s.offerNotice.ring, agent := s.offerNotice.agent } := by
  unfold State.offerNotice State.passNotice
  split
  · split <;> rfl
  · rfl

/-- A notice changes ring transit and the agent alone. -/
theorem State.notify_kept (s : State) (b : NoticeBody) :
    s.notify b = { s with ring := (s.notify b).ring, agent := (s.notify b).agent } := by
  unfold State.notify
  split
  · rfl
  · dsimp only
    split
    · split
      · rw [State.offerNotice_kept]; rfl
      · rfl
    · rfl

/-! ### Timers -/

theorem State.onTimer_some (s : State) (t : Nat) (f : State → State) : s.onTimer (some t) f = f (s.reach t) := rfl

theorem State.onTimer_none (s : State) (f : State → State) : s.onTimer none f = s := rfl

theorem State.reach_of_le (s : State) (t : Nat) (h : t ≤ s.now) : s.reach t = s := by
  unfold State.reach; rw [Nat.max_eq_left h]

/-! ### The arbiters when busy -/

/-- The store arbiter starts nothing unless the controller is IDLE (R117). -/
theorem State.storeKick_busy (s : State) (h : s.ctl.state ≠ .idle) : s.storeKick = s := by
  unfold State.storeKick
  rw [if_pos (by simpa using h)]

/-- A drop whose line is not IDLE makes no choice (R49). -/
theorem State.chooseFrom_busy (s : State) (d : Fin 4) (voices polls : List (Fin 32 × Nat))
    (h : s.poll.drops[d].line ≠ .idle) : s.chooseFrom d voices polls = s := by
  unfold State.chooseFrom
  have e : (s.poll.drops[d].line != .idle) = true := bne_iff_ne.mpr h
  rw [if_pos (by rw [e, Bool.or_true])]

theorem State.dropChoose_busy (s : State) (d : Fin 4) (h : s.poll.drops[d].line ≠ .idle) : s.dropChoose d = s :=
  s.chooseFrom_busy d _ _ h

/-- A completion at a millisecond in which no demand waits to be taken chooses among all due demands (R51). -/
theorem State.endChoose_eq (s : State) (d : Fin 4) (hv : ∀ x ∈ s.dueVoices d, s.isCome x = true)
    (hp : ∀ x ∈ s.duePolls d, s.isCome x = true) : s.endChoose d = s.dropChoose d := by
  unfold State.endChoose State.dropChoose
  rw [List.filter_eq_self.mpr hv, List.filter_eq_self.mpr hp]

/-- R118: a slot the scan takes as held passes the mark test of a read-ahead READ, whatever its mark's code. -/
theorem markReads_of_scanned_held (j : Journal) (slot : Nat) (l : List Byte) (f : Found) (h : classify slot l = some f)
    (hf : f.released = false) : j.markReads slot (byteAt l 0) = true := by
  unfold classify at h
  split at h
  · cases h; simpa [Journal.markReads] using Or.inl (by simpa using hf)
  · cases h

end Sys2Proof.Machine
end

