-- ==== Sys2Proof/Laws/PerInstr.lean ====
section
/-! SUPPORT. A fact of every command of the table as syntax: the management command a row stands for, when it is one, has a source
that is a node id and a body that fits the MGT block of 12.3 that carries it (12.1). -/

namespace Sys2Proof

open Sys2Proof.Machine

/-- The management command a row of the table stands for (12.3); none for the events. -/
def Instr.command? : Instr → Option Command
  | .readEntry src tag table index => some ⟨src, tag, cmdReadEntry, [table, index]⟩
  | .writeEntryLane src tag index state service peer =>
    some ⟨src, tag, cmdWriteEntry, [Table.lane.code, index, state, service, peer]⟩
  | .writeEntryStation src tag index state drop address kind period link location shed =>
    some ⟨src, tag, cmdWriteEntry, ([Table.station.code, index, state, drop, address, kind] ++ be16 period ++ [link]
      ++ be16 location ++ [shed])⟩
  | .writeEntryRule src tag index enabled source quantity sense set clear p link signs page priority =>
    some ⟨src, tag, cmdWriteEntry, ([Table.rule.code, index, enabled, source, quantity, sense] ++ be16 set ++ be16 clear
      ++ [p, link] ++ be16 signs ++ [page, priority])⟩
  | .writeEntrySign src tag index station mode level minimum slope =>
    some ⟨src, tag, cmdWriteEntry, ([Table.sign.code, index, station, mode, level, minimum] ++ be16 slope)⟩
  | .writeEntrySlot src tag index depth offset kw light =>
    some ⟨src, tag, cmdWriteEntry, ([Table.slot.code, index, depth, offset] ++ be16 kw ++ [light])⟩
  | .writeEntryParam src tag index ringSize wTq wMq wAq conserveEntry conserveExit holdupEntry holdupExit primary secondary =>
    some ⟨src, tag, cmdWriteEntry, ([Table.param.code, index, ringSize, wTq, wMq, wAq] ++ be16 conserveEntry
      ++ be16 conserveExit ++ be16 holdupEntry ++ be16 holdupExit ++ [primary, secondary])⟩
  | .pageOpen src tag sign page size => some ⟨src, tag, cmdPageOpen, [sign, page, size]⟩
  | .pageData src tag sign page offset data => some ⟨src, tag, cmdPageData, ([sign, page, offset] ++ data)⟩
  | .pageDiscard src tag sign page => some ⟨src, tag, cmdPageDiscard, [sign, page]⟩
  | .signSet src tag sign page priority expiry => some ⟨src, tag, cmdSignSet, ([sign, page, priority] ++ be16 expiry)⟩
  | .signCancel src tag sign => some ⟨src, tag, cmdSignCancel, [sign]⟩
  | .status src tag group => some ⟨src, tag, cmdStatus, [group]⟩
  | .clearCounters src tag group => some ⟨src, tag, cmdClearCounters, [group]⟩
  | .saveConfig src tag => some ⟨src, tag, cmdSaveConfig, []⟩
  | .restart src tag force => some ⟨src, tag, cmdRestart, [force]⟩
    | .fullReset _ | .lightPresent _ | .lossOfLight _ | .blockArrival _ _ | .sendCompletion _ | .creditWindowExpiry _ |
  .keepTimerExpiry _ | .holdoffRepeatExpiry _ | .holdoffReceiverExpiry _ | .keepGapExpiry _ | .provingTimerExpiry _ |
  .stationPollDue _ | .voiceExchangeDue _ | .pollFrameEnd _ | .replyStart _ | .replyFrameEnd _ _ | .brokenFrame _ |
  .replyTimerExpiry _ | .unsolicitedFrame _ | .callingTimerExpiry _ | .clearingTimerExpiry _ | .isolatedTimerExpiry _ |
  .commitWriteCompletion _ | .markWriteCompletion | .readAheadCompletion _ | .storeStepDone | .saveStepCompletion _ |
  .stepTimerExpiry | .abandonedStepCompletion | .scanReadDone _ | .loadReadDone _ | .revertTimerExpiry | .signRequestExpiry _
  | .sampleTimerExpiry _ | .settleTimerExpiry | .feedLostAsserted | .feedLostNegated => none

namespace Laws

/-- The statement: a well-formed row's management command has a node's source and a body of at most 52 bytes. -/
def FitsBlock.Statement (i : Instr) : Prop :=
  i.wellFormed = true → ∀ c : Command, i.command? = some c → c.src.toNat ≤ 23 ∧ c.body.length ≤ 52

/-- A row whose well-formedness is its source's, with a body of fixed size. -/
theorem fitsBlock_of (i : Instr) (src : NodeId) (tag : Byte) (code : BitVec 4) (body : List Byte)
    (hw : i.wellFormed = sourceOk src) (hc : i.command? = some ⟨src, tag, code, body⟩) (hb : body.length ≤ 52) :
    FitsBlock.Statement i := by
  intro h c e
  rw [hw] at h
  rw [hc] at e
  cases e
  exact ⟨of_decide_eq_true h, hb⟩

theorem FitsBlock.fullReset (straps : BitVec 5) : FitsBlock.Statement (.fullReset straps) := fun _ _ e => nomatch e

theorem FitsBlock.lightPresent (port : Side) : FitsBlock.Statement (.lightPresent port) := fun _ _ e => nomatch e

theorem FitsBlock.lossOfLight (port : Side) : FitsBlock.Statement (.lossOfLight port) := fun _ _ e => nomatch e

theorem FitsBlock.blockArrival (port : Side) (bytes : List Byte) : FitsBlock.Statement (.blockArrival port bytes) :=
  fun _ _ e => nomatch e

theorem FitsBlock.sendCompletion (port : Side) : FitsBlock.Statement (.sendCompletion port) := fun _ _ e => nomatch e

theorem FitsBlock.creditWindowExpiry (port : Side) : FitsBlock.Statement (.creditWindowExpiry port) := fun _ _ e => nomatch e

theorem FitsBlock.keepTimerExpiry (port : Side) : FitsBlock.Statement (.keepTimerExpiry port) := fun _ _ e => nomatch e

theorem FitsBlock.holdoffRepeatExpiry (dir : Dir) : FitsBlock.Statement (.holdoffRepeatExpiry dir) := fun _ _ e => nomatch e

theorem FitsBlock.holdoffReceiverExpiry (port : Side) : FitsBlock.Statement (.holdoffReceiverExpiry port) :=
  fun _ _ e => nomatch e

theorem FitsBlock.keepGapExpiry (port : Side) : FitsBlock.Statement (.keepGapExpiry port) := fun _ _ e => nomatch e

theorem FitsBlock.provingTimerExpiry (port : Side) : FitsBlock.Statement (.provingTimerExpiry port) := fun _ _ e => nomatch e

theorem FitsBlock.stationPollDue (slot : Fin 32) : FitsBlock.Statement (.stationPollDue slot) := fun _ _ e => nomatch e

theorem FitsBlock.voiceExchangeDue (slot : Fin 32) : FitsBlock.Statement (.voiceExchangeDue slot) := fun _ _ e => nomatch e

theorem FitsBlock.pollFrameEnd (drop : Fin 4) : FitsBlock.Statement (.pollFrameEnd drop) := fun _ _ e => nomatch e

theorem FitsBlock.replyStart (drop : Fin 4) : FitsBlock.Statement (.replyStart drop) := fun _ _ e => nomatch e

theorem FitsBlock.replyFrameEnd (drop : Fin 4) (bytes : List Byte) : FitsBlock.Statement (.replyFrameEnd drop bytes) :=
  fun _ _ e => nomatch e

theorem FitsBlock.brokenFrame (drop : Fin 4) : FitsBlock.Statement (.brokenFrame drop) := fun _ _ e => nomatch e

theorem FitsBlock.replyTimerExpiry (drop : Fin 4) : FitsBlock.Statement (.replyTimerExpiry drop) := fun _ _ e => nomatch e

theorem FitsBlock.unsolicitedFrame (drop : Fin 4) : FitsBlock.Statement (.unsolicitedFrame drop) := fun _ _ e => nomatch e

theorem FitsBlock.callingTimerExpiry (rec : Fin 16) : FitsBlock.Statement (.callingTimerExpiry rec) := fun _ _ e => nomatch e

theorem FitsBlock.clearingTimerExpiry (rec : Fin 16) : FitsBlock.Statement (.clearingTimerExpiry rec) := fun _ _ e => nomatch e

theorem FitsBlock.isolatedTimerExpiry (rec : Fin 16) : FitsBlock.Statement (.isolatedTimerExpiry rec) := fun _ _ e => nomatch e

theorem FitsBlock.commitWriteCompletion (got : ReadBack) : FitsBlock.Statement (.commitWriteCompletion got) :=
  fun _ _ e => nomatch e

theorem FitsBlock.markWriteCompletion : FitsBlock.Statement (.markWriteCompletion) := fun _ _ e => nomatch e

theorem FitsBlock.readAheadCompletion (got : ReadBack) : FitsBlock.Statement (.readAheadCompletion got) := fun _ _ e => nomatch e

theorem FitsBlock.storeStepDone : FitsBlock.Statement (.storeStepDone) := fun _ _ e => nomatch e

theorem FitsBlock.saveStepCompletion (got : ReadBack) : FitsBlock.Statement (.saveStepCompletion got) := fun _ _ e => nomatch e

theorem FitsBlock.stepTimerExpiry : FitsBlock.Statement (.stepTimerExpiry) := fun _ _ e => nomatch e

theorem FitsBlock.abandonedStepCompletion : FitsBlock.Statement (.abandonedStepCompletion) := fun _ _ e => nomatch e

theorem FitsBlock.scanReadDone (got : ReadBack) : FitsBlock.Statement (.scanReadDone got) := fun _ _ e => nomatch e

theorem FitsBlock.loadReadDone (got : ReadBack) : FitsBlock.Statement (.loadReadDone got) := fun _ _ e => nomatch e

theorem FitsBlock.revertTimerExpiry : FitsBlock.Statement (.revertTimerExpiry) := fun _ _ e => nomatch e

theorem FitsBlock.signRequestExpiry (sign : Fin 12) : FitsBlock.Statement (.signRequestExpiry sign) := fun _ _ e => nomatch e

theorem FitsBlock.sampleTimerExpiry (level : Nat) : FitsBlock.Statement (.sampleTimerExpiry level) := fun _ _ e => nomatch e

theorem FitsBlock.settleTimerExpiry : FitsBlock.Statement (.settleTimerExpiry) := fun _ _ e => nomatch e

theorem FitsBlock.feedLostAsserted : FitsBlock.Statement (.feedLostAsserted) := fun _ _ e => nomatch e

theorem FitsBlock.feedLostNegated : FitsBlock.Statement (.feedLostNegated) := fun _ _ e => nomatch e

theorem FitsBlock.readEntry (src : NodeId) (tag : Byte) (table index : Byte) :
        FitsBlock.Statement (.readEntry src tag table index) :=
  fitsBlock_of _ src tag _ _ rfl rfl (Nat.le_of_ble_eq_true rfl)

theorem FitsBlock.writeEntryLane (src : NodeId) (tag : Byte) (index state service peer : Byte) :
        FitsBlock.Statement (.writeEntryLane src tag index state service peer) :=
  fitsBlock_of _ src tag _ _ rfl rfl (Nat.le_of_ble_eq_true rfl)

theorem FitsBlock.writeEntryStation (src : NodeId) (tag : Byte) (index state drop address kind : Byte) (period : BitVec 16)
    (link : Byte) (location : BitVec 16) (shed : Byte) :
        FitsBlock.Statement (.writeEntryStation src tag index state drop address kind period link location shed) :=
  fitsBlock_of _ src tag _ _ rfl rfl (Nat.le_of_ble_eq_true rfl)

theorem FitsBlock.writeEntryRule (src : NodeId) (tag : Byte) (index enabled source quantity sense : Byte) (set clear : BitVec
    16) (p link : Byte) (signs : BitVec 16) (page priority : Byte) :
        FitsBlock.Statement (.writeEntryRule src tag index enabled source quantity sense set clear p link signs page priority)
    := fitsBlock_of _ src tag _ _ rfl rfl (Nat.le_of_ble_eq_true rfl)

theorem FitsBlock.writeEntrySign (src : NodeId) (tag : Byte) (index station mode level minimum : Byte) (slope : BitVec 16) :
        FitsBlock.Statement (.writeEntrySign src tag index station mode level minimum slope) :=
  fitsBlock_of _ src tag _ _ rfl rfl (Nat.le_of_ble_eq_true rfl)

theorem FitsBlock.writeEntrySlot (src : NodeId) (tag : Byte) (index depth offset : Byte) (kw : BitVec 16) (light : Byte) :
        FitsBlock.Statement (.writeEntrySlot src tag index depth offset kw light) :=
  fitsBlock_of _ src tag _ _ rfl rfl (Nat.le_of_ble_eq_true rfl)

theorem FitsBlock.writeEntryParam (src : NodeId) (tag : Byte) (index ringSize wTq wMq wAq : Byte) (conserveEntry conserveExit
    holdupEntry holdupExit : BitVec 16) (primary secondary : Byte) :
        FitsBlock.Statement (.writeEntryParam src tag index ringSize wTq wMq wAq conserveEntry conserveExit holdupEntry
    holdupExit primary secondary) :=
  fitsBlock_of _ src tag _ _ rfl rfl (Nat.le_of_ble_eq_true rfl)

theorem FitsBlock.pageOpen (src : NodeId) (tag : Byte) (sign page size : Byte) :
        FitsBlock.Statement (.pageOpen src tag sign page size) :=
  fitsBlock_of _ src tag _ _ rfl rfl (Nat.le_of_ble_eq_true rfl)

theorem FitsBlock.pageData (src : NodeId) (tag : Byte) (sign page offset : Byte) (data : List Byte) :
    FitsBlock.Statement (.pageData src tag sign page offset data) := by
  intro h c e
  cases e
  have h2 := (Bool.and_eq_true _ _).mp h
  have hl : data.length ≤ 49 := of_decide_eq_true h2.2
  refine ⟨of_decide_eq_true h2.1, ?_⟩
  show ([sign, page, offset] ++ data).length ≤ 52
  simp only [List.length_append, List.length_cons, List.length_nil]
  omega

theorem FitsBlock.pageDiscard (src : NodeId) (tag : Byte) (sign page : Byte) :
        FitsBlock.Statement (.pageDiscard src tag sign page) :=
  fitsBlock_of _ src tag _ _ rfl rfl (Nat.le_of_ble_eq_true rfl)

theorem FitsBlock.signSet (src : NodeId) (tag : Byte) (sign page priority : Byte) (expiry : BitVec 16) :
        FitsBlock.Statement (.signSet src tag sign page priority expiry) :=
  fitsBlock_of _ src tag _ _ rfl rfl (Nat.le_of_ble_eq_true rfl)

theorem FitsBlock.signCancel (src : NodeId) (tag : Byte) (sign : Byte) :
        FitsBlock.Statement (.signCancel src tag sign) :=
  fitsBlock_of _ src tag _ _ rfl rfl (Nat.le_of_ble_eq_true rfl)

theorem FitsBlock.status (src : NodeId) (tag : Byte) (group : Byte) :
        FitsBlock.Statement (.status src tag group) :=
  fitsBlock_of _ src tag _ _ rfl rfl (Nat.le_of_ble_eq_true rfl)

theorem FitsBlock.clearCounters (src : NodeId) (tag : Byte) (group : Byte) :
        FitsBlock.Statement (.clearCounters src tag group) :=
  fitsBlock_of _ src tag _ _ rfl rfl (Nat.le_of_ble_eq_true rfl)

theorem FitsBlock.saveConfig (src : NodeId) (tag : Byte) :
        FitsBlock.Statement (.saveConfig src tag) :=
  fitsBlock_of _ src tag _ _ rfl rfl (Nat.le_of_ble_eq_true rfl)

theorem FitsBlock.restart (src : NodeId) (tag : Byte) (force : Byte) :
        FitsBlock.Statement (.restart src tag force) :=
  fitsBlock_of _ src tag _ _ rfl rfl (Nat.le_of_ble_eq_true rfl)

end Laws

/-- A management row's meaning: its command handed to the agent of a node outside REPEATER condition. -/
theorem Machine.exec_command (i : Instr) (c : Command) (s : State) (h : i.command? = some c) :
    exec i s = .next (s.unlessRepeater fun s => s.agentReceive c) := by
  cases i <;> cases h <;> rfl

end Sys2Proof
end

