-- ==== Sys2Proof/Laws/Queues.lean ====
section
/-! SUPPORT. What the operations on bounded windows, the play-out queue, RQ and TQ can do, one lemma each. -/

namespace Sys2Proof.Machine

/-- R133: a window holds one value more, and never more than its depth. -/
theorem pushWindow_length (n : Nat) (w : List Int) (x : Int) : (pushWindow n w x).length = min (w.length + 1) n := by
  simp [pushWindow]; omega

/-- R161: the window of the feed holds one sample more, and never more than 8. -/
theorem pushSample_length (w : List Nat) (level : Nat) : (pushSample w level).length = min (w.length + 1) 8 := by
  simp [pushSample]; omega

/-- R84: a frame takes its place between those nearer to next and those farther from it. -/
theorem insertFrame_split (n : Byte) (f : VoiceFrame) (pre post : List VoiceFrame)
    (hpre : ∀ g ∈ pre, distance n g.seq < distance n f.seq) (hpost : ∀ g ∈ post, distance n f.seq < distance n g.seq) :
    insertFrame n f (pre ++ post) = pre ++ f :: post := by
  induction pre with
  | nil =>
    cases post with
    | nil => rfl
    | cons g l => exact if_pos (hpost g (by simp))
  | cons g l ih =>
    have h := hpre g (by simp)
    rw [List.cons_append, insertFrame, if_neg (by omega), ih fun y hy => hpre y (by simp [hy])]
    rfl

/-- R19 step 1: RQ gives nothing to a port that none of its blocks names. -/
theorem takeRq_eq_none (p : Side) (l : List RingOffer) (h : ∀ o ∈ l, o.port ≠ p) : takeRq p l = none := by
  induction l with
  | nil => rfl
  | cons o l ih => simp [takeRq, h o (by simp), ih fun x hx => h x (by simp [hx])]

/-- With no phone waiting the refill does nothing (R64). -/
theorem State.refill_nil (s : State) (h : s.calls.waitList = []) : s.refill = s := by
  simp [State.refill, State.refillWalk, h, State.forEach]

/-- The store arbiter touches no block of the ring. -/
theorem State.storeKick_ring (s : State) : s.storeKick.ring = s.ring := by
  unfold State.storeKick State.startRead State.startOp State.startCommit State.startSave
  dsimp only
  repeat' first | rfl | split

/-- R104: requesting READs touches no block of the ring. -/
theorem State.requestReadsUpTo_ring (n : Nat) : ∀ s : State, (s.requestReadsUpTo n).ring = s.ring := by
  induction n with
  | zero => intro s; rfl
  | succ n ih =>
    intro s
    unfold State.requestReadsUpTo
    split
    · split
      · rfl
      · exact (ih _).trans (State.storeKick_ring _)
    · rfl

/-- R105: the offers to TQ add blocks behind those it holds, and leave the rest of ring transit. -/
theorem State.offerTollsUpTo_ring (n : Nat) : ∀ s : State, ∃ more : List Block,
    (s.offerTollsUpTo n).ring = { s.ring with tq := s.ring.tq ++ more } := by
  induction n with
  | zero => intro s; exact ⟨[], by rw [List.append_nil]; rfl⟩
  | succ n ih =>
    intro s
    unfold State.offerTollsUpTo
    split
    · exact ⟨[], by rw [List.append_nil]⟩
    · rename_i x rest _
      split
      · rename_i r lane _ _
        split
        · obtain ⟨more, e⟩ := ih (State.requestReads ((s.join .tq (tollBlock lane s.lanes[lane].peer x.serial r)).modJrnl
            fun j => j.sentOne x.serial rest s.now))
          refine ⟨s.completed (tollBlock lane s.lanes[lane].peer x.serial r) :: more, e.trans ?_⟩
          rw [State.requestReads, State.requestReadsUpTo_ring, ← List.singleton_append, ← List.append_assoc]
          rfl
        · exact ⟨[], by rw [List.append_nil]⟩
      · exact ⟨[], by rw [List.append_nil]⟩

end Sys2Proof.Machine
end

