-- ==== Sys2Proof/Laws/RingState.lean ====
section
/-! SUPPORT. What a derivation of the ring state leaves (2.3): the two ports as they were and the ring state their faults derive. -/

namespace Sys2Proof.Machine

/-- A change of ring state takes effect and leaves the two ports (counters apart) as they were. -/
theorem State.changeRing_view (s : State) (new : RingState) :
    (s.changeRing new).ringView = (new, s.prot.ports.e.core, s.prot.ports.w.core) := by
  unfold State.changeRing
  dsimp only
  split
  · rw [State.enterIsolated_ringView, State.notify_ringView]; rfl
  · split
    · rw [State.leaveIsolated_ringView, State.notify_ringView]; rfl
    · rw [State.notify_ringView]; rfl

/-- A derivation leaves the ring state as derived and the two ports (counters apart) as they were. -/
theorem State.deriveRing_view (s : State) :
    s.deriveRing.ringView = (s.prot.derived, s.prot.ports.e.core, s.prot.ports.w.core) := by
  unfold State.deriveRing
  split
  · rename_i h; show (s.prot.ring, _, _) = _; rw [h]
  · exact s.changeRing_view _

/-- A view whose ring state is the one its ports derive. -/
theorem ringOk_of_parts {s : State} {r : RingState} {e w : RxPort} (h : s.ringView = (r, e, w))
    (hr : r = ringOf e.faulted w.faulted) : s.ringOk = true := by
  have h1 : s.prot.ring = r := congrArg (·.1) h
  have h2 : s.prot.ports.e.faulted = e.faulted := congrArg (fun v => v.2.1.faulted) h
  have h3 : s.prot.ports.w.faulted = w.faulted := congrArg (fun v => v.2.2.faulted) h
  unfold State.ringOk Protection.derived
  rw [h1, h2, h3, hr, beq_self_eq_true]

/-- After a derivation the ring state is the one the faults derive. -/
theorem State.deriveRing_ringOk (s : State) : s.deriveRing.ringOk = true := ringOk_of_parts s.deriveRing_view rfl

/-- One port of a view. -/
theorem port_of_view {s : State} {r : RingState} {e w : RxPort} (h : s.ringView = (r, e, w)) (p : Side) :
    (s.prot.ports.get p).core = (match p with | .E => e | .W => w) := by
  cases p
  · exact congrArg (fun v => v.2.1) h
  · exact congrArg (fun v => v.2.2) h

end Sys2Proof.Machine
end

