-- ==== Sys2Proof/Laws/SignsKept.lean ====
section
/-! SUPPORT. The operations that reach the sign table or the page store keep the law of LIVE and NEXT and the canonical form. -/

namespace Sys2Proof.Machine

theorem signsOk_of_view {s t : State} (h : t.signView = s.signView) : t.signsOk = s.signsOk := by
  have h1 : t.sign = s.sign := h
  unfold State.signsOk; rw [h1]

/-- The law of every sign, by index. -/
theorem SignService.lawful_iff (g : SignService) :
    g.lawful = true ↔ Memory.wf pageBlank g.store = true ∧ ∀ k : Fin 12, g.signs[k].lawful = true := by
  unfold SignService.lawful
  rw [Bool.and_eq_true, List.all_eq_true]
  refine and_congr_right fun _ => ⟨fun h k => h _ ?_, fun h r hr => ?_⟩
  · exact Vector.mem_toList_iff.mpr (Vector.getElem_mem k.isLt)
  · obtain ⟨i, hi, rfl⟩ := Vector.getElem_of_mem (Vector.mem_toList_iff.mp hr)
    exact h ⟨i, hi⟩

/-- A change of one sign record that keeps its law, with the page store as it was. -/
theorem State.modSignRec_signsOk (s : State) (k : Fin 12) (f : Sign → Sign) (h : s.signsOk = true)
    (hf : s.sign.signs[k].lawful = true → (f s.sign.signs[k]).lawful = true) : (s.modSignRec k f).signsOk = true := by
  have hl := (SignService.lawful_iff s.sign).mp h
  refine (SignService.lawful_iff _).mpr ⟨hl.1, fun i => ?_⟩
  show ((updAt s.sign.signs k f)[i]).lawful = true
  by_cases hik : k = i
  · subst hik; show ((updAt s.sign.signs k f)[k.val]).lawful = true; rw [updAt_get_self]; exact hf (hl.2 k)
  · rw [updAt_get_other _ _ _ _ hik]; exact hl.2 i

/-- A record with the same pages, LIVE and NEXT has the same law. -/
theorem Sign.lawful_congr (r t : Sign) (hp : t.pages = r.pages) (hl : t.live = r.live) (hn : t.next = r.next) :
    t.lawful = r.lawful := by
  unfold Sign.lawful Sign.showsReady Sign.isReady; rw [hp, hl, hn]

/-- A NEXT that is BLANK or a READY page keeps the law. -/
theorem Sign.setNext_lawful (r : Sign) (n : Option (Fin 8)) (h : r.lawful = true) (hn : r.showsReady n = true) :
    (r.setNext n).lawful = true := by
  unfold Sign.setNext
  split
  · exact h
  · split
    · simp only [Sign.lawful, Bool.and_eq_true, Bool.or_eq_true]
      refine ⟨⟨hn, hn⟩, ?_⟩
      cases n <;> simp
    · rename_i q hq
      simp only [Sign.lawful, Bool.and_eq_true, Bool.or_eq_true] at h ⊢
      exact ⟨⟨h.1.1, hn⟩, Or.inl (by rw [hq]; rfl)⟩

/-- The winner is one of the candidates. -/
theorem winner_mem (l : List Candidate) : ∀ c, winner l = some c → c ∈ l := by
  induction l with
  | nil => intro c h; simp [winner] at h
  | cons x l ih =>
    intro c h
    unfold winner at h
    split at h
    · simp only [Option.some.injEq] at h; simp [h]
    · rename_i d hd
      split at h
      · simp only [Option.some.injEq] at h; simp [h]
      · simp only [Option.some.injEq] at h; exact List.mem_cons_of_mem _ (ih c (by rw [hd, h]))

/-- R154: arbitration names BLANK or a READY page. -/
theorem State.arbitrated_ready (s : State) (k : Fin 12) : s.sign.signs[k].showsReady (s.arbitrated k) = true := by
  unfold State.arbitrated
  cases hw : winner ((s.candidates k).filter fun c => s.sign.signs[k].isReady c.page) with
  | none => rfl
  | some c =>
    have := winner_mem _ c hw
    rw [List.mem_filter] at this
    exact this.2

/-- The page store of a page's write stays in canonical form. -/
theorem writePage_wf (p : Page) (l : List Byte) : ∀ (m : Memory) (o : Nat), Memory.wf pageBlank m = true →
    Memory.wf pageBlank (writePage p m o l) = true := by
  induction l with
  | nil => intro m o h; exact h
  | cons b l ih => intro m o h; unfold writePage; exact ih _ _ (Memory.write_wf _ _ _ _ h)

theorem zeroUnits_wf (units : List Nat) : ∀ m : Memory, Memory.wf pageBlank m = true →
    Memory.wf pageBlank (zeroUnits m units) = true := by
  induction units with
  | nil => intro m h; exact h
  | cons u l ih =>
    intro m h
    unfold zeroUnits; rw [List.foldl_cons]
    exact ih _ (Memory.writeList_wf pageBlank _ _ _ h)

/-- A change of one page leaves what the other pages are. -/
theorem Sign.page_showsReady (r : Sign) (p : Fin 8) (f : Page → Page) (o : Option (Fin 8)) (ho : o ≠ some p) :
    Sign.showsReady { r with pages := updAt r.pages p f } o = Sign.showsReady r o := by
  cases o with
  | none => rfl
  | some q =>
    have hq : p ≠ q := fun e => ho (congrArg some e.symm)
    show (((updAt r.pages p f)[q]).state == PageState.ready) = Sign.showsReady r (some q)
    rw [updAt_get_other _ _ _ _ hq]
    rfl

/-- A change of a page that its sign does not show keeps the sign's law. -/
theorem Sign.page_lawful (r : Sign) (p : Fin 8) (f : Page → Page) (h : r.lawful = true) (hs : r.shows p = false) :
    Sign.lawful { r with pages := updAt r.pages p f } = true := by
  simp only [Sign.shows, Bool.or_eq_false_iff, beq_eq_false_iff_ne, ne_eq] at hs
  unfold Sign.lawful at h ⊢
  rw [Sign.page_showsReady r p f _ hs.1, Sign.page_showsReady r p f _ hs.2]
  exact h

theorem State.modPage_keeps (s : State) (k : Fin 12) (p : Fin 8) (f : Page → Page) (h : s.signsOk = true)
    (hs : s.sign.signs[k].shows p = false) : (s.modPage k p f).signsOk = true :=
  State.modSignRec_signsOk s k _ h fun hr => Sign.page_lawful _ p f hr hs

/-- The page store replaced by one in canonical form. -/
theorem State.modStore_signsOk (s : State) (f : Memory → Memory) (h : s.signsOk = true)
    (hf : Memory.wf pageBlank s.sign.store = true → Memory.wf pageBlank (f s.sign.store) = true) :
    (s.modSign fun g => { g with store := f g.store }).signsOk = true := by
  have hl := (SignService.lawful_iff s.sign).mp h
  exact (SignService.lawful_iff _).mpr ⟨hf hl.1, hl.2⟩

/-- Every sign record changed with its pages, LIVE and NEXT kept. -/
theorem State.mapSigns_signsOk (s : State) (v : Vector Sign 12) (h : s.signsOk = true)
    (hv : ∀ k : Fin 12, v[k].pages = s.sign.signs[k].pages ∧ v[k].live = s.sign.signs[k].live ∧
      v[k].next = s.sign.signs[k].next) : (s.modSign fun g => { g with signs := v }).signsOk = true := by
  have hl := (SignService.lawful_iff s.sign).mp h
  refine (SignService.lawful_iff _).mpr ⟨hl.1, fun k => ?_⟩
  have hk := hv k
  exact (Sign.lawful_congr s.sign.signs[k] v[k] hk.1 hk.2.1 hk.2.2).trans (hl.2 k)

/-- R155: the boundary keeps the law. -/
theorem Sign.boundary_lawful (r : Sign) (h : r.lawful = true) : r.boundary.lawful = true := by
  unfold Sign.boundary
  split
  · exact h
  · simp only [Sign.lawful, Bool.and_eq_true, Bool.or_eq_true] at h ⊢
    refine ⟨⟨h.1.2, h.1.2⟩, ?_⟩
    cases r.next <;> simp

theorem Sign.outcome_lawful (r : Sign) (o : SignOutcome) (h : r.lawful = true) : (r.outcome o).lawful = true := by
  unfold Sign.outcome
  split
  · exact h
  · split
    · unfold Sign.advance
      dsimp only
      split
      · exact h
      · split
        · exact Sign.boundary_lawful _ h
        · exact h
    all_goals exact h

/-- A loop whose steps keep it keeps it. -/
theorem State.forEach_signsOk {α : Type} (s : State) (l : List α) (f : α → State → State)
    (hf : ∀ a t, State.signsOk t = true → (f a t).signsOk = true) (h : s.signsOk = true) : (s.forEach l f).signsOk = true := by
  induction l generalizing s with
  | nil => exact h
  | cons a l ih => exact ih (f a s) (hf a s h)

theorem State.countSign_signsOk (s : State) (k : Fin 12) (f : SignCounters → SignCounters) (h : s.signsOk = true) :
    (s.countSign k f).signsOk = true := by
  exact State.modSignRec_signsOk s k _ h fun hr => hr

theorem State.arbitrate_signsOk (s : State) (k : Fin 12) (h : s.signsOk = true) :
    (s.arbitrate k).signsOk = true := by
  exact State.modSignRec_signsOk s k _ h fun hr => Sign.setNext_lawful _ _ hr (State.arbitrated_ready s k)

theorem State.arbitrateSet_signsOk (s : State) (m : BitVec 12) (h : s.signsOk = true) :
    (s.arbitrateSet m).signsOk = true := by
  unfold State.arbitrateSet
  repeat' first | with_reducible assumption | with_reducible apply State.arbitrate_signsOk | with_reducible apply State.forEach_signsOk | intro _ _ _ | split

theorem State.settle_signsOk (s : State) (also : BitVec 12) (but : Option (Fin 32)) (h : s.signsOk = true) :
    (s.settle also but).signsOk = true := by
  unfold State.settle
  repeat' first | with_reducible assumption | simp only [signsOk_of_view (State.modRules_signView _ _ ), signsOk_of_view (State.noticeRule_signView _ _)] | with_reducible apply State.arbitrateSet_signsOk | with_reducible apply State.forEach_signsOk | intro _ _ _ | split

theorem State.evaluate_signsOk (s : State) (k : Fin 8) (h : s.signsOk = true) :
    (s.evaluate k).signsOk = true := by
  unfold State.evaluate
  repeat' first | with_reducible assumption | simp only [signsOk_of_view (State.modRules_signView _ _ )] | with_reducible apply State.settle_signsOk | split

theorem State.writeRule_signsOk (s : State) (i : Fin 32) (x : RuleRecord) (h : s.signsOk = true) :
    (s.writeRule i x).signsOk = true := by
  unfold State.writeRule
  repeat' first | with_reducible assumption | simp only [signsOk_of_view (State.modRule_signView _ _ _ )] | with_reducible apply State.settle_signsOk | split

theorem State.settleAll_signsOk (s : State) (h : s.signsOk = true) :
    (s.settleAll).signsOk = true := by
  unfold State.settleAll
  repeat' first | with_reducible assumption | simp only [signsOk_of_view (State.modRules_signView _ _ )] | with_reducible apply State.arbitrateSet_signsOk | split

theorem State.restartSigns_signsOk (s : State) (h : s.signsOk = true) :
    (s.restartSigns).signsOk = true := by
  unfold State.restartSigns
  repeat' first | with_reducible assumption | simp only [signsOk_of_view (State.modRules_signView _ _ )] | with_reducible apply State.settleAll_signsOk | split

theorem State.pageOpen_signsOk (s : State) (k : Fin 12) (p : Fin 8) (code : Byte) (h : s.signsOk = true) :
    (s.pageOpen k p code).2.signsOk = true := by
  unfold State.pageOpen
  split
  · exact h
  · split
    · exact h
    · rename_i hs
      rw [Bool.not_eq_true] at hs
      dsimp only
      split
      · exact h
      · exact State.modStore_signsOk _ (fun m => zeroUnits m _)
          (State.modSignRec_signsOk _ k _ (State.modPage_keeps s k p _ h hs) fun hr => Sign.page_lawful _ p _ hr (by
            have e : (s.modPage k p fun _ => Page.empty).sign.signs[k]
                = { s.sign.signs[k] with pages := updAt s.sign.signs[k].pages p fun _ => Page.empty } := updAt_get_self _ _ _
            rw [e]; exact hs)) (zeroUnits_wf _ _)

theorem State.pageData_signsOk (s : State) (k : Fin 12) (p : Fin 8) (offset : Nat) (data : List Byte) (h : s.signsOk = true) :
    (s.pageData k p offset data).2.signsOk = true := by
  unfold State.pageData
  dsimp only
  split
  · exact h
  · rename_i hs
    split
    · exact h
    · have h1 := State.modStore_signsOk s (fun m => writePage s.sign.signs[k].pages[p] m offset data) h (writePage_wf _ _ _ _)
      have h2 := State.modPage_keeps _ k p (·.extend (offset + data.length)) h1 (by
        show s.sign.signs[k].shows p = false
        rw [← Bool.not_eq_true]; exact fun e => hs (Or.inr e))
      split
      · exact State.arbitrate_signsOk _ k h2
      · exact h2

theorem State.pageDiscard_signsOk (s : State) (k : Fin 12) (p : Fin 8) (h : s.signsOk = true) :
    (s.pageDiscard k p).2.signsOk = true := by
  unfold State.pageDiscard
  split
  · exact h
  · rename_i hs
    split
    · exact h
    · exact State.arbitrate_signsOk _ k (State.modPage_keeps s k p _ h (by rwa [Bool.not_eq_true] at hs))

theorem State.signSet_signsOk (s : State) (k : Fin 12) (p : Fin 8) (priority minutes : Nat) (h : s.signsOk = true) :
    (s.signSet k p priority minutes).2.signsOk = true := by
  unfold State.signSet
  split
  · exact h
  · exact State.arbitrate_signsOk _ k (State.modSignRec_signsOk s k _ h fun hr => hr)

theorem State.dropRequest_signsOk (s : State) (k : Fin 12) (h : s.signsOk = true) :
    (s.dropRequest k).signsOk = true := by
  exact State.arbitrate_signsOk _ k (State.modSignRec_signsOk s k _ h fun hr => hr)

theorem State.signCancel_signsOk (s : State) (k : Fin 12) (h : s.signsOk = true) :
    (s.signCancel k).2.signsOk = true := by
  unfold State.signCancel
  repeat' first | with_reducible assumption | with_reducible apply State.dropRequest_signsOk | split

theorem State.signPayload_signsOk (s : State) (k : Fin 12) (h : s.signsOk = true) :
    (s.signPayload k).2.signsOk = true := by
  exact State.modSignRec_signsOk s k _ h fun hr => hr

theorem State.signOutcome_signsOk (s : State) (k : Fin 12) (o : SignOutcome) (h : s.signsOk = true) :
    (s.signOutcome k o).signsOk = true := by
  exact State.modSignRec_signsOk s k _ h fun hr => Sign.outcome_lawful _ o hr

theorem State.relinkSign_signsOk (s : State) (k : Fin 12) (station : Option (Fin 32)) (h : s.signsOk = true) :
    (s.relinkSign k station).signsOk = true := by
  exact State.modSignRec_signsOk s k _ h fun hr => hr

theorem State.writeSign_signsOk (s : State) (k : Fin 12) (m : IntensityMode) (h : s.signsOk = true) :
    (s.writeSign k m).signsOk = true := by
  exact State.arbitrate_signsOk _ k (State.modSignRec_signsOk s k _ h fun hr => hr)

theorem State.stationPayload_signsOk (s : State) (slot : Fin 32) (h : s.signsOk = true) :
    (s.stationPayload slot).2.signsOk = true := by
  unfold State.stationPayload
  repeat' first | with_reducible assumption | simp only [signsOk_of_view (State.carryAnswers_signView _ _)] | with_reducible apply State.signPayload_signsOk | split

theorem State.beginPoll_signsOk (s : State) (d : Fin 4) (slot : Fin 32) (h : s.signsOk = true) :
    (s.beginPoll d slot).signsOk = true := by
  unfold State.beginPoll
  repeat' first | with_reducible assumption | simp only [signsOk_of_view (State.beginExchange_signView _ _ _ _)] | with_reducible apply State.stationPayload_signsOk | split

theorem State.chooseFrom_signsOk (s : State) (d : Fin 4) (voices polls : List (Fin 32 × Nat)) (h : s.signsOk = true) :
    (s.chooseFrom d voices polls).signsOk = true := by
  unfold State.chooseFrom
  repeat' first | with_reducible assumption | simp only [signsOk_of_view (State.beginBroadcast_signView _ _), signsOk_of_view (State.beginVoice_signView _ _ _)] | with_reducible apply State.beginPoll_signsOk | split

theorem State.dropChoose_signsOk (s : State) (d : Fin 4) (h : s.signsOk = true) :
    (s.dropChoose d).signsOk = true :=
  State.chooseFrom_signsOk s d _ _ h

theorem State.endChoose_signsOk (s : State) (d : Fin 4) (h : s.signsOk = true) :
    (s.endChoose d).signsOk = true :=
  State.chooseFrom_signsOk s d _ _ h

theorem State.dropsChoose_signsOk (s : State) (h : s.signsOk = true) :
    (s.dropsChoose).signsOk = true := by
  unfold State.dropsChoose
  repeat' first | with_reducible assumption | with_reducible apply State.dropChoose_signsOk | with_reducible apply State.forEach_signsOk | intro _ _ _ | split

theorem State.seatTaken_signsOk (s : State) (slot : Fin 32) (h : s.signsOk = true) :
    (s.seatTaken slot).signsOk = true := by
  unfold State.seatTaken
  repeat' first | with_reducible assumption | simp only [signsOk_of_view (State.modStation_signView _ _ _ )] | with_reducible apply State.dropChoose_signsOk | split

theorem State.seize_signsOk (s : State) (r : Fin 16) (slot : Fin 32) (h : s.signsOk = true) :
    (s.seize r slot).signsOk = true := by
  unfold State.seize
  repeat' first | with_reducible assumption | simp only [signsOk_of_view (State.modRecord_signView _ _ _ )] | with_reducible apply State.seatTaken_signsOk | split

theorem State.refillOne_signsOk (s : State) (slot : Fin 32) (h : s.signsOk = true) :
    (s.refillOne slot).signsOk = true := by
  unfold State.refillOne
  repeat' first | with_reducible assumption | simp only [signsOk_of_view (State.leaveWaitList_signView _ _)] | with_reducible apply State.seize_signsOk | split

theorem State.refillWalk_signsOk (s : State) (h : s.signsOk = true) :
    (s.refillWalk).signsOk = true := by
  unfold State.refillWalk
  repeat' first | with_reducible assumption | with_reducible apply State.refillOne_signsOk | with_reducible apply State.forEach_signsOk | intro _ _ _ | split

theorem State.refill_signsOk (s : State) (h : s.signsOk = true) :
    (s.refill).signsOk = true := by
  unfold State.refill
  repeat' first | with_reducible assumption | simp only [signsOk_of_view (State.testSeized_signView _)] | with_reducible apply State.refillWalk_signsOk | split

theorem State.offHook_signsOk (s : State) (slot : Fin 32) (h : s.signsOk = true) :
    (s.offHook slot).signsOk = true := by
  unfold State.offHook
  repeat' first | with_reducible assumption | simp only [signsOk_of_view (State.modCalls_signView _ _ ), signsOk_of_view (State.countCalls_signView _ _), signsOk_of_view (State.notify_signView _ _), signsOk_of_view (State.testSeized_signView _)] | with_reducible apply State.seize_signsOk | split

theorem State.freeCall_signsOk (s : State) (r : Fin 16) (h : s.signsOk = true) :
    (s.freeCall r).signsOk = true := by
  unfold State.freeCall
  repeat' first | with_reducible assumption | simp only [signsOk_of_view (State.clearRecord_signView _ _), signsOk_of_view (State.testSeized_signView _)] | with_reducible apply State.refill_signsOk | split

theorem State.clearLocal_signsOk (s : State) (r : Fin 16) (reason : ClearReason) (h : s.signsOk = true) :
    (s.clearLocal r reason).signsOk = true := by
  unfold State.clearLocal
  repeat' first | with_reducible assumption | simp only [signsOk_of_view (State.modRecord_signView _ _ _ ), signsOk_of_view (State.countCalls_signView _ _), signsOk_of_view (State.releaseSeat_signView _ _), signsOk_of_view (State.sendClear_signView _ _ _)] | with_reducible apply State.refill_signsOk | split

theorem State.clearCentre_signsOk (s : State) (r : Fin 16) (seq : Byte) (h : s.signsOk = true) :
    (s.clearCentre r seq).signsOk = true := by
  unfold State.clearCentre
  repeat' first | with_reducible assumption | simp only [signsOk_of_view (State.modRecord_signView _ _ _ ), signsOk_of_view (State.countCalls_signView _ _), signsOk_of_view (State.releaseSeat_signView _ _), signsOk_of_view (State.sendCall_signView _ _ _ _)] | with_reducible apply State.refill_signsOk | split

theorem State.endCall_signsOk (s : State) (r : Fin 16) (reason : ClearReason) (h : s.signsOk = true) :
    (s.endCall r reason).signsOk = true := by
  unfold State.endCall
  repeat' first | with_reducible assumption | with_reducible apply State.freeCall_signsOk | with_reducible apply State.clearLocal_signsOk | split

theorem State.phoneGone_signsOk (s : State) (slot : Fin 32) (reason : ClearReason) (h : s.signsOk = true) :
    (s.phoneGone slot reason).signsOk = true := by
  unfold State.phoneGone
  repeat' first | with_reducible assumption | simp only [signsOk_of_view (State.leaveWaitList_signView _ _)] | with_reducible apply State.endCall_signsOk | split

theorem State.takeHook_signsOk (s : State) (slot : Fin 32) (offHook : Bool) (h : s.signsOk = true) :
    (s.takeHook slot offHook).signsOk = true := by
  unfold State.takeHook
  repeat' first | with_reducible assumption | with_reducible apply State.offHook_signsOk | with_reducible apply State.phoneGone_signsOk | split

theorem State.takeClear_signsOk (s : State) (r : Fin 16) (seq : Byte) (h : s.signsOk = true) :
    (s.takeClear r seq).signsOk = true := by
  unfold State.takeClear
  repeat' first | with_reducible assumption | simp only [signsOk_of_view (State.sendCall_signView _ _ _ _)] | with_reducible apply State.freeCall_signsOk | with_reducible apply State.clearCentre_signsOk | split

theorem State.takeCleared_signsOk (s : State) (r : Fin 16) (h : s.signsOk = true) :
    (s.takeCleared r).signsOk = true := by
  unfold State.takeCleared
  repeat' first | with_reducible assumption | simp only [signsOk_of_view (State.lateSignal_signView _)] | with_reducible apply State.freeCall_signsOk | split

theorem State.takeCallBlock_signsOk (s : State) (b : Block) (h : s.signsOk = true) :
    (s.takeCallBlock b).signsOk = true := by
  unfold State.takeCallBlock
  repeat' first | with_reducible assumption | simp only [signsOk_of_view (State.takeHeld_signView _ _), signsOk_of_view (State.sendCall_signView _ _ _ _), signsOk_of_view (State.unknownCall_signView _), signsOk_of_view (State.takeAnswer_signView _ _)] | with_reducible apply State.takeCleared_signsOk | with_reducible apply State.takeClear_signsOk | split

theorem State.clearingExpires_signsOk (s : State) (r : Fin 16) (h : s.signsOk = true) :
    (s.clearingExpires r).signsOk = true := by
  unfold State.clearingExpires
  repeat' first | with_reducible assumption | simp only [signsOk_of_view (State.modRecord_signView _ _ _ ), signsOk_of_view (State.sendClear_signView _ _ _)] | with_reducible apply State.freeCall_signsOk | split

theorem State.reportOffline_signsOk (s : State) (x : Snapshot) (before : StationState) (h : s.signsOk = true) :
    (s.reportOffline x before).signsOk = true := by
  unfold State.reportOffline
  repeat' first | with_reducible assumption | simp only [signsOk_of_view (State.weatherOffline_signView _ _)] | with_reducible apply State.phoneGone_signsOk | split

theorem State.takeReading_signsOk (s : State) (x : Snapshot) (k : Fin 8) (rd : Reading) (h : s.signsOk = true) :
    (s.takeReading x k rd).signsOk = true := by
  unfold State.takeReading
  repeat' first | with_reducible assumption | simp only [signsOk_of_view (State.modSlot_signView _ _ _ ), signsOk_of_view (State.forwardReading_signView _ _ _ _ _ _), signsOk_of_view (State.countSlot_signView _ _ _)] | with_reducible apply State.evaluate_signsOk | split

theorem State.handOver_signsOk (s : State) (x : Snapshot) (n : Reply) (h : s.signsOk = true) :
    (s.handOver x n).signsOk = true := by
  unfold State.handOver
  repeat' first | with_reducible assumption | simp only [signsOk_of_view (State.takeTxn_signView _ _ _ _ _ _)] | with_reducible apply State.takeHook_signsOk | with_reducible apply State.takeReading_signsOk | split

theorem State.dispatch_signsOk (s : State) (x : Snapshot) (voice : Bool) (r : Reply) (h : s.signsOk = true) :
    (s.dispatch x voice r).signsOk = true := by
  unfold State.dispatch
  repeat' first | with_reducible assumption | simp only [signsOk_of_view (State.countDrop_signView _ _ _)] | with_reducible apply State.handOver_signsOk | split

theorem State.reportOutcome_signsOk (s : State) (x : Snapshot) (o : ExchangeEnd) (h : s.signsOk = true) :
    (s.reportOutcome x o).signsOk = true := by
  unfold State.reportOutcome
  repeat' first | with_reducible assumption | simp only [signsOk_of_view (State.answersOutcome_signView _ _ _)] | with_reducible apply State.signOutcome_signsOk | split

theorem State.applyEnd_signsOk (s : State) (x : Snapshot) (voice : Bool) (begun : Nat) (o : ExchangeEnd) (h : s.signsOk = true) :
    (s.applyEnd x voice begun o).signsOk = true := by
  unfold State.applyEnd
  repeat' first | with_reducible assumption | simp only [signsOk_of_view (State.modStation_signView _ _ _ ), signsOk_of_view (State.noticeStation_signView _ _ _), signsOk_of_view (State.reportVoice_signView _ _ _ _), signsOk_of_view (State.countDrop_signView _ _ _)] | with_reducible apply State.reportOutcome_signsOk | with_reducible apply State.dispatch_signsOk | with_reducible apply State.reportOffline_signsOk | split

theorem State.settleEnd_signsOk (s : State) (x : Snapshot) (voice : Bool) (begun : Nat) (o : ExchangeEnd) (h : s.signsOk = true) :
    (s.settleEnd x voice begun o).signsOk = true := by
  unfold State.settleEnd
  repeat' first | with_reducible assumption | simp only [signsOk_of_view (State.countDrop_signView _ _ _)] | with_reducible apply State.applyEnd_signsOk | split

theorem State.completeWith_signsOk (s : State) (d : Fin 4) (o : ExchangeEnd) (h : s.signsOk = true) :
    (s.completeWith d o).signsOk = true := by
  unfold State.completeWith
  repeat' first | with_reducible assumption | simp only [signsOk_of_view (State.lineIdle_signView _ _)] | with_reducible apply State.endChoose_signsOk | with_reducible apply State.settleEnd_signsOk | split

theorem State.frameEnds_signsOk (s : State) (d : Fin 4) (o : ExchangeEnd) (h : s.signsOk = true) :
    (s.frameEnds d o).signsOk = true := by
  unfold State.frameEnds
  repeat' first | with_reducible assumption | simp only [signsOk_of_view (State.countBad_signView _ _ _)] | with_reducible apply State.completeWith_signsOk | split

theorem State.frameArrives_signsOk (s : State) (d : Fin 4) (o : ExchangeEnd) (h : s.signsOk = true) :
    (s.frameArrives d o).signsOk = true := by
  unfold State.frameArrives
  repeat' first | with_reducible assumption | simp only [signsOk_of_view (State.countUnsolicited_signView _ _)] | with_reducible apply State.frameEnds_signsOk | split

theorem State.frameSent_signsOk (s : State) (d : Fin 4) (h : s.signsOk = true) :
    (s.frameSent d).signsOk = true := by
  unfold State.frameSent
  repeat' first | with_reducible assumption | simp only [signsOk_of_view (State.modDrop_signView _ _ _ ), signsOk_of_view (State.lineIdle_signView _ _)] | with_reducible apply State.endChoose_signsOk | split

theorem State.changeSupply_signsOk (s : State) (new : SupplyState) (cause : SupplyCause) (h : s.signsOk = true) :
    (s.changeSupply new cause).signsOk = true := by
  unfold State.changeSupply
  repeat' first | with_reducible assumption | simp only [signsOk_of_view (State.modSup_signView _ _ ), signsOk_of_view (State.supplyToJournal_signView _ _ _), signsOk_of_view (State.notify_signView _ _), signsOk_of_view (State.setBroadcasts_signView _)] | with_reducible apply State.dropsChoose_signsOk | split

theorem State.judgeAverage_signsOk (s : State) (avg : Nat) (h : s.signsOk = true) :
    (s.judgeAverage avg).signsOk = true := by
  unfold State.judgeAverage
  repeat' first | with_reducible assumption | simp only [signsOk_of_view (State.modSup_signView _ _ )] | with_reducible apply State.changeSupply_signsOk | split

theorem State.sampleFeed_signsOk (s : State) (level : Nat) (h : s.signsOk = true) :
    (s.sampleFeed level).signsOk = true := by
  unfold State.sampleFeed
  repeat' first | with_reducible assumption | simp only [signsOk_of_view (State.modSup_signView _ _ )] | with_reducible apply State.judgeAverage_signsOk | split

theorem State.settleExpires_signsOk (s : State) (h : s.signsOk = true) :
    (s.settleExpires).signsOk = true := by
  unfold State.settleExpires
  repeat' first | with_reducible assumption | with_reducible apply State.changeSupply_signsOk | split

theorem State.assertFeedLost_signsOk (s : State) (h : s.signsOk = true) :
    (s.assertFeedLost).signsOk = true := by
  unfold State.assertFeedLost
  repeat' first | with_reducible assumption | simp only [signsOk_of_view (State.modSup_signView _ _ )] | with_reducible apply State.changeSupply_signsOk | split

theorem State.clearSigns_signsOk (s : State) (h : s.signsOk = true) :
    (s.clearSigns).signsOk = true := by
  unfold State.clearSigns
  exact State.mapSigns_signsOk _ _ h fun k => by simp

theorem State.clearGroup_signsOk (s : State) (n : Group) (h : s.signsOk = true) :
    (s.clearGroup n).signsOk = true := by
  unfold State.clearGroup
  repeat' first | with_reducible assumption | simp only [signsOk_of_view (State.clearCalls_signView _), signsOk_of_view (State.clearSupply_signView _), signsOk_of_view (State.clearJournal_signView _), signsOk_of_view (State.clearLanes_signView _), signsOk_of_view (State.clearRing_signView _), signsOk_of_view (State.clearSlots_signView _), signsOk_of_view (State.clearDrop_signView _)] | with_reducible apply State.clearSigns_signsOk | split

theorem State.reportLink_signsOk (s : State) (e : Station) (h : s.signsOk = true) :
    (s.reportLink e).signsOk = true := by
  unfold State.reportLink
  repeat' first | with_reducible assumption | simp only [signsOk_of_view (State.modSlot_signView _ _ _ )] | with_reducible apply State.relinkSign_signsOk | split

theorem State.reportStation_signsOk (s : State) (i : Fin 32) (old : Station) (x : StationRecord) (h : s.signsOk = true) :
    (s.reportStation i old x).signsOk = true := by
  unfold State.reportStation
  repeat' first | with_reducible assumption | simp only [signsOk_of_view (State.emptyAnswers_signView _ _)] | with_reducible apply State.reportLink_signsOk | split

theorem State.writeStation_signsOk (s : State) (i : Fin 32) (l : List Byte) (h : s.signsOk = true) :
    (s.writeStation i l).2.signsOk = true := by
  unfold State.writeStation
  repeat' first | with_reducible assumption | simp only [signsOk_of_view (State.modStation_signView _ _ _ )] | with_reducible apply State.reportStation_signsOk | with_reducible apply State.dropChoose_signsOk | split

theorem State.writeRuleEntry_signsOk (s : State) (i : Fin 32) (l : List Byte) (h : s.signsOk = true) :
    (s.writeRuleEntry i l).2.signsOk = true := by
  unfold State.writeRuleEntry
  repeat' first | with_reducible assumption | with_reducible apply State.writeRule_signsOk | split

theorem State.writeSignEntry_signsOk (s : State) (k : Fin 12) (l : List Byte) (h : s.signsOk = true) :
    (s.writeSignEntry k l).2.signsOk = true := by
  unfold State.writeSignEntry
  repeat' first | with_reducible assumption | with_reducible apply State.writeSign_signsOk | split

theorem State.writeEntry_signsOk (s : State) (t : Table) (i : Nat) (l : List Byte) (h : s.signsOk = true) :
    (s.writeEntry t i l).2.signsOk = true := by
  unfold State.writeEntry
  split
  · cases fin? 64 i <;> simp only [Option.elim]
    · exact h
    · rw [signsOk_of_view (State.writeLane_signView s _ l)]; exact h
  · cases fin? 32 i <;> simp only [Option.elim]
    · exact h
    · exact State.writeStation_signsOk s _ l h
  · cases fin? 32 i <;> simp only [Option.elim]
    · exact h
    · exact State.writeRuleEntry_signsOk s _ l h
  · cases fin? 12 i <;> simp only [Option.elim]
    · exact h
    · exact State.writeSignEntry_signsOk s _ l h
  · cases fin? 8 i <;> simp only [Option.elim]
    · exact h
    · rw [signsOk_of_view (State.writeSlotEntry_signView s _ l)]; exact h
  · rw [signsOk_of_view (State.writeParams_signView s l)]; exact h

theorem State.restartAll_signsOk (s : State) (h : s.signsOk = true) :
    (s.restartAll).signsOk = true := by
  unfold State.restartAll
  repeat' first | with_reducible assumption | simp only [signsOk_of_view (State.modRing_signView _ _ ), signsOk_of_view (State.restartWeather_signView _), signsOk_of_view (State.unbindAll_signView _), signsOk_of_view (State.restartCalls_signView _), signsOk_of_view (State.restartCustody_signView _)] | with_reducible apply State.restartSigns_signsOk | split

theorem State.perform_signsOk (s : State) (src : NodeId) (tag : Byte) (o : Order) (h : s.signsOk = true) :
    (s.perform src tag o).2.signsOk = true := by
  unfold State.perform
  split
  · exact h
  · exact State.writeEntry_signsOk _ _ _ _ h
  · exact State.pageOpen_signsOk _ _ _ _ h
  · exact State.pageData_signsOk _ _ _ _ _ h
  · exact State.pageDiscard_signsOk _ _ _ h
  · exact State.signSet_signsOk _ _ _ _ _ h
  · exact State.signCancel_signsOk _ _ h
  · exact h
  · exact State.clearGroup_signsOk _ _ h
  · exact (signsOk_of_view (State.beginSave_signView _ _ _)).trans h
  · split
    · exact h
    · exact State.restartAll_signsOk _ h

theorem State.carryOut_signsOk (s : State) (c : Command) (h : s.signsOk = true) :
    (s.carryOut c).2.signsOk = true := by
  unfold State.carryOut
  repeat' first | with_reducible assumption | with_reducible apply State.perform_signsOk | split

theorem State.takeCommand_signsOk (s : State) (c : Command) (rest : List Command) (h : s.signsOk = true) :
    (s.takeCommand c rest).signsOk = true := by
  unfold State.takeCommand
  repeat' first | with_reducible assumption | simp only [signsOk_of_view (State.modAgent_signView _ _ ), signsOk_of_view (State.reply_signView _ _ _)] | with_reducible apply State.carryOut_signsOk | split

theorem State.agentTurn_signsOk (s : State) (h : s.signsOk = true) (t : State) (ht : s.agentTurn = some t) :
    t.signsOk = true := by
  unfold State.agentTurn at ht
  split at ht
  · split at ht
    · cases ht; rw [signsOk_of_view (State.passReply_signView s _ _)]; exact h
    · cases ht
  · cases ht; exact State.takeCommand_signsOk s _ _ h
  · cases ht

theorem State.agentTurns_signsOk (s : State) (n : Nat) (h : s.signsOk = true) :
    (s.agentTurns n).signsOk = true := by
  induction n generalizing s with
  | zero => exact h
  | succ n ih =>
    unfold State.agentTurns
    split
    · exact h
    · rename_i ha _; exact ih _ (State.agentTurn_signsOk s h _ ha)
    · rename_i _ hb; exact ih _ ((signsOk_of_view (State.noticeTurn_signView s _ hb)).trans h)
    · rename_i ha hb
      split
      · exact ih _ ((signsOk_of_view (State.spend_signView _ _)).trans (State.agentTurn_signsOk s h _ ha))
      · exact ih _ ((signsOk_of_view ((State.spend_signView _ _).trans (State.noticeTurn_signView s _ hb))).trans h)

theorem State.agentRun_signsOk (s : State) (h : s.signsOk = true) :
    (s.agentRun).signsOk = true := by
  unfold State.agentRun
  repeat' first | with_reducible assumption | with_reducible apply State.agentTurns_signsOk | split

theorem State.agentReceive_signsOk (s : State) (c : Command) (h : s.signsOk = true) :
    (s.agentReceive c).signsOk = true := by
  unfold State.agentReceive
  repeat' first | with_reducible assumption | simp only [signsOk_of_view (State.modAgent_signView _ _ ), signsOk_of_view (State.refuseBusy_signView _ _)] | with_reducible apply State.agentRun_signsOk | split

theorem State.saveReplies_signsOk (s : State) (st : Status) (content : List Byte) (h : s.signsOk = true) :
    (s.saveReplies st content).signsOk = true := by
  unfold State.saveReplies
  repeat' first | with_reducible assumption | simp only [signsOk_of_view (State.modAgent_signView _ _ ), signsOk_of_view (State.reply_signView _ _ _)] | with_reducible apply State.agentRun_signsOk | split

theorem State.failSave_signsOk (s : State) (cause : StoreCause) (h : s.signsOk = true) :
    (s.failSave cause).signsOk = true := by
  unfold State.failSave
  repeat' first | with_reducible assumption | simp only [signsOk_of_view (State.modCtl_signView _ _ ), signsOk_of_view (State.notify_signView _ _)] | with_reducible apply State.saveReplies_signsOk | split

theorem State.saveSucceeds_signsOk (s : State) (sv : Save) (h : s.signsOk = true) :
    (s.saveSucceeds sv).signsOk = true := by
  unfold State.saveSucceeds
  repeat' first | with_reducible assumption | simp only [signsOk_of_view (State.modCtl_signView _ _ ), signsOk_of_view (State.notify_signView _ _)] | with_reducible apply State.saveReplies_signsOk | split

theorem State.saveStepVerified_signsOk (s : State) (bytes : List Byte) (h : s.signsOk = true) :
    (s.saveStepVerified bytes).signsOk = true := by
  unfold State.saveStepVerified
  repeat' first | with_reducible assumption | simp only [signsOk_of_view (State.modCtl_signView _ _ )] | with_reducible apply State.saveSucceeds_signsOk | split

theorem State.saveSlotCompletes_signsOk (s : State) (slot : Nat) (bytes : List Byte) (got : ReadBack) (h : s.signsOk = true) :
    (s.saveSlotCompletes slot bytes got).signsOk = true := by
  unfold State.saveSlotCompletes
  repeat' first | with_reducible assumption | simp only [signsOk_of_view (State.storeKick_signView _), signsOk_of_view (State.countMismatch_signView _), signsOk_of_view (State.spoilHeader_signView _ _), signsOk_of_view (State.endOp_signView _), signsOk_of_view (State.afterRead_signView _ _ _)] | with_reducible apply State.saveStepVerified_signsOk | with_reducible apply State.failSave_signsOk | split

theorem State.journalScanned_signsOk (s : State) (r : Rebuilt) (h : s.signsOk = true) :
    (s.journalScanned r).signsOk = true := by
  unfold State.journalScanned
  repeat' first | with_reducible assumption | simp only [signsOk_of_view (State.modJrnl_signView _ _ ), signsOk_of_view (State.journalFault_signView _ _), signsOk_of_view (State.notify_signView _ _)] | with_reducible apply State.afterScan_signsOk | split

theorem State.afterScan_signsOk (s : State) (h : s.signsOk = true) :
    (s.afterScan).signsOk = true := by
  unfold State.afterScan
  repeat' first | with_reducible assumption | simp only [signsOk_of_view (State.modCtl_signView _ _ ), signsOk_of_view (State.loadRead_signView _ _), signsOk_of_view (State.storeKick_signView _)] | with_reducible apply State.dropsChoose_signsOk | split

theorem State.scanEnds_signsOk (s : State) (h : s.signsOk = true) :
    (s.scanEnds).signsOk = true := by
  unfold State.scanEnds
  repeat' first | with_reducible assumption | simp only [signsOk_of_view (State.modCtl_signView _ _ )] | with_reducible apply State.journalScanned_signsOk | with_reducible apply State.afterScan_signsOk | split

theorem State.scanReadCompletes_signsOk (s : State) (slot : Nat) (got : ReadBack) (h : s.signsOk = true) :
    (s.scanReadCompletes slot got).signsOk = true := by
  unfold State.scanReadCompletes
  repeat' first | with_reducible assumption | simp only [signsOk_of_view (State.modCtl_signView _ _ ), signsOk_of_view (State.scanRead_signView _ _), signsOk_of_view (State.afterRead_signView _ _ _)] | with_reducible apply State.scanEnds_signsOk | split

theorem State.applyImage_signsOk (s : State) (slots : List (List Byte)) (h : s.signsOk = true) :
    (s.applyImage slots).signsOk = true := by
  unfold State.applyImage
  dsimp only
  rw [signsOk_of_view (State.modSup_signView _ _), signsOk_of_view (State.modAgent_signView _ _),
    signsOk_of_view (State.modSlots_signView _ _)]
  refine State.mapSigns_signsOk _ _ ?_ fun k => by simp
  simp only [signsOk_of_view (State.modRules_signView _ _), signsOk_of_view (State.modPoll_signView _ _),
    signsOk_of_view (State.modLanes_signView _ _), h]

theorem State.endLoad_signsOk (s : State) (o : LoadOutcome) (h : s.signsOk = true) :
    (s.endLoad o).signsOk = true := by
  unfold State.endLoad
  repeat' first | with_reducible assumption | simp only [signsOk_of_view (State.modCtl_signView _ _ ), signsOk_of_view (State.noteLoad_signView _ _), signsOk_of_view (State.storeKick_signView _)] | with_reducible apply State.dropsChoose_signsOk | with_reducible apply State.settleAll_signsOk | split

theorem State.judgeImage_signsOk (s : State) (ld : Load) (h : s.signsOk = true) :
    (s.judgeImage ld).signsOk = true := by
  unfold State.judgeImage
  repeat' first | with_reducible assumption | with_reducible apply State.applyImage_signsOk | with_reducible apply State.endLoad_signsOk | split

theorem State.loadReadCompletes_signsOk (s : State) (slot : Nat) (got : ReadBack) (h : s.signsOk = true) :
    (s.loadReadCompletes slot got).signsOk = true := by
  unfold State.loadReadCompletes
  repeat' first | with_reducible assumption | simp only [signsOk_of_view (State.modCtl_signView _ _ ), signsOk_of_view (State.loadRead_signView _ _), signsOk_of_view (State.afterRead_signView _ _ _)] | with_reducible apply State.judgeImage_signsOk | with_reducible apply State.endLoad_signsOk | split

theorem State.reportTimeout_signsOk (s : State) (h : s.signsOk = true) :
    (s.reportTimeout).signsOk = true := by
  unfold State.reportTimeout
  repeat' first | with_reducible assumption | simp only [signsOk_of_view (State.journalFault_signView _ _)] | with_reducible apply State.failSave_signsOk | split

theorem State.stepExpires_signsOk (s : State) (h : s.signsOk = true) :
    (s.stepExpires).signsOk = true := by
  unfold State.stepExpires
  repeat' first | with_reducible assumption | simp only [signsOk_of_view (State.scanResumes_signView _), signsOk_of_view (State.storeKick_signView _), signsOk_of_view (State.countTimeout_signView _), signsOk_of_view (State.endOp_signView _), signsOk_of_view (State.abandonWrite_signView _)] | with_reducible apply State.endLoad_signsOk | with_reducible apply State.reportTimeout_signsOk | with_reducible apply State.afterScan_signsOk | split

theorem State.leaveIsolated_signsOk (s : State) (h : s.signsOk = true) :
    (s.leaveIsolated).signsOk = true := by
  unfold State.leaveIsolated
  repeat' first | with_reducible assumption | simp only [signsOk_of_view (State.callsHealed_signView _), signsOk_of_view (State.offerTolls_signView _)] | with_reducible apply State.agentRun_signsOk | split

theorem State.changeRing_signsOk (s : State) (new : RingState) (h : s.signsOk = true) :
    (s.changeRing new).signsOk = true := by
  unfold State.changeRing
  repeat' first | with_reducible assumption | simp only [signsOk_of_view (State.modProt_signView _ _ ), signsOk_of_view (State.enterIsolated_signView _), signsOk_of_view (State.notify_signView _ _)] | with_reducible apply State.leaveIsolated_signsOk | split

theorem State.deriveRing_signsOk (s : State) (h : s.signsOk = true) :
    (s.deriveRing).signsOk = true := by
  unfold State.deriveRing
  repeat' first | with_reducible assumption | with_reducible apply State.changeRing_signsOk | split

theorem State.portDown_signsOk (s : State) (p : Side) (cause : LinkCause) (h : s.signsOk = true) :
    (s.portDown p cause).signsOk = true := by
  unfold State.portDown
  repeat' first | with_reducible assumption | simp only [signsOk_of_view (State.modPort_signView _ _ _ ), signsOk_of_view (State.noticeLink_signView _ _ _)] | with_reducible apply State.deriveRing_signsOk | split

theorem State.validArrival_signsOk (s : State) (p : Side) (h : s.signsOk = true) :
    (s.validArrival p).signsOk = true := by
  unfold State.validArrival
  repeat' first | with_reducible assumption | simp only [signsOk_of_view (State.modPort_signView _ _ _ )] | with_reducible apply State.deriveRing_signsOk | split

theorem State.erroredArrival_signsOk (s : State) (p : Side) (h : s.signsOk = true) :
    (s.erroredArrival p).signsOk = true := by
  unfold State.erroredArrival
  repeat' first | with_reducible assumption | simp only [signsOk_of_view (State.modPort_signView _ _ _ )] | with_reducible apply State.portDown_signsOk | split

theorem State.portUp_signsOk (s : State) (p : Side) (h : s.signsOk = true) :
    (s.portUp p).signsOk = true := by
  unfold State.portUp
  repeat' first | with_reducible assumption | simp only [signsOk_of_view (State.modPort_signView _ _ _ ), signsOk_of_view (State.noticeLink_signView _ _ _)] | with_reducible apply State.deriveRing_signsOk | split

theorem State.validKeep_signsOk (s : State) (p : Side) (b : Block) (h : s.signsOk = true) :
    (s.validKeep p b).signsOk = true := by
  unfold State.validKeep
  repeat' first | with_reducible assumption | simp only [signsOk_of_view (State.modPort_signView _ _ _ ), signsOk_of_view (State.noticeLink_signView _ _ _)] | with_reducible apply State.deriveRing_signsOk | split

theorem State.takeKeep_signsOk (s : State) (p : Side) (b : Block) (h : s.signsOk = true) :
    (s.takeKeep p b).signsOk = true := by
  unfold State.takeKeep
  repeat' first | with_reducible assumption | simp only [signsOk_of_view (State.modPort_signView _ _ _ )] | with_reducible apply State.validKeep_signsOk | split

theorem State.handBlock_signsOk (s : State) (b : Block) (h : s.signsOk = true) :
    (s.handBlock b).signsOk = true := by
  unfold State.handBlock
  repeat' first | with_reducible assumption | simp only [signsOk_of_view (State.takeTollControl_signView _ _), signsOk_of_view (State.takeVoice_signView _ _ _)] | with_reducible apply State.takeCallBlock_signsOk | with_reducible apply State.agentReceive_signsOk | split

theorem State.deliver_signsOk (s : State) (b : Block) (h : s.signsOk = true) :
    (s.deliver b).signsOk = true := by
  unfold State.deliver
  repeat' first | with_reducible assumption | simp only [signsOk_of_view (State.modLane_signView _ _ _ )] | with_reducible apply State.handBlock_signsOk | split

theorem State.classifyBlock_signsOk (s : State) (d : Dir) (b : Block) (h : s.signsOk = true) :
    (s.classifyBlock d b).signsOk = true := by
  unfold State.classifyBlock
  repeat' first | with_reducible assumption | simp only [signsOk_of_view (State.forward_signView _ _ _)] | with_reducible apply State.deliver_signsOk | split

theorem State.sourceTest_signsOk (s : State) (d : Dir) (b : Block) (h : s.signsOk = true) :
    (s.sourceTest d b).signsOk = true := by
  unfold State.sourceTest
  repeat' first | with_reducible assumption | simp only [signsOk_of_view (State.countDir_signView _ _ _)] | with_reducible apply State.classifyBlock_signsOk | split

theorem State.transitArrival_signsOk (s : State) (p : Side) (b : Block) (h : s.signsOk = true) :
    (s.transitArrival p b).signsOk = true := by
  unfold State.transitArrival
  repeat' first | with_reducible assumption | simp only [signsOk_of_view (State.countRx_signView _ _ _)] | with_reducible apply State.sourceTest_signsOk | split

theorem State.takeRing_signsOk (s : State) (p : Side) (b : Block) (h : s.signsOk = true) :
    (s.takeRing p b).signsOk = true := by
  unfold State.takeRing
  repeat' first | with_reducible assumption | simp only [signsOk_of_view (State.countMalformed_signView _ _), signsOk_of_view (State.takeRelease_signView _ _), signsOk_of_view (State.takeHoldoff_signView _ _)] | with_reducible apply State.takeKeep_signsOk | split

theorem State.takeBlock_signsOk (s : State) (p : Side) (b : Block) (h : s.signsOk = true) :
    (s.takeBlock p b).signsOk = true := by
  unfold State.takeBlock
  repeat' first | with_reducible assumption | with_reducible apply State.transitArrival_signsOk | with_reducible apply State.takeRing_signsOk | split

theorem State.arrive_signsOk (s : State) (p : Side) (l : List Byte) (h : s.signsOk = true) :
    (s.arrive p l).signsOk = true := by
  unfold State.arrive
  repeat' first | with_reducible assumption | simp only [signsOk_of_view (State.countRx_signView _ _ _), signsOk_of_view (State.countMalformed_signView _ _)] | with_reducible apply State.takeBlock_signsOk | with_reducible apply State.erroredArrival_signsOk | with_reducible apply State.validArrival_signsOk | split

theorem State.afterPop_signsOk (s : State) (n : ClassQueue) (h : s.signsOk = true) :
    (s.afterPop n).signsOk = true := by
  unfold State.afterPop
  repeat' first | with_reducible assumption | simp only [signsOk_of_view (State.offerTolls_signView _)] | with_reducible apply State.agentRun_signsOk | split

theorem State.depart_signsOk (s : State) (n : Choice) (h : s.signsOk = true) :
    (s.depart n).signsOk = true := by
  unfold State.depart
  repeat' first | with_reducible assumption | simp only [signsOk_of_view (State.modRing_signView _ _ ), signsOk_of_view (State.setBuffer_signView _ _ _), signsOk_of_view (State.afterDeparture_signView _ _)] | with_reducible apply State.afterPop_signsOk | split

theorem State.chooseOnce_signsOk (s : State) (p : Side) (h : s.signsOk = true) :
    (s.chooseOnce p).1.signsOk = true := by
  unfold State.chooseOnce
  repeat' first | with_reducible assumption | simp only [signsOk_of_view (State.modProt_signView _ _ ), signsOk_of_view (State.modOut_signView _ _ _ )] | with_reducible apply State.depart_signsOk | split

theorem State.chooseUpTo_signsOk (s : State) (p : Side) (n : Nat) (h : s.signsOk = true) :
    (s.chooseUpTo p n).signsOk = true := by
  induction n generalizing s with
  | zero => exact (signsOk_of_view (State.send_signView s p Block.fill)).trans h
  | succ n ih =>
    have hc := State.chooseOnce_signsOk s p h
    unfold State.chooseUpTo
    split
    · rename_i heq; rw [heq] at hc; exact (signsOk_of_view (State.send_signView _ p _)).trans hc
    · rename_i heq; rw [heq] at hc; exact ih _ hc

theorem State.arbiter_signsOk (s : State) (p : Side) (h : s.signsOk = true) :
    (s.arbiter p).signsOk = true := by
  unfold State.arbiter
  repeat' first | with_reducible assumption | with_reducible apply State.chooseUpTo_signsOk | split

theorem State.command_signsOk (s : State) (src : NodeId) (tag : Byte) (code : BitVec 4) (body : List Byte) (h : s.signsOk = true) :
    (s.command src tag code body).signsOk = true := by
  unfold State.command State.unlessRepeater
  split
  · exact h
  · exact State.agentReceive_signsOk s _ h

end Sys2Proof.Machine
end

