-- ==== Sys2Proof/Laws/StoreKept.lean ====
section
/-! SUPPORT. The operations that reach the external store keep its canonical form, and leave the strapped value and the queue. -/

namespace Sys2Proof.Machine

/-- The strapped value and the queue. -/
def State.queue (s : State) : BitVec 5 × List Instr := (s.straps, s.pending)

theorem storeOk_of_outer {s t : State} (h : t.outer = s.outer) : t.storeOk = s.storeOk := by
  have h1 : t.nv = s.nv := congrArg (fun o => o.2.2.1) h
  unfold State.storeOk; rw [h1]

theorem queue_of_outer {s t : State} (h : t.outer = s.outer) : t.queue = s.queue :=
  congrArg (fun o => (o.2.1, o.2.2.2)) h

theorem State.putSlot_storeOk (s : State) (slot : Nat) (l : List Byte) (h : s.storeOk = true) :
    (s.putSlot slot l).storeOk = true := by
  exact Memory.writeList_wf storeBlank _ _ _ h

theorem State.putMark_storeOk (s : State) (slot : Nat) (mark : Byte) (h : s.storeOk = true) :
    (s.putMark slot mark).storeOk = true := by
  exact Memory.write_wf storeBlank _ _ _ h

theorem State.afterRead_storeOk (s : State) (slot : Nat) (got : ReadBack) (h : s.storeOk = true) :
    (s.afterRead slot got).storeOk = true := by
  unfold State.afterRead
  repeat' first | with_reducible assumption | with_reducible apply State.putSlot_storeOk | split

theorem State.startVerify_storeOk (s : State) (slot : Nat) (bytes : List Byte) (op : StoreOp) (h : s.storeOk = true) :
    (s.startVerify slot bytes op).storeOk = true := by
  unfold State.startVerify
  repeat' first | with_reducible assumption | simp only [storeOk_of_outer (State.startStep_outer _ _)] | with_reducible apply State.putSlot_storeOk | split

theorem State.commitCompletes_storeOk (s : State) (slot : Nat) (bytes : List Byte) (got : ReadBack) (h : s.storeOk = true) :
    (s.commitCompletes slot bytes got).storeOk = true := by
  unfold State.commitCompletes
  repeat' first | with_reducible assumption | simp only [storeOk_of_outer (State.commitMismatches_outer _ _), storeOk_of_outer (State.storeKick_outer _), storeOk_of_outer (State.commitSucceeds_outer _ _), storeOk_of_outer (State.countMismatch_outer _), storeOk_of_outer (State.endOp_outer _)] | with_reducible apply State.afterRead_storeOk | split

theorem State.markCompletes_storeOk (s : State) (slot : Nat) (h : s.storeOk = true) :
    (s.markCompletes slot).storeOk = true := by
  unfold State.markCompletes
  repeat' first | with_reducible assumption | simp only [storeOk_of_outer (State.modJrnl_outer _ _ ), storeOk_of_outer (State.storeKick_outer _), storeOk_of_outer (State.endOp_outer _)] | with_reducible apply State.putMark_storeOk | split

theorem State.readCompletes_storeOk (s : State) (serial slot : Nat) (live : Bool) (got : ReadBack) (h : s.storeOk = true) :
    (s.readCompletes serial slot live got).storeOk = true := by
  unfold State.readCompletes
  repeat' first | with_reducible assumption | simp only [storeOk_of_outer (State.readDone_outer _ _ _ _), storeOk_of_outer (State.storeKick_outer _), storeOk_of_outer (State.endOp_outer _)] | with_reducible apply State.afterRead_storeOk | split

theorem State.saveMarkCompletes_storeOk (s : State) (h : s.storeOk = true) :
    (s.saveMarkCompletes).storeOk = true := by
  unfold State.saveMarkCompletes
  repeat' first | with_reducible assumption | simp only [storeOk_of_outer (State.modCtl_outer _ _ ), storeOk_of_outer (State.storeKick_outer _), storeOk_of_outer (State.endOp_outer _)] | with_reducible apply State.putMark_storeOk | split

theorem State.cutSlot_eq (s : State) (slot : Nat) : ∃ m n, s.cutSlot slot = { s with nv := m, free := n } ∧
    (s.storeOk = true → Memory.wf storeBlank m = true) := by
  unfold State.cutSlot State.putSlot State.modNv State.spend
  generalize invalidated (s.freeBytes 64) = l
  exact ⟨_, _, rfl, fun h => Memory.writeList_wf storeBlank _ _ _ h⟩

theorem State.cutMark_eq (s : State) (slot : Nat) : ∃ m n, s.cutMark slot = { s with nv := m, free := n } ∧
    (s.storeOk = true → Memory.wf storeBlank m = true) := by
  unfold State.cutMark State.putMark State.modNv State.spend
  exact ⟨_, _, rfl, fun h => Memory.write_wf storeBlank _ _ _ h⟩

theorem State.cutSlot_storeOk (s : State) (slot : Nat) (h : s.storeOk = true) : (s.cutSlot slot).storeOk = true := by
  obtain ⟨m, n, e, k⟩ := State.cutSlot_eq s slot
  rw [e]
  exact k h

theorem State.cutMark_storeOk (s : State) (slot : Nat) (h : s.storeOk = true) : (s.cutMark slot).storeOk = true := by
  obtain ⟨m, n, e, k⟩ := State.cutMark_eq s slot
  rw [e]
  exact k h

theorem State.cutSlot_queue (s : State) (slot : Nat) : (s.cutSlot slot).queue = s.queue := by
  obtain ⟨m, n, e, -⟩ := State.cutSlot_eq s slot
  rw [e]
  rfl

theorem State.cutMark_queue (s : State) (slot : Nat) : (s.cutMark slot).queue = s.queue := by
  obtain ⟨m, n, e, -⟩ := State.cutMark_eq s slot
  rw [e]
  rfl

theorem State.spoilHeader_storeOk (s : State) (slot : Nat) (h : s.storeOk = true) : (s.spoilHeader slot).storeOk = true := by
  unfold State.spoilHeader
  repeat' first | with_reducible assumption | with_reducible apply State.cutSlot_storeOk | split

theorem State.spoilHeader_queue (s : State) (slot : Nat) : (s.spoilHeader slot).queue = s.queue := by
  unfold State.spoilHeader
  repeat' first | (with_reducible rfl) | simp only [State.cutSlot_queue] | split

theorem State.saveSlotCompletes_storeOk (s : State) (slot : Nat) (bytes : List Byte) (got : ReadBack) (h : s.storeOk = true) :
    (s.saveSlotCompletes slot bytes got).storeOk = true := by
  unfold State.saveSlotCompletes
  repeat' first | with_reducible assumption | simp only [storeOk_of_outer (State.saveStepVerified_outer _ _), storeOk_of_outer (State.failSave_outer _ _), storeOk_of_outer (State.storeKick_outer _), storeOk_of_outer (State.countMismatch_outer _), storeOk_of_outer (State.endOp_outer _)] | with_reducible apply State.afterRead_storeOk | with_reducible apply State.spoilHeader_storeOk | split

theorem State.scanReadCompletes_storeOk (s : State) (slot : Nat) (got : ReadBack) (h : s.storeOk = true) :
    (s.scanReadCompletes slot got).storeOk = true := by
  unfold State.scanReadCompletes
  repeat' first | with_reducible assumption | simp only [storeOk_of_outer (State.modCtl_outer _ _ ), storeOk_of_outer (State.scanEnds_outer _), storeOk_of_outer (State.scanRead_outer _ _)] | with_reducible apply State.afterRead_storeOk | split

theorem State.loadReadCompletes_storeOk (s : State) (slot : Nat) (got : ReadBack) (h : s.storeOk = true) :
    (s.loadReadCompletes slot got).storeOk = true := by
  unfold State.loadReadCompletes
  repeat' first | with_reducible assumption | simp only [storeOk_of_outer (State.modCtl_outer _ _ ), storeOk_of_outer (State.loadRead_outer _ _), storeOk_of_outer (State.judgeImage_outer _ _), storeOk_of_outer (State.endLoad_outer _ _)] | with_reducible apply State.afterRead_storeOk | split

theorem State.abandonWrite_storeOk (s : State) (h : s.storeOk = true) :
    (s.abandonWrite).storeOk = true := by
  unfold State.abandonWrite
  repeat' first | with_reducible assumption | simp only [State.looseSlot, State.looseHeaderMark, storeOk_of_outer (State.spend_outer _ _ )] | with_reducible apply State.cutSlot_storeOk | with_reducible apply State.cutMark_storeOk | with_reducible apply State.putSlot_storeOk | with_reducible apply State.putMark_storeOk | split

theorem State.stepExpires_storeOk (s : State) (h : s.storeOk = true) :
    (s.stepExpires).storeOk = true := by
  unfold State.stepExpires
  repeat' first | with_reducible assumption | simp only [storeOk_of_outer (State.scanResumes_outer _), storeOk_of_outer (State.storeKick_outer _), storeOk_of_outer (State.endLoad_outer _ _), storeOk_of_outer (State.countTimeout_outer _), storeOk_of_outer (State.endOp_outer _), storeOk_of_outer (State.reportTimeout_outer _), storeOk_of_outer (State.afterScan_outer _)] | with_reducible apply State.abandonWrite_storeOk | split

theorem State.putSlot_queue (s : State) (slot : Nat) (l : List Byte) :
    (s.putSlot slot l).queue = s.queue := by
  rfl

theorem State.putMark_queue (s : State) (slot : Nat) (mark : Byte) :
    (s.putMark slot mark).queue = s.queue := by
  rfl

theorem State.afterRead_queue (s : State) (slot : Nat) (got : ReadBack) :
    (s.afterRead slot got).queue = s.queue := by
  unfold State.afterRead
  repeat' first | (with_reducible rfl) | simp only [State.putSlot_queue] | split

theorem State.startVerify_queue (s : State) (slot : Nat) (bytes : List Byte) (op : StoreOp) :
    (s.startVerify slot bytes op).queue = s.queue := by
  unfold State.startVerify
  repeat' first | (with_reducible rfl) | simp only [queue_of_outer (State.startStep_outer _ _), State.putSlot_queue] | split

theorem State.commitCompletes_queue (s : State) (slot : Nat) (bytes : List Byte) (got : ReadBack) :
    (s.commitCompletes slot bytes got).queue = s.queue := by
  unfold State.commitCompletes
  repeat' first | (with_reducible rfl) | simp only [queue_of_outer (State.commitMismatches_outer _ _), queue_of_outer (State.storeKick_outer _), queue_of_outer (State.commitSucceeds_outer _ _), queue_of_outer (State.countMismatch_outer _), queue_of_outer (State.endOp_outer _), State.afterRead_queue] | split

theorem State.markCompletes_queue (s : State) (slot : Nat) :
    (s.markCompletes slot).queue = s.queue := by
  unfold State.markCompletes
  repeat' first | (with_reducible rfl) | simp only [queue_of_outer (State.modJrnl_outer _ _ ), State.putMark_queue, queue_of_outer (State.storeKick_outer _), queue_of_outer (State.endOp_outer _)] | split

theorem State.readCompletes_queue (s : State) (serial slot : Nat) (live : Bool) (got : ReadBack) :
    (s.readCompletes serial slot live got).queue = s.queue := by
  unfold State.readCompletes
  repeat' first | (with_reducible rfl) | simp only [queue_of_outer (State.readDone_outer _ _ _ _), queue_of_outer (State.storeKick_outer _), queue_of_outer (State.endOp_outer _), State.afterRead_queue] | split

theorem State.saveMarkCompletes_queue (s : State) :
    (s.saveMarkCompletes).queue = s.queue := by
  unfold State.saveMarkCompletes
  repeat' first | (with_reducible rfl) | simp only [queue_of_outer (State.modCtl_outer _ _ ), State.putMark_queue, queue_of_outer (State.storeKick_outer _), queue_of_outer (State.endOp_outer _)] | split

theorem State.saveSlotCompletes_queue (s : State) (slot : Nat) (bytes : List Byte) (got : ReadBack) :
    (s.saveSlotCompletes slot bytes got).queue = s.queue := by
  unfold State.saveSlotCompletes
  repeat' first | (with_reducible rfl) | simp only [queue_of_outer (State.saveStepVerified_outer _ _), queue_of_outer (State.failSave_outer _ _), queue_of_outer (State.storeKick_outer _), queue_of_outer (State.countMismatch_outer _), queue_of_outer (State.endOp_outer _), State.spoilHeader_queue, State.afterRead_queue] | split

theorem State.scanReadCompletes_queue (s : State) (slot : Nat) (got : ReadBack) :
    (s.scanReadCompletes slot got).queue = s.queue := by
  unfold State.scanReadCompletes
  repeat' first | (with_reducible rfl) | simp only [queue_of_outer (State.modCtl_outer _ _ ), queue_of_outer (State.scanEnds_outer _), queue_of_outer (State.scanRead_outer _ _), State.afterRead_queue] | split

theorem State.loadReadCompletes_queue (s : State) (slot : Nat) (got : ReadBack) :
    (s.loadReadCompletes slot got).queue = s.queue := by
  unfold State.loadReadCompletes
  repeat' first | (with_reducible rfl) | simp only [queue_of_outer (State.modCtl_outer _ _ ), queue_of_outer (State.loadRead_outer _ _), queue_of_outer (State.judgeImage_outer _ _), queue_of_outer (State.endLoad_outer _ _), State.afterRead_queue] | split

theorem State.abandonWrite_queue (s : State) :
    (s.abandonWrite).queue = s.queue := by
  unfold State.abandonWrite
  repeat' first | (with_reducible rfl) | simp only [State.looseSlot, State.looseHeaderMark, queue_of_outer (State.spend_outer _ _ ), State.cutSlot_queue, State.cutMark_queue, State.putSlot_queue, State.putMark_queue] | split

theorem State.stepExpires_queue (s : State) :
    (s.stepExpires).queue = s.queue := by
  unfold State.stepExpires
  repeat' first | (with_reducible rfl) | simp only [queue_of_outer (State.scanResumes_outer _), queue_of_outer (State.storeKick_outer _), queue_of_outer (State.endLoad_outer _ _), queue_of_outer (State.countTimeout_outer _), queue_of_outer (State.endOp_outer _), State.abandonWrite_queue, queue_of_outer (State.reportTimeout_outer _), queue_of_outer (State.afterScan_outer _)] | split

/-- What a full reset cuts short changes the store and the count of free choices alone. -/
theorem State.cutShort_eq (s : State) : ∃ m n, s.cutShort = { s with nv := m, free := n } ∧
    (s.storeOk = true → Memory.wf storeBlank m = true) := by
  unfold State.cutShort
  split
  · exact State.cutSlot_eq s _
  · split
    · exact State.cutSlot_eq s _
    · exact ⟨s.nv, s.free, rfl, fun h => h⟩
  · exact State.cutMark_eq s _
  · exact State.cutMark_eq s _
  all_goals exact ⟨s.nv, s.free, rfl, fun h => h⟩

end Sys2Proof.Machine
end

