-- ==== Sys2Proof/Tests/Slice0.lean ====
section
/-! SUPPORT. Tests of the model and witnesses of the statements' hypotheses. Expected values come from the manual's rules, or by hand
from its formats; the two check values of the nine digits are those of the checks 12.1 and 12.4 describe. -/

namespace Sys2Proof.Tests

set_option Elab.async false

open Sys2Proof.Machine

/-! ### Which commands the outside world can form -/

theorem test_wellFormed_block_of_63_bytes_refused : (Instr.blockArrival .E (List.replicate 63 0)).wellFormed = false := by decide
theorem test_wellFormed_block_of_64_bytes : (Instr.blockArrival .E (List.replicate 64 0)).wellFormed = true := by decide
theorem test_wellFormed_readBack_of_65_bytes_refused :
    (Instr.scanReadDone (some (List.replicate 65 0))).wellFormed = false := by decide
theorem test_wellFormed_source_24_refused : (Instr.saveConfig 24 0).wellFormed = false := by decide
theorem test_wellFormed_source_23 : (Instr.saveConfig 23 0).wellFormed = true := by decide
theorem test_wellFormed_frame_of_261_bytes_refused : (Instr.replyFrameEnd 0 (List.replicate 261 0)).wellFormed = false := by
  decide +kernel
theorem test_wellFormed_page_bytes_50_refused : (Instr.pageData 1 0 0 0 0 (List.replicate 50 0)).wellFormed = false := by decide
theorem test_wellFormed_level_65536_refused : (Instr.sampleTimerExpiry 65536).wellFormed = false := by decide

/-! ### Formats of chapter 12 -/

/-- The digits 1 to 9, the usual input of a check value. -/
def digits : List Byte := [0x31, 0x32, 0x33, 0x34, 0x35, 0x36, 0x37, 0x38, 0x39]

theorem test_crc32_of_digits : crc32 digits = 0xFC891918#32 := by decide +kernel
theorem test_crc16_of_digits : crc16 digits = 0x29B1#16 := by decide +kernel

/-- A WX block by the table of 12.1: kind 6, wrapped, dst 31, src 17, lane 5, hops 46, seq 9, three bytes of body. -/
def wxBlock : Block :=
  { kind := .wx, subtype := 0, wrapped := true, dst := 31, src := 17, lane := 5, hops := 46, seq := 9, body := [1, 2, 3] }

theorem test_block_header_bytes : wxBlock.bytes.take 12 = [0x60, 0x9F, 0x11, 0x05, 0x2E, 0x09, 0x03, 0x00, 1, 2, 3, 0] := by
  decide +kernel
theorem test_block_reads_back : (Received.ofBytes wxBlock.bytes).block .wx = wxBlock := by decide +kernel
theorem test_code_10_is_no_kind : BlockKind.ofCode? 10 = none := by decide
theorem test_poll_frame_bytes : (frameBytes false 7 typePoll [5]).take 4 = [0x07, 0x01, 0x01, 0x05] := by decide +kernel
theorem test_reply_frame_reads_back : Reply.ofFrame? 7 (frameBytes true 7 typeHook [1]) = some (.hook 1) := by decide +kernel
theorem test_reply_of_another_address_is_bad : Reply.ofFrame? 8 (frameBytes true 7 typeHook [1]) = none := by decide +kernel
theorem test_params_record_reads_back : Params.ofBytes? Params.reset.record = some Params.reset := by decide +kernel
theorem test_station_address_31_out_of_range : StationRecord.ofBytes? [1, 0, 31, 0, 0, 1, 0, 0, 0, 0] = none := by decide
theorem test_rule_below_set_above_clear_out_of_range :
    RuleRecord.ofBytes? [1, 0, 2, 0, 0, 9, 0, 8, 1, 255, 0, 1, 0, 1] = none := by decide

/-! ### States -/

/-- What a command leaves, tested on its next state. -/
def next? (o : Host.Outcome State Fault Refusal) (f : State → Bool) : Bool :=
  match o with
  | .next t => f t
  | .fault _ | .refused _ => false

/-- Node 3 at rest: the controller IDLE, the journal ACCEPTING with a view of nothing. -/
def node : State :=
  { State.reset with
    straps := 3
    ctl := { State.reset.ctl with state := .idle, op := none, timer := none, scanThenLoad := false }
    jrnl := { State.reset.jrnl with cond := .accepting, hasView := true } }

def port (link : LinkState) : RxPort := { RxPort.reset true with link := link, run := 7, gap := some 5, proving := some 2000 }

/-- Both ports UP and the ring CLOSED. -/
def closed : State :=
  { node with prot := { node.prot with ports := ⟨port .up, port .up⟩, ring := .closed } }

def voiceBlock (dst src : NodeId) : Block :=
  { kind := .voice, subtype := 0, wrapped := false, dst := dst, src := src, lane := 0, hops := 1, seq := 0, body := [] }

def noteBlock : Block := { voiceBlock 2 1 with kind := .note }

def mgtBlock : Block := { voiceBlock 3 0 with kind := .mgt, subtype := 8, lane := 63, body := [4] }

/-- A station in slot 0, on drop 1. -/
def station (kind : StationKind) (state : StationState) : Station :=
  { Station.reset with state := state, drop := 1, address := 7, kind := kind, due := some 10, miss := 2 }

def withStation (e : Station) (s : State) : State :=
  { s with poll := { s.poll with stations := s.poll.stations.set 0 e,
                                 drops := s.poll.drops.map fun d => { d with broadcast := false } } }

def snap (kind : StationKind) : Snapshot := { slot := 0, drop := 1, address := 7, kind := kind, link := 0 }

/-- Drop 1 with an exchange with slot 0 in flight. -/
def onLine (line : LineState) (kind : StationKind) (s : State) : State :=
  let x : Exchange := { snap := some (snap kind), voice := false, begun := 0, frame := [] }
  let l : Drop := { line := line, exch := some x, replyTimer := some 2, broadcast := false, ctr := DropCounters.zero }
  { s with poll := { s.poll with drops := s.poll.drops.set 1 l } }

/-- Record 0 holding the phone of slot 0. -/
def withRecord (r : CallRecord) (s : State) : State :=
  { s with calls := { s.calls with records := s.calls.records.set 0 r } }

def call (state : CallState) (attempts : Nat) : CallRecord :=
  { CallRecord.free with state := state, phone := some 0, callId := some ⟨3, 1⟩, lane := some 2, attempts := attempts,
                         timer := some 2000, reason := some .onHook }

def txn : Txn := { slot := 0, drop := 1, address := 7, number := 9, body := [], linked := true }

/-- The controller OPERATING on an operation. -/
def operating (o : StoreOp) (s : State) : State :=
  { s with ctl := { s.ctl with state := .operating, op := some o, timer := some 50 } }

def ofBody (i : Nat) : List Byte := journalSlot (i + 1) 3 txn

/-- A Boolean of the next state of one step from a queue of one command. -/
def stepsTo (c : Instr) (s : State) (f : State → Bool) : Bool := next? (step { s with pending := [c] }) f

/-! ### Commands, one step each -/

theorem test_reset_is_repeater_from_24 : next? (exec (.fullReset 24) node) (·.repeater) = true := by decide +kernel
theorem test_reset_23_scans : next? (exec (.fullReset 23) node) (fun t => t.ctl.state == .scanning) = true := by decide +kernel
theorem test_light_loss_isolates_then_wraps :
    stepsTo (.lossOfLight .E) closed (fun t => t.prot.ring == .wrapE && t.prot.ports.e.cause == some .light) = true := by
  decide +kernel
set_option maxRecDepth 100000 in
theorem test_valid_arrival_starts_proving :
    next? (exec (.blockArrival .W Block.fill.bytes)
      { node with prot := { node.prot with ports := ⟨port .up, { port .down with gap := none, proving := none }⟩ } })
      (fun t => t.prot.ports.w.link == .proving && t.prot.ports.w.proving == some 2000 && t.prot.ports.w.gap == some 5) = true := by
  decide +kernel
set_option maxRecDepth 100000 in
theorem test_forward_takes_a_hop :
    next? (exec (.blockArrival .W (voiceBlock 2 1).bytes) closed) (fun t => t.ring.buffers.cw == [{ voiceBlock 2 1 with hops := 0 }])
      = true := by decide +kernel
set_option maxRecDepth 100000 in
theorem test_block_without_hops_expires :
    next? (exec (.blockArrival .E ({ voiceBlock 2 1 with hops := 0 } : Block).bytes) closed)
      (fun t => t.ring.buffers.ccw == [] && t.ring.dirs.ccw.hopsExpired == 1) = true := by decide +kernel
set_option maxRecDepth 100000 in
theorem test_repeater_forwards_its_own_number :
    next? (exec (.blockArrival .W (voiceBlock 2 1).bytes) { closed with straps := 25 }) (fun t => t.ring.buffers.cw.length == 1)
      = true := by decide +kernel
theorem test_send_fill_when_nothing_waits :
    next? (exec (.sendCompletion .E) closed) (fun t => t.ring.out.e.sending == Block.fill && t.ring.tx.e.sent == 0) = true := by
  decide +kernel
theorem test_keep_carries_no_far_fault_when_up :
    next? (exec (.keepTimerExpiry .W) closed) (fun t => t.ring.rq.map (·.block.body) == [[0]] && t.prot.keep.w == 2) = true := by
  decide +kernel
theorem test_holdoff_receiver_clears :
    next? (exec (.holdoffReceiverExpiry .E) { closed with ring := { closed.ring with out := { closed.ring.out with
      e := { closed.ring.out.e with heldOff := some 12 } } } }) (fun t => t.ring.out.e.heldOff == none && t.now == 12) = true := by
  decide +kernel
theorem test_broken_frame_third_miss_offline :
    next? (exec (.brokenFrame 1) (onLine .receiving .toll (withStation (station .toll .silent) node)))
      (fun t => t.poll.stations[0].state == .offline && t.poll.drops[1].ctr.bad == 1 && t.agent.queued == 1) = true := by
  decide +kernel
theorem test_reply_timer_is_two_ms :
    next? (exec (.pollFrameEnd 1) (onLine .sending .toll node)) (fun t => t.poll.drops[1].replyTimer == some 2) = true := by
  decide +kernel
theorem test_off_hook_seizes :
    next? (exec (.replyFrameEnd 1 (frameBytes true 7 typeHook [1]))
      (onLine .receiving .phone (withStation (station .phone .online) closed)))
      (fun t => t.calls.records[0].state == .seized && t.poll.stations[0].due == none &&
        t.poll.stations[0].voiceDue == some 0) = true := by decide +kernel
theorem test_txn_joins_staging :
    next? (exec (.replyFrameEnd 1 (frameBytes true 7 typeTxn (List.replicate 42 1)))
      (onLine .receiving .toll (withStation (station .toll .online) { node with ctl := { node.ctl with state := .operating } })))
      (fun t => t.jrnl.staging.map (·.number) == [257] && t.jrnl.ctr.taken == 1) = true := by decide +kernel
theorem test_calling_sixteenth_isolates :
    next? (exec (.callingTimerExpiry 0) (withRecord (call .calling 15) node))
      (fun t => t.calls.records[0].state == .isolated && t.calls.records[0].timer == some 32000) = true := by decide +kernel
theorem test_clearing_fourth_frees :
    next? (exec (.clearingTimerExpiry 0) (withRecord (call .clearing 4) node)) (fun t => t.calls.records[0] == CallRecord.free)
      = true := by decide +kernel
theorem test_isolated_counts_send :
    next? (exec (.isolatedTimerExpiry 0) (withRecord (call .isolated 255) node))
      (fun t => t.calls.records[0].attempts == 255 && t.calls.ctr.signallingLost == 1) = true := by decide +kernel
theorem test_mark_write_frees_list :
    next? (exec .markWriteCompletion (operating (.mark 7) { node with jrnl := { node.jrnl with pendingMarks := [7, 8] } }))
      (fun t => t.jrnl.pendingMarks == [8] && t.nv == [(448, 0)]) = true := by decide +kernel
set_option maxRecDepth 100000 in
theorem test_commit_write_verifies_next :
    next? (exec .storeStepDone (operating (.commit 2 (ofBody 0) .write) node))
      (fun t => t.ctl.op == some (.commit 2 (ofBody 0) .verify) && t.ctl.ctr.reads == 2 && t.storeSlot 2 == ofBody 0) = true := by
  decide +kernel
set_option maxRecDepth 100000 in
theorem test_scan_of_erased_slot_goes_on :
    next? (exec (.scanReadDone none) State.reset) (fun t => t.ctl.op == some (.scan 1) && t.ctl.found == []) = true := by
  decide +kernel
set_option maxRecDepth 100000 in
theorem test_scan_finds_held_record :
    next? (exec (.scanReadDone (some (ofBody 6))) State.reset)
      (fun t => t.ctl.found == [{ slot := 0, released := false, serial := 7 }]) = true := by decide +kernel
set_option maxRecDepth 100000 in
theorem test_load_of_erased_header_is_no_image :
    next? (exec (.loadReadDone none) { node with ctl := { node.ctl with state := .loading, op := some (.load 8064) } })
      (fun t => t.ctl.lastLoad == some (.failed .noImage) && t.ctl.state == .idle) = true := by decide +kernel
theorem test_revert_resends :
    next? (exec .revertTimerExpiry { node with jrnl := { node.jrnl with inTransit := [⟨4, 100⟩, ⟨5, 50⟩] } })
      (fun t => t.now == 5050 && t.jrnl.inTransit == [] && t.jrnl.ctr.resends == 2) = true := by decide +kernel
theorem test_feed_level_is_clamped :
    next? (exec (.sampleTimerExpiry 5000) node) (fun t => t.sup.window == [4000] && t.sup.average == none) = true := by
  decide +kernel
theorem test_eighth_low_sample_enters_holdup :
    next? (exec (.sampleTimerExpiry 1800) { node with sup := { node.sup with window := List.replicate 7 1800 } })
      (fun t => t.sup.state == .holdup && t.sup.cause == some .level && t.jrnl.cond == .halted) = true := by decide +kernel
theorem test_settle_from_holdup_to_conserve :
    next? (exec .settleTimerExpiry { node with sup := { node.sup with
      state := .holdup, average := some 2299, settle := some 2000 } }) (fun t => t.sup.state == .conserve) = true := by
  decide +kernel
theorem test_feed_lost_without_average_changes_no_state :
    next? (exec .feedLostAsserted node) (fun t => t.sup.state == .normal && t.sup.feedLosses == 1) = true := by decide +kernel

/-! Management: the reply's status is the first byte of the MGR block's body (12.2). -/

/-- The statuses of the replies that stand in MQ. -/
def statuses (t : State) : List Byte := t.ring.mq.map fun b => byteAt b.body 0

theorem test_read_param_is_done :
    next? (exec (.readEntry 1 9 5 0) closed) (fun t => statuses t == [0] && t.ring.mq.map (·.seq) == [9]) = true := by
  decide +kernel
theorem test_read_sign_12_is_bad_index : next? (exec (.readEntry 1 9 3 12) closed) (fun t => statuses t == [1]) = true := by
  decide +kernel
theorem test_write_lane_63_is_bad_index :
    next? (exec (.writeEntryLane 1 0 63 1 0 4) closed) (fun t => statuses t == [1]) = true := by decide +kernel
theorem test_write_station_sets_up_online :
    next? (exec (.writeEntryStation 1 0 4 1 2 9 3 6 1 0 0) closed)
      (fun t => statuses t == [0] && t.poll.stations[4].state == .online && t.slots[1].station == some 4) = true := by
  decide +kernel
theorem test_write_slot_depth_3_is_bad_value :
    next? (exec (.writeEntrySlot 1 0 0 3 0 1000 0) closed) (fun t => statuses t == [2]) = true := by decide +kernel
theorem test_write_param_breaking_order_is_bad_value :
    next? (exec (.writeEntryParam 1 0 0 24 8 4 4 2300 2300 1900 2300 0 1) closed) (fun t => statuses t == [2]) = true := by
  decide +kernel
theorem test_page_open_then_fill :
    next? (exec (.pageOpen 1 0 2 3 2) closed)
      (fun t => statuses t == [0] && t.sign.signs[2].pages[3].units == [0, 1] && t.sign.signs[2].pages[3].size == 256) = true := by
  decide +kernel
theorem test_page_data_on_empty_page_is_state :
    next? (exec (.pageData 1 0 2 3 0 [1]) closed) (fun t => statuses t == [3]) = true := by decide +kernel
theorem test_sign_set_expires_in_minutes :
    next? (exec (.signSet 1 0 2 3 15 1440) closed)
      (fun t => t.sign.signs[2].request == some ⟨3, 15, some 86400000⟩ && t.sign.signs[2].next == none) = true := by decide +kernel
theorem test_status_while_loading :
    next? (exec (.status 1 0 4) { closed with ctl := { closed.ctl with state := .loading } }) (fun t => statuses t == [0]) = true := by
  decide +kernel
theorem test_write_while_loading_is_not_ready :
    next? (exec (.writeEntrySlot 1 0 0 1 0 1000 0) { closed with ctl := { closed.ctl with state := .loading } })
      (fun t => statuses t == [6]) = true := by decide +kernel
theorem test_restart_in_call_is_state :
    next? (exec (.restart 1 0 0) (withRecord (call .connected 0) closed)) (fun t => statuses t == [3]) = true := by decide +kernel
theorem test_save_config_has_no_reply :
    next? (exec (.saveConfig 1 0) closed) (fun t => statuses t == [] && t.ctl.op == some .saveMark) = true := by decide +kernel

/-! ### Witnesses of the statements' hypotheses, at the boundaries of their clauses -/

theorem witness_StepRunsQueueFront : node.pending = [] := rfl

/-- Every invariant holds of node 3 at rest, and a step of it goes on. -/
theorem witness_StepKeepsStoreForm : node.storeOk = true ∧ ∃ t, step node = .next t := ⟨by decide, _, rfl⟩
theorem witness_StepKeepsSignLaw : node.signsOk = true ∧ ∃ t, step node = .next t := ⟨by decide +kernel, _, rfl⟩
theorem witness_StepKeepsBounds :
    node.queuesOk = true ∧ node.agentBounded = true ∧ node.jrnl.bounded = true ∧ node.calls.waitList.length ≤ 32 ∧
      node.jrnl.bad.length ≤ 64 ∧ node.sup.window.length ≤ 8 ∧ (∀ k : Fin 8, node.slots[k].windowsOk = true) ∧ ∃ t, step node = .next t :=
  ⟨by decide, by decide, by decide +kernel, by decide, by decide, by decide, by decide +kernel, _, rfl⟩
theorem witness_StepKeepsRingDerived : closed.ringOk = true ∧ ∃ t, step closed = .next t := ⟨by decide, _, rfl⟩

theorem witness_FullResetLeavesManualValues :
    ({ node with straps := 23 } : State).repeater = false ∧ ({ node with straps := 24 } : State).repeater = true ∧
      node.ctl.op = none ∧ State.reset.ctl.op = some (.scan 0) := by decide

/-- A body of 52 bytes, the longest. -/
theorem witness_BlockReadsBackAsSent : ({ wxBlock with body := List.replicate 52 7 } : Block).fits = true := by decide

theorem witness_ArrivalForwardsToTransit :
    (voiceBlock 2 1).fits = true ∧ (voiceBlock 2 1).kind ≠ .fill ∧ (voiceBlock 2 1).kind ≠ .ring ∧
      (voiceBlock 2 1).src.toNat ≤ 23 ∧ (voiceBlock 2 1).dst.toNat ≤ 23 ∧ (voiceBlock 2 1).hops ≠ 0 ∧
      (closed.prot.ports.get .W).link = .up ∧
      (closed.repeater = true ∨ ((voiceBlock 2 1).dst ≠ closed.straps ∧
        ((voiceBlock 2 1).src ≠ closed.straps ∨ (voiceBlock 2 1).wrapped = true))) ∧
      (closed.ring.buffers.get (directionOn .W)).length < 32 := by decide

/-- The port of `closed` with an errored run of n. -/
def withRun (n : Nat) : State := { closed with prot := { closed.prot with ports := ⟨{ port .up with run := n }, port .up⟩ } }

theorem witness_ErroredRunOfEightTakesPortDown :
    (Received.ofBytes []).checkOk = false ∧ ((withRun 6).prot.ports.get .E).link = .up ∧
      ((withRun 6).prot.ports.get .E).run < 7 ∧ ((withRun 7).prot.ports.get .E).run = 7 := by decide

theorem witness_ArrivalEndsByItsHeader_stripped :
    (voiceBlock 31 3).fits = true ∧ (voiceBlock 31 3).kind ≠ .fill ∧ (voiceBlock 31 3).kind ≠ .ring ∧
      (voiceBlock 31 3).src.toNat ≤ 23 ∧ ((voiceBlock 31 3).dst.toNat ≤ 23 ∨ (voiceBlock 31 3).dst = 31) ∧
      (closed.prot.ports.get .E).link = .up ∧ closed.repeater = false ∧ (voiceBlock 31 3).src = closed.straps ∧
      (voiceBlock 31 3).wrapped = false := by decide

/-- A block of length 52, from 24, for 24; one that is refused and one that is bound. -/
def bound : State :=
  { closed with lanes := closed.lanes.set 0 { LaneEntry.reset with active := true, peer := 1, binding := some 0 } }

set_option maxRecDepth 100000 in
theorem witness_ArrivalEndsByItsHeader :
    (Received.ofBytes ({ voiceBlock 2 24 with hops := 0 } : Block).bytes).checkOk = true ∧
      (Received.ofBytes (voiceBlock 2 24).bytes).kind = some .voice ∧ 23 < (Received.ofBytes (voiceBlock 2 24).bytes).src.toNat ∧
      23 < (Received.ofBytes (voiceBlock 24 1).bytes).dst.toNat ∧ (Received.ofBytes (voiceBlock 24 1).bytes).dst ≠ 31 ∧
      (node.prot.ports.get .E).link = .down ∧ (node.prot.ports.get .E).light = false ∧
      ({ voiceBlock 2 1 with hops := 0 } : Block).hops = 0 ∧ closed.acceptsLocal (voiceBlock 3 1) = false ∧
      bound.acceptsLocal (voiceBlock 31 1) = true ∧ bound.lanes[laneIndex (voiceBlock 31 1).lane].binding = some 0 := by
  decide +kernel

set_option maxRecDepth 100000 in
theorem test_block_from_24_is_malformed :
    next? (exec (.blockArrival .E (voiceBlock 2 24).bytes) closed) (fun t => t.ring.rx.e.malformed == 1) = true := by
  decide +kernel

/-- Node 3 CLOSED with node 1 as the peer of lane 0, a VOICE lane bound to record 0, lane 1, a CALL lane, and lane 2, a TOLL lane. -/
def laned : State :=
  let lane : LaneService → LaneEntry := fun service => { LaneEntry.reset with active := true, service := service, peer := 1 }
  { bound with lanes := (bound.lanes.set 1 (lane .call)).set 2 (lane .toll) }

def onLane (kind : BlockKind) (lane : BitVec 6) (dst : NodeId) (hops : BitVec 6) : Block :=
  { voiceBlock dst 1 with kind := kind, lane := lane, hops := hops }

theorem witness_AcceptedBlockReachesService :
    mgtBlock.fits = true ∧ mgtBlock.src.toNat ≤ 23 ∧ (laned.prot.ports.get .E).link = .up ∧ laned.repeater = false ∧
      mgtBlock.src ≠ laned.straps ∧ laned.acceptsLocal mgtBlock = true ∧ mgtBlock.kind = .mgt ∧ mgtBlock.dst = laned.straps ∧
      laned.acceptsLocal (onLane .call 1 3 0) = true ∧ laned.acceptsLocal (onLane .call 1 31 5) = true ∧
      laned.acceptsLocal (onLane .tollctl 2 3 0) = true ∧ laned.acceptsLocal (onLane .tollctl 2 31 0) = true ∧
      laned.acceptsLocal (onLane .voice 0 3 0) = true ∧ laned.lanes[laneIndex (onLane .voice 0 3 0).lane].binding = some 0 ∧
      laned.acceptsLocal (onLane .voice 1 3 0) = false ∧ laned.acceptsLocal (onLane .toll 2 3 0) = false ∧
      closed.acceptsLocal (onLane .voice 0 3 0) = false ∧ (onLane .call 1 31 5).hops ≠ 0 := by decide

set_option maxRecDepth 100000 in
/-- R10: a TOLLCTL of subtype PULL reaches the journal, whose credit rises. -/
theorem test_pull_reaches_journal :
    next? (exec (.blockArrival .E ({ onLane .tollctl 2 3 0 with subtype := 1, body := [5] } : Block).bytes) laned)
      (fun t => t.lanes[2].delivered == 1 && t.jrnl.credit == 5) = true := by decide +kernel

/-- `closed` with the CW buffer holding these blocks. -/
def withCw (l : List Block) : State := { closed with ring := { closed.ring with buffers := ⟨l, []⟩ } }

/-- A full buffer whose one NOTE stands in its middle, and a full buffer of VOICE alone. -/
def mixed : State := withCw (List.replicate 3 (voiceBlock 2 1) ++ noteBlock :: List.replicate 28 (voiceBlock 2 1))
def urgent : State := withCw (List.replicate 32 (voiceBlock 2 1))

theorem witness_FullTransitBufferHandlesByKind :
    (mixed.ring.buffers.get .CW).length = 32 ∧ (voiceBlock 2 1).kind.urgent = true ∧
      mixed.ring.buffers.get .CW = List.replicate 3 (voiceBlock 2 1) ++ noteBlock :: List.replicate 28 (voiceBlock 2 1) ∧
      (∀ y ∈ List.replicate 3 (voiceBlock 2 1), y.kind.urgent = true) ∧ noteBlock.kind.urgent = false ∧
      (urgent.ring.buffers.get .CW).length = 32 ∧ ∀ y ∈ urgent.ring.buffers.get .CW, y.kind.urgent = true := by decide

def keepOffer (p : Side) : RingOffer := { port := p, block := node.ringBlock subKeep [0] }

/-- `closed` with RQ holding these offers. -/
def withRq (l : List RingOffer) : State := { closed with ring := { closed.ring with rq := l } }

theorem witness_SendTakesRingBlockThenTransitHead :
    (withRq [keepOffer .E, keepOffer .W]).ring.rq = [keepOffer .E] ++ keepOffer .W :: [] ∧
      (∀ o ∈ [keepOffer .E], o.port ≠ .W) ∧ (keepOffer .W).block.kind ≠ .fill ∧ (withCw [noteBlock]).prot.ring = .closed ∧
      naturalPort .CW = .E ∧ (∀ o ∈ (withCw [noteBlock]).ring.rq, o.port ≠ .E) ∧ (withCw [noteBlock]).ring.eq = [] ∧
      (withCw [noteBlock]).ring.buffers.get .CW = [noteBlock] ∧ noteBlock.kind ≠ .fill := by decide

/-- `closed` with a block in TQ and the E port held off, or not. -/
def withTq (held : Option Nat) : State :=
  { closed with ring := { closed.ring with tq := [noteBlock], out := ⟨{ closed.ring.out.e with heldOff := held }, closed.ring.out.w⟩ } }

theorem witness_InsertQueuesLeaveByTurn :
    (withTq none).prot.ring = .closed ∧ (withTq none).ring.rq = [] ∧ (withTq none).ring.eq = [] ∧
      (withTq none).ring.buffers.cw = [] ∧ (withTq none).ring.out.e.heldOff = none ∧
      (withTq none).ring.out.e.rotation.search
        (fun k => (withTq none).ring.hasClass k && decide (0 < (withTq none).ring.out.e.credits.get k)) = some .tq ∧
      (withTq none).ring.queue ClassQueue.tq.insertQueue = [noteBlock] ∧ (withTq (some 12)).ring.out.e.heldOff.isSome = true ∧
      ((withTq none).ring.out.e.credits.spend .tq).get .tq + 1 = (withTq none).ring.out.e.credits.get .tq ∧
      (∀ k : ClassQueue, k ≠ .tq → ((withTq none).ring.out.e.credits.spend .tq).get k = (withTq none).ring.out.e.credits.get k) ∧
      noteBlock.kind ≠ .fill ∧ (withTq none).agent.intake = [] := by
  refine ⟨by decide, by decide, by decide, by decide, by decide, by decide, by decide, by decide, by decide, ?_, by decide, by decide⟩
  intro k hk; cases k <;> first | exact absurd rfl hk | rfl

/-- `withTq` with no credit left and n blocks of allowance; EQ holds one block. -/
def spent (n : Nat) : State :=
  { closed with ring := { closed.ring with
      tq := [noteBlock], eq := [voiceBlock 2 3]
      out := ⟨{ closed.ring.out.e with allowance := n, credits := { tq := 0, mq := 0, aq := 0 } }, closed.ring.out.w⟩ } }

theorem witness_InsertQueuesLeaveByTurn_allowance :
    (spent 1).prot.ring = .closed ∧ (∀ o ∈ (spent 1).ring.rq, o.port ≠ .E) ∧ (spent 1).ring.eq = [voiceBlock 2 3] ∧
      0 < (spent 1).ring.out.e.allowance ∧ (voiceBlock 2 3).kind ≠ .fill ∧ (spent 0).ring.out.e.allowance = 0 ∧
      (spent 0).ring.out.e.rotation.search
        (fun k => (spent 0).ring.hasClass k && decide (0 < (spent 0).ring.out.e.credits.get k)) = none ∧
      (spent 0).ring.out.e.rotation.search (spent 0).ring.hasClass = some .tq ∧
      (spent 0).ring.queue ClassQueue.tq.insertQueue = [noteBlock] := by decide
/-- R19 steps 2 and 5: EQ within its allowance, and then TQ without a credit. -/
theorem test_allowance_then_spare :
    next? (exec (.sendCompletion .E) (spent 1)) (fun t => t.ring.out.e.sending == voiceBlock 2 3 && t.ring.out.e.allowance == 0) = true ∧
      next? (exec (.sendCompletion .E) (spent 0)) (fun t => t.ring.out.e.sending == noteBlock && t.ring.eq.length == 1 && t.ring.tq.isEmpty && t.ring.tx.e.sent == 1) = true := by
  decide +kernel

/-- A node in WRAP-E with one block in the CW buffer. -/
def wrapped (b : Block) : State := { withCw [b] with prot := { closed.prot with ports := ⟨port .down, port .up⟩, ring := .wrapE } }

theorem witness_WrapTurnsBlockOnce :
    (wrapped noteBlock).prot.ring = .wrapE ∧ (∀ o ∈ (wrapped noteBlock).ring.rq, o.port ≠ .W) ∧ (wrapped noteBlock).ring.eq = [] ∧
      (wrapped noteBlock).ring.tq = [] ∧ (wrapped noteBlock).ring.mq = [] ∧ (wrapped noteBlock).ring.aq = [] ∧
      (wrapped noteBlock).ring.buffers.ccw = [] ∧ (wrapped noteBlock).ring.buffers.cw = [noteBlock] ∧ noteBlock.kind ≠ .fill ∧
      noteBlock.wrapped = false ∧ ({ noteBlock with wrapped := true } : Block).wrapped = true := by decide

/-- A node at a wrap point, its two transit buffers these, its queues those of another state, the last transit block of either port
from the CCW buffer. -/
def wrapPoint (ring : RingState) (cw ccw : List Block) (s : State) : State :=
  { s with
    prot := { closed.prot with ports := if ring = .wrapE then ⟨port .down, port .up⟩ else ⟨port .up, port .down⟩, ring := ring }
    ring := { s.ring with buffers := ⟨cw, ccw⟩, out := s.ring.out.upd .W fun o => { o with lastBuffer := .CCW } } }
def turned : Block := { noteBlock with wrapped := true }

/-- Both wrap points, the choice between two buffers that hold blocks, and a block at its second turn with and without another. -/
theorem witness_WrapTurnsBlockOnce_buffers :
    (wrapPoint .wrapW [] [noteBlock] closed).prot.ring = .wrapW ∧ (∀ o ∈ (wrapPoint .wrapW [] [noteBlock] closed).ring.rq, o.port ≠ .E) ∧
      (wrapPoint .wrapW [] [noteBlock] closed).ring.buffers.get .CCW = [noteBlock] ∧
      (∀ k : Dir, k ≠ .CCW → (wrapPoint .wrapW [] [noteBlock] closed).ring.buffers.get k = []) ∧
      ((wrapPoint .wrapE [noteBlock] [noteBlock] closed).ring.out.get .W).lastBuffer ≠ .CW ∧
      (wrapPoint .wrapE [turned] [noteBlock] closed).ring.buffers.get .CCW = noteBlock :: [] ∧ turned.wrapped = true ∧
      ((wrapPoint .wrapE [turned] [noteBlock] closed).ring.senders.get .CW).asserted = false ∧
      (wrapPoint .wrapW [] [turned] closed).ring.buffers.get .CW = [] ∧
      ((wrapPoint .wrapW [] [turned] closed).ring.senders.get .CCW).asserted = false := by
  refine ⟨rfl, by decide, rfl, ?_, by decide, rfl, rfl, by decide, rfl, by decide⟩
  intro k hk; cases k <;> first | rfl | exact absurd rfl hk

theorem witness_WrapTurnsBlockOnce_local :
    (wrapPoint .wrapW [] [] (spent 1)).ring.eq = voiceBlock 2 3 :: [] ∧ (wrapPoint .wrapW [] [] (spent 1)).ring.rq = [] ∧
      0 < ((wrapPoint .wrapE [] [] (spent 1)).ring.out.get .W).allowance ∧ (voiceBlock 2 3).wrapped = false ∧
      ((wrapPoint .wrapW [] [] (spent 0)).ring.out.get .E).allowance = 0 ∧
      ((wrapPoint .wrapW [] [] (spent 0)).ring.out.get .E).heldOff = none ∧
      ((wrapPoint .wrapW [] [] (spent 0)).ring.out.get .E).rotation.search
        (fun k => (spent 0).ring.hasClass k && decide (0 < ((wrapPoint .wrapW [] [] (spent 0)).ring.out.get .E).credits.get k)) = none ∧
      ((wrapPoint .wrapW [] [] (spent 0)).ring.out.get .E).rotation.search (spent 0).ring.hasClass = some .tq ∧
      ((wrapPoint .wrapE [] [] (withTq none)).ring.out.get .W).rotation.search
        (fun k => (withTq none).ring.hasClass k && decide (0 < ((wrapPoint .wrapE [] [] (withTq none)).ring.out.get .W).credits.get k)) =
          some .tq ∧
      (wrapPoint .wrapE [] [] (withTq none)).ring.queue ClassQueue.tq.insertQueue = noteBlock :: [] := by decide +kernel

/-- R30, R31 at both wrap points: turned, discarded for the other buffer's head, as it is, and FILL toward the fault. -/
theorem test_wrap_points :
    next? (exec (.sendCompletion .E) (wrapPoint .wrapW [] [noteBlock] closed))
        (fun t => t.ring.out.e.sending == turned && t.prot.wrap.w.turned == 1) = true ∧
      next? (exec (.sendCompletion .W) (wrapPoint .wrapE [turned] [noteBlock] closed))
        (fun t => t.ring.out.w.sending == noteBlock && t.prot.wrap.e.discarded == 1 && t.prot.wrap.e.turned == 0) = true ∧
      next? (exec (.sendCompletion .W) (wrapPoint .wrapE [noteBlock] [] (withTq none))) (fun t => t.ring.out.w.sending == turned) = true ∧
      next? (exec (.sendCompletion .W) (wrapPoint .wrapE [] [] (withTq none)))
        (fun t => t.ring.out.w.sending == turned && t.prot.wrap.e.turned == 1) = true ∧
      next? (exec (.sendCompletion .E) (wrapPoint .wrapW [] [] (spent 1))) (fun t => t.ring.out.e.sending == voiceBlock 2 3) = true ∧
      next? (exec (.sendCompletion .E) (wrapPoint .wrapE [noteBlock] [] closed)) (fun t => t.ring.out.e.sending == Block.fill) = true := by
  decide +kernel

/-- `closed` with n blocks in the CW buffer, its sender ASSERTED with its repeat timer running. -/
def holding (n : Nat) : State :=
  { closed with ring := { closed.ring with buffers := ⟨List.replicate n noteBlock, []⟩, senders := ⟨⟨true, some 5⟩, ⟨false, none⟩⟩ } }

theorem witness_CreditKeepAndHoldoffTimersAct :
    (withRq (List.replicate 3 (keepOffer .E))).ring.rq.length < 4 ∧ 4 ≤ (withRq (List.replicate 4 (keepOffer .E))).ring.rq.length ∧
      ((holding 8).ring.senders.get .CW).timer = some 5 ∧ 8 ≤ ((holding 8).ring.buffers.get .CW).length ∧
      ((holding 7).ring.senders.get .CW).timer = some 5 ∧ ((holding 7).ring.buffers.get .CW).length < 8 ∧
      ((withTq (some 12)).ring.out.get .E).heldOff = some 12 := by decide

/-- A node whose E port is in this state. -/
def withPort (link : LinkState) : State := { closed with prot := { closed.prot with ports := ⟨port link, port .up⟩ } }

theorem witness_PortEventsMoveLink_timers :
    ((withPort .up).prot.ports.get .E).gap = some 5 ∧ ((withPort .up).prot.ports.get .E).link ≠ .down ∧
      ((withPort .proving).prot.ports.get .E).gap = some 5 ∧ ((withPort .proving).prot.ports.get .E).link ≠ .down ∧
      ((withPort .proving).prot.ports.get .E).proving = some 2000 ∧ ((withPort .proving).prot.ports.get .E).link = .proving := by
  decide

theorem witness_PortEventsMoveLink_light :
    ((withPort .down).prot.ports.get .E).link = .down ∧ ((withPort .up).prot.ports.get .E).link ≠ .down := by decide

/-- Port E DOWN with light and no timer, the ring state its own. -/
def lit : State :=
  { node with prot := { node.prot with ports := ⟨{ port .down with gap := none, proving := none }, port .up⟩, ring := .wrapE } }

set_option maxRecDepth 100000 in
theorem witness_PortEventsMoveLink :
    lit.ringOk = true ∧ (lit.prot.ports.get .E).link = .down ∧ (lit.prot.ports.get .E).light = true ∧
      (Received.ofBytes Block.fill.bytes).checkOk = true ∧ (Received.ofBytes []).checkOk = false ∧
      (withPort .proving).prot.ports.e.link = .proving := by decide +kernel

/-- A KEEP from node 2, and `closed` with n blocks in the CW buffer and its sender QUIET. -/
def keepBlock (flag : Byte) (src : NodeId) : Block := { node.ringBlock subKeep [flag] with src := src }

def quiet (n : Nat) : State := withCw (List.replicate n noteBlock)

set_option maxRecDepth 100000 in
theorem witness_RingBlocksActOnTheirSide :
    (keepBlock 1 2).fits = true ∧ (keepBlock 1 2).kind = .ring ∧ (keepBlock 1 2).subtype = 1 ∧
      (keepBlock 1 2).body = [if true = true then 1 else 0] ∧ (closed.prot.ports.get .E).link ≠ .down ∧
      (keepBlock 1 2).src ≠ closed.straps ∧ (closed.prot.ports.get .E).farFault = false ∧
      (closed.prot.ports.get .E).neighbour = none ∧ (keepBlock 0 3).src = closed.straps ∧
      ((quiet 23).ring.buffers.get .CW).length = 23 ∧ ((quiet 23).ring.senders.get .CW).asserted = false ∧
      (quiet 23).ring.rq.length < 4 ∧ (holding 8).ring.buffers.get .CW = noteBlock :: List.replicate 7 noteBlock ∧
      ((holding 8).ring.senders.get .CW).asserted = true ∧ (holding 8).ring.rq.length < 4 := by decide +kernel

set_option maxRecDepth 100000 in
theorem test_far_fault_keep_wraps :
    next? (exec (.blockArrival .E (keepBlock 1 2).bytes) closed)
      (fun t => t.prot.ring == .wrapE && t.prot.ports.e.neighbour == some 2) = true := by decide +kernel
theorem test_24th_block_offers_holdoff_west :
    ((quiet 23).joinTransit .CW noteBlock).ring.rq.map (·.port) = [.W] := by decide +kernel

/-- `closed` with both ports DOWN, the ring state still to be derived, a block in TQ and a CONNECTED record; and `node` with both
ports UP, still ISOLATED, with an ISOLATED record and lane 0 ACTIVE for CALL. -/
def parting : State :=
  withRecord (call .connected 3) { closed with
    prot := { closed.prot with ports := ⟨port .down, port .down⟩ }, ring := { closed.ring with tq := [noteBlock] } }

def healing : State :=
  withRecord { call .isolated 0 with prior := some .calling } { node with
    lanes := node.lanes.set 0 { LaneEntry.reset with active := true, service := .call }
    prot := { node.prot with ports := ⟨port .up, port .up⟩ } }

theorem witness_IsolationHandsOverAndHeals :
    parting.prot.derived = .isolated ∧ parting.prot.ring ≠ .isolated ∧ healing.prot.ring = .isolated ∧
      healing.prot.derived ≠ .isolated ∧ healing.agent.intake = [] ∧ healing.repeater = false ∧
      healing.laneFor .call = some 0 ∧ healing.ring.eq.length ≤ 16 ∧ healing.calls.records[(0 : Fin 16)].state = .isolated := by
  decide +kernel

theorem test_isolation_flushes_and_healing_requests :
    (parting.deriveRing.ring.tq = [] ∧ parting.deriveRing.prot.isoTq = 1 ∧
      parting.deriveRing.calls.records[(0 : Fin 16)].state = .isolated) ∧
    healing.deriveRing.ring.eq.map (·.subtype) = [1] := by decide +kernel

/-- Node 3 with one station in slot 0, on drop 1. -/
def served (kind : StationKind) (state : StationState) : State := withStation (station kind state) node

/-- A seated phone whose voice exchange is due at 4. -/
def seated : State := withStation { station .phone .online with due := none, voiceDue := some 4 } node

theorem witness_DueEventsBeginEarliestExchange :
    seated.repeater = false ∧ seated.poll.stations[0].voiceDue = some 4 ∧ seated.poll.drops[1].line = .idle ∧
      seated.poll.drops[1].broadcast = false ∧ earliest ((seated.reach 4).dueVoices 1) = some (0, 4) ∧
      (served .toll .online).poll.stations[0].due = some 10 ∧ (served .toll .online).poll.drops[1].line = .idle ∧
      (served .toll .online).poll.drops[1].broadcast = false ∧ ((served .toll .online).reach 10).dueVoices 1 = [] ∧
      earliest (((served .toll .online).reach 10).duePolls 1) = some (0, 10) := by decide +kernel

theorem witness_DueEventsBeginEarliestExchange_earliest : earliest [(0, 5), (1, 3), (2, 3)] = some (1, 3) := by decide

/-- Drop 1 at 10 awaiting a reply of slot 0 whose timer ends at 10, with a poll of slot 1 due at 10. -/
def tie : State :=
  let s := onLine .awaiting .weather (withStation { station .weather .online with miss := 0 } node)
  let e : Station := { station .weather .online with address := 8 }
  let l : Drop := { s.poll.drops[1] with replyTimer := some 10 }
  { s with now := 10, poll := { s.poll with stations := s.poll.stations.set 1 e, drops := s.poll.drops.set 1 l } }

theorem witness_DueEventsBeginEarliestExchange_tie :
    tie.repeater = false ∧ tie.poll.drops[tie.poll.stations[(1 : Fin 32)].drop].line ≠ .idle ∧
      tie.poll.stations[(1 : Fin 32)].due = some 10 ∧
      next? (exec (.stationPollDue 1) tie) (fun t =>
        t.poll.stations[(1 : Fin 32)].come == some 10 && (t.lineIdle 1).poll.drops[1].line == .idle &&
        (t.lineIdle 1).poll.drops[1].broadcast == false &&
        earliest (((t.lineIdle 1).duePolls 1).filter (t.lineIdle 1).isCome) == some (1, 10)) = true ∧
      ((tie.lineIdle 1).dueVoices 1).filter (tie.lineIdle 1).isCome = [] ∧
      earliest (((tie.lineIdle 1).duePolls 1).filter (tie.lineIdle 1).isCome) = none ∧
      earliest (((seated.reach 5).dueVoices 1).filter (seated.reach 5).isCome) = some (0, 4) := by decide +kernel

/-- R51: a due time and a completion of one moment, taken in either order. -/
theorem test_due_time_and_completion_of_one_moment :
    next? (exec (.replyTimerExpiry 1) tie) (fun t => t.poll.drops[1].line == .idle) = true ∧
      next? (exec (.stationPollDue 1) tie) (fun t => next? (exec (.replyTimerExpiry 1) t) fun u =>
        u.poll.drops[1].line == .sending && u.poll.drops[1].ctr.polls == 1) = true ∧
      next? (exec (.replyTimerExpiry 1) tie) (fun t => next? (exec (.stationPollDue 1) t) fun u =>
        u.poll.drops[1].line == .sending && u.poll.drops[1].ctr.polls == 1) = true := by decide +kernel

/-- A state with this wait list. -/
def waiting (l : List Waiting) (s : State) : State := { s with calls := { s.calls with waitList := l } }

/-- Node 3 with page 5 of sign 0 READY, LIVE and shown by the sign of slot 0. -/
def ready : Page := { state := .ready, size := 128, units := [9], filled := 128 }
def signOn (live next : Option (Fin 8)) (pages : Vector Page 8) : State :=
  let r : Sign := { Sign.reset with station := some 0, live := live, next := next, pages := pages }
  { served .sign .online with sign := { node.sign with signs := node.sign.signs.set 0 r } }
def shown : State := signOn (some 5) (some 5) (Sign.reset.pages.set 5 ready)

theorem witness_PollPayloadFollowsKind :
    (served .phone .online).poll.stations[0].kind = .phone ∧ (served .weather .online).poll.stations[0].kind = .weather ∧
      (served .toll .online).poll.stations[0].kind = .toll ∧ shown.poll.stations[0].kind = .sign ∧
      signOf? shown.poll.stations[0].link = some 0 ∧ shown.sign.signs[0].live = some 5 ∧
      (signOn none none Sign.reset.pages).sign.signs[0].live = none := by decide +kernel

/-- The sign of record 0 in AMBIENT mode on slot 2 with a minimum of 20 and a slope of 100, its last intensity 90. -/
def dimmed (light : Option Int) : State :=
  { node with
    sign := { node.sign with signs := node.sign.signs.set 0 { Sign.reset with mode := .ambient 2 20 100, lastIntensity := 90 } }
    slots := node.slots.set 2 { ReductionSlot.reset with derived := { Derived.none with light := light } } }

theorem witness_PollPayloadFollowsKind_intensity :
    (dimmed none).sign.signs[0].mode = .ambient 2 20 100 ∧ (dimmed none).slots[2].derived.light = none ∧
      (dimmed (some 1000)).slots[2].derived.light = some 1000 ∧
      ({ Sign.reset with mode := .fixed 7 } : Sign).mode = .fixed 7 := by decide +kernel

/-- R158: 20 + ⌊1000 × 100 ÷ 4096⌋ = 44, the clamp at 100, and the last intensity where LIGHT is not formed. -/
theorem test_ambient_intensity :
    (dimmed (some 1000)).computedIntensity 0 = 44 ∧ (dimmed (some 65535)).computedIntensity 0 = 100 ∧
      (dimmed none).computedIntensity 0 = 90 := by decide +kernel

/-- A phone in no record, waiting or not, and in a record CALLING, CONNECTED, or CLEARING for either side's reason. -/
theorem witness_PollPayloadFollowsKind_tone :
    node.recordOf 0 = none ∧ (∃ w ∈ (waiting [⟨0, 5⟩] node).calls.waitList, w.slot = 0) ∧
      (withRecord (call .calling 0) node).recordOf 0 = some 0 ∧
      (withRecord (call .calling 0) node).calls.records[(0 : Fin 16)] = call .calling 0 ∧
      (call .clearing 0).reason = some .onHook ∧ (call .connected 0).state ≠ .clearing := by decide +kernel
/-- R60, R61. -/
theorem test_tone_and_hook_by_record :
    (node.toneOf 0).code = 2 ∧ node.expectsOffHook 0 = false ∧ (waiting [⟨0, 5⟩] node).expectsOffHook 0 = true ∧
      ((withRecord (call .calling 0) node).toneOf 0).code = 1 ∧ ((withRecord (call .queued 0) node).toneOf 0).code = 2 ∧
      ((withRecord (call .connected 0) node).toneOf 0).code = 0 ∧ ((withRecord (call .clearing 0) node).toneOf 0).code = 3 ∧
      (withRecord (call .clearing 0) node).expectsOffHook 0 = false ∧
      (withRecord { call .clearing 0 with reason := some .centre } node).expectsOffHook 0 = true := by decide +kernel

/-- Drop 1 of node 3 with an exchange with slot 0 in flight. -/
def polled (line : LineState) (kind : StationKind) (state : StationState) : State := onLine line kind (served kind state)

/-- Drop 1 sending a SUPPLY broadcast, nothing due on it. -/
def broadcasting : State :=
  { node with poll := { node.poll with drops := node.poll.drops.map fun l =>
    { l with line := .sending, exch := some { snap := none, voice := false, begun := 0, frame := [] }, broadcast := false } } }

theorem witness_FrameEventsMoveLine :
    (polled .sending .toll .online).repeater = false ∧ (polled .sending .toll .online).poll.drops[1].line = .sending ∧
      ((polled .sending .toll .online).poll.drops[1].exch.map fun x => x.snap.isSome) = some true ∧
      broadcasting.poll.drops[1].line = .sending ∧ (broadcasting.poll.drops[1].exch.map fun x => x.snap) = some none ∧
      broadcasting.poll.drops[1].broadcast = false ∧ broadcasting.dueVoices 1 = [] ∧ broadcasting.duePolls 1 = [] ∧
      (polled .awaiting .toll .online).poll.drops[1].line = .awaiting ∧ node.poll.drops[1].line = .idle := by decide +kernel

/-- A demand of this very moment whose coming has not been taken leaves the line IDLE after a broadcast. -/
theorem witness_FrameEventsMoveLine_tie :
    (∀ y ∈ tie.dueVoices 1 ++ tie.duePolls 1, y.2 = tie.now ∧ tie.poll.stations[y.1].come ≠ some y.2) ∧
      tie.duePolls 1 = [(0, 10), (1, 10)] := by decide +kernel

theorem witness_GoodReplyReachesItsEngine :
    (polled .receiving .weather .silent).repeater = false ∧ (polled .receiving .weather .silent).poll.drops[1].line = .receiving ∧
      (polled .receiving .weather .silent).poll.drops[1].exch =
        some { snap := some (snap .weather), voice := false, begun := 0, frame := [] } ∧ (snap .weather).drop = 1 ∧
      (polled .receiving .weather .silent).poll.stations[(snap .weather).slot] = station .weather .silent ∧
      (station .weather .silent).matches (snap .weather) = true ∧ (station .weather .silent).state ≠ .offline ∧
      (station .weather .silent).voiceDue = none ∧ (snap .weather).kind ≠ .sign ∧
      Reply.ofFrame? (snap .weather).address (frameBytes true 7 typeNil []) = some .nil := by decide +kernel

/-- Drop 1 RECEIVING in a voice exchange with a PHONE. -/
def inVoice : State :=
  let s := polled .receiving .phone .online
  let x : Exchange := { snap := some (snap .phone), voice := true, begun := 0, frame := [] }
  { s with poll := { s.poll with drops := updAt s.poll.drops 1 fun l => { l with exch := some x } } }

theorem witness_GoodReplyReachesItsEngine_dispatch :
    (polled .receiving .phone .offline).poll.stations[0] = station .phone .offline ∧
      (station .phone .offline).matches (snap .phone) = true ∧ (station .toll .online).matches (snap .toll) = true ∧
      (station .sign .online).matches (snap .sign) = true ∧ (polled .receiving .toll .online).poll.drops[1].line = .receiving ∧
      inVoice.repeater = false ∧ inVoice.poll.drops[1].line = .receiving ∧
      inVoice.poll.drops[1].exch = some { snap := some (snap .phone), voice := true, begun := 0, frame := [] } ∧
      inVoice.poll.stations[0] = station .phone .online ∧ slotOf? (snap .weather).link = some 0 ∧
      node.slots[0].station ≠ some 0 ∧ (Reply.hook 2).fits .phone true = false ∧ (Reply.hook 0).fits .toll false = false ∧
      Reply.nil.fits .sign false = false ∧ Reply.chunkOk.fits .weather false = false := by decide +kernel

theorem witness_GoodReplyReachesItsEngine_replies :
    Reply.ofFrame? 7 (frameBytes true 7 typeHook [1]) = some (.hook 1) ∧
      Reply.ofFrame? 7 (frameBytes true 7 typeNil []) = some .nil ∧ (snap .phone).kind = .phone ∧
      Reply.ofFrame? 7 (frameBytes true 7 typeVoice (List.replicate 33 1)) = some (.voice 1 (List.replicate 32 1)) ∧
      Reply.ofFrame? 7 (frameBytes true 7 typeTxn (List.replicate 42 1)) = some (.txn 0x0101 (List.replicate 40 1)) ∧
      Reply.ofFrame? 7 (frameBytes true 7 typeChunkOk []) = some .chunkOk ∧
      Reply.ofFrame? 7 (frameBytes true 7 typeChunkAgain []) = some .chunkAgain := by decide +kernel

/-- R44, R53: a CHUNK-OK from an OFFLINE toll station is a type mismatch, and the station's ONLINE notice is queued. -/
theorem test_mismatch_is_counted :
    next? (exec (.replyFrameEnd 1 (frameBytes true 7 typeChunkOk [])) (polled .receiving .toll .offline))
      (fun t => t.poll.drops[1].ctr.mismatch == 1 && t.agent.queued == 1 && t.poll.stations[0].state == .online) = true := by
  decide +kernel

/-- The third miss in a row, and the first. -/
theorem witness_MissMovesStationTowardOffline :
    (polled .receiving .weather .silent).repeater = false ∧
      (polled .receiving .weather .silent).poll.drops[1].exch =
        some { snap := some (snap .weather), voice := false, begun := 0, frame := [] } ∧ (snap .weather).drop = 1 ∧
      (polled .receiving .weather .silent).poll.stations[(snap .weather).slot] = station .weather .silent ∧
      (station .weather .silent).matches (snap .weather) = true ∧
      (polled .receiving .weather .silent).poll.drops[1].line = .receiving ∧
      (polled .receiving .weather .silent).poll.drops[1].replyTimer = some 2 ∧ 2 ≤ (station .weather .silent).miss ∧
      (station .weather .silent).state ≠ .offline ∧ slotOf? (station .weather .silent).link = some 0 := by decide +kernel

theorem witness_SupersededOutcomeIsDropped :
    (onLine .receiving .toll (served .weather .online)).repeater = false ∧
      (onLine .receiving .toll (served .weather .online)).poll.drops[1].exch =
        some { snap := some (snap .toll), voice := false, begun := 0, frame := [] } ∧ (snap .toll).drop = 1 ∧
      (onLine .receiving .toll (served .weather .online)).poll.stations[(snap .toll).slot].matches (snap .toll) = false ∧
      (onLine .receiving .toll (served .weather .online)).poll.drops[1].line = .receiving ∧
      (onLine .receiving .toll (served .weather .online)).poll.drops[1].replyTimer = some 2 := by decide +kernel

theorem test_superseded_txn_is_not_dispatched :
    next? (exec (.replyFrameEnd 1 (frameBytes true 7 typeTxn (List.replicate 42 1))) (onLine .receiving .toll (served .weather .online)))
      (fun t => t.poll.drops[1].ctr.superseded == 1 && t.jrnl == node.jrnl) = true := by decide +kernel

/-- A reading of all zeros, and the WEATHER station's slot fed by it. -/
def zeros : List Byte := List.replicate 17 0
def weather : State :=
  { polled .receiving .weather .online with slots := node.slots.set 0 { ReductionSlot.reset with station := some 0 } }

theorem witness_ReadingIsReducedForwardedAndEvaluated :
    weather.repeater = false ∧ weather.poll.drops[1].line = .receiving ∧
      weather.poll.drops[1].exch = some { snap := some (snap .weather), voice := false, begun := 0, frame := [] } ∧
      (snap .weather).drop = 1 ∧ weather.poll.stations[(snap .weather).slot].matches (snap .weather) = true ∧
      (snap .weather).kind = .weather ∧ slotOf? (snap .weather).link = some 0 ∧
      weather.slots[0].station = some (snap .weather).slot ∧
      Reply.ofFrame? (snap .weather).address (frameBytes true 7 typeReading zeros) = some (.reading (Reading.ofBody zeros)) := by
  decide +kernel

/-- `closed` with lane 4 a WX lane and n blocks in AQ. -/
def wxLane (n : Nat) : State :=
  { closed with
    lanes := closed.lanes.set 4 { LaneEntry.reset with active := true, service := .wx, peer := 9 }
    ring := { closed.ring with aq := List.replicate n noteBlock } }

theorem witness_ReadingIsReducedForwardedAndEvaluated_forwarded :
    closed.laneFor .wx = none ∧ (wxLane 0).laneFor .wx = some 4 ∧ (wxLane 0).takes .aq = true ∧ (wxLane 16).takes .aq = false ∧
      ((Reading.ofBody zeros).flags.getLsbD 0 = false ∧ ReductionSlot.reset.prev = none) := by decide +kernel

/-- Rule 0 watches SURFACE of slot 0, set at 0 or below, and shows on sign 0; rule 1 has rule 0 as its link. -/
def iced : State :=
  { node with
    slots := node.slots.set 0 { ReductionSlot.reset with derived := { Derived.none with surface := some (-50) } }
    rules := (node.rules.set 0 { Rule.reset with enabled := true, p := 1, clearLevel := 100, signs := 1 }).set 1
      { Rule.reset with link := some 0 } }

def icedValue (i : Fin 32) : Option Int := iced.slots[iced.rules[i].source].derived.get iced.rules[i].quantity
def icedRule (i : Fin 32) : Rule := if i = 0 then iced.rules[i].activate else iced.rules[i]
def icedEffective (i : Fin 32) : Bool := decide (i.val ≤ 0)

theorem witness_ReadingIsReducedForwardedAndEvaluated_evaluated :
    (∀ (i : Fin 32) (D : Derived), iced.slots[iced.rules[i].source].derived = D → icedValue i = match iced.rules[i].quantity with
      | .surface => D.surface | .air => D.air | .humidity => D.humidity | .visibility => D.visibility
      | .light => D.light | .windMean => D.windMean | .windGust => D.windGust) ∧
    (∀ i : Fin 32, icedRule i = if iced.rules[i].enabled = true ∧ iced.rules[i].source = 0 then
      (match icedValue i with
        | none => iced.rules[i]
        | some v => iced.rules[i].move v) else iced.rules[i]) ∧
    (∀ i : Fin 32, icedEffective i = true ↔ ((icedRule i).state = .active ∨ (icedRule i).state = .pendingClear) ∧
      ∀ j : Fin 32, iced.rules[i].link = some j → ((icedRule j).state = .active ∨ (icedRule j).state = .pendingClear)) ∧
    icedEffective 0 ≠ iced.rules[0].effective ∧ iced.rules[0].signs.getLsbD 0 = true := by
  refine ⟨?_, by decide +kernel, by decide +kernel, by decide +kernel, by decide +kernel⟩
  intro i D h
  subst h
  unfold icedValue
  cases iced.rules[i].quantity <;> rfl

/-- R144, R147: the rule becomes ACTIVE and effective, and its notice is queued; the rule without a source value stays. -/
theorem test_evaluate_moves_the_slots_rules :
    (iced.evaluate 0).rules[0].state = .active ∧ (iced.evaluate 0).rules[0].effective = true ∧
      (iced.evaluate 0).rules[1].effective = false ∧ (iced.evaluate 0).agent.queued = 1 ∧ (iced.evaluate 1).rules = iced.rules := by
  decide +kernel

/-- A slot of depth 2 with offset cancellation on, its windows full, and a reading at the ends of its ranges, 1000 ms and 2 counts
after the previous one. -/
def deep : ReductionSlot :=
  { ReductionSlot.reset with
    depth := 2, offset := true, useLight := true, surface := [1, 2], air := [1], humidity := [7, 8], visibility := [1, 2]
    light := [1], wind := [1, 2], gust := [1, 2, 3, 4, 5, 6, 7, 8], prev := some ⟨65535, 65000, 0⟩ }

def edge : Reading :=
  { ts := 8000, ta := -4001, z := -500, rh := 1001, vis := 20001, lux := 65535, wc := 1, tm := 464, flags := 0, raw := [] }

theorem witness_ReductionStagesFormValues :
    1 ≤ deep.depth ∧ deep.surface.length ≤ deep.depth ∧ (-4000 : Int) ≤ edge.ts ∧ edge.ts ≤ 8000 ∧ edge.ta < (-4000 : Int) ∧
      deep.air.length ≤ deep.depth ∧ deep.humidity.length ≤ deep.depth ∧ deep.visibility.length ≤ deep.depth ∧
      deep.useLight = true ∧ deep.light.length ≤ deep.depth ∧ ReductionSlot.reset.useLight = false ∧
      ({ edge with flags := 1 } : Reading).flags.getLsbD 0 = true ∧ edge.flags.getLsbD 0 = false ∧
      ReductionSlot.reset.prev = none ∧ deep.prev = some ⟨65535, 65000, 0⟩ ∧ 1 ≤ (edge.tm + 65536 - 65000) % 65536 ∧
      (edge.tm + 65536 - 65000) % 65536 ≤ 30000 ∧ deep.wind.length ≤ deep.depth ∧ deep.gust.length ≤ 8 ∧
      (65000 + 65536 - 65000) % 65536 = 0 := by decide

/-- Two counts in 1000 ms at kw 1000 are 20 tenths of a metre per second; 8000 less -500 saturates. -/
theorem test_reduction_stages :
    (deep.process edge 30000).wind = [2, 20] ∧ (deep.process edge 30000).surface = [2, 8000] ∧
      (deep.process edge 30000).derived.windGust = some 20 ∧ (deep.process edge 30000).derived.surface = some 4001 ∧
      (deep.process edge 30000).air = [1] := by decide

/-- Node 3 with record 0 in a state after n sends. -/
def calling (state : CallState) (n : Nat) : State := withRecord (call state n) closed

/-- `calling` with lane 0 ACTIVE for CALL. -/
def withCallLane (s : State) : State := { s with lanes := s.lanes.set 0 { LaneEntry.reset with active := true, service := .call } }

theorem witness_SignalTimersSendOrEnd :
    (withCallLane (calling .calling 14)).repeater = false ∧
      (withCallLane (calling .calling 14)).calls.records[0] = call .calling 14 ∧ (call .calling 14).state = .calling ∧
      (call .calling 14).timer = some 2000 ∧ (call .calling 14).attempts < 15 ∧
      (withCallLane (calling .calling 14)).laneFor .call = some 0 ∧ (withCallLane (calling .calling 14)).takes .eq = true ∧
      15 ≤ (call .calling 15).attempts ∧ (call .isolated 255).state = .isolated ∧ (call .isolated 255).timer = some 2000 ∧
      (withRecord (call .isolated 255) node).prot.ring = .isolated := by decide +kernel

theorem witness_SignalTimersSendOrEnd_clearing :
    (calling .clearing 3).repeater = false ∧ (calling .clearing 3).calls.records[0] = call .clearing 3 ∧
      (call .clearing 3).state = .clearing ∧ (call .clearing 3).timer = some 2000 ∧ (call .clearing 3).attempts < 4 ∧
      4 ≤ (call .clearing 4).attempts ∧ (calling .clearing 4).calls.waitList = [] ∧
      (∀ q : Fin 16, (calling .clearing 4).calls.records[q].state ≠ .seized) ∧ (call .clearing 4).lane = some 2 := by decide +kernel

theorem witness_HookAndLossMoveCalls_fresh : (calling .queued 0).calls.records[(0 : Fin 16)].state ≠ .free := by decide +kernel

/-- A phone in slot 0 with no lane for its call, and with lanes 0 for CALL and 1 for VOICE; and one that waits already. -/
def phone : State := withStation (station .phone .online) closed
def phoneLanes : State :=
  { phone with lanes :=
    (phone.lanes.set 0 { LaneEntry.reset with active := true, service := .call }).set 1 { LaneEntry.reset with active := true } }
def busyLine (n : Nat) : State :=
  { phone with calls := { phone.calls with
    records := Vector.replicate 16 { call .connected 0 with phone := some 9 }
    waitList := ((List.finRange 32).take n).map fun i => ⟨i + 1, 0⟩ } }
def waitingPhone : State := waiting [⟨0, 5⟩] phone

theorem witness_HookAndLossMoveCalls :
    (calling .queued 0).recordOf 0 = some 0 ∧ waitingPhone.onWaitList 0 = true ∧ phone.recordOf 0 = none ∧
      phone.onWaitList 0 = false ∧ phone.freeRecord = some 0 ∧ phone.calls.records[(0 : Fin 16)] = CallRecord.free ∧
      phone.seatFree phone.poll.stations[(0 : Fin 32)].drop = true ∧ phone.pathAvailable = false ∧
      (∀ q : Fin 16, phoneLanes.calls.records[q].state ≠ .seized) ∧ phoneLanes.prot.ring ≠ .isolated ∧
      phoneLanes.freeVoiceLane = some 1 ∧ phoneLanes.laneFor .call = some 0 ∧ phoneLanes.takes .eq = true := by
  decide +kernel
theorem witness_HookAndLossMoveCalls_list :
    (busyLine 31).recordOf 0 = none ∧ (busyLine 31).onWaitList 0 = false ∧ (busyLine 31).freeRecord = none ∧
      (busyLine 31).calls.waitList.length < 32 ∧ 32 ≤ (busyLine 32).calls.waitList.length ∧ (busyLine 31).calls.waitList ≠ [] ∧
      waitingPhone.calls.waitList = ⟨0, 5⟩ :: [] ∧ waitingPhone.freeRecord = some 0 ∧
      waitingPhone.seatFree waitingPhone.poll.stations[(0 : Fin 32)].drop = true := by decide +kernel

/-- Four seats taken on drop 1, where slot 0 stands, and a phone of drop 0 behind it on the wait list. -/
def blocked : State :=
  { phone with calls := { phone.calls with
    records := Vector.ofFn fun i : Fin 16 => if i.val < 4 then { call .connected 0 with phone := some 0 } else CallRecord.free
    waitList := [⟨0, 5⟩, ⟨7, 6⟩, ⟨0, 7⟩] } }

theorem witness_HookAndLossMoveCalls_refill :
    blocked.calls.waitList = [⟨0, 5⟩] ++ ⟨7, 6⟩ :: [⟨0, 7⟩] ∧ blocked.freeRecord = some 4 ∧
      (∀ y ∈ [(⟨0, 5⟩ : Waiting)], blocked.seatFree blocked.poll.stations[y.slot].drop = false) ∧
      blocked.seatFree blocked.poll.stations[(7 : Fin 32)].drop = true := by decide +kernel
/-- R64: the phone behind a blocked one is seized, and the blocked ones keep their places. -/
theorem test_refill_passes_over_blocked :
    blocked.refillWalk.calls.waitList.map (·.since) = [5, 7] ∧
      blocked.refillWalk.calls.records[(4 : Fin 16)].phone = some 7 := by decide +kernel

theorem witness_HookAndLossMoveCalls_gone :
    phone.recordOf 0 = none ∧ phone.onWaitList 0 = false ∧ (∃ w ∈ (busyLine 2).calls.waitList, w.slot ≠ 1) ∧
      (busyLine 2).recordOf 1 = none ∧ (calling .queued 0).recordOf 0 = some 0 ∧
      (calling .queued 0).calls.records[(0 : Fin 16)] = call .queued 0 ∧ (call .clearing 0).reason ≠ some .centre ∧
      (calling .queued 0).calls.waitList = [] ∧ (withCallLane (calling .queued 0)).laneFor .call = some 0 ∧
      (withCallLane (calling .queued 0)).takes .eq = true ∧ (calling .seized 0).recordOf 0 = some 0 ∧
      (∀ q : Fin 16, q ≠ 0 → (calling .seized 0).calls.records[q].state ≠ .seized) ∧
      (withStation (station .phone .offline) closed).poll.stations[(0 : Fin 32)].state = .offline := by decide +kernel
/-- R72: CLEAR with reason ON-HOOK is 4 of call 1 of node 3, seq 1; a SEIZED record is FREE at once. -/
theorem test_on_hook_clears :
    ((withCallLane (calling .queued 0)).takeHook 0 false).ring.eq.map (fun b => (b.subtype, b.seq, b.body)) = [(4, 1, [3, 1, 1])] ∧
      ((calling .seized 0).takeHook 0 false).calls.records[(0 : Fin 16)] = CallRecord.free := by decide +kernel

/-- The REQUEST of call 1 of node 3: its call id, drop 1, address 7, VOICE lane 1 and location 0. -/
theorem test_off_hook_requests :
    ((phoneLanes.takeHook 0 true).ring.eq.map (·.body)) = [[3, 1, 1, 7, 1, 0, 0]] ∧
      (phoneLanes.takeHook 0 true).calls.counter = 2 ∧ (waitingPhone.refill).calls.waitList = [] := by decide +kernel

/-- A CALL block of call 1 of node 3 from the centre. -/
def callBlock (subtype : BitVec 4) (body : List Byte) : Block := { voiceBlock 3 1 with kind := .call, subtype := subtype, body := body }

theorem witness_CentreBlocksMoveRecord :
    (withCallLane (calling .calling 1)).recordWithId { node := 3, counter := 1 } = some 0 ∧
      (withCallLane (calling .calling 1)).calls.waitList = [] ∧ (call .calling 1).phone = some 0 ∧
      (withCallLane (calling .calling 1)).laneFor .call = some 0 ∧ (withCallLane (calling .calling 1)).takes .eq = true ∧
      (call .clearing 1).clearingLocal = true ∧ (call .queued 1).clearingLocal = false ∧
      (∀ q : Fin 16, (calling .clearing 1).calls.records[q].state ≠ .seized) ∧
      (withCallLane (calling .calling 1)).recordWithId { node := 3, counter := 2 } = none ∧
      (callBlock 4 [3, 1, 3]).body.length = 3 := by decide +kernel
theorem test_centre_answers_and_clears :
    ((withCallLane (calling .calling 1)).takeCallBlock (callBlock 3 [3, 1])).calls.records[(0 : Fin 16)].state = .connected ∧
      ((withCallLane (calling .calling 1)).takeCallBlock (callBlock 4 [3, 1, 3])).ring.eq.map (·.subtype) = [5] ∧
      ((withCallLane (calling .calling 1)).takeCallBlock (callBlock 2 [3, 2])).ring.eq.map (·.body) = [[3, 2, 2]] := by
  decide +kernel

/-- A CLEAR that meets a record CLEARING for the centre's reason, and for the node's own. -/
def clearingFor (why : ClearReason) : State := withCallLane (withRecord { call .clearing 1 with reason := some why } closed)
theorem witness_CentreBlocksMoveRecord_clearAgain :
    (callBlock 4 [3, 1, 3]).body = [3, 1, 3] ∧ (clearingFor .centre).recordWithId { node := 3, counter := 1 } = some 0 ∧
      (clearingFor .centre).calls.records[(0 : Fin 16)].state = .clearing ∧ (clearingFor .centre).laneFor .call = some 0 ∧
      (clearingFor .centre).takes .eq = true ∧ (clearingFor .onHook).calls.records[(0 : Fin 16)].reason = some .onHook ∧
      (clearingFor .onHook).calls.waitList = [] ∧ (∀ q : Fin 16, (clearingFor .onHook).calls.records[q].state ≠ .seized) := by
  decide +kernel
theorem test_clear_meets_clearing :
    ((clearingFor .centre).takeCallBlock (callBlock 4 [3, 1, 3])).calls = (clearingFor .centre).calls ∧
      ((clearingFor .centre).takeCallBlock (callBlock 4 [3, 1, 3])).ring.eq.map (·.subtype) = [5] ∧
      ((clearingFor .onHook).takeCallBlock (callBlock 4 [3, 1, 3])).calls.records[(0 : Fin 16)] = CallRecord.free := by decide +kernel

/-- A CONNECTED record with a frame queued at next. -/
def talking : State :=
  withRecord { call .connected 0 with voice := { VoiceFields.free with next := some 250, queue := [⟨250, []⟩], play := .playing } } closed

theorem witness_StepKeepsPlayOutLaw :
    talking.voiceOk = true ∧
      ({ VoiceFields.free with next := some 250, queue := [⟨250, []⟩], play := .playing } : VoiceFields).lawful = true := by
  decide +kernel

/-- Blocks 8 and 127 ahead of next, and a second frame 1 and 7 ahead of the first. -/
def heard (seq : Byte) : Block := { voiceBlock 3 1 with seq := seq, body := List.replicate 32 5 }

theorem witness_VoiceIsCapturedPlacedAndPlayed :
    talking.calls.records[(0 : Fin 16)].state = .connected ∧ talking.calls.records[(0 : Fin 16)].voice.next = some 250 ∧
      (heard 2).body.length = 32 ∧ 8 ≤ ((heard 2).seq - 250 : Byte).toNat ∧ ((heard 2).seq - 250 : Byte).toNat ≤ 127 ∧
      ((heard 121).seq - 250 : Byte).toNat = 127 ∧ 1 ≤ ((heard 3).seq - (heard 2).seq : Byte).toNat ∧
      ((heard 9).seq - (heard 2).seq : Byte).toNat ≤ 7 := by decide +kernel

/-- A CONNECTED record that has just started: one frame at 252, next 250. -/
def starting : State :=
  withRecord { call .connected 0 with voice := { VoiceFields.free with next := some 250, queue := [⟨252, []⟩], last := some [] } } closed

theorem witness_VoiceIsCapturedPlacedAndPlayed_capture :
    closed.seatedRecordOf 0 = none ∧ talking.seatedRecordOf 0 = some 0 ∧ (calling .queued 0).seatedRecordOf 0 = some 0 ∧
      (calling .queued 0).calls.records[(0 : Fin 16)].state ≠ .connected ∧
      talking.calls.records[(0 : Fin 16)].lane = some 2 ∧ talking.takes .eq = true := by decide +kernel
theorem witness_VoiceIsCapturedPlacedAndPlayed_place :
    (voiceBlock 3 1).body.length ≠ 32 ∧ starting.calls.records[(0 : Fin 16)].voice.next = some 250 ∧
      starting.calls.records[(0 : Fin 16)].voice.queue = [] ++ [⟨252, []⟩] ∧
      starting.calls.records[(0 : Fin 16)].voice.play ≠ .playing ∧ ((heard 251).seq - 250 : Byte).toNat ≤ 7 ∧
      (∀ f ∈ [(⟨252, []⟩ : VoiceFrame)], ((heard 251).seq - 250 : Byte).toNat < (f.seq - 250 : Byte).toNat) ∧
      128 ≤ ((heard 249).seq - 250 : Byte).toNat ∧ 128 ≤ ((heard 122).seq - 250 : Byte).toNat ∧
      (∃ f ∈ starting.calls.records[(0 : Fin 16)].voice.queue, f.seq = (heard 252).seq) ∧
      (call .connected 0).voice.next = none ∧ (call .connected 0).voice.queue = [] := by decide +kernel
theorem witness_VoiceIsCapturedPlacedAndPlayed_play :
    talking.calls.records[(0 : Fin 16)].voice.play = .playing ∧ talking.calls.records[(0 : Fin 16)].voice.queue = [⟨250, []⟩] ∧
      (talking.playStep 0).2.calls.records[(0 : Fin 16)].voice.rep = false ∧
      (talking.playStep 0).2.calls.records[(0 : Fin 16)].voice.last = some [] ∧
      (∀ g ∈ (talking.playStep 0).2.calls.records[(0 : Fin 16)].voice.queue, g.seq ≠ 251) ∧
      ((talking.playStep 0).2.playStep 0).2.calls.records[(0 : Fin 16)].voice.rep = true := by decide +kernel
/-- R86, R87: two frames start the play at the nearer; after it one repeat, then silence and UNDERRUN. -/
theorem test_play_starts_and_runs_dry :
    (starting.takeVoice 0 (heard 251)).calls.records[(0 : Fin 16)].voice.next = some 251 ∧
      (((talking.playStep 0).2.playStep 0).2.playStep 0).2.calls.records[(0 : Fin 16)].voice.play = .underrun := by decide +kernel

/-- R87: frames 104 and 105 with 102 next: a repeat, silence, and UNDERRUN with both still queued; then silence until an insertion. -/
theorem test_underrun_with_two_queued :
    let v : VoiceFields := { VoiceFields.free with next := some 102, queue := [⟨104, []⟩, ⟨105, []⟩], play := .playing, last := some [] }
    let s : State := withRecord { call .connected 0 with voice := v } closed
    let u : State := (((s.playStep 0).2.playStep 0).2.playStep 0).2
    u.calls.records[(0 : Fin 16)].voice.play = .underrun ∧ u.calls.records[(0 : Fin 16)].voice.next = some 104 ∧
      (u.takeVoice 0 (heard 106)).calls.records[(0 : Fin 16)].voice.play = .playing := by decide +kernel

/-- `node` with slot 0's list, staging of n and a busy controller. -/
def offered (l : List AnswerEntry) (n : Nat) : State :=
  operating (.mark 7) { node with jrnl := { node.jrnl with answers := node.jrnl.answers.set 0 l, staging := List.replicate n txn } }

theorem witness_TransactionIsJudged :
    (⟨9, .carried .deferred⟩ ∈ (offered [⟨9, .carried .deferred⟩] 0).jrnl.answers[(0 : Fin 32)]) ∧
      (∀ e ∈ (offered [⟨9, .ready .deferred⟩] 31).jrnl.answers[(0 : Fin 32)], e.number = 9 → e.state = .ready .deferred) ∧
      (offered [] 31).jrnl.cond = .accepting ∧ (offered [] 31).jrnl.staging.length < 32 ∧ (offered [] 31).jrnl.overrun = false ∧
      (offered [] 31).ctl.state ≠ .idle ∧ node.ctl.state = .idle ∧ node.ctl.requests = [] ∧ node.jrnl.pendingMarks = [] ∧
      node.jrnl.hand = none ∧ node.jrnl.staging = [] ∧ node.jrnl.nextSerial < 4294967295 ∧
      32 ≤ (offered [] 32).jrnl.staging.length := by decide +kernel
theorem test_txn_that_fills_staging_enters_overrun :
    ((offered [⟨9, .ready .deferred⟩] 31).takeTxn 0 1 7 9 []).jrnl.overrun = true ∧
      ((offered [] 32).takeTxn 0 1 7 9 []).jrnl.answers[(0 : Fin 32)] = [⟨9, .ready .deferred⟩] := by decide +kernel

/-- `node` holding serials 5 to 7 in slots 10, 12 and 13, slot 11 bad, the first two IN-TRANSIT, the third read and not yet sent, with
a credit of 60, a TOLL lane and a busy controller. -/
def draining : State :=
  operating (.mark 7) { closed with
    lanes := closed.lanes.set 0 { LaneEntry.reset with active := true, service := .toll }
    jrnl := { node.jrnl with oldest := some ⟨5, 10⟩, held := 3, bad := [11], cursor := 14, nextSerial := 8, newestSent := some 6,
                             inTransit := [⟨5, 0⟩, ⟨6, 0⟩], credit := 60 } }

def control (subtype : BitVec 4) (body : List Byte) : Block := { voiceBlock 3 1 with kind := .tollctl, subtype := subtype, body := body }

theorem witness_CentreControlMovesJournal :
    State.reset.jrnl.cond = .recovering ∧ (control 4 []).subtype ≠ 1 ∧ (control 1 [0]).body.length = 1 ∧
      byteAt (control 1 [0]).body 0 = 0 ∧ 64 < (byteAt (control 1 [65]).body 0).toNat ∧ draining.jrnl.cond.drains = true ∧
      (control 1 [64]).body = [64] ∧ (control 2 (be32 6)).body.length = 4 ∧ (word32At (be32 4) 0).toNat < 5 ∧
      node.jrnl.oldest = none ∧ draining.jrnl.oldest = some ⟨5, 10⟩ ∧ draining.jrnl.newestSent = some 6 ∧
      draining.jrnl.held ≠ 0 ∧ draining.ctl.state ≠ .idle ∧ min (word32At (be32 9) 0).toNat 6 = 6 := by decide +kernel
theorem test_ack_is_clamped_and_releases :
    (draining.takeTollControl (control 2 (be32 9))).jrnl.oldest = some ⟨7, 13⟩ ∧
      (draining.takeTollControl (control 2 (be32 9))).jrnl.pendingMarks = [10, 12] ∧
      (draining.takeTollControl (control 1 [64])).jrnl.readAhead.map (·.serial) = [7] ∧
      (draining.takeTollControl (control 1 [64])).jrnl.credit = 64 := by decide +kernel

/-- An ACK of a head whose READ is to be repeated lets the record behind it, read already, join TQ (R105). -/
theorem test_ack_offers_new_head :
    (({ draining with jrnl := { draining.jrnl with
        inTransit := [], newestSent := some 5, readAhead := [⟨5, .waiting⟩, ⟨6, .read ⟨1, 7, 9, []⟩⟩] } } : State).takeTollControl
      (control 2 (be32 5))).ring.tq.map (fun b => b.body.take 4) = [[0, 0, 0, 6]] := by decide +kernel

/-- R106: an ACK that re-times the revert timer to a deadline that has passed reverts; to this very millisecond it does not yet. -/
theorem test_retimed_revert_timer :
    let s (n : Nat) : State := { draining with now := n }
    ((s 5001).takeTollControl (control 2 (be32 5))).jrnl.ctr.reverts = 1 ∧
      ((s 5000).takeTollControl (control 2 (be32 5))).jrnl.ctr.reverts = 0 ∧
      ((s 5000).takeTollControl (control 2 (be32 5))).jrnl.revertAt = some 5000 := by decide +kernel

/-- A commit write at its verify, with n slots bad. -/
def committing (n : Nat) : State :=
  operating (.commit 0 (ofBody 0) .verify)
    { node with jrnl := { node.jrnl with hand := some ⟨1, txn, false⟩, nextSerial := 2, bad := (List.range n).map (· + 100) } }

set_option maxRecDepth 100000 in
theorem witness_CommitCompletionHoldsOrRetries :
    (committing 63).ctl.op = some (.commit 0 (ofBody 0) .verify) ∧ (committing 63).ctl.state = .operating ∧
      (committing 63).jrnl.cond ≠ .fault ∧ (committing 63).jrnl.hand = some ⟨1, txn, false⟩ ∧
      (committing 63).readBack 0 (some (ofBody 0)) = ofBody 0 ∧ (committing 63).readBack 0 (some []) ≠ ofBody 0 ∧
      (committing 63).jrnl.bad.length < 64 ∧ 64 ≤ (committing 64).jrnl.bad.length := by decide +kernel

/-- A verify that brings the held count to n + 1, the slot behind the cursor held already or not. -/
def marking (n : Nat) (oldest : Nat) : State :=
  { committing 0 with
    jrnl := { (committing 0).jrnl with held := n, cursor := 0, oldest := some ⟨1, oldest⟩ }
    agent := { (committing 0).agent with notices := [⟨0, 0, .waitList 0⟩], serial := 1 } }

set_option maxRecDepth 100000 in
theorem witness_CommitCompletionHoldsOrRetries_marks :
    (marking 6999 1).jrnl.held + 1 = 7000 ∧ (marking 6999 1).jrnl.highSpent = false ∧ (marking 8063 1).jrnl.cond = .accepting ∧
      ({ (marking 8063 1).jrnl with held := 8064 } : Journal).holdsSlot (nextGood [] 0) = true ∧
      ({ (marking 2 4000).jrnl with held := 3 } : Journal).holdsSlot (nextGood [] 0) = false ∧
      (committing 0).jrnl.hand = some ⟨1, txn, false⟩ ∧ (marking 6999 1).agent.notices ≠ [] ∧
      (marking 6999 1).agent.notices.length < 15 ∧ (marking 6999 1).repeater = false := by decide +kernel

set_option maxRecDepth 100000 in
/-- R101, R102. -/
theorem test_commit_enters_full_and_spends_high_mark :
    next? (exec (.commitWriteCompletion (some (ofBody 0))) (marking 8063 1))
        (fun t => t.jrnl.cond == .full && t.jrnl.ctr.fullEntries == 1 && (t.agent.notices.map (·.body)) == [.waitList 0, .full 8064]) = true ∧
      next? (exec (.commitWriteCompletion (some (ofBody 0))) (marking 6999 1))
        (fun t => t.jrnl.highSpent && (t.agent.notices.map (·.body)) == [.waitList 0, .full 7000, .highMark 7000]) = true ∧
      next? (exec (.commitWriteCompletion (some (ofBody 0))) (marking 2 4000))
        (fun t => t.jrnl.cond == .accepting && t.jrnl.highSpent == false && t.agent.notices.length == 1) = true := by decide +kernel

set_option maxRecDepth 100000 in
theorem witness_StoreWritesTouchOneSlot :
    (operating (.mark 7) node).storeOk = true ∧ (operating (.mark 7) node).ctl.op = some (.mark 7) ∧
      (operating (.mark 7) node).ctl.state = .operating ∧ (ofBody 0).length = 64 ∧
      (operating (.commit 2 (ofBody 0) .write) node).storeOk = true ∧
      (operating (.commit 2 (ofBody 0) .write) node).ctl.op = some (.commit 2 (ofBody 0) .write) := by decide +kernel

/-- Node 3 with one held record, of serial 1 in slot 0, its READ in flight and a TOLL lane. -/
def reading : State :=
  operating (.read 1 0 true)
    { closed with
      lanes := closed.lanes.set 0 { LaneEntry.reset with active := true, service := .toll }
      nv := Memory.writeList storeBlank [] 0 (ofBody 0)
      jrnl := { node.jrnl with oldest := some ⟨1, 0⟩, held := 1, cursor := 1, nextSerial := 2, credit := 1,
                               readAhead := [⟨1, .started⟩] } }

set_option maxRecDepth 100000 in
theorem witness_DrainSendsAndReverts :
    reading.ctl.op = some (.read 1 0 true) ∧ reading.ctl.state = .operating ∧
      reading.jrnl.readPasses 1 0 (reading.storeSlot 0) = true ∧ reading.jrnl.readAhead = [{ serial := 1, phase := .started }] ∧
      reading.laneFor .toll = some 0 ∧ reading.takes .tq = true ∧ reading.jrnl.readPasses 2 0 (reading.storeSlot 0) = false := by
  decide +kernel

set_option maxRecDepth 100000 in
/-- R105, R119, R182: the mark HELD passes and one that is none of the codes; RELEASED passes for a slot pending alone. -/
theorem test_mark_of_read_ahead :
    node.jrnl.readPasses 1 7 (ofBody 0) = true ∧ node.jrnl.readPasses 1 7 (0 :: (ofBody 0).drop 1) = false ∧
      node.jrnl.readPasses 1 7 (7 :: (ofBody 0).drop 1) = true ∧ node.jrnl.readPasses 1 7 (255 :: (ofBody 0).drop 1) = false ∧
      ({ node.jrnl with pendingMarks := [7] } : Journal).readPasses 1 7 (7 :: (ofBody 0).drop 1) = true ∧
      ({ node.jrnl with pendingMarks := [7] } : Journal).readPasses 1 7 (0 :: (ofBody 0).drop 1) = true ∧
      (crc16 ((ofBody 0).drop 3) = word16At (ofBody 0) 1 ∧ (ofBody 0).length = 64) := by decide +kernel

set_option maxRecDepth 100000 in
/-- R118: the record of a mark that is none of the three codes is sent again. R105: one RELEASED and not pending is read again. -/
theorem test_unrecognisable_mark_is_sent_again :
    next? (exec (.readAheadCompletion (some (112 :: (ofBody 0).drop 1))) reading) (fun t =>
        t.ring.tq.map (fun b => b.body.take 4) == [[0, 0, 0, 1]] && t.jrnl.ctr.readRetry == 0) = true ∧
      next? (exec (.readAheadCompletion (some (0 :: (ofBody 0).drop 1))) reading) (fun t =>
        t.jrnl.ctr.readRetry == 1 && t.ctl.op == some (.read 1 0 true) && t.ring.tq.isEmpty && t.jrnl.held == 1) = true := by
  decide +kernel

/-- R105: a READ that fails its test is requested again. -/
theorem witness_DrainSendsAndReverts_again :
    reading.jrnl.cond.drains = true ∧ (reading.ctl.requests ++ [1]).head? = some 1 ∧ reading.jrnl.slotOf 1 = some 0 ∧
      reading.jrnl.readPasses 1 0 (reading.readBack 0 (some [])) = false ∧
      next? (exec (.readAheadCompletion (some [])) reading) (fun t => t.ctl.op == some (.read 1 0 true)) = true := by decide +kernel

/-- A save at a step, its operation in flight. -/
def saving (n : Nat) (o : StoreOp) : State :=
  { operating o node with ctl := { (operating o node).ctl with save := some ⟨n, 1, 0⟩ } }

set_option maxRecDepth 100000 in
theorem witness_SaveBeginsAndAdvances_steps :
    (saving 1 .saveMark).storeOk = true ∧ (saving 1 .saveMark).ctl.state = .operating ∧
      (saving 1 .saveMark).ctl.save = some ⟨1, 1, 0⟩ ∧ (saving 1 .saveMark).agent.intake = [] ∧
      (saving 1 .saveMark).ctl.op = some .saveMark ∧
      (saving 27 (.saveSlot 8090 (ofBody 0) .verify)).ctl.op = some (.saveSlot 8090 (ofBody 0) .verify) ∧
      (saving 27 (.saveSlot 8090 (ofBody 0) .verify)).readBack 8090 (some (ofBody 0)) = ofBody 0 ∧
      (saving 28 (.saveSlot 8064 (ofBody 0) .verify)).ctl.save = some ⟨28, 1, 0⟩ ∧
      (saving 28 (.saveSlot 8064 (ofBody 0) .verify)).readBack 8064 (some []) ≠ ofBody 0 := by decide +kernel

theorem witness_StepTimeoutFaultsJournal :
    (saving 1 .saveMark).ctl.timer = some 50 ∧ (saving 1 .saveMark).ctl.op = some .saveMark ∧
      (saving 1 .saveMark).ctl.state = .operating ∧ (∀ slot, StoreOp.saveMark ≠ .scan slot) ∧
      (∀ slot, StoreOp.saveMark ≠ .load slot) ∧ (saving 1 .saveMark).jrnl.cond ≠ .fault ∧
      (saving 1 .saveMark).agent.intake = [] :=
  ⟨rfl, rfl, rfl, nofun, nofun, by decide, rfl⟩

/-- A load at a slot, with this slot in the store. -/
def loading (slot : Nat) (l : List Byte) (ld : Option Load) : State :=
  { node with
    nv := Memory.writeList storeBlank [] (64 * slot) l
    ctl := { node.ctl with state := .loading, op := some (.load slot), load := ld } }

/-- A load at its header with a notice queued; and the scan of a full reset and of a RESTART. -/
def loadingNotice : State := { loading 8064 [] none with
  ctl := { (loading 8064 [] none).ctl with timer := some 50 }
  agent := { node.agent with notices := [⟨0, 0, .waitList 0⟩], serial := 1 } }
def scanning (full : Bool) : State :=
  { node with ctl := { State.reset.ctl with op := some (.scan 9), timer := some 50, scanThenLoad := full } }

theorem witness_StepTimeoutFaultsJournal_scan_and_load :
    (scanning true).ctl.timer = some 50 ∧ (scanning true).ctl.op = some (.scan 9) ∧ (scanning true).jrnl.cond ≠ .fault ∧
      (scanning true).ctl.save = none ∧ (scanning true).ctl.scanThenLoad = true ∧ (scanning false).ctl.scanThenLoad = false ∧
      loadingNotice.ctl.timer = some 50 ∧ loadingNotice.ctl.op = some (.load 8064) ∧ loadingNotice.ctl.save = none ∧
      loadingNotice.repeater = false ∧ loadingNotice.agent.notices ≠ [] ∧ loadingNotice.agent.notices.length < 15 := by
  decide +kernel
/-- R121, R125. -/
theorem test_timeouts_of_scan_and_load :
    next? (exec .stepTimerExpiry (scanning true)) (fun t => t.ctl.op == some (.load 8064) && t.jrnl.faultCause == some .timeout) = true ∧
      next? (exec .stepTimerExpiry (scanning false)) (fun t => t.ctl.op == none && t.ctl.state == .idle) = true ∧
      next? (exec .stepTimerExpiry loadingNotice) (fun t => t.ctl.lastLoad == some (.failed .timeout) &&
        (t.agent.notices.map (·.body)) == [.waitList 0, .fault .timeout, .failed .timeout]) = true := by decide +kernel

/-- A full reset in the verify of a commit, and in that of a header whose bytes already stand in the store. -/
def headerWritten : State :=
  { saving 28 (.saveSlot 8064 (headerSlot 1 0) .verify) with nv := Memory.writeList storeBlank [] (64 * 8064) (headerSlot 1 0) }

set_option maxRecDepth 100000 in
theorem witness_CutShortWritesReadInvalid :
    (committing 0).storeOk = true ∧ (committing 0).ctl.op = some (.commit 0 (ofBody 0) .verify) ∧ headerWritten.storeOk = true ∧
      headerWritten.ctl.op = some (.saveSlot 8064 (headerSlot 1 0) .verify) ∧ headerWritten.ctl.timer = some 50 ∧
      headerValid (headerWritten.storeSlot 8064) = true ∧ (8065 : Nat) ≠ 8064 ∧
      (saving 2 (.saveSlot 8065 (ofBody 0) .verify)).ctl.op = some (.saveSlot 8065 (ofBody 0) .verify) ∧
      (saving 1 .saveMark).ctl.op = some .saveMark ∧ (operating (.mark 7) node).ctl.op = some (.mark 7) ∧
      (loading 8064 [] none).ctl.op = some (.load 8064) := by decide +kernel

/-- Node 3 with a window of n samples of this level, in this state. -/
def fed (n level : Nat) (state : SupplyState) (lost : Bool) : State :=
  { node with sup := { node.sup with window := List.replicate n level, state := state, feedLost := lost, settle := some 5,
                                     average := if n = 8 then some level else none } }

/-- The scan at its last slot, nothing found. -/
def lastScan : State := { State.reset with ctl := { State.reset.ctl with op := some (.scan 8063) } }

theorem witness_ScanReadsSlotsInOrder :
    State.reset.ctl.op = some (.scan 0) ∧ (8062 < 8063) ∧ lastScan.ctl.op = some (.scan 8063) ∧ lastScan.ctl.found = [] ∧
      lastScan.ctl.scanThenLoad = true := by decide

set_option maxRecDepth 100000 in
theorem witness_ScanReadsSlotsInOrder_last : classify 8063 (lastScan.storeSlot 8063) = none := by decide +kernel

/-- A run of serials 5 to 8 found over slots 8062, 8063, 1 and 2, slot 0 a gap, an orphan of serial 3 and a RELEASED 4 before it. -/
def foundRun : List Found :=
  [⟨1, false, 7⟩, ⟨2, false, 8⟩, ⟨8060, false, 3⟩, ⟨8061, true, 4⟩, ⟨8062, false, 5⟩, ⟨8063, false, 6⟩]

/-- More gaps than the bad-slot list can hold. -/
def gappy : Rebuilt := { oldest := none, held := 0, cursor := 0, nextSerial := 1, bad := List.range 65, orphans := 0 }

theorem witness_ScanReadsSlotsInOrder_view :
    ((rebuild foundRun).bad.length ≤ 64 ∧ 64 < gappy.bad.length ∧ lastScan.jrnl.cond ≠ .fault ∧ lastScan.sup.state ≠ .holdup ∧
      (fed 8 0 .holdup false).sup.state = .holdup ∧ (fed 8 0 .holdup false).jrnl.hand = none) := by
  unfold rebuild; decide +kernel

/-- R97: a DEFERRED given while RECOVERING does not outlive the entry into HALTED at the scan's end. -/
theorem test_scan_end_in_holdup_discards_answers :
    let s : State := { fed 8 0 .holdup false with
      jrnl := { State.reset.jrnl with answers := State.reset.jrnl.answers.set 0 [⟨9, .ready .deferred⟩] } }
    (s.journalScanned { gappy with bad := [] }).jrnl.cond = .halted ∧
      (s.journalScanned { gappy with bad := [] }).jrnl.answers[(0 : Fin 32)] = [] ∧
      (s.journalScanned { gappy with bad := [] }).jrnl.ctr.discarded = 1 := by decide +kernel

theorem witness_RebuildFollowsHeldRun :
    (∃ f ∈ foundRun, f.serial = 8) ∧ (∀ f ∈ foundRun, f.serial ≤ 8) ∧ (foundRun.map (·.slot)).Nodup ∧
      (∀ f ∈ foundRun, f.slot < 8064) ∧ (∃ f ∈ foundRun, f.serial = 8 ∧ f.slot = 2) ∧
      (∀ f ∈ foundRun, f.serial = 8 → slotsOn f.slot 2 ≤ 65) := by decide
theorem test_rebuild_of_run :
    rebuild foundRun =
      { oldest := some ⟨5, 8062⟩, held := 4, cursor := 3, nextSerial := 9, bad := [0], orphans := 1 } := by decide +kernel

set_option maxRecDepth 100000 in
theorem witness_LoadReadsImageInOrder_header :
    (loading 8064 (headerSlot 5 0) none).ctl.op = some (.load 8064) ∧
      headerValid ((loading 8064 (headerSlot 5 0) none).storeSlot 8064) = true ∧
      headerValid ((loading 8064 [] none).storeSlot 8064) = false := by decide +kernel

/-- Node 3's image slot 8090, and a load that waits for it alone. -/
def paramSlot : List Byte := imageSlot 5 Params.reset.record
def lastLoad : State :=
  loading 8090 paramSlot (some { generation := 5, imageCheck := crc32 (List.replicate 25 [] ++ [paramSlot]).flatten,
                                 slots := List.replicate 25 [], ok := true })

set_option maxRecDepth 100000 in
theorem witness_LoadReadsImageInOrder_image :
    lastLoad.storeSlot 8090 = paramSlot ∧ lastLoad.ctl.op = some (.load 8090) ∧
      (lastLoad.ctl.load.map fun ld => (ld.slots.length, ld.ok)) = some (25, true) ∧
      imageSlotOk 5 (lastLoad.storeSlot 8090) = true ∧
      (lastLoad.ctl.load.map (·.imageCheck)) = some (crc32 (List.replicate 25 [] ++ [lastLoad.storeSlot 8090]).flatten) ∧
      Params.ofBytes? (((lastLoad.storeSlot 8090).drop 7).take 14) = some Params.reset := by decide +kernel

/-- The same load over an image whose first slot of each section carries a record of its own, and one whose slots failed. -/
def section1 (l : List Byte) : List Byte := [240, 0, 0, 0, 0, 0, 5] ++ l
def image : List (List Byte) :=
  [section1 [1, 3, 23]] ++ List.replicate 3 [] ++ [section1 [1, 1, 30, 3, 0, 1, 7, 0, 0, 0]] ++ List.replicate 7 [] ++
    [section1 [1, 7, 2, 0, 0, 0, 0, 9, 1, 255, 0, 1, 0, 1]] ++ List.replicate 7 [] ++ [section1 [255, 1, 7, 50, 0, 9]] ++
    List.replicate 2 [] ++ [section1 [8, 1, 0, 9, 1]] ++ List.replicate 1 []
def imageLoad (ok : Bool) : State :=
  loading 8090 paramSlot (some { generation := 5, imageCheck := crc32 (image ++ [paramSlot]).flatten, slots := image, ok := ok })

set_option maxRecDepth 100000 in
theorem witness_LoadReadsImageInOrder :
    ((imageLoad true).ctl.load.map fun ld => crc32 (ld.slots ++ [(imageLoad true).storeSlot 8090]).flatten == ld.imageCheck) = some true ∧
      (LaneRecord.ofBytes? (imageRecord image 0 16 3 0)).isSome = true ∧
      (StationRecord.ofBytes? (imageRecord image 4 4 10 0)).isSome = true ∧
      (RuleRecord.ofBytes? (imageRecord image 12 4 14 0)).isSome = true ∧
      (IntensityMode.ofBytes? (imageRecord image 20 4 6 0)).isSome = true ∧
      (SlotRecord.ofBytes? (imageRecord image 23 4 5 0)).isSome = true ∧
      Params.ofBytes? (imageRecord (image ++ [paramSlot]) 25 1 14 0) = some Params.reset ∧
      ((imageLoad false).ctl.load.map (·.ok)) = some false := by decide +kernel
set_option maxRecDepth 100000 in
theorem test_load_applies_every_section :
    next? (exec (.loadReadDone none) (imageLoad true)) (fun t => t.ctl.lastLoad == some .loaded && t.lanes[0].peer == 23 &&
      t.poll.stations[0].state == .online && t.slots[7].station == some 0 && t.rules[0].enabled &&
      t.sign.signs[0].mode == .ambient 7 50 9 && t.slots[0].depth == 8) = true := by decide +kernel
set_option maxRecDepth 100000 in
theorem test_bad_image_changes_no_table :
    next? (exec (.loadReadDone none) (imageLoad false))
      (fun t => t.ctl.lastLoad == some (.failed .badImage) && t.lanes == node.lanes) = true := by decide +kernel

theorem witness_DrainSendsAndReverts_revert :
    ({ node with jrnl := { node.jrnl with inTransit := [⟨4, 100⟩, ⟨5, 50⟩] } } : State).jrnl.revertAt = some 5050 := by decide

/-- A BELOW rule of persistence 2 with set level 0 and clear level 10. -/
def below : Rule := { Rule.reset with enabled := true, clearLevel := 10, p := 2 }
def above : Rule := { below with sense := .above, setLevel := 10, clearLevel := 0 }

theorem witness_ValueMeetsLevelBySense :
    below.sense = .below ∧ (0 : Int) ≤ below.setLevel ∧ (0 : Int) < below.clearLevel ∧ below.clearLevel ≤ (10 : Int) ∧
      below.setLevel < (9 : Int) ∧ (9 : Int) < below.clearLevel ∧ above.sense = .above ∧ above.setLevel ≤ (10 : Int) ∧
      above.clearLevel < (1 : Int) ∧ (0 : Int) ≤ above.clearLevel ∧ (1 : Int) < above.setLevel ∧
      ({ below with clearLevel := 0 } : Rule).setLevel = ({ below with clearLevel := 0 } : Rule).clearLevel := by decide

theorem witness_RulePersistenceCountsReadings :
    1 ≤ below.p ∧ below.state = .inactive ∧ below.count = 0 ∧
      (∀ v ∈ [(0 : Int), 5, -3], ∀ q : RuleState, ({ below with state := q } : Rule).meets v ≠ .clear) ∧
      ([(0 : Int), 5].filter fun v => below.meets v == .set).length < below.p ∧
      below.p ≤ ([(0 : Int), 5, -3].filter fun v => below.meets v == .set).length ∧
      (∀ v ∈ [(10 : Int), 5, 30], ∀ q : RuleState, ({ below with state := q } : Rule).meets v ≠ .set) ∧
      ([(10 : Int), 5].filter fun v => below.meets v == .clear).length < below.p ∧
      below.p ≤ ([(10 : Int), 5, 30].filter fun v => below.meets v == .clear).length := by
  refine ⟨by decide, rfl, rfl, fun v hv q => ?_, by decide, by decide, fun v hv q => ?_, by decide, by decide⟩ <;>
    cases q <;> revert v <;> decide

theorem witness_RulePersistenceCountsReadings_moves :
    ({ below with state := .pendingSet, count := 1 } : Rule).meets 30 = .clear ∧
      ({ below with state := .pendingClear, count := 1 } : Rule).meets 0 = .set ∧ below.meets 30 = .clear ∧
      ({ below with state := .active } : Rule).meets 0 = .set ∧ below.count ≤ below.p := by decide

theorem witness_ArbitrationTakesLeastPriority :
    winner [⟨1, 5⟩, ⟨2, 3⟩, ⟨3, 3⟩] = some ⟨2, 3⟩ ∧ shown.sign.signs[(0 : Fin 12)].live ≠ none := by decide +kernel

/-- `shown` with a request for page 5 until 60000. -/
def requested (live : Option (Fin 8)) : State :=
  let r : Sign := { shown.sign.signs[0] with request := some ⟨5, 0, some 60000⟩, live := live, next := live }
  { shown with sign := { shown.sign with signs := shown.sign.signs.set 0 r } }

theorem witness_ArbitrationTakesLeastPriority_expiry :
    (requested (some 5)).sign.signs[(0 : Fin 12)].request = some ⟨5, 0, some 60000⟩ ∧
      (requested (some 5)).sign.signs[(0 : Fin 12)].live ≠ none ∧ (requested none).sign.signs[(0 : Fin 12)].live = none ∧
      (requested none).sign.signs[(0 : Fin 12)].next = none := by decide +kernel

/-- Sign 0 of `shown` at the last chunk of its page, the chunk in flight of that page or of none, NEXT that page or none. -/
def lastChunk (page next : Option (Fin 8)) : Sign :=
  { shown.sign.signs[0] with cursor := 96, chunk := some ⟨page, 96⟩, next := next }

theorem witness_ChunkOutcomeMovesCursor :
    (snap .sign).kind = .sign ∧ signOf? (snap .sign).link = some 0 ∧ Sign.reset.chunk = none ∧
      (lastChunk none none).chunk = some ⟨none, 96⟩ ∧ (none : Option (Fin 8)) ≠ (lastChunk none none).live ∧
      (some 5 : Option (Fin 8)) = (lastChunk (some 5) none).live ∧ (lastChunk (some 5) none).cursor + 32 = 128 ∧
      (lastChunk (some 5) none).pages[(5 : Fin 8)].size = 128 ∧ (lastChunk (some 5) none).next ≠ (lastChunk (some 5) none).live ∧
      (lastChunk (some 5) (some 5)).next = (lastChunk (some 5) (some 5)).live ∧ (some 1 : Option (Fin 8)) ≠ Sign.reset.next ∧
      Sign.reset.live = none := by decide +kernel
theorem test_refresh_boundary_swaps :
    ((lastChunk (some 5) none).outcome .ok).live = none ∧ ((lastChunk (some 5) none).outcome .ok).ctr.swaps = 1 ∧
      ((lastChunk (some 5) none).outcome .again).cursor = 96 ∧ ((lastChunk none none).outcome .ok).ctr.stale = 1 := by
  decide +kernel

theorem witness_SampleIsAveragedAndJudged :
    (fed 6 0 .normal false).sup.window.length ≤ 8 ∧ (fed 8 0 .normal false).sup.window.length ≤ 8 ∧
      (fed 7 1899 .normal true).sup.feedLost = true ∧
      (List.replicate 7 1899 ++ [min 1899 4000]).sum / 8 < node.agent.params.holdupEntry ∧
      node.agent.params.holdupEntry ≤ (List.replicate 7 1900 ++ [min 1900 4000]).sum / 8 ∧
      (List.replicate 7 2149 ++ [min 2149 4000]).sum / 8 < node.agent.params.conserveEntry := by decide

theorem witness_SampleIsAveragedAndJudged_settle :
    (fed 7 2300 .conserve false).sup.state = .conserve ∧ (fed 7 2300 .conserve false).sup.settle ≠ none ∧
      (fed 7 2300 .holdup false).sup.state = .holdup ∧ (fed 7 2300 .holdup false).sup.feedLost = false ∧
      node.agent.params.conserveExit ≤ (List.replicate 7 2300 ++ [min 2300 4000]).sum / 8 ∧
      ¬node.agent.params.conserveExit ≤ (List.replicate 7 2300 ++ [min 2299 4000]).sum / 8 ∧
      node.agent.params.holdupEntry ≤ node.agent.params.holdupExit := by decide
/-- R165: the timer runs on at conserve-exit, and a dip below it is counted. -/
theorem test_settle_timer_dips :
    next? (exec (.sampleTimerExpiry 2300) (fed 7 2300 .conserve false)) (fun t => t.sup.settle == some 5) = true ∧
      next? (exec (.sampleTimerExpiry 2299) (fed 7 2300 .conserve false))
        (fun t => t.sup.settle == none && t.sup.settleRestarts == 1) = true := by decide +kernel

theorem witness_SettleAndFeedLostMoveSupply :
    (fed 8 2299 .holdup false).repeater = false ∧ (fed 8 2299 .holdup false).sup.settle = some 5 ∧
      (fed 8 2299 .holdup false).sup.state ≠ .normal ∧ (fed 8 2299 .holdup false).sup.average = some 2299 ∧
      (fed 8 2300 .conserve false).sup.feedLost = false ∧ (fed 8 2300 .conserve false).sup.average.isSome = true ∧
      (fed 7 0 .normal false).sup.average = none ∧ (fed 8 2300 .holdup true).sup.feedLost = true := by decide

/-- R162: levels written since the last sample are not yet in force. -/
theorem test_written_levels_wait_for_a_sample :
    next? (exec .settleTimerExpiry { fed 8 2299 .holdup false with
      agent := { node.agent with params := { Params.reset with conserveExit := 2200 } } }) (fun t => t.sup.state == .conserve) = true := by
  decide +kernel

theorem witness_SupplyChangeSetsBroadcasts :
    (polled .sending .toll .online).repeater = false ∧ (polled .sending .toll .online).poll.drops[(1 : Fin 4)].line ≠ .idle ∧
      (polled .sending .toll .online).poll.drops[(0 : Fin 4)].line = .idle ∧ node.jrnl.cond = .accepting ∧
      ({ node.agent with notices := [⟨0, 0, .waitList 1⟩] } : Agent).notices ≠ [] ∧ (fed 8 0 .holdup false).sup.state = .holdup ∧
      ({ node.jrnl with cond := .halted } : Journal).cond = .halted := by decide +kernel
theorem test_change_broadcasts_on_idle_drops :
    ((polled .sending .toll .online).changeSupply .conserve .level).poll.drops[(1 : Fin 4)].broadcast = true ∧
      ((polled .sending .toll .online).changeSupply .conserve .level).poll.drops[(0 : Fin 4)].line = .sending := by decide +kernel

/-! The agent's statements: `closed` has an idle agent. -/

theorem closed_is_idle : closed.agentIdle = true ∧ closed.agentQuiet = true ∧ closed.ctl.save = none := by decide

/-- Codes 0 and 12 are no command; code 1 with no body, with table 3 and index 12, and a save with one in flight. -/
theorem witness_RefusalsFollowTheirOrder :
    ({ closed with ctl := { closed.ctl with state := .loading } } : State).notReady = true ∧ cmdSaveConfig ≠ cmdStatus ∧
      closed.notReady = false ∧ 12 ≤ (12#4).toNat ∧ (⟨1, 0, 1, []⟩ : Command).order? = none ∧
      (⟨1, 0, 1, [3, 12]⟩ : Command).order? = some (.readEntry .sign 12) ∧ (Order.readEntry .sign 12).inRange = false ∧
      (⟨1, 0, 10, []⟩ : Command).order? = some .saveConfig ∧ Order.saveConfig.inRange = true ∧
      Order.saveConfig.savesOrWrites = true ∧ (saving 1 .saveMark).ctl.save.isSome = true := by decide +kernel

theorem witness_ReadsAnswerAndChangeNothing :
    Group.ofCode? 7 = some .counters ∧ Table.ofCode? 3 = some .sign ∧ (11 : Byte).toNat < Table.sign.size := by decide

theorem witness_ClearCountersZeroesItsGroup :
    [0, 1, 2, 3, 4, 5, 6, 7].map Group.ofCode? =
      [some .ring, some .drop, some .calls, some .journal, some .supply, some .lanes, some .signs, some .counters] := by decide

theorem witness_TableWritesSetFields_lane :
    (62 : Byte).toNat = (62 : Fin 64).val ∧ (62 : Fin 64).val ≠ 63 ∧
      LaneRecord.ofBytes? [1, 3, 23] = some ⟨true, .wx, 23⟩ ∧
      (closed.lanes[(62 : Fin 64)].service = .voice → closed.lanes[(62 : Fin 64)].binding = none) ∧
      (∀ r : Fin 16, closed.calls.records[r].state ≠ .seized) ∧ closed.jrnl.readAhead = [] := by decide +kernel

/-- A weather station's record, of address 30, period 10 ms and slot 7. -/
def weatherRecord : StationRecord :=
  { state := .online, drop := 1, address := 30, kind := .weather, period := 10, link := 7, location := 0, shed := false }

theorem witness_StationWriteSetsUpStation :
    (31 : Byte).toNat = (31 : Fin 32).val ∧ closed.stationBusy 31 = false ∧
      StationRecord.ofBytes? ([1, 1, 30, 3] ++ be16 1 ++ [7] ++ be16 0 ++ [0]) = some weatherRecord ∧
      closed.stationClashes 31 weatherRecord = false ∧ closed.dropFull 31 weatherRecord = false ∧
      weatherRecord.state ≠ .unused ∧ closed.poll.stations[(31 : Fin 32)].state = .unused ∧
      StationRecord.ofBytes? ([0, 1, 30, 3] ++ be16 1 ++ [7] ++ be16 0 ++ [0]) = some { weatherRecord with state := .unused } ∧
      (withStation (station .toll .online) closed).stationBusy 0 = false ∧
      StationRecord.ofBytes? ([1, 1, 7, 1] ++ be16 1000 ++ [0] ++ be16 0 ++ [1]) = some
        { weatherRecord with address := 7, kind := .toll, period := 10000, link := 0, shed := true } ∧
      (withStation (station .toll .online) closed).stationClashes 0 { weatherRecord with address := 7, kind := .toll } = false ∧
      (withStation (station .toll .online) closed).poll.stations[(0 : Fin 32)].kind = .toll ∧
      (withStation (station .toll .online) closed).poll.stations[(0 : Fin 32)].drop = 1 ∧
      (withStation (station .toll .online) closed).poll.stations[(0 : Fin 32)].address = 7 ∧
      (withRecord (call .queued 0) (withStation (station .phone .online) closed)).stationBusy 0 = true := by decide +kernel

theorem test_station_write_removes_and_changes :
    next? (exec (.writeEntryStation 1 0 0 0 1 7 1 1000 0 0 1) (withStation (station .toll .silent) closed))
      (fun t => t.poll.stations[0].state == .unused && t.poll.stations[0].due == none) = true ∧
    next? (exec (.writeEntryStation 1 0 0 1 1 7 1 1000 0 0 1) (withStation (station .toll .silent) closed))
      (fun t => t.poll.stations[0].state == .silent && t.poll.stations[0].period == 10000 && t.poll.stations[0].miss == 2) = true := by
  decide +kernel

theorem witness_TableWritesSetFields :
    (RuleRecord.ofBytes? ([1, 7, 2, 0] ++ be16 0 ++ be16 1000 ++ [15, 255] ++ be16 4095 ++ [7, 15])).isSome = true ∧
      (∀ j : Fin 32, closed.rules[j].holds = false ∧ closed.rules[j].effective = false) ∧
      IntensityMode.ofBytes? ([255, 1, 7, 50] ++ be16 4095) = some (.ambient 7 50 4095) ∧
      SlotRecord.ofBytes? ([8, 1] ++ be16 4000 ++ [1]) = some ⟨8, true, 4000, true⟩ ∧
      (Params.ofBytes? ([24, 32, 32, 32] ++ be16 3999 ++ be16 4000 ++ be16 3999 ++ be16 4000 ++ [23, 0])).isSome = true := by
  decide +kernel

/-- `signOn` with an idle agent: sign 0, page 0 EMPTY and page 1 FILLING, neither shown. -/
def filling : Page := { state := .filling, size := 128, units := [3], filled := 0 }
def pages : State :=
  { closed with sign := { closed.sign with signs := closed.sign.signs.set 0 { Sign.reset with
    pages := Sign.reset.pages.set 1 filling } } }

set_option maxRecDepth 100000 in
theorem witness_PageCommandsMovePages_open :
    pages.agentIdle = true ∧ pages.pagesOk = true ∧ (0 : Byte).toNat = (0 : Fin 12).val ∧
      pages.sign.signs[(0 : Fin 12)].live ≠ some 0 ∧ pages.sign.signs[(0 : Fin 12)].next ≠ some 0 ∧
      2 ≤ pages.sign.freeUnits.length := by decide +kernel

/-- A sign whose page 2 holds every unit leaves none free. -/
def crowded : State :=
  { closed with sign := { closed.sign with signs := closed.sign.signs.set 0 { Sign.reset with
    pages := Sign.reset.pages.set 2 { state := .filling, size := 256, units := List.range 256, filled := 0 } } } }

set_option maxRecDepth 100000 in
theorem witness_PageCommandsMovePages_full :
    crowded.sign.freeUnits.length < 1 ∧ crowded.sign.signs[(0 : Fin 12)].pages[(0 : Fin 8)].units = [] := by decide +kernel

theorem witness_PageCommandsMovePages_data :
    pages.agentIdle = true ∧ pages.pagesOk = true ∧ pages.sign.signs[(0 : Fin 12)].pages[(1 : Fin 8)] = filling ∧
      filling.state = .filling ∧ pages.sign.signs[(0 : Fin 12)].live ≠ some 1 ∧ pages.sign.signs[(0 : Fin 12)].next ≠ some 1 ∧
      1 ≤ (List.replicate 48 (7 : Byte)).length ∧ (List.replicate 48 (7 : Byte)).length ≤ 48 ∧
      (80 : Byte).toNat + (List.replicate 48 (7 : Byte)).length ≤ filling.size ∧ filling.size = 128 * filling.units.length ∧
      filling.units.Nodup := by decide +kernel

/-- R151: a READY page written short of its end is FILLING again. -/
theorem witness_PageCommandsMovePages_ready :
    ({ filling with state := .ready, filled := 128 } : Page).state ≠ .empty ∧ filling.state ≠ .empty ∧
      (80 : Byte).toNat + (List.replicate 48 (7 : Byte)).length = filling.size ∧
      ({ filling with state := .ready, filled := 128 } : Page).extend 1 = { filling with state := .filling, filled := 1 } ∧
      pages.sign.signs[(0 : Fin 12)].pages[(2 : Fin 8)].state = .empty := by decide +kernel

theorem witness_PageCommandsMovePages_discard :
    pages.agentIdle = true ∧ (1 : Byte).toNat = (1 : Fin 8).val ∧ pages.sign.signs[(0 : Fin 12)].live ≠ some 1 ∧
      pages.sign.signs[(0 : Fin 12)].next ≠ some 1 ∧ pages.sign.signs[(0 : Fin 12)].pages[(1 : Fin 8)].state ≠ .empty ∧
      shown.agentIdle = true ∧ shown.sign.signs[(0 : Fin 12)].live = some 5 := by decide +kernel

theorem witness_SignSetAndCancelMoveRequest :
    (11 : Byte).toNat = (11 : Fin 12).val ∧ (7 : Byte).toNat = (7 : Fin 8).val ∧ (15 : Byte).toNat ≤ 15 ∧
      (1440 : BitVec 16).toNat ≤ 1440 ∧ 15 < (16 : Byte).toNat ∧ 1440 < (1441 : BitVec 16).toNat ∧
      (requested none).sign.signs[(0 : Fin 12)].request ≠ none ∧ closed.sign.signs[(0 : Fin 12)].request = none := by
  decide +kernel

theorem witness_SaveBeginsAndAdvances :
    closed.ctl.generation ≠ BitVec.allOnes 32 ∧ closed.ctl.state = .idle ∧ closed.ctl.requests = [] ∧
      closed.jrnl.pendingMarks = [] ∧ closed.jrnl.mayCommit = false := by decide

theorem witness_RestartEmptiesEngines :
    (calling .connected 0).agentIdle = true ∧ (calling .connected 0).calls.records[(0 : Fin 16)].state ≠ .free ∧
      ({ closed with jrnl := { closed.jrnl with cond := .fault } } : State).agentIdle = true := by decide +kernel

end Sys2Proof.Tests
end

section
/-! PROOFS. A forwarded block that meets a full transit buffer (R13). -/

namespace Sys2Proof.Machine

/-! ### The oldest block that may be displaced -/

/-- R13: the block displaced is the first that is neither VOICE nor CALL; those before and behind it keep their order. -/
theorem displaceFrom_append_cons (pre post : List Block) (x : Block) (hpre : ∀ y ∈ pre, y.kind.urgent = true)
    (hx : x.kind.urgent = false) : displaceFrom (pre ++ x :: post) = some (pre ++ post) := by
  induction pre with
  | nil => simp [displaceFrom, hx]
  | cons y pre ih =>
    obtain ⟨hy, hrest⟩ := List.forall_mem_cons.mp hpre
    simp [displaceFrom, hy, ih hrest]

/-- R13: a buffer of VOICE and CALL alone has no block to displace. -/
theorem displaceFrom_eq_none (l : List Block) (h : ∀ y ∈ l, y.kind.urgent = true) : displaceFrom l = none := by
  induction l with
  | nil => rfl
  | cons y l ih =>
    obtain ⟨hy, hrest⟩ := List.forall_mem_cons.mp h
    simp [displaceFrom, hy, ih hrest]

/-! ### The two outcomes of an overflow -/

theorem State.joinTransit_of_full (s : State) (d : Dir) (b : Block) (h : 32 ≤ (s.ring.buffers.get d).length) :
    s.joinTransit d b = s.overflow d b :=
  if_neg (Nat.not_lt.mpr h)

/-- The direction's counters stand apart from the buffers. -/
@[simp] theorem State.countDir_buffers (s : State) (d : Dir) (f : DirCounters → DirCounters) :
    (s.countDir d f).ring.buffers = s.ring.buffers := rfl

/-- A VOICE or CALL that finds a block to displace joins behind those that remain. -/
theorem State.overflow_displaces (s : State) (d : Dir) (b : Block) (l : List Block) (hb : b.kind.urgent = true)
    (hl : displaceFrom (s.ring.buffers.get d) = some l) :
    s.overflow d b = (s.setBuffer d (l ++ [b])).countDir d fun c => { c with displaced := bump c.displaced } := by
  simp only [State.overflow, hb, if_true, hl]

/-- An arrival that displaces nothing is discarded and counted. -/
theorem State.overflow_discards (s : State) (d : Dir) (b : Block)
    (h : b.kind.urgent = true → displaceFrom (s.ring.buffers.get d) = none) :
    s.overflow d b = s.countDir d fun c => { c with overflowArrival := bump c.overflowArrival } := by
  cases hb : b.kind.urgent with
  | false => simp [State.overflow, hb]
  | true => simp only [State.overflow, hb, if_true, h hb]

/-- R13: an overflow leaves the occupancy of its buffer as it was. -/
theorem State.overflow_length (s : State) (d : Dir) (b : Block) :
    ((s.overflow d b).ring.buffers.get d).length = (s.ring.buffers.get d).length := by
  by_cases h : b.kind.urgent = true → displaceFrom (s.ring.buffers.get d) = none
  · rw [s.overflow_discards d b h, State.countDir_buffers]
  · obtain ⟨hb, hd⟩ := Classical.not_imp.mp h
    obtain ⟨l, hl⟩ := Option.ne_none_iff_exists'.mp hd
    rw [s.overflow_displaces d b l hb hl, State.countDir_buffers, State.setBuffer_get, List.length_append,
      List.length_singleton, displaceFrom_length _ l hl]

/-! ### The statement of R13 -/

/-- Settles O15: a join at a full buffer is an overflow, which displaces the first block that is not urgent or discards the arrival. -/
theorem fullTransitBufferHandlesByKind : Obligations.FullTransitBufferHandlesByKind := by
  unfold Obligations.FullTransitBufferHandlesByKind
  intro d b s hfull
  rw [s.joinTransit_of_full d b hfull.ge]
  refine ⟨?displaced, ?discarded, ?occupancy⟩
  case displaced =>
    intro hb pre post x hbuf hpre hx
    exact s.overflow_displaces d b (pre ++ post) hb (hbuf ▸ displaceFrom_append_cons pre post x hpre hx)
  case discarded =>
    intro h
    refine s.overflow_discards d b fun hb => ?_
    rcases h with hnot | hall
    · exact absurd (hb.symm.trans hnot) (by decide)
    · exact displaceFrom_eq_none _ hall
  case occupancy => rw [s.overflow_length d b, hfull]

end Sys2Proof.Machine
end

section
/-! PROOFS. The advisory rules: the level a value meets (R145) and the count of readings in a row (R146). -/

namespace Sys2Proof.Machine

/-! ### Which level a value meets (R145) -/

/-- R145: the value is at the set level or past it, in the sense of the rule. -/
def Rule.AtSet (r : Rule) (v : Int) : Prop :=
  match r.sense with
  | .below => v ≤ r.setLevel
  | .above => r.setLevel ≤ v

/-- R145: the value is at the clear level or past it, in the sense of the rule. -/
def Rule.AtClear (r : Rule) (v : Int) : Prop :=
  match r.sense with
  | .below => r.clearLevel ≤ v
  | .above => v ≤ r.clearLevel

theorem Rule.atSet_below {r : Rule} (h : r.sense = .below) (v : Int) : r.AtSet v ↔ v ≤ r.setLevel := by
  simp [Rule.AtSet, h]

theorem Rule.atSet_above {r : Rule} (h : r.sense = .above) (v : Int) : r.AtSet v ↔ r.setLevel ≤ v := by
  simp [Rule.AtSet, h]

theorem Rule.atClear_below {r : Rule} (h : r.sense = .below) (v : Int) : r.AtClear v ↔ r.clearLevel ≤ v := by
  simp [Rule.AtClear, h]

theorem Rule.atClear_above {r : Rule} (h : r.sense = .above) (v : Int) : r.AtClear v ↔ v ≤ r.clearLevel := by
  simp [Rule.AtClear, h]

open Classical in
/-- R145 in one equation: at both levels the rule's state decides. -/
theorem Rule.meets_eq (r : Rule) (v : Int) : r.meets v =
    if r.AtSet v then
      if r.AtClear v then if r.state = .inactive ∨ r.state = .pendingSet then .set else .clear
      else .set
    else if r.AtClear v then .clear else .neither := by
  cases h : r.sense
  case below =>
    rw [r.atSet_below h, r.atClear_below h]
    by_cases hs : v ≤ r.setLevel <;> by_cases hc : r.clearLevel ≤ v <;> simp [Rule.meets, h, hs, hc]
  case above =>
    rw [r.atSet_above h, r.atClear_above h]
    by_cases hs : r.setLevel ≤ v <;> by_cases hc : v ≤ r.clearLevel <;> simp [Rule.meets, h, hs, hc]

theorem Rule.meets_of_set_only {r : Rule} {v : Int} (hs : r.AtSet v) (hc : ¬ r.AtClear v) : r.meets v = .set := by
  rw [r.meets_eq, if_pos hs, if_neg hc]

theorem Rule.meets_of_clear_only {r : Rule} {v : Int} (hs : ¬ r.AtSet v) (hc : r.AtClear v) : r.meets v = .clear := by
  rw [r.meets_eq, if_neg hs, if_pos hc]

theorem Rule.meets_of_neither {r : Rule} {v : Int} (hs : ¬ r.AtSet v) (hc : ¬ r.AtClear v) : r.meets v = .neither := by
  rw [r.meets_eq, if_neg hs, if_neg hc]

theorem Rule.meets_of_both {r : Rule} {v : Int} (hs : r.AtSet v) (hc : r.AtClear v) :
    r.meets v = if r.state = .inactive ∨ r.state = .pendingSet then .set else .clear := by
  rw [r.meets_eq, if_pos hs, if_pos hc]

/-- The state of a rule matters to what a value meets only where it meets both levels. -/
theorem Rule.meets_withState {r : Rule} {v : Int} (h : ¬ (r.AtSet v ∧ r.AtClear v)) (q : RuleState) :
    ({ r with state := q } : Rule).meets v = r.meets v := by
  by_cases hs : r.AtSet v
  · have hc : ¬ r.AtClear v := fun hc => h ⟨hs, hc⟩
    exact (Rule.meets_of_set_only (r := { r with state := q }) hs hc).trans (Rule.meets_of_set_only hs hc).symm
  · by_cases hc : r.AtClear v
    · exact (Rule.meets_of_clear_only (r := { r with state := q }) hs hc).trans (Rule.meets_of_clear_only hs hc).symm
    · exact (Rule.meets_of_neither (r := { r with state := q }) hs hc).trans (Rule.meets_of_neither hs hc).symm

/-- A value at both levels meets the clear level in ACTIVE, so one that no state lets meet it is not at both. -/
theorem Rule.meets_withState_of_never_clear {r : Rule} {v : Int}
    (h : ∀ q : RuleState, ({ r with state := q } : Rule).meets v ≠ .clear) (q : RuleState) :
    ({ r with state := q } : Rule).meets v = r.meets v :=
  Rule.meets_withState (r := r) (fun ⟨hs, hc⟩ => h .active (Rule.meets_of_both (r := { r with state := .active }) hs hc)) q

/-- A value at both levels meets the set level in INACTIVE, so one that no state lets meet it is not at both. -/
theorem Rule.meets_withState_of_never_set {r : Rule} {v : Int}
    (h : ∀ q : RuleState, ({ r with state := q } : Rule).meets v ≠ .set) (q : RuleState) :
    ({ r with state := q } : Rule).meets v = r.meets v :=
  Rule.meets_withState (r := r) (fun ⟨hs, hc⟩ => h .inactive (Rule.meets_of_both (r := { r with state := .inactive }) hs hc)) q

/-! ### The table of R146, an equation for each of its entries -/

/-- R146: the entries that say no change. -/
theorem Rule.move_eq_self {r : Rule} {v : Int}
    (h : r.meets v = .neither ∨ (r.state = .inactive ∧ r.meets v = .clear) ∨ (r.state = .active ∧ r.meets v = .set)) :
    r.move v = r := by
  obtain hm | ⟨hq, hm⟩ | ⟨hq, hm⟩ := h
  · cases hq : r.state <;> simp [Rule.move, hq, hm]
  · simp [Rule.move, hq, hm]
  · simp [Rule.move, hq, hm]

theorem Rule.move_inactive_set {r : Rule} {v : Int} (hq : r.state = .inactive) (hm : r.meets v = .set) :
    r.move v = if r.p = 1 then r.activate else { r with state := .pendingSet, count := 1 } := by
  simp [Rule.move, hq, hm]

theorem Rule.move_pendingSet_set {r : Rule} {v : Int} (hq : r.state = .pendingSet) (hm : r.meets v = .set) :
    r.move v = if r.p ≤ r.count + 1 then r.activate else { r with count := r.count + 1 } := by
  simp [Rule.move, hq, hm]

theorem Rule.move_pendingSet_clear {r : Rule} {v : Int} (hq : r.state = .pendingSet) (hm : r.meets v = .clear) :
    r.move v = { r with state := .inactive, count := 0 } := by
  simp [Rule.move, hq, hm]

theorem Rule.move_active_clear {r : Rule} {v : Int} (hq : r.state = .active) (hm : r.meets v = .clear) :
    r.move v = if r.p = 1 then r.deactivate else { r with state := .pendingClear, count := 1 } := by
  simp [Rule.move, hq, hm]

theorem Rule.move_pendingClear_set {r : Rule} {v : Int} (hq : r.state = .pendingClear) (hm : r.meets v = .set) :
    r.move v = r.activate := by
  simp [Rule.move, hq, hm]

theorem Rule.move_pendingClear_clear {r : Rule} {v : Int} (hq : r.state = .pendingClear) (hm : r.meets v = .clear) :
    r.move v = if r.p ≤ r.count + 1 then r.deactivate else { r with count := r.count + 1 } := by
  simp [Rule.move, hq, hm]

/-- R146: the count does not rise above p. -/
theorem Rule.move_count_le {r : Rule} (v : Int) (hp : 1 ≤ r.p) (hc : r.count ≤ r.p) : (r.move v).count ≤ r.p := by
  match hq : r.state, hm : r.meets v with
  | .inactive, .set =>
    rw [Rule.move_inactive_set hq hm]
    split
    · exact Nat.zero_le _
    · exact hp
  | .pendingSet, .set =>
    rw [Rule.move_pendingSet_set hq hm]
    split
    · exact Nat.zero_le _
    · next h => exact (not_le.mp h).le
  | .pendingSet, .clear => rw [Rule.move_pendingSet_clear hq hm]; exact Nat.zero_le _
  | .active, .clear =>
    rw [Rule.move_active_clear hq hm]
    split
    · exact Nat.zero_le _
    · exact hp
  | .pendingClear, .set => rw [Rule.move_pendingClear_set hq hm]; exact Nat.zero_le _
  | .pendingClear, .clear =>
    rw [Rule.move_pendingClear_clear hq hm]
    split
    · exact Nat.zero_le _
    · next h => exact (not_le.mp h).le
  | .inactive, .clear => rwa [Rule.move_eq_self (.inr (.inl ⟨hq, hm⟩))]
  | .active, .set => rwa [Rule.move_eq_self (.inr (.inr ⟨hq, hm⟩))]
  | .inactive, .neither | .pendingSet, .neither | .active, .neither | .pendingClear, .neither =>
    rwa [Rule.move_eq_self (.inl hm)]

/-- The three clauses of R145 that hold in either sense, the comparisons with the levels being `a ≤ b` and `c ≤ d`. -/
theorem Rule.meets_by_levels {r : Rule} {v a b c d : Int} (hset : r.AtSet v ↔ a ≤ b) (hclear : r.AtClear v ↔ c ≤ d) :
    (a ≤ b → d < c → r.meets v = .set) ∧ (c ≤ d → b < a → r.meets v = .clear) ∧
      (b < a → d < c → r.meets v = .neither ∧ r.move v = r) := by
  have notSet (h : b < a) : ¬ r.AtSet v := hset.not.mpr h.not_ge
  have notClear (h : d < c) : ¬ r.AtClear v := hclear.not.mpr h.not_ge
  refine ⟨fun hs hc => ?_, fun hc hs => ?_, fun hs hc => ?_⟩
  · exact Rule.meets_of_set_only (hset.mpr hs) (notClear hc)
  · exact Rule.meets_of_clear_only (notSet hs) (hclear.mpr hc)
  · have hm := Rule.meets_of_neither (notSet hs) (notClear hc)
    exact ⟨hm, Rule.move_eq_self (.inl hm)⟩

/-! ### A row of readings of which none meets the opposite level -/

/-- The rule after `n` readings that count: below p of them it stands where it stood or PENDING, from the p-th on it has `entered`. -/
def Rule.countingTo (r : Rule) (pending : RuleState) (entered : Rule) (n : Nat) : Rule :=
  if n < r.p then { r with state := if n = 0 then r.state else pending, count := n } else entered

section
variable {r entered : Rule} {pending : RuleState} {v : Int} {n : Nat}

theorem Rule.countingTo_of_lt (h : n < r.p) :
    r.countingTo pending entered n = { r with state := if n = 0 then r.state else pending, count := n } := if_pos h

theorem Rule.countingTo_of_le (h : r.p ≤ n) : r.countingTo pending entered n = entered := if_neg h.not_gt

theorem Rule.countingTo_zero (hp : 1 ≤ r.p) (hc : r.count = 0) : r.countingTo pending entered 0 = r := by
  rw [Rule.countingTo_of_lt hp, if_pos rfl, ← hc]

/-- A reading that counts takes the rule one further, when the first, the later ones and those after the p-th each act as the
table of R146 says. -/
theorem Rule.countingTo_move_succ (hp : 1 ≤ r.p) (hc : r.count = 0)
    (first : r.move v = if r.p = 1 then entered else { r with state := pending, count := 1 })
    (rise : ∀ k, ({ r with state := pending, count := k } : Rule).move v =
      if r.p ≤ k + 1 then entered else { r with state := pending, count := k + 1 })
    (stay : entered.move v = entered) :
    (r.countingTo pending entered n).move v = r.countingTo pending entered (n + 1) := by
  obtain hle | hlt := le_or_gt r.p n
  · rw [Rule.countingTo_of_le hle, Rule.countingTo_of_le (hle.trans n.le_succ), stay]
  · have hmove : (r.countingTo pending entered n).move v =
        if r.p ≤ n + 1 then entered else { r with state := pending, count := n + 1 } := by
      rcases n with _ | k
      · rw [Rule.countingTo_zero hp hc, first]
        simp only [Nat.zero_add, show r.p = 1 ↔ r.p ≤ 1 by omega]
      · rw [Rule.countingTo_of_lt hlt, if_neg k.succ_ne_zero, rise]
    rw [hmove]
    split
    · next hle => rw [Rule.countingTo_of_le hle]
    · next hgt => rw [Rule.countingTo_of_lt (not_le.mp hgt), if_neg n.succ_ne_zero]

/-- A reading that meets neither level, in whatever state, breaks nothing. -/
theorem Rule.countingTo_move_neither (hr : ∀ q : RuleState, ({ r with state := q } : Rule).meets v = .neither)
    (he : entered.meets v = .neither) : (r.countingTo pending entered n).move v = r.countingTo pending entered n := by
  refine Rule.move_eq_self (.inl ?_)
  unfold Rule.countingTo
  split
  · exact hr _
  · exact he

/-- The count after a row of readings is the number of those that count. -/
theorem Rule.foldl_move_countingTo (met : Int → Bool) (vs : List Int)
    (h : ∀ v ∈ vs, ∀ n, (r.countingTo pending entered n).move v = r.countingTo pending entered (if met v then n + 1 else n))
    (n : Nat) : vs.foldl Rule.move (r.countingTo pending entered n) = r.countingTo pending entered (n + (vs.filter met).length) := by
  induction vs generalizing n with
  | nil => rfl
  | cons v vs ih =>
    obtain ⟨hv, hrest⟩ := List.forall_mem_cons.mp h
    rw [List.foldl_cons, hv n, ih hrest]
    cases hm : met v
    · simp [hm]
    · simp [hm, Nat.add_assoc, Nat.add_comm 1]

end

/-- R146: an INACTIVE rule after readings of which none meets its clear level. -/
theorem Rule.foldl_move_inactive {r : Rule} {vs : List Int} (hp : 1 ≤ r.p) (hq : r.state = .inactive) (hc : r.count = 0)
    (h : ∀ v ∈ vs, ∀ q : RuleState, ({ r with state := q } : Rule).meets v ≠ .clear) :
    vs.foldl Rule.move r = r.countingTo .pendingSet r.activate (vs.filter fun v => r.meets v == .set).length := by
  have hstep : ∀ v ∈ vs, ∀ n, (r.countingTo .pendingSet r.activate n).move v =
      r.countingTo .pendingSet r.activate (if r.meets v == .set then n + 1 else n) := by
    intro v hv n
    have hany := Rule.meets_withState_of_never_clear (h v hv)
    match hm : r.meets v with
    | .set =>
      exact Rule.countingTo_move_succ hp hc (Rule.move_inactive_set hq hm)
        (fun _ => Rule.move_pendingSet_set rfl ((hany .pendingSet).trans hm))
        (Rule.move_eq_self (.inr (.inr ⟨rfl, (hany .active).trans hm⟩)))
    | .clear => exact absurd ((hany .inactive).trans hm) (h v hv .inactive)
    | .neither => exact Rule.countingTo_move_neither (fun q => (hany q).trans hm) ((hany .active).trans hm)
  simpa only [Rule.countingTo_zero hp hc, Nat.zero_add] using Rule.foldl_move_countingTo _ vs hstep 0

/-- R146: an ACTIVE rule after readings of which none meets its set level. -/
theorem Rule.foldl_move_active {r : Rule} {vs : List Int} (hp : 1 ≤ r.p) (hq : r.state = .active) (hc : r.count = 0)
    (h : ∀ v ∈ vs, ∀ q : RuleState, ({ r with state := q } : Rule).meets v ≠ .set) :
    vs.foldl Rule.move r = r.countingTo .pendingClear r.deactivate (vs.filter fun v => r.meets v == .clear).length := by
  have hstep : ∀ v ∈ vs, ∀ n, (r.countingTo .pendingClear r.deactivate n).move v =
      r.countingTo .pendingClear r.deactivate (if r.meets v == .clear then n + 1 else n) := by
    intro v hv n
    have hany := Rule.meets_withState_of_never_set (h v hv)
    match hm : r.meets v with
    | .set => exact absurd ((hany .active).trans hm) (h v hv .active)
    | .clear =>
      exact Rule.countingTo_move_succ hp hc (Rule.move_active_clear hq hm)
        (fun _ => Rule.move_pendingClear_clear rfl ((hany .pendingClear).trans hm))
        (Rule.move_eq_self (.inr (.inl ⟨rfl, (hany .inactive).trans hm⟩)))
    | .neither => exact Rule.countingTo_move_neither (fun q => (hany q).trans hm) ((hany .inactive).trans hm)
  simpa only [Rule.countingTo_zero hp hc, Nat.zero_add] using Rule.foldl_move_countingTo _ vs hstep 0

/-! ### The statements of R145 and R146 -/

/-- Settles O46: the four cases of R145, by whether the value is at the set level, at the clear level, at both or at neither. -/
theorem valueMeetsLevelBySense : Obligations.ValueMeetsLevelBySense := by
  unfold Obligations.ValueMeetsLevelBySense
  intro r v
  refine ⟨fun hb => ?below, fun ha => ?above, fun heq hv => ?equal⟩
  case below => exact Rule.meets_by_levels (r.atSet_below hb v) (r.atClear_below hb v)
  case above => exact Rule.meets_by_levels (r.atSet_above ha v) (r.atClear_above ha v)
  case equal =>
    obtain ⟨hset, hclear⟩ : r.AtSet v ∧ r.AtClear v := by
      cases h : r.sense
      case below => exact ⟨(r.atSet_below h v).mpr hv.le, (r.atClear_below h v).mpr (heq ▸ hv.ge)⟩
      case above => exact ⟨(r.atSet_above h v).mpr hv.ge, (r.atClear_above h v).mpr (heq ▸ hv.le)⟩
    exact Rule.meets_of_both hset hclear

/-- Settles O47: a row of readings takes the rule to `countingTo` its number of readings that count, and a single reading moves it
by its entry in the table of R146. -/
theorem rulePersistenceCountsReadings : Obligations.RulePersistenceCountsReadings := by
  unfold Obligations.RulePersistenceCountsReadings
  intro r vs hp
  refine ⟨fun hq hc h => ?fromInactive, fun hq hc h => ?fromActive, fun v => ⟨Rule.move_eq_self, ?_, ?_, ?_⟩⟩
  case fromInactive =>
    rw [Rule.foldl_move_inactive hp hq hc h]
    refine ⟨fun hlt => ?_, fun hle => ?_⟩
    · rw [Rule.countingTo_of_lt hlt, hq]
      refine ⟨?_, rfl, rfl⟩
      unfold Rule.holds
      split <;> rfl
    · rw [Rule.countingTo_of_le hle]
      exact ⟨rfl, rfl, rfl⟩
  case fromActive =>
    rw [Rule.foldl_move_active hp hq hc h]
    refine ⟨fun hlt => ?_, fun hle => ?_⟩
    · rw [Rule.countingTo_of_lt hlt, hq]
      refine ⟨?_, rfl, rfl⟩
      unfold Rule.holds
      split <;> rfl
    · rw [Rule.countingTo_of_le hle]
      exact ⟨rfl, rfl, rfl⟩
  · exact Rule.move_pendingSet_clear
  · exact Rule.move_pendingClear_set
  · exact Rule.move_count_le v hp

end Sys2Proof.Machine
end

section
/-! PROOFS. What a step runs: each command is one of the node's operations, and a property that each operation keeps is kept by every
step. -/

namespace Sys2Proof.Machine

/-! ### A step and the command it runs -/

/-- Every command runs to a next state. -/
theorem exec_next (c : Instr) (s : State) : ∃ t : State, exec c s = .next t := by
  cases c <;> exact ⟨_, rfl⟩

/-- The states that a step reaches: a millisecond later, or what the command in front makes of the state. -/
theorem step_cases {s t : State} (h : step s = .next t) :
    (s.pending = [] ∧ t = s.tick) ∨ ∃ c rest, s.pending = c :: rest ∧ exec c { s with pending := rest } = .next t := by
  unfold step at h
  split at h
  case h_1 hp => exact .inl ⟨hp, (Host.Outcome.next.inj h).symm⟩
  case h_2 c rest hp => exact .inr ⟨c, rest, hp, h⟩

/-- A property that every operation behind a command of the table keeps, a full reset aside. Each field names one operation. -/
structure KeptByCommands (P : State → Prop) : Prop where
  reach : ∀ s n, P s → P (s.reach n)
  light : ∀ s p b, P s → P (s.modPort p fun x => { x with light := b })
  portDown : ∀ s p cause, P s → P (s.portDown p cause)
  portUp : ∀ s p, P s → P (s.portUp p)
  arrive : ∀ s p l, P s → P (s.arrive p l)
  arbiter : ∀ s p, P s → P (s.arbiter p)
  modOut : ∀ s p f, P s → P (s.modOut p f)
  offerKeep : ∀ s p, P s → P (s.offerKeep p)
  keepTimer : ∀ s (f : PerSide Nat → PerSide Nat), P s → P (s.modProt fun x => { x with keep := f x.keep })
  sendHoldoff : ∀ s d, P s → P (s.sendHoldoff d)
  modSender : ∀ s d f, P s → P (s.modSender d f)
  dueComes : ∀ s i t, P s → P (s.dueComes i t)
  dropChoose : ∀ s d, P s → P (s.dropChoose d)
  frameSent : ∀ s d, P s → P (s.frameSent d)
  modDrop : ∀ s d f, P s → P (s.modDrop d f)
  frameArrives : ∀ s d o, P s → P (s.frameArrives d o)
  completeWith : ∀ s d o, P s → P (s.completeWith d o)
  callingExpires : ∀ s r, P s → P (s.callingExpires r)
  clearingExpires : ∀ s r, P s → P (s.clearingExpires r)
  isolatedSignals : ∀ s r, P s → P (s.isolatedSignals r)
  startVerify : ∀ s slot bytes op, P s → P (s.startVerify slot bytes op)
  commitCompletes : ∀ s slot bytes got, P s → P (s.commitCompletes slot bytes got)
  markCompletes : ∀ s slot, P s → P (s.markCompletes slot)
  readCompletes : ∀ s serial slot live got, P s → P (s.readCompletes serial slot live got)
  saveMarkCompletes : ∀ s, P s → P s.saveMarkCompletes
  saveSlotCompletes : ∀ s slot bytes got, P s → P (s.saveSlotCompletes slot bytes got)
  stepExpires : ∀ s, P s → P s.stepExpires
  scanReadCompletes : ∀ s slot got, P s → P (s.scanReadCompletes slot got)
  loadReadCompletes : ∀ s slot got, P s → P (s.loadReadCompletes slot got)
  revert : ∀ s, P s → P s.revert
  dropRequest : ∀ s k, P s → P (s.dropRequest k)
  sampleFeed : ∀ s level, P s → P (s.sampleFeed level)
  settleExpires : ∀ s, P s → P s.settleExpires
  assertFeedLost : ∀ s, P s → P s.assertFeedLost
  negateFeedLost : ∀ s, P s → P s.negateFeedLost
  feedLost : ∀ s b, P s → P (s.modSup fun p => { p with feedLost := b })
  agentReceive : ∀ s c, P s → P (s.agentReceive c)

namespace KeptByCommands

variable {P : State → Prop}

theorem onTimer (hP : KeptByCommands P) {s : State} (t : Option Nat) {f : State → State} (h : P s)
    (hf : ∀ n, P (s.reach n) → P (f (s.reach n))) : P (s.onTimer t f) := by
  cases t with
  | none => exact h
  | some n => exact hf n (hP.reach s n h)

theorem unlessRepeater {s : State} {f : State → State} (h : P s) (hf : P (f s)) : P (s.unlessRepeater f) := by
  unfold State.unlessRepeater
  split
  · exact h
  · exact hf

theorem onSignalTimer (hP : KeptByCommands P) {s : State} (r : Fin 16) (st : CallState) {f : State → State} (h : P s)
    (hf : ∀ n, P (s.reach n) → P (f (s.reach n))) : P (s.onSignalTimer r st f) := by
  unfold State.onSignalTimer
  split
  · exact hP.onTimer _ h hf
  · exact h

/-- Every command but a full reset keeps the property. -/
theorem exec (hP : KeptByCommands P) {c : Instr} {s t : State} (hc : ∀ v, c ≠ .fullReset v) (h : P s)
    (e : exec c s = .next t) : P t := by
  cases c
  case fullReset v => exact absurd rfl (hc v)
  case lightPresent p => cases e; exact hP.light s p true h
  case lossOfLight p => cases e; exact hP.portDown _ p _ (hP.light s p false h)
  case blockArrival p l => cases e; exact hP.arrive s p l h
  case sendCompletion p => cases e; exact hP.arbiter s p h
  case creditWindowExpiry p => cases e; exact hP.modOut _ p _ (hP.reach s _ h)
  case keepTimerExpiry p => cases e; exact hP.keepTimer _ (·.upd p _) (hP.offerKeep _ p (hP.reach s _ h))
  case holdoffRepeatExpiry d =>
    cases e
    refine hP.onTimer _ h fun n hn => ?_
    split
    · exact hP.sendHoldoff _ d hn
    · exact hP.modSender _ d _ hn
  case holdoffReceiverExpiry p => cases e; exact hP.onTimer _ h fun n hn => hP.modOut _ p _ hn
  case keepGapExpiry p => cases e; exact hP.onTimer _ h fun n hn => hP.portDown _ p _ hn
  case provingTimerExpiry p => cases e; exact hP.onTimer _ h fun n hn => hP.portUp _ p hn
  case stationPollDue i =>
    cases e
    exact unlessRepeater h (hP.onTimer _ h fun n hn => hP.dropChoose _ _ (hP.dueComes _ i _ hn))
  case voiceExchangeDue i =>
    cases e
    exact unlessRepeater h (hP.onTimer _ h fun n hn => hP.dropChoose _ _ (hP.dueComes _ i _ hn))
  case pollFrameEnd d => cases e; exact unlessRepeater h (hP.frameSent s d h)
  case replyStart d =>
    cases e
    refine unlessRepeater h ?_
    split
    · exact hP.modDrop s d _ h
    · exact h
  case replyFrameEnd d l => cases e; exact unlessRepeater h (hP.frameArrives s d _ h)
  case brokenFrame d => cases e; exact unlessRepeater h (hP.frameArrives s d _ h)
  case replyTimerExpiry d => cases e; exact unlessRepeater h (hP.onTimer _ h fun n hn => hP.completeWith _ d _ hn)
  case unsolicitedFrame d => cases e; exact unlessRepeater h (hP.modDrop s d _ h)
  case callingTimerExpiry r => cases e; exact unlessRepeater h (hP.onSignalTimer r _ h fun n hn => hP.callingExpires _ r hn)
  case clearingTimerExpiry r => cases e; exact unlessRepeater h (hP.onSignalTimer r _ h fun n hn => hP.clearingExpires _ r hn)
  case isolatedTimerExpiry r => cases e; exact unlessRepeater h (hP.onSignalTimer r _ h fun n hn => hP.isolatedSignals _ r hn)
  case commitWriteCompletion got => cases e; split; exacts [hP.commitCompletes s _ _ got h, h]
  case markWriteCompletion => cases e; split; exacts [hP.markCompletes s _ h, h]
  case readAheadCompletion got => cases e; split; exacts [hP.readCompletes s _ _ _ got h, h]
  case storeStepDone => cases e; split; exacts [hP.startVerify s _ _ _ h, hP.startVerify s _ _ _ h, h]
  case saveStepCompletion got => cases e; split; exacts [hP.saveMarkCompletes s h, hP.saveSlotCompletes s _ _ got h, h]
  case stepTimerExpiry => cases e; exact hP.onTimer _ h fun n hn => hP.stepExpires _ hn
  case abandonedStepCompletion => cases e; exact h
  case scanReadDone got => cases e; split; exacts [hP.scanReadCompletes s _ got h, h]
  case loadReadDone got => cases e; split; exacts [hP.loadReadCompletes s _ got h, h]
  case revertTimerExpiry => cases e; exact hP.onTimer _ h fun n hn => hP.revert _ hn
  case signRequestExpiry k => cases e; exact hP.onTimer _ h fun n hn => hP.dropRequest _ k hn
  case sampleTimerExpiry level => cases e; exact unlessRepeater h (hP.sampleFeed _ level (hP.reach s _ h))
  case settleTimerExpiry => cases e; exact unlessRepeater h (hP.onTimer _ h fun n hn => hP.settleExpires _ hn)
  case feedLostAsserted =>
    cases e
    split
    · exact h
    · split
      · exact hP.feedLost s true h
      · exact hP.assertFeedLost s h
  case feedLostNegated =>
    cases e
    split
    · split
      · exact hP.feedLost s false h
      · exact hP.negateFeedLost s h
    · exact h
  all_goals
    rw [exec_command _ _ s rfl] at e
    cases e
    exact unlessRepeater h (hP.agentReceive s _ h)

/-- A step keeps the property when a full reset and the passing of time do, and the queue of commands does not show in it. -/
theorem step (hP : KeptByCommands P) (hreset : ∀ v s, P s → P (s.fullReset v))
    (hqueue : ∀ s n l, P s → P { s with now := n, pending := l }) {s t : State} (h : P s) (e : step s = .next t) : P t := by
  obtain ⟨-, rfl⟩ | ⟨c, rest, -, hc⟩ := step_cases e
  · exact hqueue s _ _ h
  · have hs := hqueue s s.now rest h
    by_cases hr : ∃ v, c = .fullReset v
    · obtain ⟨v, rfl⟩ := hr
      cases hc
      exact hreset v _ hs
    · exact hP.exec (fun v hv => hr ⟨v, hv⟩) hs hc

end KeptByCommands

/-- Settles O1. -/
theorem stepRunsQueueFront : Obligations.StepRunsQueueFront := by
  unfold Obligations.StepRunsQueueFront
  refine ⟨fun c rest s => rfl, fun s h => ?_⟩
  show step s = .next s.tick
  unfold step
  rw [h]

end Sys2Proof.Machine
end

section
/-! PROOFS. The invariants of a step whose laws stand in Sys2Proof/Laws: the queue, the store's form, the sign law, the ring state. -/

namespace Sys2Proof.Machine

/-! ### The queue and the strapped value -/

/-- What a state that keeps the outer view keeps of the queue. -/
theorem queue_keeps {s t : State} {q : BitVec 5 × List Instr} (h : t.outer = s.outer) (hs : s.queue = q) : t.queue = q :=
  (queue_of_outer h).trans hs

theorem keptByCommands_queue (q : BitVec 5 × List Instr) : KeptByCommands fun s => s.queue = q where
  reach _ _ h := h
  light _ _ _ h := h
  portDown s p c := queue_keeps (s.portDown_outer p c)
  portUp s p := queue_keeps (s.portUp_outer p)
  arrive s p l := queue_keeps (s.arrive_outer p l)
  arbiter s p := queue_keeps (s.arbiter_outer p)
  modOut _ _ _ h := h
  offerKeep s p := queue_keeps (s.offerKeep_outer p)
  keepTimer _ _ h := h
  sendHoldoff s d := queue_keeps (s.sendHoldoff_outer d)
  modSender _ _ _ h := h
  dueComes _ _ _ h := h
  dropChoose s d := queue_keeps (s.dropChoose_outer d)
  frameSent s d := queue_keeps (s.frameSent_outer d)
  modDrop _ _ _ h := h
  frameArrives s d o := queue_keeps (s.frameArrives_outer d o)
  completeWith s d o := queue_keeps (s.completeWith_outer d o)
  callingExpires s r := queue_keeps (s.callingExpires_outer r)
  clearingExpires s r := queue_keeps (s.clearingExpires_outer r)
  isolatedSignals s r := queue_keeps (s.isolatedSignals_outer r)
  startVerify s slot bytes op h := (s.startVerify_queue slot bytes op).trans h
  commitCompletes s slot bytes got h := (s.commitCompletes_queue slot bytes got).trans h
  markCompletes s slot h := (s.markCompletes_queue slot).trans h
  readCompletes s serial slot live got h := (s.readCompletes_queue serial slot live got).trans h
  saveMarkCompletes s h := s.saveMarkCompletes_queue.trans h
  saveSlotCompletes s slot bytes got h := (s.saveSlotCompletes_queue slot bytes got).trans h
  stepExpires s h := s.stepExpires_queue.trans h
  scanReadCompletes s slot got h := (s.scanReadCompletes_queue slot got).trans h
  loadReadCompletes s slot got h := (s.loadReadCompletes_queue slot got).trans h
  revert s := queue_keeps s.revert_outer
  dropRequest s k := queue_keeps (s.dropRequest_outer k)
  sampleFeed s n := queue_keeps (s.sampleFeed_outer n)
  settleExpires s := queue_keeps s.settleExpires_outer
  assertFeedLost s := queue_keeps s.assertFeedLost_outer
  negateFeedLost s := queue_keeps s.negateFeedLost_outer
  feedLost _ _ h := h
  agentReceive s c := queue_keeps (s.agentReceive_outer c)

/-- A full reset leaves the commands that wait. -/
theorem State.fullReset_pending (s : State) (v : BitVec 5) : (s.fullReset v).pending = s.pending := by
  obtain ⟨m, n, h, -⟩ := s.cutShort_eq
  unfold State.fullReset
  rw [h]
  rfl

/-- Settles O2. -/
theorem everyCommandRunsAndKeepsQueue : Obligations.EveryCommandRunsAndKeepsQueue := by
  unfold Obligations.EveryCommandRunsAndKeepsQueue
  intro c s
  obtain ⟨t, ht⟩ := exec_next c s
  have hkept (hc : ∀ v, c ≠ .fullReset v) : t.queue = s.queue := (keptByCommands_queue s.queue).exec hc rfl ht
  refine ⟨t, ht, ?_, fun hc => congrArg Prod.fst (hkept hc)⟩
  by_cases hc : ∃ v, c = .fullReset v
  · obtain ⟨v, rfl⟩ := hc
    cases ht
    exact s.fullReset_pending v
  · exact congrArg Prod.snd (hkept fun v hv => hc ⟨v, hv⟩)

/-! ### The store's form -/

theorem storeOk_keeps {s t : State} (h : t.outer = s.outer) (hs : s.storeOk = true) : t.storeOk = true :=
  (storeOk_of_outer h).trans hs

theorem keptByCommands_storeOk : KeptByCommands fun s => s.storeOk = true where
  reach _ _ h := h
  light _ _ _ h := h
  portDown s p c := storeOk_keeps (s.portDown_outer p c)
  portUp s p := storeOk_keeps (s.portUp_outer p)
  arrive s p l := storeOk_keeps (s.arrive_outer p l)
  arbiter s p := storeOk_keeps (s.arbiter_outer p)
  modOut _ _ _ h := h
  offerKeep s p := storeOk_keeps (s.offerKeep_outer p)
  keepTimer _ _ h := h
  sendHoldoff s d := storeOk_keeps (s.sendHoldoff_outer d)
  modSender _ _ _ h := h
  dueComes _ _ _ h := h
  dropChoose s d := storeOk_keeps (s.dropChoose_outer d)
  frameSent s d := storeOk_keeps (s.frameSent_outer d)
  modDrop _ _ _ h := h
  frameArrives s d o := storeOk_keeps (s.frameArrives_outer d o)
  completeWith s d o := storeOk_keeps (s.completeWith_outer d o)
  callingExpires s r := storeOk_keeps (s.callingExpires_outer r)
  clearingExpires s r := storeOk_keeps (s.clearingExpires_outer r)
  isolatedSignals s r := storeOk_keeps (s.isolatedSignals_outer r)
  startVerify s slot bytes op := s.startVerify_storeOk slot bytes op
  commitCompletes s slot bytes got := s.commitCompletes_storeOk slot bytes got
  markCompletes s slot := s.markCompletes_storeOk slot
  readCompletes s serial slot live got := s.readCompletes_storeOk serial slot live got
  saveMarkCompletes s := s.saveMarkCompletes_storeOk
  saveSlotCompletes s slot bytes got := s.saveSlotCompletes_storeOk slot bytes got
  stepExpires s := s.stepExpires_storeOk
  scanReadCompletes s slot got := s.scanReadCompletes_storeOk slot got
  loadReadCompletes s slot got := s.loadReadCompletes_storeOk slot got
  revert s := storeOk_keeps s.revert_outer
  dropRequest s k := storeOk_keeps (s.dropRequest_outer k)
  sampleFeed s n := storeOk_keeps (s.sampleFeed_outer n)
  settleExpires s := storeOk_keeps s.settleExpires_outer
  assertFeedLost s := storeOk_keeps s.assertFeedLost_outer
  negateFeedLost s := storeOk_keeps s.negateFeedLost_outer
  feedLost _ _ h := h
  agentReceive s c := storeOk_keeps (s.agentReceive_outer c)

/-- What a full reset cuts short keeps the store's canonical form. -/
theorem State.cutShort_storeOk (s : State) (h : s.storeOk = true) : s.cutShort.storeOk = true := by
  obtain ⟨m, n, e, hm⟩ := s.cutShort_eq
  rw [e]
  exact hm h

/-- Settles O3. -/
theorem stepKeepsStoreForm : Obligations.StepKeepsStoreForm := by
  unfold Obligations.StepKeepsStoreForm
  intro s t h e
  exact keptByCommands_storeOk.step (fun v s hs => s.cutShort_storeOk hs) (fun _ _ _ hs => hs) h e

/-! ### The sign law -/

theorem signsOk_keeps {s t : State} (h : t.signView = s.signView) (hs : s.signsOk = true) : t.signsOk = true :=
  (signsOk_of_view h).trans hs

theorem keptByCommands_signsOk : KeptByCommands fun s => s.signsOk = true where
  reach _ _ h := h
  light _ _ _ h := h
  portDown s p c := s.portDown_signsOk p c
  portUp s p := s.portUp_signsOk p
  arrive s p l := s.arrive_signsOk p l
  arbiter s p := s.arbiter_signsOk p
  modOut _ _ _ h := h
  offerKeep s p := signsOk_keeps (s.offerKeep_signView p)
  keepTimer _ _ h := h
  sendHoldoff s d := signsOk_keeps (s.sendHoldoff_signView d)
  modSender _ _ _ h := h
  dueComes _ _ _ h := h
  dropChoose s d := s.dropChoose_signsOk d
  frameSent s d := s.frameSent_signsOk d
  modDrop _ _ _ h := h
  frameArrives s d o := s.frameArrives_signsOk d o
  completeWith s d o := s.completeWith_signsOk d o
  callingExpires s r := signsOk_keeps (s.callingExpires_signView r)
  clearingExpires s r := s.clearingExpires_signsOk r
  isolatedSignals s r := signsOk_keeps (s.isolatedSignals_signView r)
  startVerify s slot bytes op := signsOk_keeps (s.startVerify_signView slot bytes op)
  commitCompletes s slot bytes got := signsOk_keeps (s.commitCompletes_signView slot bytes got)
  markCompletes s slot := signsOk_keeps (s.markCompletes_signView slot)
  readCompletes s serial slot live got := signsOk_keeps (s.readCompletes_signView serial slot live got)
  saveMarkCompletes s := signsOk_keeps s.saveMarkCompletes_signView
  saveSlotCompletes s slot bytes got := s.saveSlotCompletes_signsOk slot bytes got
  stepExpires s := s.stepExpires_signsOk
  scanReadCompletes s slot got := s.scanReadCompletes_signsOk slot got
  loadReadCompletes s slot got := s.loadReadCompletes_signsOk slot got
  revert s := signsOk_keeps s.revert_signView
  dropRequest s k := s.dropRequest_signsOk k
  sampleFeed s n := s.sampleFeed_signsOk n
  settleExpires s := s.settleExpires_signsOk
  assertFeedLost s := s.assertFeedLost_signsOk
  negateFeedLost s := signsOk_keeps s.negateFeedLost_signView
  feedLost _ _ h := h
  agentReceive s c := s.agentReceive_signsOk c

/-- R148: the signs of a full reset show nothing. -/
theorem State.fullReset_signsOk (s : State) (v : BitVec 5) : (s.fullReset v).signsOk = true := by
  show SignService.lawful SignService.reset = true
  decide

/-- Settles O4. -/
theorem stepKeepsSignLaw : Obligations.StepKeepsSignLaw := by
  unfold Obligations.StepKeepsSignLaw
  intro s t h e
  exact keptByCommands_signsOk.step (fun v s _ => s.fullReset_signsOk v) (fun _ _ _ hs => hs) h e

/-! ### The ring state -/

theorem ringOk_keeps {s t : State} (h : t.ringView = s.ringView) (hs : s.ringOk = true) : t.ringOk = true :=
  (ringOk_of_view h).trans hs

/-- R29: a change of a port that leaves whether its side is faulted. -/
theorem State.modPort_ringOk (s : State) (p : Side) (f : RxPort → RxPort) (h : s.ringOk = true)
    (hf : (f (s.prot.ports.get p)).faulted = (s.prot.ports.get p).faulted) : (s.modPort p f).ringOk = true := by
  have e : (s.modPort p f).prot.derived = s.prot.derived := by
    cases p
    · exact congrArg (ringOf · _) hf
    · exact congrArg (ringOf _ ·) hf
  have h' : (s.prot.ring == s.prot.derived) = true := h
  show (s.prot.ring == (s.modPort p f).prot.derived) = true
  rw [e]
  exact h'

theorem State.portDown_ringOk (s : State) (p : Side) (cause : LinkCause) (h : s.ringOk = true) :
    (s.portDown p cause).ringOk = true := by
  unfold State.portDown
  split
  · exact h
  · exact State.deriveRing_ringOk _
  · exact State.deriveRing_ringOk _

theorem State.validArrival_ringOk (s : State) (p : Side) (h : s.ringOk = true) : (s.validArrival p).ringOk = true := by
  unfold State.validArrival
  dsimp only
  split
  · exact State.deriveRing_ringOk _
  · exact s.modPort_ringOk p _ h rfl

theorem State.erroredArrival_ringOk (s : State) (p : Side) (h : s.ringOk = true) : (s.erroredArrival p).ringOk = true := by
  have hrun := s.modPort_ringOk p (fun x => { x with run := min 8 (x.run + 1) }) h rfl
  unfold State.erroredArrival
  dsimp only
  split
  · exact hrun
  · exact State.portDown_ringOk _ p _ hrun
  · split
    · exact State.portDown_ringOk _ p _ hrun
    · exact hrun

theorem State.takeKeep_ringOk (s : State) (p : Side) (b : Block) (h : s.ringOk = true) : (s.takeKeep p b).ringOk = true := by
  unfold State.takeKeep
  split
  · exact s.modPort_ringOk p _ h rfl
  · have hkeep : (if keepFlagOf b.body = (s.prot.ports.get p).farFault then s.modPort p (·.keep (keepFlagOf b.body) b.src s.now)
        else (s.modPort p (·.keep (keepFlagOf b.body) b.src s.now)).deriveRing).ringOk = true := by
      split
      next hflag => exact s.modPort_ringOk p _ h (by simp only [RxPort.keep, RxPort.faulted, hflag])
      next => exact State.deriveRing_ringOk _
    unfold State.validKeep
    dsimp only
    split
    · exact ringOk_keeps (State.noticeLink_ringView _ p _) hkeep
    · exact hkeep

theorem State.takeRing_ringOk (s : State) (p : Side) (b : Block) (h : s.ringOk = true) : (s.takeRing p b).ringOk = true := by
  unfold State.takeRing
  split
  · exact s.takeKeep_ringOk p b h
  · repeat' first | exact h | split

theorem State.arrive_ringOk (s : State) (p : Side) (l : List Byte) (h : s.ringOk = true) : (s.arrive p l).ringOk = true := by
  unfold State.arrive
  dsimp only
  split
  · exact State.erroredArrival_ringOk _ p h
  · split
    · exact State.validArrival_ringOk _ p h
    next b _ =>
      have hv := s.validArrival_ringOk p h
      unfold State.takeBlock
      split
      · exact hv
      · exact State.takeRing_ringOk _ p b hv
      all_goals exact ringOk_keeps (State.transitArrival_ringView _ p b) hv

theorem keptByCommands_ringOk : KeptByCommands fun s => s.ringOk = true where
  reach _ _ h := h
  light s p _ h := s.modPort_ringOk p _ h rfl
  portDown s p c := s.portDown_ringOk p c
  portUp _ _ _ := State.deriveRing_ringOk _
  arrive s p l := s.arrive_ringOk p l
  arbiter s p := ringOk_keeps (s.arbiter_ringView p)
  modOut _ _ _ h := h
  offerKeep s p := ringOk_keeps (s.offerKeep_ringView p)
  keepTimer _ _ h := h
  sendHoldoff s d := ringOk_keeps (s.sendHoldoff_ringView d)
  modSender _ _ _ h := h
  dueComes _ _ _ h := h
  dropChoose s d := ringOk_keeps (s.dropChoose_ringView d)
  frameSent s d := ringOk_keeps (s.frameSent_ringView d)
  modDrop _ _ _ h := h
  frameArrives s d o := ringOk_keeps (s.frameArrives_ringView d o)
  completeWith s d o := ringOk_keeps (s.completeWith_ringView d o)
  callingExpires s r := ringOk_keeps (s.callingExpires_ringView r)
  clearingExpires s r := ringOk_keeps (s.clearingExpires_ringView r)
  isolatedSignals s r := ringOk_keeps (s.isolatedSignals_ringView r)
  startVerify s slot bytes op := ringOk_keeps (s.startVerify_ringView slot bytes op)
  commitCompletes s slot bytes got := ringOk_keeps (s.commitCompletes_ringView slot bytes got)
  markCompletes s slot := ringOk_keeps (s.markCompletes_ringView slot)
  readCompletes s serial slot live got := ringOk_keeps (s.readCompletes_ringView serial slot live got)
  saveMarkCompletes s := ringOk_keeps s.saveMarkCompletes_ringView
  saveSlotCompletes s slot bytes got := ringOk_keeps (s.saveSlotCompletes_ringView slot bytes got)
  stepExpires s := ringOk_keeps s.stepExpires_ringView
  scanReadCompletes s slot got := ringOk_keeps (s.scanReadCompletes_ringView slot got)
  loadReadCompletes s slot got := ringOk_keeps (s.loadReadCompletes_ringView slot got)
  revert s := ringOk_keeps s.revert_ringView
  dropRequest s k := ringOk_keeps (s.dropRequest_ringView k)
  sampleFeed s n := ringOk_keeps (s.sampleFeed_ringView n)
  settleExpires s := ringOk_keeps s.settleExpires_ringView
  assertFeedLost s := ringOk_keeps s.assertFeedLost_ringView
  negateFeedLost s := ringOk_keeps s.negateFeedLost_ringView
  feedLost _ _ h := h
  agentReceive s c := ringOk_keeps (s.agentReceive_ringView c)

/-- Settles O5: a full reset leaves both sides faulted and the ring ISOLATED. -/
theorem stepKeepsRingDerived : Obligations.StepKeepsRingDerived := by
  unfold Obligations.StepKeepsRingDerived
  intro s t h e
  exact keptByCommands_ringOk.step (fun _ _ _ => rfl) (fun _ _ _ hs => hs) h e

/-! ### The state after reset -/

/-- Settles O8. -/
theorem resetMeetsEveryLaw : Obligations.ResetMeetsEveryLaw := by
  unfold Obligations.ResetMeetsEveryLaw
  decide

end Sys2Proof.Machine
end

section
/-! PROOFS. The play-out law (5.4): a frame placed, a frame given and a start keep a queue in sequence order within 7 of next. -/

namespace Sys2Proof.Machine

/-! ### Distances from next (R84) -/

theorem distance_self (n : Byte) : distance n n = 0 := by simp [distance]

/-- One step past next, every other seq is nearer by one. -/
theorem distance_succ {n x : Byte} (h : x ≠ n) : distance (n + 1) x + 1 = distance n x := by
  unfold distance
  bv_omega

/-- The distance from a seq that comes before. -/
theorem distance_from {n x y : Byte} (h : distance n x ≤ distance n y) : distance x y + distance n x = distance n y := by
  unfold distance at *
  bv_omega

theorem distance_inj {n x y : Byte} (h : distance n x = distance n y) : x = y := by
  unfold distance at h
  bv_omega

/-! ### The law of a queue -/

/-- R84: the queue stands in strict sequence order from `n` and within 7 of it. -/
def InOrder (n : Byte) (l : List VoiceFrame) : Prop :=
  (∀ f ∈ l, distance n f.seq ≤ 7) ∧ l.Pairwise fun f g => distance n f.seq < distance n g.seq

theorem VoiceFields.lawful_some {v : VoiceFields} {n : Byte} (h : v.next = some n) : v.lawful = true ↔ InOrder n v.queue := by
  unfold VoiceFields.lawful InOrder
  rw [h]
  simp only [Bool.and_eq_true, List.all_eq_true, decide_eq_true_eq, List.pairwise_map]

theorem VoiceFields.lawful_none {v : VoiceFields} (h : v.next = none) : v.lawful = true ↔ v.queue = [] := by
  unfold VoiceFields.lawful
  rw [h]
  exact List.isEmpty_iff

theorem InOrder.filter {n : Byte} {l : List VoiceFrame} (h : InOrder n l) (p : VoiceFrame → Bool) : InOrder n (l.filter p) :=
  ⟨fun f hf => h.1 f (List.mem_of_mem_filter hf), h.2.filter p⟩

/-- R87: next advanced past a queue that no longer holds it. -/
theorem InOrder.succ {n : Byte} {l : List VoiceFrame} (h : InOrder n l) (hn : ∀ f ∈ l, f.seq ≠ n) : InOrder (n + 1) l := by
  refine ⟨fun f hf => ?_, h.2.imp_of_mem fun {f g} hf hg hlt => ?_⟩
  · have hle := h.1 f hf
    have hd := distance_succ (hn f hf)
    omega
  · have hd := distance_succ (hn f hf)
    have hd' := distance_succ (hn g hg)
    omega

/-- R86: next moved up to the first frame of the queue. -/
theorem InOrder.fromHead {n : Byte} {f : VoiceFrame} {l : List VoiceFrame} (h : InOrder n (f :: l)) : InOrder f.seq (f :: l) := by
  have hle : ∀ g ∈ f :: l, distance f.seq g.seq + distance n f.seq = distance n g.seq := by
    intro g hg
    refine distance_from ?_
    rcases List.mem_cons.mp hg with rfl | hg
    · exact le_rfl
    · exact ((List.pairwise_cons.mp h.2).1 g hg).le
  refine ⟨fun g hg => ?_, h.2.imp_of_mem fun {g k} hg hk hlt => ?_⟩
  · have := hle g hg
    have := h.1 g hg
    omega
  · have := hle g hg
    have := hle k hk
    omega

theorem insertFrame_mem {n : Byte} {f g : VoiceFrame} {l : List VoiceFrame} (h : g ∈ insertFrame n f l) : g = f ∨ g ∈ l := by
  induction l with
  | nil => exact .inl (List.mem_singleton.mp h)
  | cons x l ih =>
    unfold insertFrame at h
    split at h
    · exact List.mem_cons.mp h
    · rcases List.mem_cons.mp h with rfl | h
      · exact .inr (List.mem_cons_self ..)
      · exact (ih h).imp id (List.mem_cons_of_mem _)

/-- R84: a frame within 7 of next that the queue does not hold takes its place in the order. -/
theorem InOrder.insert {n : Byte} {f : VoiceFrame} {l : List VoiceFrame} (h : InOrder n l) (hf : distance n f.seq ≤ 7)
    (hnew : ∀ g ∈ l, g.seq ≠ f.seq) : InOrder n (insertFrame n f l) := by
  refine ⟨fun g hg => ?_, ?_⟩
  · rcases insertFrame_mem hg with rfl | hg
    · exact hf
    · exact h.1 g hg
  · obtain ⟨-, hord⟩ := h
    induction l with
    | nil => exact List.pairwise_singleton ..
    | cons x l ih =>
      obtain ⟨hx, hl⟩ := List.pairwise_cons.mp hord
      unfold insertFrame
      split
      next hlt =>
        refine List.pairwise_cons.mpr ⟨fun g hg => ?_, hord⟩
        rcases List.mem_cons.mp hg with rfl | hg
        · exact hlt
        · exact hlt.trans (hx g hg)
      next hge =>
        refine List.pairwise_cons.mpr ⟨fun g hg => ?_, ih (fun g hg => hnew g (List.mem_cons_of_mem _ hg)) hl⟩
        rcases insertFrame_mem hg with rfl | hg
        · exact lt_of_le_of_ne (not_lt.mp hge) fun e => hnew x (List.mem_cons_self ..) (distance_inj e)
        · exact hx g hg

/-- R84: at most 8 frames lie within 7 of next. -/
theorem InOrder.length_le {n : Byte} {l : List VoiceFrame} (h : InOrder n l) : l.length ≤ 8 := by
  have hnodup : (l.map fun f => distance n f.seq).Nodup := List.pairwise_map.mpr (h.2.imp fun hlt => hlt.ne)
  have hsub : (l.map fun f => distance n f.seq) ⊆ List.range 8 := by
    intro d hd
    obtain ⟨f, hf, rfl⟩ := List.mem_map.mp hd
    exact List.mem_range.mpr (Nat.lt_succ_of_le (h.1 f hf))
  simpa using (List.subperm_of_subset hnodup hsub).length_le

theorem VoiceFields.lawful_length {v : VoiceFields} (h : v.lawful = true) : v.queue.length ≤ 8 := by
  cases hn : v.next with
  | none => rw [(VoiceFields.lawful_none hn).mp h]; exact Nat.zero_le _
  | some n => exact ((VoiceFields.lawful_some hn).mp h).length_le

/-! ### The steps of the voice path on one record -/

/-- R87: the frame at next given, repeated or silenced. -/
theorem VoiceFields.playOut_lawful {v : VoiceFields} {n : Byte} (hn : v.next = some n) (h : v.lawful = true) :
    (v.playOut n).2.lawful = true := by
  have hord := (VoiceFields.lawful_some hn).mp h
  unfold VoiceFields.playOut
  split
  · refine (VoiceFields.lawful_some rfl).mpr ((hord.filter _).succ fun f hf => ?_)
    simpa using (List.mem_filter.mp hf).2
  next hnone =>
    have hgone : ∀ f ∈ v.queue, f.seq ≠ n := by simpa using List.find?_eq_none.mp hnone
    split <;> exact (VoiceFields.lawful_some rfl).mpr (hord.succ hgone)

/-- R86: play-out started, or not. -/
theorem VoiceFields.start_lawful {v : VoiceFields} {n : Byte} (hn : v.next = some n) (h : v.lawful = true) :
    v.start.lawful = true := by
  unfold VoiceFields.start
  split
  · split
    next f l hq =>
      have hord := (VoiceFields.lawful_some hn).mp h
      rw [hq] at hord
      exact (VoiceFields.lawful_some rfl).mpr (by rw [hq]; exact hord.fromHead)
    next => exact h
  · exact h

/-- R84: a frame placed at its distance from next. -/
theorem VoiceFields.insert_lawful {v : VoiceFields} {n : Byte} {f : VoiceFrame} (hord : InOrder n v.queue)
    (hf : distance n f.seq ≤ 7) (hnew : ∀ g ∈ v.queue, g.seq ≠ f.seq) :
    (VoiceFields.start { v with next := some n, queue := insertFrame n f v.queue }).lawful = true :=
  VoiceFields.start_lawful rfl ((VoiceFields.lawful_some rfl).mpr (hord.insert hf hnew))

end Sys2Proof.Machine
end

section
/-! PROOFS. The bounds of a step: what each operation does to the queues, the lists, the windows and the play-out queues. -/

namespace Sys2Proof.Machine

/-- Each bound that state `a` meets, state `s` meets too: those of the queues, the agent, the journal, the wait list, the bad-slot list,
the feed's window, the reduction windows and the play-out law. -/
structure KeepsBounds (a s : State) : Prop where
  queues : a.queuesOk = true → s.queuesOk = true
  agent : a.agentBounded = true → s.agentBounded = true
  jrnl : a.jrnl.bounded = true → s.jrnl.bounded = true
  wait : a.calls.waitList.length ≤ 32 → s.calls.waitList.length ≤ 32
  bad : a.jrnl.bad.length ≤ 64 → s.jrnl.bad.length ≤ 64
  window : a.sup.window.length ≤ 8 → s.sup.window.length ≤ 8
  slots : ∀ k : Fin 8, a.slots[k].windowsOk = true → s.slots[k].windowsOk = true
  voice : a.voiceOk = true → s.voiceOk = true

theorem KeepsBounds.refl (s : State) : KeepsBounds s s := ⟨id, id, id, id, id, id, fun _ => id, id⟩

/-- Each bound that journal `j` meets, journal `k` meets too. -/
structure Journal.Within (j k : Journal) : Prop where
  staging : j.staging.length ≤ 32 → k.staging.length ≤ 32
  answers : (∀ i : Fin 32, (j.answers[i]).length ≤ 4) → ∀ i : Fin 32, (k.answers[i]).length ≤ 4
  credit : j.credit ≤ 64 → k.credit ≤ 64
  readAhead : j.readAhead.length ≤ 4 → k.readAhead.length ≤ 4
  way : j.inTransit.length + j.readAhead.length ≤ 64 → k.inTransit.length + k.readAhead.length ≤ 64
  bad : j.bad.length ≤ 64 → k.bad.length ≤ 64

theorem Journal.Within.refl (j : Journal) : j.Within j := ⟨id, id, id, id, id, id⟩

theorem Journal.Within.trans {j k l : Journal} (h : j.Within k) (g : k.Within l) : j.Within l :=
  ⟨g.staging ∘ h.staging, g.answers ∘ h.answers, g.credit ∘ h.credit, g.readAhead ∘ h.readAhead, g.way ∘ h.way, g.bad ∘ h.bad⟩

theorem Journal.bounded_iff (j : Journal) : j.bounded = true ↔ j.staging.length ≤ 32 ∧ (∀ i : Fin 32, (j.answers[i]).length ≤ 4) ∧
    j.credit ≤ 64 ∧ j.readAhead.length ≤ 4 ∧ j.inTransit.length + j.readAhead.length ≤ 64 := by
  have hall : (j.answers.toList.all fun l => decide (l.length ≤ 4)) = true ↔ ∀ i : Fin 32, (j.answers[i]).length ≤ 4 := by
    rw [List.all_eq_true]
    refine ⟨fun h i => of_decide_eq_true (h _ (Vector.mem_toList_iff.mpr (Vector.getElem_mem i.isLt))), fun h l hl => ?_⟩
    obtain ⟨i, hi, rfl⟩ := Vector.getElem_of_mem (Vector.mem_toList_iff.mp hl)
    exact decide_eq_true (h ⟨i, hi⟩)
  simp only [Journal.bounded, Bool.and_eq_true, decide_eq_true_eq, hall, and_assoc]

theorem Journal.Within.bounded {j k : Journal} (h : j.Within k) (hj : j.bounded = true) : k.bounded = true := by
  obtain ⟨h1, h2, h3, h4, h5⟩ := j.bounded_iff.mp hj
  exact k.bounded_iff.mpr ⟨h.staging h1, h.answers h2, h.credit h3, h.readAhead h4, h.way h5⟩

/-! ### Updates of one block's state -/

section
variable {a s : State} (h : KeepsBounds a s)
include h

/-- A state with the same ring transit, agent, journal, calls, monitor and reduction slots. -/
theorem KeepsBounds.same {t : State} (hr : t.ring = s.ring) (ha : t.agent = s.agent) (hj : t.jrnl = s.jrnl)
    (hc : t.calls = s.calls) (hp : t.sup = s.sup) (hs : t.slots = s.slots) : KeepsBounds a t := by
  obtain ⟨h1, h2, h3, h4, h5, h6, h7, h8⟩ := h
  refine ⟨?_, ?_, ?_, ?_, ?_, ?_, ?_, ?_⟩
  · unfold State.queuesOk at h1 ⊢; rw [hr]; exact h1
  · unfold State.agentBounded at h2 ⊢; rw [ha]; exact h2
  · rw [hj]; exact h3
  · rw [hc]; exact h4
  · rw [hj]; exact h5
  · rw [hp]; exact h6
  · rw [hs]; exact h7
  · unfold State.voiceOk at h8 ⊢; rw [hc]; exact h8

theorem KeepsBounds.modLanes (f : Vector LaneEntry 64 → Vector LaneEntry 64) : KeepsBounds a (s.modLanes f) := h.same rfl rfl rfl rfl rfl rfl
theorem KeepsBounds.modProt (f : Protection → Protection) : KeepsBounds a (s.modProt f) := h.same rfl rfl rfl rfl rfl rfl
theorem KeepsBounds.modPoll (f : Poller → Poller) : KeepsBounds a (s.modPoll f) := h.same rfl rfl rfl rfl rfl rfl
theorem KeepsBounds.modCtl (f : StoreController → StoreController) : KeepsBounds a (s.modCtl f) := h.same rfl rfl rfl rfl rfl rfl
theorem KeepsBounds.modNv (f : Memory → Memory) : KeepsBounds a (s.modNv f) := h.same rfl rfl rfl rfl rfl rfl
theorem KeepsBounds.modRules (f : Vector Rule 32 → Vector Rule 32) : KeepsBounds a (s.modRules f) := h.same rfl rfl rfl rfl rfl rfl
theorem KeepsBounds.modSign (f : SignService → SignService) : KeepsBounds a (s.modSign f) := h.same rfl rfl rfl rfl rfl rfl
theorem KeepsBounds.modLane (i : Fin 64) (f : LaneEntry → LaneEntry) : KeepsBounds a (s.modLane i f) := h.same rfl rfl rfl rfl rfl rfl
theorem KeepsBounds.modStation (i : Fin 32) (f : Station → Station) : KeepsBounds a (s.modStation i f) := h.same rfl rfl rfl rfl rfl rfl
theorem KeepsBounds.modDrop (d : Fin 4) (f : Drop → Drop) : KeepsBounds a (s.modDrop d f) := h.same rfl rfl rfl rfl rfl rfl
theorem KeepsBounds.modRule (i : Fin 32) (f : Rule → Rule) : KeepsBounds a (s.modRule i f) := h.same rfl rfl rfl rfl rfl rfl
theorem KeepsBounds.modSignRec (k : Fin 12) (f : Sign → Sign) : KeepsBounds a (s.modSignRec k f) := h.same rfl rfl rfl rfl rfl rfl
theorem KeepsBounds.modPort (p : Side) (f : RxPort → RxPort) : KeepsBounds a (s.modPort p f) := h.same rfl rfl rfl rfl rfl rfl
theorem KeepsBounds.spend (n : Nat) : KeepsBounds a (s.spend n) := h.same rfl rfl rfl rfl rfl rfl
theorem KeepsBounds.reach (n : Nat) : KeepsBounds a (s.reach n) := h.same rfl rfl rfl rfl rfl rfl

theorem KeepsBounds.modRing (f : RingTransit → RingTransit) (hf : s.queuesOk = true → (s.modRing f).queuesOk = true) :
    KeepsBounds a (s.modRing f) :=
  ⟨fun x => hf (h.queues x), h.agent, h.jrnl, h.wait, h.bad, h.window, h.slots, h.voice⟩

theorem KeepsBounds.modOut (p : Side) (f : OutPort → OutPort) : KeepsBounds a (s.modOut p f) := h.modRing _ id

theorem KeepsBounds.modAgent (f : Agent → Agent) (hf : s.agentBounded = true → (s.modAgent f).agentBounded = true) :
    KeepsBounds a (s.modAgent f) :=
  ⟨h.queues, fun x => hf (h.agent x), h.jrnl, h.wait, h.bad, h.window, h.slots, h.voice⟩

theorem KeepsBounds.modJrnl (f : Journal → Journal) (hf : s.jrnl.Within (f s.jrnl)) : KeepsBounds a (s.modJrnl f) :=
  ⟨h.queues, h.agent, fun x => hf.bounded (h.jrnl x), h.wait, fun x => hf.bad (h.bad x), h.window, h.slots, h.voice⟩

theorem KeepsBounds.modCalls (f : CallEngine → CallEngine) (hw : s.calls.waitList.length ≤ 32 → (f s.calls).waitList.length ≤ 32)
    (hv : s.voiceOk = true → (s.modCalls f).voiceOk = true) : KeepsBounds a (s.modCalls f) :=
  ⟨h.queues, h.agent, h.jrnl, fun x => hw (h.wait x), h.bad, h.window, h.slots, fun x => hv (h.voice x)⟩

theorem KeepsBounds.modSup (f : Supply → Supply) (hf : s.sup.window.length ≤ 8 → (f s.sup).window.length ≤ 8) :
    KeepsBounds a (s.modSup f) :=
  ⟨h.queues, h.agent, h.jrnl, h.wait, h.bad, fun x => hf (h.window x), h.slots, h.voice⟩

theorem KeepsBounds.modSlots (f : Vector ReductionSlot 8 → Vector ReductionSlot 8)
    (hf : ∀ k : Fin 8, s.slots[k].windowsOk = true → (f s.slots)[k].windowsOk = true) : KeepsBounds a (s.modSlots f) :=
  ⟨h.queues, h.agent, h.jrnl, h.wait, h.bad, h.window, fun k x => hf k (h.slots k x), h.voice⟩

theorem KeepsBounds.modSlot (k : Fin 8) (f : ReductionSlot → ReductionSlot)
    (hf : s.slots[k].windowsOk = true → (f s.slots[k]).windowsOk = true) : KeepsBounds a (s.modSlot k f) := by
  refine h.modSlots _ fun i hi => ?_
  rw [updAt_get]
  split
  next e => subst e; exact hf hi
  next => exact hi

/-- A change of one record that keeps its play-out law. -/
theorem KeepsBounds.modRecord (r : Fin 16) (f : CallRecord → CallRecord)
    (hf : s.calls.records[r].voice.lawful = true → (f s.calls.records[r]).voice.lawful = true) : KeepsBounds a (s.modRecord r f) := by
  refine h.modCalls _ id fun hv => ?_
  unfold State.voiceOk at hv ⊢
  rw [List.all_eq_true] at hv ⊢
  intro x hx
  obtain ⟨i, hi, rfl⟩ := Vector.getElem_of_mem (Vector.mem_toList_iff.mp hx)
  show ((updAt s.calls.records r f)[(⟨i, hi⟩ : Fin 16)]).voice.lawful = true
  have hold (j : Fin 16) : s.calls.records[j].voice.lawful = true :=
    hv _ (Vector.mem_toList_iff.mpr (Vector.getElem_mem j.isLt))
  rw [updAt_get]
  split
  next e => subst e; exact hf (hold _)
  next => exact hold _

/-- A change of one station's answers that leaves at most 4. -/
theorem KeepsBounds.modAnswers (i : Fin 32) (f : List AnswerEntry → List AnswerEntry)
    (hf : (s.jrnl.answers[i]).length ≤ 4 → (f s.jrnl.answers[i]).length ≤ 4) : KeepsBounds a (s.modAnswers i f) := by
  refine h.modJrnl _ ⟨id, fun hold j => ?_, id, id, id, id⟩
  show ((updAt s.jrnl.answers i f)[j]).length ≤ 4
  rw [updAt_get]
  split
  next e => subst e; exact hf (hold _)
  next => exact hold _

end

/-- A loop whose step keeps the bounds. -/
theorem KeepsBounds.forEach {α : Type} {a : State} {f : α → State → State} (hf : ∀ x s, KeepsBounds a s → KeepsBounds a (f x s))
    (l : List α) : ∀ {s : State}, KeepsBounds a s → KeepsBounds a (s.forEach l f) := by
  induction l with
  | nil => exact fun h => h
  | cons x l ih => exact fun h => ih (hf x _ h)

/-! ### Queues -/

theorem State.queuesOk_iff (s : State) : s.queuesOk = true ↔ s.ring.buffers.cw.length ≤ 32 ∧ s.ring.buffers.ccw.length ≤ 32 ∧
    s.ring.rq.length ≤ 4 ∧ ∀ q : LocalQueue, (s.ring.queue q).length ≤ q.capacity := by
  simp only [State.queuesOk, Bool.and_eq_true, decide_eq_true_eq]
  constructor
  · rintro ⟨⟨⟨⟨⟨⟨h1, h2⟩, h3⟩, h4⟩, h5⟩, h6⟩, h7⟩
    refine ⟨h1, h2, h3, fun q => ?_⟩
    cases q <;> assumption
  · rintro ⟨h1, h2, h3, h4⟩
    exact ⟨⟨⟨⟨⟨⟨h1, h2⟩, h3⟩, h4 .eq⟩, h4 .tq⟩, h4 .mq⟩, h4 .aq⟩

/-- A block that a queue takes leaves it within its capacity. -/
theorem KeepsBounds.join {a s : State} {q : LocalQueue} {b : Block} (ht : s.takes q = true) (h : KeepsBounds a s) :
    KeepsBounds a (s.join q b) := by
  refine h.modRing _ fun hq => ?_
  obtain ⟨-, -, hroom⟩ := (s.takes_iff q).mp ht
  rw [State.queuesOk_iff] at hq ⊢
  obtain ⟨h1, h2, h3, h4⟩ := hq
  have hkept : (s.ring.push q (s.completed b)).buffers = s.ring.buffers ∧ (s.ring.push q (s.completed b)).rq = s.ring.rq := by
    cases q <;> exact ⟨rfl, rfl⟩
  refine ⟨hkept.1 ▸ h1, hkept.1 ▸ h2, hkept.2 ▸ h3, fun q' => ?_⟩
  show ((s.ring.push q (s.completed b)).queue q').length ≤ q'.capacity
  by_cases e : q = q'
  · subst e
    rw [RingTransit.push_queue, List.length_append, List.length_singleton]
    exact hroom
  · rw [RingTransit.push_other _ _ _ _ e]
    exact h4 q'

theorem KeepsBounds.offerRing {a s : State} (p : Side) (st : BitVec 4) (body : List Byte) (h : KeepsBounds a s) :
    KeepsBounds a (s.offerRing p st body) := by
  unfold State.offerRing
  split
  next hroom =>
    refine h.modRing _ fun hq => ?_
    rw [State.queuesOk_iff] at hq ⊢
    obtain ⟨h1, h2, -, h4⟩ := hq
    refine ⟨h1, h2, ?_, h4⟩
    show (s.ring.rq ++ [_]).length ≤ 4
    rw [List.length_append]
    exact hroom
  next => exact h.modRing _ id

/-- A transit buffer set to at most 32 blocks. -/
theorem KeepsBounds.setBuffer {a s : State} (d : Dir) (l : List Block)
    (hl : (s.ring.buffers.get d).length ≤ 32 → l.length ≤ 32) (h : KeepsBounds a s) : KeepsBounds a (s.setBuffer d l) := by
  refine h.modRing _ fun hq => ?_
  rw [State.queuesOk_iff] at hq ⊢
  obtain ⟨h1, h2, h3, h4⟩ := hq
  cases d
  · exact ⟨hl h1, h2, h3, h4⟩
  · exact ⟨h1, hl h2, h3, h4⟩

/-- R14: the head of one queue leaves, and the other queues stay. -/
theorem RingTransit.pop_queue (r : RingTransit) (q q' : LocalQueue) :
    (r.pop q).queue q' = if q = q' then (r.queue q').drop 1 else r.queue q' := by
  cases q <;> cases q' <;> rfl

theorem RingTransit.pop_kept (r : RingTransit) (q : LocalQueue) : (r.pop q).buffers = r.buffers ∧ (r.pop q).rq = r.rq := by
  cases q <;> exact ⟨rfl, rfl⟩

/-- The queues after a head has left one. -/
theorem KeepsBounds.pop {a s : State} (q : LocalQueue) (h : KeepsBounds a s) : KeepsBounds a (s.modRing (·.pop q)) := by
  refine h.modRing _ fun hq => ?_
  rw [State.queuesOk_iff] at hq ⊢
  obtain ⟨h1, h2, h3, h4⟩ := hq
  obtain ⟨hb, hr⟩ := s.ring.pop_kept q
  refine ⟨hb ▸ h1, hb ▸ h2, hr ▸ h3, fun q' => ?_⟩
  show ((s.ring.pop q).queue q').length ≤ q'.capacity
  rw [RingTransit.pop_queue]
  split
  · rw [List.length_drop]
    exact (Nat.sub_le _ _).trans (h4 q')
  · exact h4 q'

/-! ### The agent -/

theorem State.agentBounded_iff (s : State) :
    s.agentBounded = true ↔ s.agent.intake.length ≤ 4 ∧ s.agent.notices.length ≤ 16 := by
  simp only [State.agentBounded, Bool.and_eq_true, decide_eq_true_eq]

theorem KeepsBounds.passNotice {a s : State} (ht : s.takes .mq = true) (h : KeepsBounds a s) : KeepsBounds a s.passNotice := by
  unfold State.passNotice
  split
  · exact h
  next hn =>
    refine (h.join ht).modAgent _ fun hb => ?_
    rw [State.agentBounded_iff] at hb ⊢
    obtain ⟨hi, hl⟩ := hb
    refine ⟨hi, ?_⟩
    rw [show (s.join .mq _).agent.notices = s.agent.notices from rfl, hn, List.length_cons] at hl
    exact Nat.le_of_succ_le hl

theorem KeepsBounds.notify {a s : State} (b : NoticeBody) (h : KeepsBounds a s) : KeepsBounds a (s.notify b) := by
  have hoffer {s : State} (h : KeepsBounds a s) : KeepsBounds a s.offerNotice := by
    unfold State.offerNotice
    split
    next ht => exact h.passNotice ht
    next => exact h
  unfold State.notify
  split
  · exact h
  · dsimp only
    split
    next hroom =>
      have hqueued : KeepsBounds a (s.modAgent fun x => { x with serial := x.serial + 1, notices := x.notices ++
          [{ serial := x.serial, time := s.now % 4294967296, body := b }], queued := bump x.queued }) := by
        refine h.modAgent _ fun hb => ?_
        rw [State.agentBounded_iff] at hb ⊢
        refine ⟨hb.1, ?_⟩
        show (s.agent.notices ++ [_]).length ≤ 16
        rw [List.length_append]
        exact hroom
      split
      · exact hoffer hqueued
      · exact hqueued
    next => exact h.modAgent _ id

end Sys2Proof.Machine
end

section
/-! PROOFS. Each operation of the node keeps the bounds. -/

namespace Sys2Proof.Machine

theorem KeepsBounds.putSlot {a s : State} (slot : Nat) (l : List Byte) (h : KeepsBounds a s) :
    KeepsBounds a (s.putSlot slot l) := by
  unfold State.putSlot
  repeat' first | with_reducible assumption | with_reducible apply KeepsBounds.modNv

theorem KeepsBounds.putMark {a s : State} (slot : Nat) (mark : Byte) (h : KeepsBounds a s) :
    KeepsBounds a (s.putMark slot mark) := by
  unfold State.putMark
  repeat' first | with_reducible assumption | with_reducible apply KeepsBounds.modNv

theorem KeepsBounds.afterRead {a s : State} (slot : Nat) (got : ReadBack) (h : KeepsBounds a s) :
    KeepsBounds a (s.afterRead slot got) := by
  unfold State.afterRead
  repeat' first | with_reducible assumption | with_reducible apply KeepsBounds.putSlot | split

theorem KeepsBounds.startStep {a s : State} (op : StoreOp) (h : KeepsBounds a s) :
    KeepsBounds a (s.startStep op) := by
  unfold State.startStep
  repeat' first | with_reducible assumption | with_reducible apply KeepsBounds.modCtl

theorem KeepsBounds.startOp {a s : State} (op : StoreOp) (h : KeepsBounds a s) :
    KeepsBounds a (s.startOp op) := by
  unfold State.startOp
  repeat' first | with_reducible assumption | with_reducible apply KeepsBounds.startStep | with_reducible apply KeepsBounds.modCtl

/-- R99: what a commit's start leaves of staging. -/
theorem Journal.takeCommit_within (j : Journal) : j.Within j.takeCommit := by
  unfold Journal.takeCommit
  split
  · exact ⟨id, id, id, id, id, id⟩
  · split
    · exact .refl j
    next hst =>
      refine ⟨fun h => ?_, id, id, id, id, id⟩
      rw [hst] at h
      exact Nat.le_of_succ_le h

theorem KeepsBounds.startCommit {a s : State} (h : KeepsBounds a s) : KeepsBounds a s.startCommit := by
  have htaken := h.modJrnl (fun j => let j1 := j.takeCommit; { j1 with pendingMarks := j1.pendingMarks.filter (· != j1.cursor) })
    (s.jrnl.takeCommit_within.trans ⟨id, id, id, id, id, id⟩)
  unfold State.startCommit
  dsimp only
  split
  · exact htaken
  · exact htaken.startOp _

/-- A change of the phases alone leaves the bounds. -/
theorem Journal.within_mapReadAhead (j : Journal) (f : ReadAhead → ReadAhead) :
    j.Within { j with readAhead := j.readAhead.map f } := by
  refine ⟨id, id, id, fun h => ?_, fun h => ?_, id⟩
  · rw [List.length_map]; exact h
  · rw [List.length_map]; exact h

theorem KeepsBounds.startRead {a s : State} (serial : Nat) (rest : List Nat) (h : KeepsBounds a s) :
    KeepsBounds a (s.startRead serial rest) := by
  have hreq := h.modCtl fun c => { c with requests := rest }
  unfold State.startRead
  dsimp only
  split
  · exact hreq
  · exact (hreq.modJrnl _ (Journal.within_mapReadAhead _ _)).startOp _

theorem KeepsBounds.startSave {a s : State} (sv : Save) (h : KeepsBounds a s) :
    KeepsBounds a (s.startSave sv) := by
  unfold State.startSave
  repeat' first | with_reducible assumption | with_reducible apply KeepsBounds.startOp | split

theorem KeepsBounds.storeKick {a s : State} (h : KeepsBounds a s) :
    KeepsBounds a (s.storeKick) := by
  unfold State.storeKick
  repeat' first | with_reducible assumption | with_reducible apply KeepsBounds.startRead | with_reducible apply KeepsBounds.startOp | with_reducible apply KeepsBounds.startCommit | with_reducible apply KeepsBounds.startSave | split

theorem KeepsBounds.scanRead {a s : State} (slot : Nat) (h : KeepsBounds a s) :
    KeepsBounds a (s.scanRead slot) := by
  unfold State.scanRead
  repeat' first | with_reducible assumption | with_reducible apply KeepsBounds.startStep

theorem KeepsBounds.endOp {a s : State} (h : KeepsBounds a s) :
    KeepsBounds a (s.endOp) := by
  unfold State.endOp
  dsimp only
  repeat' first | with_reducible assumption | with_reducible apply KeepsBounds.modCtl | with_reducible apply KeepsBounds.scanRead | split

theorem KeepsBounds.startVerify {a s : State} (slot : Nat) (bytes : List Byte) (op : StoreOp) (h : KeepsBounds a s) :
    KeepsBounds a (s.startVerify slot bytes op) := by
  unfold State.startVerify
  repeat' first | with_reducible assumption | with_reducible apply KeepsBounds.putSlot | with_reducible apply KeepsBounds.startStep

theorem KeepsBounds.deliverVerdict {a s : State} (t : Txn) (v : Verdict) (h : KeepsBounds a s) :
    KeepsBounds a (s.deliverVerdict t v) := by
  unfold State.deliverVerdict
  split
  · exact h.modAnswers _ _ fun hl => by rw [settleEntry, List.length_map]; exact hl
  · exact h.modJrnl _ ⟨id, id, id, id, id, id⟩

theorem KeepsBounds.emptyAnswers {a s : State} (slot : Fin 32) (h : KeepsBounds a s) : KeepsBounds a (s.emptyAnswers slot) := by
  unfold State.emptyAnswers
  refine (h.modAnswers slot _ fun _ => Nat.zero_le _).modJrnl _ ⟨fun hl => ?_, id, id, id, id, id⟩
  rw [List.length_map]
  exact hl

theorem Journal.within_noReadAhead (j : Journal) : j.Within { j with readAhead := [] } :=
  ⟨id, id, id, fun _ => Nat.zero_le _, fun h => (Nat.le_add_right _ _).trans h, id⟩

theorem KeepsBounds.emptyReadAhead {a s : State} (h : KeepsBounds a s) : KeepsBounds a s.emptyReadAhead :=
  (h.modCtl _).modJrnl _ (Journal.within_noReadAhead _)

/-- R104: the terms for a further READ leave room for it. -/
theorem KeepsBounds.requestRead {a s : State} (serial : Nat) (hm : s.jrnl.mayRequest = true) (h : KeepsBounds a s) :
    KeepsBounds a (s.requestRead serial) := by
  simp only [Journal.mayRequest, Bool.and_eq_true, decide_eq_true_eq] at hm
  obtain ⟨⟨⟨-, -⟩, hroom⟩, hway⟩ := hm
  refine KeepsBounds.storeKick ((h.modJrnl _ ⟨id, id, id, fun _ => ?_, fun _ => ?_, id⟩).modCtl _)
  · rw [List.length_append]; exact hroom
  · rw [List.length_append, ← Nat.add_assoc]; exact hway

theorem KeepsBounds.requestReadsUpTo {a : State} (n : Nat) : ∀ {s : State}, KeepsBounds a s → KeepsBounds a (s.requestReadsUpTo n) := by
  induction n with
  | zero => exact fun h => h
  | succ n ih =>
    intro s h
    unfold State.requestReadsUpTo
    split
    next hm =>
      split
      · exact h
      · exact ih (h.requestRead _ hm)
    · exact h

theorem KeepsBounds.requestReads {a s : State} (h : KeepsBounds a s) :
    KeepsBounds a (s.requestReads) := by
  unfold State.requestReads
  repeat' first | with_reducible assumption | with_reducible apply KeepsBounds.requestReadsUpTo

/-- R105: a record that passes from the read-ahead buffer to those on their way. -/
theorem Journal.sentOne_within {j : Journal} {x : ReadAhead} {rest : List ReadAhead} (hx : j.readAhead = x :: rest) (k n : Nat) :
    j.Within (j.sentOne k rest n) := by
  refine ⟨id, id, fun h => (Nat.sub_le _ _).trans h, fun h => ?_, fun h => ?_, id⟩
  · rw [hx] at h
    exact Nat.le_of_succ_le h
  · rw [hx, List.length_cons] at h
    show (j.inTransit ++ [_]).length + rest.length ≤ 64
    rw [List.length_append, List.length_singleton]
    omega

theorem KeepsBounds.offerTollsUpTo {a : State} (n : Nat) : ∀ {s : State}, KeepsBounds a s → KeepsBounds a (s.offerTollsUpTo n) := by
  induction n with
  | zero => exact fun h => h
  | succ n ih =>
    intro s h
    unfold State.offerTollsUpTo
    split
    · exact h
    next hx =>
      split
      · split
        next ht => exact ih (((h.join ht).modJrnl (fun j => j.sentOne _ _ s.now) (Journal.sentOne_within hx _ _)).requestReads)
        next => exact h
      · exact h

theorem KeepsBounds.offerTolls {a s : State} (h : KeepsBounds a s) :
    KeepsBounds a (s.offerTolls) := by
  unfold State.offerTolls
  repeat' first | with_reducible assumption | with_reducible apply KeepsBounds.offerTollsUpTo

theorem KeepsBounds.revert {a s : State} (h : KeepsBounds a s) : KeepsBounds a s.revert :=
  KeepsBounds.requestReads ((h.modCtl _).modJrnl _ ⟨id, id, id, fun _ => Nat.zero_le _, fun _ => Nat.zero_le _, id⟩)

theorem KeepsBounds.retime {a s : State} (h : KeepsBounds a s) :
    KeepsBounds a (s.retime) := by
  unfold State.retime
  repeat' first | with_reducible assumption | with_reducible apply KeepsBounds.revert | split

theorem KeepsBounds.testFull {a s : State} (h : KeepsBounds a s) :
    KeepsBounds a (s.testFull) := by
  unfold State.testFull
  repeat' first | with_reducible assumption | exact ⟨id, id, id, id, id, id⟩ | with_reducible apply KeepsBounds.modJrnl | with_reducible apply KeepsBounds.notify | split

theorem KeepsBounds.testHighMark {a s : State} (h : KeepsBounds a s) :
    KeepsBounds a (s.testHighMark) := by
  unfold State.testHighMark
  repeat' first | with_reducible assumption | exact ⟨id, id, id, id, id, id⟩ | with_reducible apply KeepsBounds.modJrnl | with_reducible apply KeepsBounds.notify | split

/-- R97: an entry into HALTED empties staging and keeps some of the answers. -/
theorem Journal.halt_within (j : Journal) : j.Within j.halt := by
  refine ⟨fun _ => Nat.zero_le _, fun h i => ?_, id, id, id, id⟩
  show ((Vector.ofFn fun i : Fin 32 => j.answers[i].filter (j.keepsEntry i))[i]).length ≤ 4
  rw [Fin.getElem_fin, Vector.getElem_ofFn]
  exact (List.length_filter_le _ _).trans (h i)

theorem KeepsBounds.journalHoldup {a s : State} (h : KeepsBounds a s) : KeepsBounds a s.journalHoldup := by
  unfold State.journalHoldup
  split
  · exact h.modJrnl _ (Journal.halt_within _)
  · exact h

theorem KeepsBounds.journalHoldupEnds {a s : State} (h : KeepsBounds a s) :
    KeepsBounds a (s.journalHoldupEnds) := by
  unfold State.journalHoldupEnds
  repeat' first | with_reducible assumption | exact ⟨id, id, id, id, id, id⟩ | with_reducible apply KeepsBounds.modJrnl | with_reducible apply KeepsBounds.storeKick | split

theorem KeepsBounds.journalFault {a s : State} (cause : StoreCause) (h : KeepsBounds a s) : KeepsBounds a (s.journalFault cause) := by
  have hst := h.forEach (fun t _ hs => hs.deliverVerdict t .deferred) s.jrnl.staging
  unfold State.journalFault
  split
  · exact h
  · refine KeepsBounds.notify _ (KeepsBounds.modJrnl (KeepsBounds.emptyReadAhead ?_) _
      ⟨fun _ => Nat.zero_le _, id, fun _ => Nat.zero_le _, id, fun hw => ?_, id⟩)
    · split
      · exact hst.deliverVerdict _ _
      · exact hst
    · exact (Nat.add_le_add_right (Nat.zero_le _) _).trans hw

theorem KeepsBounds.giveVerdict {a s : State} (slot : Fin 32) (number : BitVec 16) (v : Verdict) (h : KeepsBounds a s) :
    KeepsBounds a (s.giveVerdict slot number v) := by
  have hcount := h.modJrnl (fun j => { j with ctr := match v with
    | .refusedFull => { j.ctr with refusedFull := bump j.ctr.refusedFull }
    | _ => { j.ctr with deferred := bump j.ctr.deferred } }) ⟨id, id, id, id, id, id⟩
  unfold State.giveVerdict
  dsimp only
  split_ifs with hroom
  · exact hcount.modAnswers slot _ fun _ => by rw [List.length_append]; exact hroom
  · exact hcount.modJrnl _ ⟨id, id, id, id, id, id⟩

theorem KeepsBounds.judgeTxn {a s : State} (slot : Fin 32) (drop : Fin 4) (address : BitVec 5) (number : BitVec 16)
    (body : List Byte) (h : KeepsBounds a s) : KeepsBounds a (s.judgeTxn slot drop address number body) := by
  unfold State.judgeTxn
  split
  case h_5 =>
    split
    next hroom =>
      obtain ⟨hst, -, hans⟩ := hroom
      refine KeepsBounds.storeKick ((h.modAnswers slot _ fun _ => ?_).modJrnl _ ⟨fun _ => ?_, id, id, id, id, id⟩)
      · rw [List.length_append]; exact hans
      · show (s.jrnl.staging ++ [_]).length ≤ 32
        rw [List.length_append]; exact hst
    next => exact h.giveVerdict _ _ _
  all_goals exact h.giveVerdict _ _ _

theorem KeepsBounds.takeTxn {a s : State} (slot : Fin 32) (drop : Fin 4) (address : BitVec 5) (number : BitVec 16)
    (body : List Byte) (h : KeepsBounds a s) : KeepsBounds a (s.takeTxn slot drop address number body) := by
  unfold State.takeTxn
  split
  · exact h.modJrnl _ ⟨id, id, id, id, id, id⟩
  · exact (h.modAnswers slot _ fun hl => (List.length_filter_le _ _).trans hl).judgeTxn _ _ _ _ _

theorem KeepsBounds.carryAnswers {a s : State} (slot : Fin 32) (h : KeepsBounds a s) : KeepsBounds a (s.carryAnswers slot) :=
  h.modAnswers slot _ fun hl => by rw [List.length_map]; exact hl

theorem KeepsBounds.answersOutcome {a s : State} (slot : Fin 32) (good : Bool) (h : KeepsBounds a s) :
    KeepsBounds a (s.answersOutcome slot good) := by
  unfold State.answersOutcome
  split
  · exact (h.modAnswers slot _ fun hl => (List.length_filter_le _ _).trans hl).modJrnl _ ⟨id, id, id, id, id, id⟩
  · exact h.modAnswers slot _ fun hl => by rw [List.length_map]; exact hl

theorem KeepsBounds.commitSucceeds {a s : State} (x : InHand) (h : KeepsBounds a s) : KeepsBounds a (s.commitSucceeds x) :=
  KeepsBounds.requestReads (KeepsBounds.testHighMark (KeepsBounds.testFull
    (KeepsBounds.deliverVerdict _ _ (h.modJrnl _ ⟨id, id, id, id, id, id⟩))))

theorem KeepsBounds.commitMismatches {a s : State} (x : InHand) (h : KeepsBounds a s) : KeepsBounds a (s.commitMismatches x) := by
  unfold State.commitMismatches
  split
  · exact h.journalFault _
  next hroom =>
    refine KeepsBounds.testFull (h.modJrnl _ ⟨id, id, id, id, id, fun _ => ?_⟩)
    show (s.jrnl.bad ++ [_]).length ≤ 64
    rw [List.length_append]
    exact not_le.mp hroom

theorem KeepsBounds.readDone {a s : State} (serial slot : Nat) (l : List Byte) (h : KeepsBounds a s) :
    KeepsBounds a (s.readDone serial slot l) := by
  unfold State.readDone
  split
  · exact KeepsBounds.offerTolls (h.modJrnl _ (Journal.within_mapReadAhead _ _))
  · exact KeepsBounds.storeKick ((h.modJrnl _ ((Journal.within_mapReadAhead _ _).trans ⟨id, id, id, id, id, id⟩)).modCtl _)

theorem KeepsBounds.releaseOldest {a s : State} (h : KeepsBounds a s) : KeepsBounds a s.releaseOldest := by
  unfold State.releaseOldest
  split
  · exact h
  · exact KeepsBounds.storeKick ((h.modCtl _).modJrnl _ ⟨id, id, id, fun hr => (List.length_filter_le _ _).trans hr,
      fun hw => (Nat.add_le_add (List.length_filter_le _ _) (List.length_filter_le _ _)).trans hw, id⟩)

theorem KeepsBounds.release {a : State} (n : Nat) : ∀ {s : State}, KeepsBounds a s → KeepsBounds a (s.release n) := by
  induction n with
  | zero => exact fun h => h
  | succ n ih => exact fun h => ih h.releaseOldest

theorem KeepsBounds.testReopened {a s : State} (h : KeepsBounds a s) :
    KeepsBounds a (s.testReopened) := by
  unfold State.testReopened
  repeat' first | with_reducible assumption | exact ⟨id, id, id, id, id, id⟩ | with_reducible apply KeepsBounds.modJrnl | with_reducible apply KeepsBounds.storeKick | split

theorem KeepsBounds.ack {a s : State} (k : Nat) (h : KeepsBounds a s) : KeepsBounds a (s.ack k) := by
  have hrearm (j : Journal) : j.Within j.rearm := by
    unfold Journal.rearm
    split
    · exact ⟨id, id, id, id, id, id⟩
    · exact .refl j
  unfold State.ack
  split
  · exact h.modJrnl _ ⟨id, id, id, id, id, id⟩
  · exact ((((h.release _).retime).testReopened).modJrnl _ (hrearm _)).requestReads.offerTolls

theorem KeepsBounds.pull {a s : State} (c : Nat) (h : KeepsBounds a s) : KeepsBounds a (s.pull c) :=
  KeepsBounds.requestReads (h.modJrnl _ ⟨id, id, fun _ => min_le_left _ _, id, id, id⟩)

theorem KeepsBounds.drainEnd {a s : State} (h : KeepsBounds a s) : KeepsBounds a s.drainEnd :=
  h.emptyReadAhead.modJrnl _ ⟨id, id, fun _ => Nat.zero_le _, id, id, id⟩

theorem KeepsBounds.controlDiscarded {a s : State} (h : KeepsBounds a s) :
    KeepsBounds a (s.controlDiscarded) := by
  unfold State.controlDiscarded
  repeat' first | with_reducible assumption | exact ⟨id, id, id, id, id, id⟩ | with_reducible apply KeepsBounds.modJrnl

theorem KeepsBounds.takeTollControl {a s : State} (b : Block) (h : KeepsBounds a s) :
    KeepsBounds a (s.takeTollControl b) := by
  unfold State.takeTollControl
  repeat' first | with_reducible assumption | with_reducible apply KeepsBounds.controlDiscarded | with_reducible apply KeepsBounds.pull | with_reducible apply KeepsBounds.ack | with_reducible apply KeepsBounds.drainEnd | split

theorem KeepsBounds.journalIsolated {a s : State} (handed : List Nat) (h : KeepsBounds a s) :
    KeepsBounds a (s.journalIsolated handed) :=
  KeepsBounds.retime (h.emptyReadAhead.modJrnl _ ⟨id, id, fun _ => Nat.zero_le _, id,
    fun hw => (Nat.add_le_add_right (List.length_filter_le _ _) _).trans hw, id⟩)

/-- R112: a RESTART from FAULT drops the view with its lists. -/
theorem Journal.reopen_within (j : Journal) : j.Within j.reopen := by
  unfold Journal.reopen
  split
  · exact ⟨id, id, id, fun _ => Nat.zero_le _, fun _ => Nat.zero_le _, fun _ => Nat.zero_le _⟩
  · exact .refl j

theorem KeepsBounds.restartJournal {a s : State} (h : KeepsBounds a s) : KeepsBounds a s.restartJournal := by
  refine h.emptyReadAhead.modJrnl _ ((Journal.reopen_within _).trans ⟨fun _ => Nat.zero_le _, fun _ i => ?_,
    fun _ => Nat.zero_le _, id, fun hw => ?_, id⟩)
  · rw [Fin.getElem_fin, Vector.getElem_replicate]
    exact Nat.zero_le _
  · exact (Nat.add_le_add_right (Nat.zero_le _) _).trans hw

theorem KeepsBounds.countVoice {a s : State} (r : Fin 16) (f : VoiceCounters → VoiceCounters) (h : KeepsBounds a s) :
    KeepsBounds a (s.countVoice r f) :=
  (h.modRecord r _ id).modCalls _ id id

theorem KeepsBounds.modVoice {a s : State} (r : Fin 16) (f : VoiceFields → VoiceFields)
    (hf : s.calls.records[r].voice.lawful = true → (f s.calls.records[r].voice).lawful = true) (h : KeepsBounds a s) :
    KeepsBounds a (s.modVoice r f) :=
  h.modRecord r _ hf

theorem KeepsBounds.captureBlock {a s : State} (r : Fin 16) (samples : List Byte) (h : KeepsBounds a s) :
    KeepsBounds a (s.captureBlock r samples) := by
  unfold State.captureBlock
  repeat' first | with_reducible assumption | with_reducible apply KeepsBounds.countVoice | with_reducible apply KeepsBounds.join | split

theorem KeepsBounds.voiceOutcome {a s : State} (slot : Fin 32) (o : VoiceOutcome) (h : KeepsBounds a s) :
    KeepsBounds a (s.voiceOutcome slot o) := by
  unfold State.voiceOutcome
  split
  · exact h.modCalls _ id id
  · refine KeepsBounds.modVoice _ _ (fun hl => hl) ?_
    split
    · split
      · exact h.captureBlock _ _
      · exact h.countVoice _ _
    · exact h

/-- R79, R87: the giving of a frame. -/
theorem KeepsBounds.playStep {a s : State} (r : Fin 16) (h : KeepsBounds a s) : KeepsBounds a (s.playStep r).2 := by
  unfold State.playStep
  dsimp only
  split
  · split
    · exact h
    next n hn =>
      have hplayed := h.modVoice r (fun _ => (s.calls.records[r].voice.playOut n).2) (VoiceFields.playOut_lawful hn)
      split <;> dsimp only
      · exact hplayed
      · exact hplayed.countVoice _ _
      · exact hplayed.countVoice _ _
  · exact h

/-- R84: a frame within 7 of next that the queue does not hold. -/
theorem KeepsBounds.insertVoice {a s : State} (r : Fin 16) (n : Byte) (f : VoiceFrame)
    (hq : s.calls.records[r].voice.lawful = true → InOrder n s.calls.records[r].voice.queue ∧ distance n f.seq ≤ 7 ∧
      ∀ g ∈ s.calls.records[r].voice.queue, g.seq ≠ f.seq) (h : KeepsBounds a s) : KeepsBounds a (s.insertVoice r n f) := by
  refine KeepsBounds.countVoice _ _ (h.modVoice r _ fun hl => ?_)
  obtain ⟨hord, hd, hnew⟩ := hq hl
  exact VoiceFields.insert_lawful hord hd hnew

/-- R85: the queue restarted with one frame. -/
theorem KeepsBounds.resyncVoice {a s : State} (r : Fin 16) (f : VoiceFrame) (h : KeepsBounds a s) :
    KeepsBounds a (s.resyncVoice r f) := by
  unfold State.resyncVoice
  dsimp only
  refine KeepsBounds.countVoice _ _ (h.modVoice r (fun v => { v with queue := [f], next := some f.seq, play := .prefill, rep := false })
    fun _ => (VoiceFields.lawful_some rfl).mpr ⟨fun g hg => ?_, ?_⟩)
  · rw [List.mem_singleton.mp hg, distance_self]
    exact Nat.zero_le _
  · exact List.pairwise_singleton _ _

theorem KeepsBounds.placeVoice {a s : State} (r : Fin 16) (f : VoiceFrame) (h : KeepsBounds a s) :
    KeepsBounds a (s.placeVoice r f) := by
  unfold State.placeVoice
  dsimp only
  split
  next hn =>
    refine h.insertVoice r f.seq f fun hl => ?_
    rw [(VoiceFields.lawful_none hn).mp hl, distance_self]
    exact ⟨⟨nofun, .nil⟩, Nat.zero_le _, nofun⟩
  next n hn =>
    split
    next hd =>
      split
      · exact h.countVoice _ _
      next hnew =>
        refine h.insertVoice r n f fun hl => ⟨(VoiceFields.lawful_some hn).mp hl, hd, ?_⟩
        simpa using hnew
    next =>
      split
      · exact h.resyncVoice r f
      · exact h.countVoice _ _

theorem KeepsBounds.takeVoice {a s : State} (r : Fin 16) (b : Block) (h : KeepsBounds a s) :
    KeepsBounds a (s.takeVoice r b) := by
  unfold State.takeVoice
  repeat' first | with_reducible assumption | with_reducible apply KeepsBounds.countVoice | with_reducible apply KeepsBounds.placeVoice | split

theorem KeepsBounds.countSlot {a s : State} (k : Fin 8) (f : SlotCounters → SlotCounters) (h : KeepsBounds a s) :
    KeepsBounds a (s.countSlot k f) := by
  unfold State.countSlot
  repeat' first | with_reducible assumption | exact id | with_reducible apply KeepsBounds.modSlot

theorem KeepsBounds.forwardReading {a s : State} (k : Fin 8) (drop : Fin 4) (address : BitVec 5) (x : Reading) (speed : Option Nat) (h : KeepsBounds a s) :
    KeepsBounds a (s.forwardReading k drop address x speed) := by
  unfold State.forwardReading
  repeat' first | with_reducible assumption | with_reducible apply KeepsBounds.countSlot | with_reducible apply KeepsBounds.join | split

theorem KeepsBounds.weatherOffline {a s : State} (k : Fin 8) (h : KeepsBounds a s) :
    KeepsBounds a (s.weatherOffline k) := by
  unfold State.weatherOffline
  repeat' first | with_reducible assumption | exact id | with_reducible apply KeepsBounds.modSlot | with_reducible apply KeepsBounds.notify | split

theorem KeepsBounds.countSign {a s : State} (k : Fin 12) (f : SignCounters → SignCounters) (h : KeepsBounds a s) :
    KeepsBounds a (s.countSign k f) := by
  unfold State.countSign
  repeat' first | with_reducible assumption | with_reducible apply KeepsBounds.modSignRec

theorem KeepsBounds.arbitrate {a s : State} (k : Fin 12) (h : KeepsBounds a s) :
    KeepsBounds a (s.arbitrate k) := by
  unfold State.arbitrate
  repeat' first | with_reducible assumption | with_reducible apply KeepsBounds.modSignRec

theorem KeepsBounds.arbitrateSet {a s : State} (m : BitVec 12) (h : KeepsBounds a s) :
    KeepsBounds a (s.arbitrateSet m) := by
  unfold State.arbitrateSet
  repeat' first | with_reducible assumption | with_reducible apply KeepsBounds.forEach | with_reducible apply KeepsBounds.arbitrate | intro x s h

theorem KeepsBounds.noticeRule {a s : State} (i : Fin 32) (h : KeepsBounds a s) :
    KeepsBounds a (s.noticeRule i) := by
  unfold State.noticeRule
  repeat' first | with_reducible assumption | with_reducible apply KeepsBounds.notify

theorem KeepsBounds.settle {a s : State} (also : BitVec 12) (but : Option (Fin 32)) (h : KeepsBounds a s) :
    KeepsBounds a (s.settle also but) := by
  unfold State.settle
  dsimp only
  repeat' first | with_reducible assumption | with_reducible apply KeepsBounds.modRules | with_reducible apply KeepsBounds.forEach | with_reducible apply KeepsBounds.noticeRule | with_reducible apply KeepsBounds.arbitrateSet | intro x s h

theorem KeepsBounds.evaluate {a s : State} (k : Fin 8) (h : KeepsBounds a s) :
    KeepsBounds a (s.evaluate k) := by
  unfold State.evaluate
  dsimp only
  repeat' first | with_reducible assumption | with_reducible apply KeepsBounds.modRules | with_reducible apply KeepsBounds.settle

theorem KeepsBounds.writeRule {a s : State} (i : Fin 32) (x : RuleRecord) (h : KeepsBounds a s) :
    KeepsBounds a (s.writeRule i x) := by
  unfold State.writeRule
  repeat' first | with_reducible assumption | with_reducible apply KeepsBounds.modRule | with_reducible apply KeepsBounds.settle

theorem KeepsBounds.settleAll {a s : State} (h : KeepsBounds a s) :
    KeepsBounds a (s.settleAll) := by
  unfold State.settleAll
  repeat' first | with_reducible assumption | with_reducible apply KeepsBounds.modRules | with_reducible apply KeepsBounds.arbitrateSet

theorem KeepsBounds.restartSigns {a s : State} (h : KeepsBounds a s) :
    KeepsBounds a (s.restartSigns) := by
  unfold State.restartSigns
  repeat' first | with_reducible assumption | with_reducible apply KeepsBounds.modRules | with_reducible apply KeepsBounds.settleAll

theorem KeepsBounds.modPage {a s : State} (k : Fin 12) (p : Fin 8) (f : Page → Page) (h : KeepsBounds a s) :
    KeepsBounds a (s.modPage k p f) := by
  unfold State.modPage
  repeat' first | with_reducible assumption | with_reducible apply KeepsBounds.modSignRec

theorem KeepsBounds.pageOpen {a s : State} (k : Fin 12) (p : Fin 8) (code : Byte) (h : KeepsBounds a s) :
    KeepsBounds a (s.pageOpen k p code).2 := by
  unfold State.pageOpen
  dsimp only
  repeat' first | with_reducible assumption | with_reducible apply KeepsBounds.modPage | with_reducible apply KeepsBounds.modSign | split

theorem KeepsBounds.pageData {a s : State} (k : Fin 12) (p : Fin 8) (offset : Nat) (data : List Byte) (h : KeepsBounds a s) :
    KeepsBounds a (s.pageData k p offset data).2 := by
  unfold State.pageData
  dsimp only
  repeat' first | with_reducible assumption | with_reducible apply KeepsBounds.modSign | with_reducible apply KeepsBounds.modPage | with_reducible apply KeepsBounds.arbitrate | split

theorem KeepsBounds.pageDiscard {a s : State} (k : Fin 12) (p : Fin 8) (h : KeepsBounds a s) :
    KeepsBounds a (s.pageDiscard k p).2 := by
  unfold State.pageDiscard
  repeat' first | with_reducible assumption | with_reducible apply KeepsBounds.modPage | with_reducible apply KeepsBounds.arbitrate | split

theorem KeepsBounds.signSet {a s : State} (k : Fin 12) (p : Fin 8) (priority minutes : Nat) (h : KeepsBounds a s) :
    KeepsBounds a (s.signSet k p priority minutes).2 := by
  unfold State.signSet
  dsimp only
  repeat' first | with_reducible assumption | with_reducible apply KeepsBounds.modSignRec | with_reducible apply KeepsBounds.arbitrate | split

theorem KeepsBounds.dropRequest {a s : State} (k : Fin 12) (h : KeepsBounds a s) :
    KeepsBounds a (s.dropRequest k) := by
  unfold State.dropRequest
  repeat' first | with_reducible assumption | with_reducible apply KeepsBounds.modSignRec | with_reducible apply KeepsBounds.arbitrate

theorem KeepsBounds.signCancel {a s : State} (k : Fin 12) (h : KeepsBounds a s) :
    KeepsBounds a (s.signCancel k).2 := by
  unfold State.signCancel
  repeat' first | with_reducible assumption | with_reducible apply KeepsBounds.dropRequest | split

theorem KeepsBounds.signPayload {a s : State} (k : Fin 12) (h : KeepsBounds a s) :
    KeepsBounds a (s.signPayload k).2 := by
  unfold State.signPayload
  dsimp only
  repeat' first | with_reducible assumption | with_reducible apply KeepsBounds.modSignRec

theorem KeepsBounds.signOutcome {a s : State} (k : Fin 12) (o : SignOutcome) (h : KeepsBounds a s) :
    KeepsBounds a (s.signOutcome k o) := by
  unfold State.signOutcome
  repeat' first | with_reducible assumption | with_reducible apply KeepsBounds.modSignRec

theorem KeepsBounds.relinkSign {a s : State} (k : Fin 12) (station : Option (Fin 32)) (h : KeepsBounds a s) :
    KeepsBounds a (s.relinkSign k station) := by
  unfold State.relinkSign
  repeat' first | with_reducible assumption | with_reducible apply KeepsBounds.modSignRec

theorem KeepsBounds.writeSign {a s : State} (k : Fin 12) (m : IntensityMode) (h : KeepsBounds a s) :
    KeepsBounds a (s.writeSign k m) := by
  unfold State.writeSign
  repeat' first | with_reducible assumption | with_reducible apply KeepsBounds.modSignRec | with_reducible apply KeepsBounds.arbitrate

theorem KeepsBounds.stationPayload {a s : State} (slot : Fin 32) (h : KeepsBounds a s) :
    KeepsBounds a (s.stationPayload slot).2 := by
  unfold State.stationPayload
  dsimp only
  repeat' first | with_reducible assumption | with_reducible apply KeepsBounds.carryAnswers | with_reducible apply KeepsBounds.signPayload | split

theorem KeepsBounds.voicePayload {a s : State} (slot : Fin 32) (h : KeepsBounds a s) :
    KeepsBounds a (s.voicePayload slot).2 := by
  unfold State.voicePayload
  repeat' first | with_reducible assumption | with_reducible apply KeepsBounds.playStep | split

theorem KeepsBounds.beginExchange {a s : State} (d : Fin 4) (x : Exchange) (count : DropCounters → DropCounters) (h : KeepsBounds a s) :
    KeepsBounds a (s.beginExchange d x count) := by
  unfold State.beginExchange
  repeat' first | with_reducible assumption | with_reducible apply KeepsBounds.modDrop

theorem KeepsBounds.beginBroadcast {a s : State} (d : Fin 4) (h : KeepsBounds a s) :
    KeepsBounds a (s.beginBroadcast d) := by
  unfold State.beginBroadcast
  repeat' first | with_reducible assumption | with_reducible apply KeepsBounds.modDrop | with_reducible apply KeepsBounds.beginExchange

theorem KeepsBounds.beginVoice {a s : State} (d : Fin 4) (slot : Fin 32) (h : KeepsBounds a s) :
    KeepsBounds a (s.beginVoice d slot) := by
  unfold State.beginVoice
  dsimp only
  repeat' first | with_reducible assumption | with_reducible apply KeepsBounds.voicePayload | with_reducible apply KeepsBounds.beginExchange

theorem KeepsBounds.beginPoll {a s : State} (d : Fin 4) (slot : Fin 32) (h : KeepsBounds a s) :
    KeepsBounds a (s.beginPoll d slot) := by
  unfold State.beginPoll
  dsimp only
  repeat' first | with_reducible assumption | with_reducible apply KeepsBounds.stationPayload | with_reducible apply KeepsBounds.beginExchange

theorem KeepsBounds.chooseFrom {a s : State} (d : Fin 4) (voices polls : List (Fin 32 × Nat)) (h : KeepsBounds a s) :
    KeepsBounds a (s.chooseFrom d voices polls) := by
  unfold State.chooseFrom
  repeat' first | with_reducible assumption | with_reducible apply KeepsBounds.beginBroadcast | with_reducible apply KeepsBounds.beginVoice | with_reducible apply KeepsBounds.beginPoll | split

theorem KeepsBounds.dropChoose {a s : State} (d : Fin 4) (h : KeepsBounds a s) :
    KeepsBounds a (s.dropChoose d) := by
  unfold State.dropChoose
  repeat' first | with_reducible assumption | with_reducible apply KeepsBounds.chooseFrom

theorem KeepsBounds.endChoose {a s : State} (d : Fin 4) (h : KeepsBounds a s) :
    KeepsBounds a (s.endChoose d) := by
  unfold State.endChoose
  repeat' first | with_reducible assumption | with_reducible apply KeepsBounds.chooseFrom

theorem KeepsBounds.dueComes {a s : State} (slot : Fin 32) (due : Option Nat) (h : KeepsBounds a s) :
    KeepsBounds a (s.dueComes slot due) := by
  unfold State.dueComes
  repeat' first | with_reducible assumption | with_reducible apply KeepsBounds.modStation

theorem KeepsBounds.dropsChoose {a s : State} (h : KeepsBounds a s) :
    KeepsBounds a (s.dropsChoose) := by
  unfold State.dropsChoose
  repeat' first | with_reducible assumption | with_reducible apply KeepsBounds.forEach | with_reducible apply KeepsBounds.dropChoose | intro x s h

theorem KeepsBounds.seatTaken {a s : State} (slot : Fin 32) (h : KeepsBounds a s) :
    KeepsBounds a (s.seatTaken slot) := by
  unfold State.seatTaken
  repeat' first | with_reducible assumption | with_reducible apply KeepsBounds.modStation | with_reducible apply KeepsBounds.dropChoose

theorem KeepsBounds.seatReleased {a s : State} (slot : Fin 32) (h : KeepsBounds a s) :
    KeepsBounds a (s.seatReleased slot) := by
  unfold State.seatReleased
  repeat' first | with_reducible assumption | with_reducible apply KeepsBounds.modStation

theorem KeepsBounds.countCalls {a s : State} (f : CallCounters → CallCounters) (h : KeepsBounds a s) :
    KeepsBounds a (s.countCalls f) := by
  unfold State.countCalls
  repeat' first | with_reducible assumption | exact id | with_reducible apply KeepsBounds.modCalls

theorem KeepsBounds.sendCall {a s : State} (subtype : BitVec 4) (seq : Byte) (body : List Byte) (h : KeepsBounds a s) :
    KeepsBounds a (s.sendCall subtype seq body) := by
  unfold State.sendCall
  repeat' first | with_reducible assumption | with_reducible apply KeepsBounds.countCalls | with_reducible apply KeepsBounds.join | split

theorem KeepsBounds.sendRequest {a s : State} (r : Fin 16) (h : KeepsBounds a s) :
    KeepsBounds a (s.sendRequest r) := by
  unfold State.sendRequest
  repeat' first | with_reducible assumption | with_reducible apply KeepsBounds.sendCall

theorem KeepsBounds.sendResume {a s : State} (r : Fin 16) (h : KeepsBounds a s) :
    KeepsBounds a (s.sendResume r) := by
  unfold State.sendResume
  repeat' first | with_reducible assumption | with_reducible apply KeepsBounds.sendCall

theorem KeepsBounds.sendClear {a s : State} (r : Fin 16) (reason : ClearReason) (h : KeepsBounds a s) :
    KeepsBounds a (s.sendClear r reason) := by
  unfold State.sendClear
  repeat' first | with_reducible assumption | with_reducible apply KeepsBounds.sendCall

theorem KeepsBounds.enterCalling {a s : State} (r : Fin 16) (lane : Fin 64) (h : KeepsBounds a s) :
    KeepsBounds a (s.enterCalling r lane) := by
  unfold State.enterCalling
  dsimp only
  repeat' first | with_reducible assumption | exact id | with_reducible apply KeepsBounds.modLane | with_reducible apply KeepsBounds.modCalls | with_reducible apply KeepsBounds.modRecord | with_reducible apply KeepsBounds.countCalls | with_reducible apply KeepsBounds.sendRequest

theorem KeepsBounds.tryCalling {a s : State} (r : Fin 16) (h : KeepsBounds a s) :
    KeepsBounds a (s.tryCalling r) := by
  unfold State.tryCalling
  repeat' first | with_reducible assumption | with_reducible apply KeepsBounds.enterCalling | split

theorem KeepsBounds.testSeized {a s : State} (h : KeepsBounds a s) :
    KeepsBounds a (s.testSeized) := by
  unfold State.testSeized
  repeat' first | with_reducible assumption | with_reducible apply KeepsBounds.forEach | with_reducible apply KeepsBounds.tryCalling | intro x s h

theorem KeepsBounds.seize {a s : State} (r : Fin 16) (slot : Fin 32) (h : KeepsBounds a s) :
    KeepsBounds a (s.seize r slot) := by
  unfold State.seize
  repeat' first | with_reducible assumption | exact id | with_reducible apply KeepsBounds.modRecord | with_reducible apply KeepsBounds.seatTaken

theorem KeepsBounds.leaveWaitList {a s : State} (slot : Fin 32) (h : KeepsBounds a s) : KeepsBounds a (s.leaveWaitList slot) := by
  have hleft := h.modCalls (fun c => { c with waitList := c.waitList.filter (·.slot != slot) })
    (fun hw => (List.length_filter_le _ _).trans hw) id
  unfold State.leaveWaitList
  dsimp only
  split
  · exact hleft.notify _
  · exact hleft

theorem KeepsBounds.refillOne {a s : State} (slot : Fin 32) (h : KeepsBounds a s) :
    KeepsBounds a (s.refillOne slot) := by
  unfold State.refillOne
  repeat' first | with_reducible assumption | with_reducible apply KeepsBounds.leaveWaitList | with_reducible apply KeepsBounds.seize | split

theorem KeepsBounds.refillWalk {a s : State} (h : KeepsBounds a s) :
    KeepsBounds a (s.refillWalk) := by
  unfold State.refillWalk
  repeat' first | with_reducible assumption | with_reducible apply KeepsBounds.forEach | with_reducible apply KeepsBounds.refillOne | intro x s h

theorem KeepsBounds.refill {a s : State} (h : KeepsBounds a s) :
    KeepsBounds a (s.refill) := by
  unfold State.refill
  dsimp only
  repeat' first | with_reducible assumption | with_reducible apply KeepsBounds.refillWalk | with_reducible apply KeepsBounds.testSeized | split

theorem KeepsBounds.offHook {a s : State} (slot : Fin 32) (h : KeepsBounds a s) : KeepsBounds a (s.offHook slot) := by
  unfold State.offHook
  dsimp only
  split
  · exact (h.seize _ _).testSeized
  · split
    next hroom =>
      have hlisted := h.modCalls (fun c => { c with waitList := c.waitList ++ [{ slot := slot, since := s.now }] })
        (fun _ => by rw [List.length_append]; exact hroom) id
      split
      · exact hlisted.notify _
      · exact hlisted
    next => exact h.countCalls _

theorem KeepsBounds.releaseSeat {a s : State} (r : Fin 16) (h : KeepsBounds a s) :
    KeepsBounds a (s.releaseSeat r) := by
  unfold State.releaseSeat
  repeat' first | with_reducible assumption | with_reducible apply KeepsBounds.seatReleased | split

theorem KeepsBounds.unbind {a s : State} (r : Fin 16) (h : KeepsBounds a s) :
    KeepsBounds a (s.unbind r) := by
  unfold State.unbind
  repeat' first | with_reducible assumption | with_reducible apply KeepsBounds.modLane | split

theorem KeepsBounds.clearRecord {a s : State} (r : Fin 16) (h : KeepsBounds a s) : KeepsBounds a (s.clearRecord r) :=
  ((h.releaseSeat r).unbind r).modRecord r _ fun _ => rfl

theorem KeepsBounds.freeCall {a s : State} (r : Fin 16) (h : KeepsBounds a s) :
    KeepsBounds a (s.freeCall r) := by
  unfold State.freeCall
  repeat' first | with_reducible assumption | with_reducible apply KeepsBounds.clearRecord | with_reducible apply KeepsBounds.refill | with_reducible apply KeepsBounds.testSeized

theorem KeepsBounds.clearLocal {a s : State} (r : Fin 16) (reason : ClearReason) (h : KeepsBounds a s) :
    KeepsBounds a (s.clearLocal r reason) := by
  unfold State.clearLocal
  repeat' first | with_reducible assumption | exact id | with_reducible apply KeepsBounds.releaseSeat | with_reducible apply KeepsBounds.modRecord | with_reducible apply KeepsBounds.countCalls | with_reducible apply KeepsBounds.sendClear | with_reducible apply KeepsBounds.refill

theorem KeepsBounds.clearCentre {a s : State} (r : Fin 16) (seq : Byte) (h : KeepsBounds a s) :
    KeepsBounds a (s.clearCentre r seq) := by
  unfold State.clearCentre
  repeat' first | with_reducible assumption | exact id | with_reducible apply KeepsBounds.releaseSeat | with_reducible apply KeepsBounds.modRecord | with_reducible apply KeepsBounds.countCalls | with_reducible apply KeepsBounds.sendCall | with_reducible apply KeepsBounds.refill

theorem KeepsBounds.endCall {a s : State} (r : Fin 16) (reason : ClearReason) (h : KeepsBounds a s) :
    KeepsBounds a (s.endCall r reason) := by
  unfold State.endCall
  repeat' first | with_reducible assumption | with_reducible apply KeepsBounds.freeCall | with_reducible apply KeepsBounds.clearLocal | split

theorem KeepsBounds.phoneGone {a s : State} (slot : Fin 32) (reason : ClearReason) (h : KeepsBounds a s) :
    KeepsBounds a (s.phoneGone slot reason) := by
  unfold State.phoneGone
  repeat' first | with_reducible assumption | with_reducible apply KeepsBounds.endCall | with_reducible apply KeepsBounds.leaveWaitList | split

theorem KeepsBounds.takeHook {a s : State} (slot : Fin 32) (offHook : Bool) (h : KeepsBounds a s) :
    KeepsBounds a (s.takeHook slot offHook) := by
  unfold State.takeHook
  repeat' first | with_reducible assumption | with_reducible apply KeepsBounds.offHook | with_reducible apply KeepsBounds.phoneGone | split

theorem KeepsBounds.unknownCall {a s : State} (h : KeepsBounds a s) :
    KeepsBounds a (s.unknownCall) := by
  unfold State.unknownCall
  repeat' first | with_reducible assumption | with_reducible apply KeepsBounds.countCalls

theorem KeepsBounds.lateSignal {a s : State} (h : KeepsBounds a s) :
    KeepsBounds a (s.lateSignal) := by
  unfold State.lateSignal
  repeat' first | with_reducible assumption | with_reducible apply KeepsBounds.countCalls

theorem KeepsBounds.connectCall {a s : State} (r : Fin 16) (h : KeepsBounds a s) : KeepsBounds a (s.connectCall r) :=
  (h.modRecord r _ fun _ => rfl).countCalls _

theorem KeepsBounds.queueCall {a s : State} (r : Fin 16) (h : KeepsBounds a s) :
    KeepsBounds a (s.queueCall r) := by
  unfold State.queueCall
  repeat' first | with_reducible assumption | exact id | with_reducible apply KeepsBounds.modRecord

theorem KeepsBounds.takeHeld {a s : State} (r : Fin 16) (h : KeepsBounds a s) :
    KeepsBounds a (s.takeHeld r) := by
  unfold State.takeHeld
  repeat' first | with_reducible assumption | with_reducible apply KeepsBounds.queueCall | with_reducible apply KeepsBounds.lateSignal | split

theorem KeepsBounds.takeAnswer {a s : State} (r : Fin 16) (h : KeepsBounds a s) :
    KeepsBounds a (s.takeAnswer r) := by
  unfold State.takeAnswer
  repeat' first | with_reducible assumption | with_reducible apply KeepsBounds.connectCall | with_reducible apply KeepsBounds.lateSignal | split

theorem KeepsBounds.takeClear {a s : State} (r : Fin 16) (seq : Byte) (h : KeepsBounds a s) :
    KeepsBounds a (s.takeClear r seq) := by
  unfold State.takeClear
  dsimp only
  repeat' first | with_reducible assumption | with_reducible apply KeepsBounds.clearCentre | with_reducible apply KeepsBounds.sendCall | with_reducible apply KeepsBounds.freeCall | split

theorem KeepsBounds.takeCleared {a s : State} (r : Fin 16) (h : KeepsBounds a s) :
    KeepsBounds a (s.takeCleared r) := by
  unfold State.takeCleared
  repeat' first | with_reducible assumption | with_reducible apply KeepsBounds.freeCall | with_reducible apply KeepsBounds.lateSignal | split

theorem KeepsBounds.takeCallBlock {a s : State} (b : Block) (h : KeepsBounds a s) :
    KeepsBounds a (s.takeCallBlock b) := by
  unfold State.takeCallBlock
  dsimp only
  repeat' first | with_reducible assumption | with_reducible apply KeepsBounds.unknownCall | with_reducible apply KeepsBounds.takeHeld | with_reducible apply KeepsBounds.takeAnswer | with_reducible apply KeepsBounds.takeClear | with_reducible apply KeepsBounds.takeCleared | with_reducible apply KeepsBounds.sendCall | split

theorem KeepsBounds.callingExpires {a s : State} (r : Fin 16) (h : KeepsBounds a s) :
    KeepsBounds a (s.callingExpires r) := by
  unfold State.callingExpires
  repeat' first | with_reducible assumption | exact id | with_reducible apply KeepsBounds.modRecord | with_reducible apply KeepsBounds.sendRequest | split

theorem KeepsBounds.clearingExpires {a s : State} (r : Fin 16) (h : KeepsBounds a s) :
    KeepsBounds a (s.clearingExpires r) := by
  unfold State.clearingExpires
  dsimp only
  repeat' first | with_reducible assumption | exact id | with_reducible apply KeepsBounds.modRecord | with_reducible apply KeepsBounds.sendClear | with_reducible apply KeepsBounds.freeCall | split

theorem KeepsBounds.isolatedSignals {a s : State} (r : Fin 16) (h : KeepsBounds a s) :
    KeepsBounds a (s.isolatedSignals r) := by
  unfold State.isolatedSignals
  dsimp only
  repeat' first | with_reducible assumption | exact id | with_reducible apply KeepsBounds.modRecord | with_reducible apply KeepsBounds.sendRequest | with_reducible apply KeepsBounds.sendResume | split

theorem KeepsBounds.callsIsolated {a s : State} (h : KeepsBounds a s) :
    KeepsBounds a (s.callsIsolated) := by
  unfold State.callsIsolated
  repeat' first | with_reducible assumption | exact id | with_reducible apply KeepsBounds.forEach | with_reducible apply KeepsBounds.modRecord | with_reducible apply KeepsBounds.countCalls | intro x s h

theorem KeepsBounds.callsHealed {a s : State} (h : KeepsBounds a s) :
    KeepsBounds a (s.callsHealed) := by
  unfold State.callsHealed
  repeat' first | with_reducible assumption | with_reducible apply KeepsBounds.forEach | with_reducible apply KeepsBounds.isolatedSignals | with_reducible apply KeepsBounds.testSeized | intro x s h

theorem KeepsBounds.forceClear {a s : State} (r : Fin 16) (h : KeepsBounds a s) :
    KeepsBounds a (s.forceClear r) := by
  unfold State.forceClear
  repeat' first | with_reducible assumption | exact id | with_reducible apply KeepsBounds.modRecord | with_reducible apply KeepsBounds.sendClear | with_reducible apply KeepsBounds.countCalls | split

theorem KeepsBounds.restartCalls {a s : State} (h : KeepsBounds a s) : KeepsBounds a s.restartCalls := by
  have hfreed := (h.forEach (fun r _ hs => hs.forceClear r) (List.finRange 16)).forEach (fun r _ hs => hs.clearRecord r)
    (List.finRange 16)
  have hempty {s : State} (hs : KeepsBounds a s) : KeepsBounds a (s.modCalls fun c => { c with waitList := [] }) :=
    hs.modCalls _ (fun _ => Nat.zero_le _) id
  unfold State.restartCalls
  dsimp only
  split
  · exact hempty hfreed
  · exact (hempty hfreed).notify _

theorem KeepsBounds.countDrop {a s : State} (d : Fin 4) (f : DropCounters → DropCounters) (h : KeepsBounds a s) :
    KeepsBounds a (s.countDrop d f) := by
  unfold State.countDrop
  repeat' first | with_reducible assumption | with_reducible apply KeepsBounds.modDrop

theorem KeepsBounds.noticeStation {a s : State} (x : Snapshot) (before : StationState) (h : KeepsBounds a s) :
    KeepsBounds a (s.noticeStation x before) := by
  unfold State.noticeStation
  dsimp only
  repeat' first | with_reducible assumption | with_reducible apply KeepsBounds.notify | split

theorem KeepsBounds.reportOffline {a s : State} (x : Snapshot) (before : StationState) (h : KeepsBounds a s) :
    KeepsBounds a (s.reportOffline x before) := by
  unfold State.reportOffline
  dsimp only
  repeat' first | with_reducible assumption | with_reducible apply KeepsBounds.phoneGone | with_reducible apply KeepsBounds.weatherOffline | split

/-- R133: a window after a reading. -/
theorem pushChannel_length {n : Nat} {w : List Int} (hw : w.length ≤ n) (avg x : Option Int) : (pushChannel n w avg x).1.length ≤ n := by
  cases x with
  | none => exact hw
  | some x =>
    show (pushWindow n w x).length ≤ n
    rw [pushWindow_length]
    exact min_le_right _ _

theorem ReductionSlot.windowsOk_iff (r : ReductionSlot) : r.windowsOk = true ↔
    (r.surface.length ≤ r.depth ∧ r.air.length ≤ r.depth ∧ r.humidity.length ≤ r.depth ∧ r.visibility.length ≤ r.depth ∧
      r.light.length ≤ r.depth ∧ r.wind.length ≤ r.depth) ∧ r.gust.length ≤ 8 := by
  simp only [ReductionSlot.windowsOk, Bool.and_eq_true, List.all_cons, List.all_nil, decide_eq_true_eq, and_true]

/-- R133, R135: the windows after Stages 1 to 3. -/
theorem ReductionSlot.average_windowsOk {r : ReductionSlot} (x : Reading) (h : r.windowsOk = true) : (r.average x).windowsOk = true := by
  rw [ReductionSlot.windowsOk_iff] at h ⊢
  obtain ⟨⟨h1, h2, h3, h4, h5, h6⟩, h7⟩ := h
  exact ⟨⟨pushChannel_length h1 _ _, pushChannel_length h2 _ _, pushChannel_length h3 _ _, pushChannel_length h4 _ _,
    pushChannel_length h5 _ _, h6⟩, h7⟩

/-- R135: the windows after a speed. -/
theorem ReductionSlot.pushSpeed_windowsOk {r : ReductionSlot} (v : Nat) (h : r.windowsOk = true) : (r.pushSpeed v).windowsOk = true := by
  rw [ReductionSlot.windowsOk_iff] at h ⊢
  obtain ⟨⟨h1, h2, h3, h4, h5, -⟩, -⟩ := h
  refine ⟨⟨h1, h2, h3, h4, h5, ?_⟩, ?_⟩
  · exact (pushWindow_length _ _ _).trans_le (min_le_right _ _)
  · exact (pushWindow_length _ _ _).trans_le (min_le_right _ _)

/-- R130: the windows after the four stages. -/
theorem ReductionSlot.process_windowsOk {r : ReductionSlot} (x : Reading) (now : Nat) (h : r.windowsOk = true) :
    (r.process x now).windowsOk = true := by
  show ((r.average x).windStage x now).windowsOk = true
  have havg := ReductionSlot.average_windowsOk x h
  have hspeed (v : Nat) := ReductionSlot.pushSpeed_windowsOk v havg
  unfold ReductionSlot.windStage
  dsimp only
  split
  · exact havg
  · exact havg
  · exact havg
  · split
    · exact hspeed _
    · exact hspeed _

theorem KeepsBounds.takeReading {a s : State} (x : Snapshot) (k : Fin 8) (rd : Reading) (h : KeepsBounds a s) :
    KeepsBounds a (s.takeReading x k rd) := by
  unfold State.takeReading
  split
  · exact ((h.modSlot k _ (ReductionSlot.process_windowsOk rd s.now)).forwardReading _ _ _ _ _).evaluate k
  · exact h.countSlot k _

theorem KeepsBounds.handOver {a s : State} (x : Snapshot) (n : Reply) (h : KeepsBounds a s) :
    KeepsBounds a (s.handOver x n) := by
  unfold State.handOver
  repeat' first | with_reducible assumption | with_reducible apply KeepsBounds.takeHook | with_reducible apply KeepsBounds.takeTxn | with_reducible apply KeepsBounds.takeReading | split

theorem KeepsBounds.dispatch {a s : State} (x : Snapshot) (voice : Bool) (r : Reply) (h : KeepsBounds a s) :
    KeepsBounds a (s.dispatch x voice r) := by
  unfold State.dispatch
  repeat' first | with_reducible assumption | with_reducible apply KeepsBounds.handOver | with_reducible apply KeepsBounds.countDrop | split

theorem KeepsBounds.reportOutcome {a s : State} (x : Snapshot) (o : ExchangeEnd) (h : KeepsBounds a s) :
    KeepsBounds a (s.reportOutcome x o) := by
  unfold State.reportOutcome
  repeat' first | with_reducible assumption | with_reducible apply KeepsBounds.answersOutcome | with_reducible apply KeepsBounds.signOutcome | split

theorem KeepsBounds.reportVoice {a s : State} (x : Snapshot) (voice : Bool) (o : ExchangeEnd) (h : KeepsBounds a s) :
    KeepsBounds a (s.reportVoice x voice o) := by
  unfold State.reportVoice
  repeat' first | with_reducible assumption | with_reducible apply KeepsBounds.voiceOutcome | split

theorem KeepsBounds.applyEnd {a s : State} (x : Snapshot) (voice : Bool) (begun : Nat) (o : ExchangeEnd) (h : KeepsBounds a s) :
    KeepsBounds a (s.applyEnd x voice begun o) := by
  unfold State.applyEnd
  dsimp only
  repeat' first | with_reducible assumption | with_reducible apply KeepsBounds.modStation | with_reducible apply KeepsBounds.countDrop | with_reducible apply KeepsBounds.noticeStation | with_reducible apply KeepsBounds.reportVoice | with_reducible apply KeepsBounds.reportOffline | with_reducible apply KeepsBounds.reportOutcome | with_reducible apply KeepsBounds.dispatch | split

theorem KeepsBounds.settleEnd {a s : State} (x : Snapshot) (voice : Bool) (begun : Nat) (o : ExchangeEnd) (h : KeepsBounds a s) :
    KeepsBounds a (s.settleEnd x voice begun o) := by
  unfold State.settleEnd
  repeat' first | with_reducible assumption | with_reducible apply KeepsBounds.applyEnd | with_reducible apply KeepsBounds.countDrop | split

theorem KeepsBounds.lineIdle {a s : State} (d : Fin 4) (h : KeepsBounds a s) :
    KeepsBounds a (s.lineIdle d) := by
  unfold State.lineIdle
  repeat' first | with_reducible assumption | with_reducible apply KeepsBounds.modDrop

theorem KeepsBounds.completeWith {a s : State} (d : Fin 4) (o : ExchangeEnd) (h : KeepsBounds a s) :
    KeepsBounds a (s.completeWith d o) := by
  unfold State.completeWith
  dsimp only
  repeat' first | with_reducible assumption | with_reducible apply KeepsBounds.settleEnd | with_reducible apply KeepsBounds.lineIdle | with_reducible apply KeepsBounds.endChoose | split

theorem KeepsBounds.countBad {a s : State} (d : Fin 4) (o : ExchangeEnd) (h : KeepsBounds a s) :
    KeepsBounds a (s.countBad d o) := by
  unfold State.countBad
  repeat' first | with_reducible assumption | with_reducible apply KeepsBounds.countDrop | split

theorem KeepsBounds.frameEnds {a s : State} (d : Fin 4) (o : ExchangeEnd) (h : KeepsBounds a s) :
    KeepsBounds a (s.frameEnds d o) := by
  unfold State.frameEnds
  repeat' first | with_reducible assumption | with_reducible apply KeepsBounds.countBad | with_reducible apply KeepsBounds.completeWith

theorem KeepsBounds.countUnsolicited {a s : State} (d : Fin 4) (h : KeepsBounds a s) :
    KeepsBounds a (s.countUnsolicited d) := by
  unfold State.countUnsolicited
  repeat' first | with_reducible assumption | with_reducible apply KeepsBounds.countDrop

theorem KeepsBounds.frameArrives {a s : State} (d : Fin 4) (o : ExchangeEnd) (h : KeepsBounds a s) :
    KeepsBounds a (s.frameArrives d o) := by
  unfold State.frameArrives
  repeat' first | with_reducible assumption | with_reducible apply KeepsBounds.frameEnds | with_reducible apply KeepsBounds.countUnsolicited | split

theorem KeepsBounds.frameSent {a s : State} (d : Fin 4) (h : KeepsBounds a s) :
    KeepsBounds a (s.frameSent d) := by
  unfold State.frameSent
  repeat' first | with_reducible assumption | with_reducible apply KeepsBounds.modDrop | with_reducible apply KeepsBounds.lineIdle | with_reducible apply KeepsBounds.endChoose | split

theorem KeepsBounds.supplyToJournal {a s : State} (old new : SupplyState) (h : KeepsBounds a s) :
    KeepsBounds a (s.supplyToJournal old new) := by
  unfold State.supplyToJournal
  split
  · exact h.journalHoldup
  · split
    · exact h.journalHoldupEnds
    · exact h

theorem KeepsBounds.setBroadcasts {a s : State} (h : KeepsBounds a s) :
    KeepsBounds a (s.setBroadcasts) := by
  unfold State.setBroadcasts
  repeat' first | with_reducible assumption | with_reducible apply KeepsBounds.modPoll

theorem KeepsBounds.changeSupply {a s : State} (new : SupplyState) (cause : SupplyCause) (h : KeepsBounds a s) :
    KeepsBounds a (s.changeSupply new cause) := by
  have henter (p : Supply) (now : Nat) : (p.enter new cause now).window = p.window := by cases new <;> rfl
  exact ((((h.modSup (·.enter new cause s.now) fun hw => henter s.sup s.now ▸ hw).notify _).supplyToJournal _ _).setBroadcasts).dropsChoose

theorem KeepsBounds.judgeAverage {a s : State} (avg : Nat) (h : KeepsBounds a s) : KeepsBounds a (s.judgeAverage avg) := by
  have htest (p : Supply) (now : Nat) : (p.testSettle avg now).window = p.window := by
    unfold Supply.testSettle
    split
    · rfl
    · split <;> rfl
  unfold State.judgeAverage
  refine KeepsBounds.modSup ?_ _ fun hw => (htest _ _).symm ▸ hw
  split
  · exact h.changeSupply _ _
  · exact h

theorem KeepsBounds.sampleFeed {a s : State} (level : Nat) (h : KeepsBounds a s) : KeepsBounds a (s.sampleFeed level) := by
  have hsampled := h.modSup (·.sampled s.agent.params.levels level s.now) fun _ =>
    (pushSample_length _ _).trans_le (min_le_right _ _)
  unfold State.sampleFeed
  dsimp only
  split
  · exact hsampled.judgeAverage _
  · exact hsampled

theorem KeepsBounds.settleExpires {a s : State} (h : KeepsBounds a s) :
    KeepsBounds a (s.settleExpires) := by
  unfold State.settleExpires
  repeat' first | with_reducible assumption | with_reducible apply KeepsBounds.changeSupply | split

theorem KeepsBounds.assertFeedLost {a s : State} (h : KeepsBounds a s) :
    KeepsBounds a (s.assertFeedLost) := by
  unfold State.assertFeedLost
  dsimp only
  repeat' first | with_reducible assumption | exact id | with_reducible apply KeepsBounds.modSup | with_reducible apply KeepsBounds.changeSupply | split

theorem KeepsBounds.negateFeedLost {a s : State} (h : KeepsBounds a s) :
    KeepsBounds a (s.negateFeedLost) := by
  unfold State.negateFeedLost
  dsimp only
  repeat' first | with_reducible assumption | exact id | with_reducible apply KeepsBounds.modSup | split

theorem KeepsBounds.clearRing {a s : State} (h : KeepsBounds a s) :
    KeepsBounds a (s.clearRing) := by
  unfold State.clearRing
  dsimp only
  repeat' first | with_reducible assumption | exact id | with_reducible apply KeepsBounds.modRing | with_reducible apply KeepsBounds.modProt

theorem KeepsBounds.clearDrop {a s : State} (h : KeepsBounds a s) :
    KeepsBounds a (s.clearDrop) := by
  unfold State.clearDrop
  repeat' first | with_reducible assumption | with_reducible apply KeepsBounds.modPoll

theorem KeepsBounds.clearCalls {a s : State} (h : KeepsBounds a s) : KeepsBounds a s.clearCalls := by
  refine h.modCalls _ id fun hv => ?_
  unfold State.voiceOk at hv ⊢
  simp only [State.modCalls_calls, Vector.toList_map, List.all_map]
  exact hv

theorem KeepsBounds.clearJournal {a s : State} (h : KeepsBounds a s) :
    KeepsBounds a (s.clearJournal) := by
  unfold State.clearJournal
  repeat' first | with_reducible assumption | exact ⟨id, id, id, id, id, id⟩ | with_reducible apply KeepsBounds.modJrnl | with_reducible apply KeepsBounds.modCtl

theorem KeepsBounds.clearSupply {a s : State} (h : KeepsBounds a s) :
    KeepsBounds a (s.clearSupply) := by
  unfold State.clearSupply
  repeat' first | with_reducible assumption | exact id | with_reducible apply KeepsBounds.modSup

theorem KeepsBounds.clearLanes {a s : State} (h : KeepsBounds a s) :
    KeepsBounds a (s.clearLanes) := by
  unfold State.clearLanes
  repeat' first | with_reducible assumption | with_reducible apply KeepsBounds.modLanes

theorem KeepsBounds.clearSigns {a s : State} (h : KeepsBounds a s) :
    KeepsBounds a (s.clearSigns) := by
  unfold State.clearSigns
  repeat' first | with_reducible assumption | with_reducible apply KeepsBounds.modRules | with_reducible apply KeepsBounds.modSign

theorem KeepsBounds.clearSlots {a s : State} (h : KeepsBounds a s) : KeepsBounds a s.clearSlots := by
  refine (h.modSlots _ fun k hk => ?_).modAgent _ id
  rw [Fin.getElem_fin, Vector.getElem_map]
  exact hk

theorem KeepsBounds.clearGroup {a s : State} (n : Group) (h : KeepsBounds a s) :
    KeepsBounds a (s.clearGroup n) := by
  unfold State.clearGroup
  repeat' first | with_reducible assumption | with_reducible apply KeepsBounds.clearRing | with_reducible apply KeepsBounds.clearDrop | with_reducible apply KeepsBounds.clearCalls | with_reducible apply KeepsBounds.clearJournal | with_reducible apply KeepsBounds.clearSupply | with_reducible apply KeepsBounds.clearLanes | with_reducible apply KeepsBounds.clearSigns | with_reducible apply KeepsBounds.clearSlots | split

theorem KeepsBounds.writeLane {a s : State} (i : Fin 64) (l : List Byte) (h : KeepsBounds a s) :
    KeepsBounds a (s.writeLane i l).2 := by
  unfold State.writeLane
  repeat' first | with_reducible assumption | with_reducible apply KeepsBounds.modLane | with_reducible apply KeepsBounds.testSeized | with_reducible apply KeepsBounds.offerTolls | split

theorem KeepsBounds.reportLink {a s : State} (e : Station) (h : KeepsBounds a s) : KeepsBounds a (s.reportLink e) := by
  have hrelink (st : Option (Fin 32)) (r : ReductionSlot) : (r.relink st).windowsOk = true := by
    rw [ReductionSlot.windowsOk_iff]
    simp [ReductionSlot.relink, ReductionSlot.emptied]
  unfold State.reportLink
  split
  · split
    · exact h.modSlot _ _ fun _ => hrelink _ _
    · exact h
  · split
    · exact h.relinkSign _ _
    · exact h
  · exact h

theorem KeepsBounds.reportStation {a s : State} (i : Fin 32) (old : Station) (x : StationRecord) (h : KeepsBounds a s) :
    KeepsBounds a (s.reportStation i old x) := by
  unfold State.reportStation
  dsimp only
  repeat' first | with_reducible assumption | with_reducible apply KeepsBounds.emptyAnswers | with_reducible apply KeepsBounds.reportLink | split

theorem KeepsBounds.writeStation {a s : State} (i : Fin 32) (l : List Byte) (h : KeepsBounds a s) :
    KeepsBounds a (s.writeStation i l).2 := by
  unfold State.writeStation
  dsimp only
  repeat' first | with_reducible assumption | with_reducible apply KeepsBounds.modStation | with_reducible apply KeepsBounds.reportStation | with_reducible apply KeepsBounds.dropChoose | split

theorem KeepsBounds.writeRuleEntry {a s : State} (i : Fin 32) (l : List Byte) (h : KeepsBounds a s) :
    KeepsBounds a (s.writeRuleEntry i l).2 := by
  unfold State.writeRuleEntry
  repeat' first | with_reducible assumption | with_reducible apply KeepsBounds.writeRule | split

theorem KeepsBounds.writeSignEntry {a s : State} (k : Fin 12) (l : List Byte) (h : KeepsBounds a s) :
    KeepsBounds a (s.writeSignEntry k l).2 := by
  unfold State.writeSignEntry
  repeat' first | with_reducible assumption | with_reducible apply KeepsBounds.writeSign | split

/-- R129: new parameters empty a window or leave it, and every window of a slot whose depth changes is emptied. -/
theorem ReductionSlot.configure_windowsOk {r : ReductionSlot} (p : SlotRecord) (h : r.windowsOk = true) :
    (r.configure p).windowsOk = true := by
  rw [ReductionSlot.windowsOk_iff] at h ⊢
  obtain ⟨⟨h1, h2, h3, h4, h5, h6⟩, h7⟩ := h
  by_cases e1 : p.depth = r.depth <;> by_cases e2 : p.offset = r.offset <;> by_cases e3 : p.kw = r.kw <;>
    by_cases e4 : p.useLight = r.useLight <;> simp [ReductionSlot.configure, *]

theorem KeepsBounds.writeSlotEntry {a s : State} (k : Fin 8) (l : List Byte) (h : KeepsBounds a s) :
    KeepsBounds a (s.writeSlotEntry k l).2 := by
  unfold State.writeSlotEntry
  split
  · exact h
  · exact h.modSlot k _ (ReductionSlot.configure_windowsOk _)

theorem KeepsBounds.writeParams {a s : State} (l : List Byte) (h : KeepsBounds a s) :
    KeepsBounds a (s.writeParams l).2 := by
  unfold State.writeParams
  repeat' first | with_reducible assumption | exact id | with_reducible apply KeepsBounds.modAgent | split

theorem KeepsBounds.writeEntry {a s : State} (t : Table) (i : Nat) (l : List Byte) (h : KeepsBounds a s) :
    KeepsBounds a (s.writeEntry t i l).2 := by
  unfold State.writeEntry
  split
  case h_1 => cases fin? 64 i with | none => exact h | some k => exact h.writeLane k l
  case h_2 => cases fin? 32 i with | none => exact h | some k => exact h.writeStation k l
  case h_3 => cases fin? 32 i with | none => exact h | some k => exact h.writeRuleEntry k l
  case h_4 => cases fin? 12 i with | none => exact h | some k => exact h.writeSignEntry k l
  case h_5 => cases fin? 8 i with | none => exact h | some k => exact h.writeSlotEntry k l
  case h_6 => exact h.writeParams l

theorem KeepsBounds.cutSlot {a s : State} (slot : Nat) (h : KeepsBounds a s) :
    KeepsBounds a (s.cutSlot slot) := by
  unfold State.cutSlot
  repeat' first | with_reducible assumption | with_reducible apply KeepsBounds.putSlot | with_reducible apply KeepsBounds.spend

theorem KeepsBounds.cutMark {a s : State} (slot : Nat) (h : KeepsBounds a s) :
    KeepsBounds a (s.cutMark slot) := by
  unfold State.cutMark
  repeat' first | with_reducible assumption | with_reducible apply KeepsBounds.putMark | with_reducible apply KeepsBounds.spend

theorem KeepsBounds.cutShort {a s : State} (h : KeepsBounds a s) :
    KeepsBounds a (s.cutShort) := by
  unfold State.cutShort
  repeat' first | with_reducible assumption | with_reducible apply KeepsBounds.cutSlot | with_reducible apply KeepsBounds.cutMark | split

theorem KeepsBounds.rescan {a s : State} (h : KeepsBounds a s) :
    KeepsBounds a (s.rescan) := by
  unfold State.rescan
  dsimp only
  repeat' first | with_reducible assumption | with_reducible apply KeepsBounds.modCtl | with_reducible apply KeepsBounds.scanRead | split

theorem KeepsBounds.restartCustody {a s : State} (h : KeepsBounds a s) :
    KeepsBounds a (s.restartCustody) := by
  unfold State.restartCustody
  repeat' first | with_reducible assumption | with_reducible apply KeepsBounds.restartJournal | with_reducible apply KeepsBounds.rescan | split

theorem KeepsBounds.unbindAll {a s : State} (h : KeepsBounds a s) :
    KeepsBounds a (s.unbindAll) := by
  unfold State.unbindAll
  repeat' first | with_reducible assumption | with_reducible apply KeepsBounds.modLanes

theorem KeepsBounds.restartWeather {a s : State} (h : KeepsBounds a s) : KeepsBounds a s.restartWeather := by
  refine h.modSlots _ fun k hk => ?_
  rw [ReductionSlot.windowsOk_iff]
  simp [ReductionSlot.emptied]

theorem KeepsBounds.restartAll {a s : State} (h : KeepsBounds a s) : KeepsBounds a s.restartAll := by
  have hring := h.modRing (·.restart) fun hq => by
    rw [State.queuesOk_iff] at hq ⊢
    obtain ⟨h1, h2, h3, h4⟩ := hq
    refine ⟨h1, h2, h3, fun q => ?_⟩
    cases q
    case mq => exact h4 .mq
    all_goals exact Nat.zero_le _
  exact ((((hring.restartCalls).unbindAll).restartCustody).restartWeather).restartSigns

theorem KeepsBounds.beginSave {a s : State} (src : NodeId) (tag : Byte) (h : KeepsBounds a s) :
    KeepsBounds a (s.beginSave src tag) := by
  unfold State.beginSave
  repeat' first | with_reducible assumption | exact id | with_reducible apply KeepsBounds.modCtl | with_reducible apply KeepsBounds.modAgent | with_reducible apply KeepsBounds.storeKick

/-- R172 step 6: each order is carried out by its owner. -/
theorem KeepsBounds.perform {a s : State} (src : NodeId) (tag : Byte) (o : Order) (h : KeepsBounds a s) :
    KeepsBounds a (s.perform src tag o).2 := by
  cases o with
  | readEntry t i => exact h
  | writeEntry t i l => exact h.writeEntry t i l
  | pageOpen k p size => exact h.pageOpen _ _ _
  | pageData k p off l => exact h.pageData _ _ _ _
  | pageDiscard k p => exact h.pageDiscard _ _
  | signSet k p pr m => exact h.signSet _ _ _ _
  | signCancel k => exact h.signCancel _
  | status g => exact h
  | clearCounters g => exact h.clearGroup g
  | saveConfig => exact h.beginSave src tag
  | restart force =>
    unfold State.perform
    dsimp only
    split
    · exact h
    · exact h.restartAll

theorem KeepsBounds.carryOut {a s : State} (c : Command) (h : KeepsBounds a s) :
    KeepsBounds a (s.carryOut c).2 := by
  unfold State.carryOut
  repeat' first | with_reducible assumption | with_reducible apply KeepsBounds.perform | split

theorem KeepsBounds.reply {a s : State} (c : Command) (x : Answer) (h : KeepsBounds a s) : KeepsBounds a (s.reply c x) := by
  unfold State.reply
  split
  · exact h
  · exact h.modAgent _ id

theorem KeepsBounds.takeCommand {a s : State} {c : Command} {rest : List Command} (hi : s.agent.intake = c :: rest)
    (h : KeepsBounds a s) : KeepsBounds a (s.takeCommand c rest) := by
  refine KeepsBounds.reply _ _ (KeepsBounds.carryOut _ (h.modAgent _ fun hb => ?_))
  rw [State.agentBounded_iff, hi] at hb
  rw [State.agentBounded_iff]
  exact ⟨Nat.le_of_succ_le hb.1, hb.2⟩

theorem KeepsBounds.passReply {a s : State} (b : Block) (rest : List Block) (ht : s.takes .mq = true) (h : KeepsBounds a s) :
    KeepsBounds a (s.passReply b rest) :=
  (h.join ht).modAgent _ id

theorem KeepsBounds.agentTurn {a s t : State} (e : s.agentTurn = some t) (h : KeepsBounds a s) : KeepsBounds a t := by
  unfold State.agentTurn at e
  split at e
  · split at e
    next ht => cases e; exact h.passReply _ _ ht
    next => cases e
  next hi => cases e; exact h.takeCommand hi
  · cases e

theorem KeepsBounds.noticeTurn {a s t : State} (e : s.noticeTurn = some t) (h : KeepsBounds a s) : KeepsBounds a t := by
  unfold State.noticeTurn at e
  split at e
  next ht => cases e; exact h.passNotice (Bool.and_eq_true_iff.mp ht).1
  next => cases e

theorem KeepsBounds.agentTurns {a : State} (n : Nat) : ∀ {s : State}, KeepsBounds a s → KeepsBounds a (s.agentTurns n) := by
  induction n with
  | zero => exact fun h => h
  | succ n ih =>
    intro s h
    unfold State.agentTurns
    split
    · exact h
    next ha _ => exact ih (h.agentTurn ha)
    next _ hb => exact ih (h.noticeTurn hb)
    next ha hb =>
      split
      · exact ih ((h.agentTurn ha).spend 1)
      · exact ih ((h.noticeTurn hb).spend 1)

theorem KeepsBounds.agentRun {a s : State} (h : KeepsBounds a s) :
    KeepsBounds a (s.agentRun) := by
  unfold State.agentRun
  repeat' first | with_reducible assumption | with_reducible apply KeepsBounds.agentTurns

theorem KeepsBounds.countDir {a s : State} (d : Dir) (f : DirCounters → DirCounters) (h : KeepsBounds a s) :
    KeepsBounds a (s.countDir d f) := by
  unfold State.countDir
  repeat' first | with_reducible assumption | exact id | with_reducible apply KeepsBounds.modRing

theorem KeepsBounds.overflow {a s : State} (d : Dir) (b : Block) (h : KeepsBounds a s) : KeepsBounds a (s.overflow d b) := by
  unfold State.overflow
  split
  next l hl =>
    refine KeepsBounds.countDir _ _ (h.setBuffer d _ fun hold => ?_)
    split at hl
    · rw [List.length_append, List.length_singleton, displaceFrom_length _ _ hl]
      exact hold
    · cases hl
  next => exact h.countDir _ _

theorem KeepsBounds.refuseBusy {a s : State} (c : Command) (h : KeepsBounds a s) :
    KeepsBounds a (s.refuseBusy c) := by
  unfold State.refuseBusy
  repeat' first | with_reducible assumption | exact id | with_reducible apply KeepsBounds.join | with_reducible apply KeepsBounds.modAgent | with_reducible apply KeepsBounds.overflow | split

theorem KeepsBounds.agentReceive {a s : State} (c : Command) (h : KeepsBounds a s) : KeepsBounds a (s.agentReceive c) := by
  unfold State.agentReceive
  split
  next hroom =>
    refine KeepsBounds.agentRun (h.modAgent _ fun hb => ?_)
    rw [State.agentBounded_iff] at hb ⊢
    refine ⟨?_, hb.2⟩
    show (s.agent.intake ++ [c]).length ≤ 4
    rw [List.length_append]
    exact hroom
  next => exact h.refuseBusy c

theorem KeepsBounds.saveReplies {a s : State} (st : Status) (content : List Byte) (h : KeepsBounds a s) :
    KeepsBounds a (s.saveReplies st content) := by
  unfold State.saveReplies
  repeat' first | with_reducible assumption | exact id | with_reducible apply KeepsBounds.reply | with_reducible apply KeepsBounds.modAgent | with_reducible apply KeepsBounds.agentRun | split

theorem KeepsBounds.failSave {a s : State} (cause : StoreCause) (h : KeepsBounds a s) :
    KeepsBounds a (s.failSave cause) := by
  unfold State.failSave
  repeat' first | with_reducible assumption | with_reducible apply KeepsBounds.modCtl | with_reducible apply KeepsBounds.notify | with_reducible apply KeepsBounds.saveReplies | split

theorem KeepsBounds.saveSucceeds {a s : State} (sv : Save) (h : KeepsBounds a s) :
    KeepsBounds a (s.saveSucceeds sv) := by
  unfold State.saveSucceeds
  repeat' first | with_reducible assumption | with_reducible apply KeepsBounds.modCtl | with_reducible apply KeepsBounds.notify | with_reducible apply KeepsBounds.saveReplies

theorem KeepsBounds.saveStepVerified {a s : State} (bytes : List Byte) (h : KeepsBounds a s) :
    KeepsBounds a (s.saveStepVerified bytes) := by
  unfold State.saveStepVerified
  repeat' first | with_reducible assumption | with_reducible apply KeepsBounds.modCtl | with_reducible apply KeepsBounds.saveSucceeds | split

theorem KeepsBounds.countMismatch {a s : State} (h : KeepsBounds a s) :
    KeepsBounds a (s.countMismatch) := by
  unfold State.countMismatch
  repeat' first | with_reducible assumption | with_reducible apply KeepsBounds.modCtl

theorem KeepsBounds.commitCompletes {a s : State} (slot : Nat) (bytes : List Byte) (got : ReadBack) (h : KeepsBounds a s) :
    KeepsBounds a (s.commitCompletes slot bytes got) := by
  unfold State.commitCompletes
  dsimp only
  repeat' first | with_reducible assumption | with_reducible apply KeepsBounds.afterRead | with_reducible apply KeepsBounds.endOp | with_reducible apply KeepsBounds.countMismatch | with_reducible apply KeepsBounds.commitSucceeds | with_reducible apply KeepsBounds.commitMismatches | with_reducible apply KeepsBounds.storeKick | split

theorem KeepsBounds.markCompletes {a s : State} (slot : Nat) (h : KeepsBounds a s) :
    KeepsBounds a (s.markCompletes slot) := by
  unfold State.markCompletes
  repeat' first | with_reducible assumption | exact ⟨id, id, id, id, id, id⟩ | with_reducible apply KeepsBounds.putMark | with_reducible apply KeepsBounds.endOp | with_reducible apply KeepsBounds.modJrnl | with_reducible apply KeepsBounds.storeKick

theorem KeepsBounds.readCompletes {a s : State} (serial slot : Nat) (live : Bool) (got : ReadBack) (h : KeepsBounds a s) :
    KeepsBounds a (s.readCompletes serial slot live got) := by
  unfold State.readCompletes
  dsimp only
  repeat' first | with_reducible assumption | with_reducible apply KeepsBounds.afterRead | with_reducible apply KeepsBounds.endOp | with_reducible apply KeepsBounds.readDone | with_reducible apply KeepsBounds.storeKick | split

theorem KeepsBounds.saveMarkCompletes {a s : State} (h : KeepsBounds a s) :
    KeepsBounds a (s.saveMarkCompletes) := by
  unfold State.saveMarkCompletes
  repeat' first | with_reducible assumption | with_reducible apply KeepsBounds.putMark | with_reducible apply KeepsBounds.endOp | with_reducible apply KeepsBounds.modCtl | with_reducible apply KeepsBounds.storeKick

theorem KeepsBounds.spoilHeader {a s : State} (slot : Nat) (h : KeepsBounds a s) :
    KeepsBounds a (s.spoilHeader slot) := by
  unfold State.spoilHeader
  repeat' first | with_reducible assumption | with_reducible apply KeepsBounds.cutSlot | split

theorem KeepsBounds.saveSlotCompletes {a s : State} (slot : Nat) (bytes : List Byte) (got : ReadBack) (h : KeepsBounds a s) :
    KeepsBounds a (s.saveSlotCompletes slot bytes got) := by
  unfold State.saveSlotCompletes
  dsimp only
  repeat' first | with_reducible assumption | with_reducible apply KeepsBounds.afterRead | with_reducible apply KeepsBounds.endOp | with_reducible apply KeepsBounds.saveStepVerified | with_reducible apply KeepsBounds.spoilHeader | with_reducible apply KeepsBounds.countMismatch | with_reducible apply KeepsBounds.failSave | with_reducible apply KeepsBounds.storeKick | split

theorem KeepsBounds.loadRead {a s : State} (slot : Nat) (h : KeepsBounds a s) :
    KeepsBounds a (s.loadRead slot) := by
  unfold State.loadRead
  repeat' first | with_reducible assumption | with_reducible apply KeepsBounds.startStep

theorem KeepsBounds.afterScan {a s : State} (h : KeepsBounds a s) :
    KeepsBounds a (s.afterScan) := by
  unfold State.afterScan
  dsimp only
  repeat' first | with_reducible assumption | with_reducible apply KeepsBounds.modCtl | with_reducible apply KeepsBounds.loadRead | with_reducible apply KeepsBounds.dropsChoose | with_reducible apply KeepsBounds.storeKick | split

theorem KeepsBounds.journalScanned {a s : State} (r : Rebuilt) (h : KeepsBounds a s) : KeepsBounds a (s.journalScanned r) := by
  have hafter (j : Journal) (sup : SupplyState) : j.Within (j.afterScan sup) := by
    unfold Journal.afterScan
    split
    · exact j.halt_within
    · exact ⟨id, id, id, id, id, id⟩
  unfold State.journalScanned
  split
  · exact h.journalFault _
  next hbad =>
    have htaken : s.jrnl.Within (s.jrnl.takeView r) :=
      ⟨id, id, fun _ => Nat.zero_le _, fun _ => Nat.zero_le _, fun _ => Nat.zero_le _, fun _ => not_lt.mp hbad⟩
    have hview := (h.modJrnl (fun j => (j.takeView r).afterScan s.sup.state) (htaken.trans (hafter _ _))).notify
      (.recovered r.held r.nextSerial r.orphans r.bad.length)
    dsimp only
    split
    · exact hview.notify _
    · exact hview

theorem KeepsBounds.scanEnds {a s : State} (h : KeepsBounds a s) :
    KeepsBounds a (s.scanEnds) := by
  unfold State.scanEnds
  dsimp only
  repeat' first | with_reducible assumption | with_reducible apply KeepsBounds.modCtl | with_reducible apply KeepsBounds.journalScanned | with_reducible apply KeepsBounds.afterScan

theorem KeepsBounds.scanReadCompletes {a s : State} (slot : Nat) (got : ReadBack) (h : KeepsBounds a s) :
    KeepsBounds a (s.scanReadCompletes slot got) := by
  unfold State.scanReadCompletes
  dsimp only
  repeat' first | with_reducible assumption | with_reducible apply KeepsBounds.afterRead | with_reducible apply KeepsBounds.modCtl | with_reducible apply KeepsBounds.scanRead | with_reducible apply KeepsBounds.scanEnds | split

/-- R125: the sections of an image put no value into a window. -/
theorem KeepsBounds.applyImage {a s : State} (slots : List (List Byte)) (h : KeepsBounds a s) : KeepsBounds a (s.applyImage slots) := by
  have hlevels {s : State} (l : Levels) (hs : KeepsBounds a s) : KeepsBounds a (s.modSup fun u => { u with levels := l }) :=
    hs.modSup _ id
  have hparams {s : State} (p : Params) (hs : KeepsBounds a s) : KeepsBounds a (s.modAgent fun x => { x with params := p }) :=
    hs.modAgent _ id
  have hslots {s : State} (f : ReductionSlot → Fin 8 → ReductionSlot) (g : Fin 8 → Option (Fin 32)) (hs : KeepsBounds a s) :
      KeepsBounds a (s.modSlots fun v => Vector.ofFn fun k => (f v[k] k).relink (g k)) := by
    refine hs.modSlots _ fun k _ => ?_
    rw [Fin.getElem_fin, Vector.getElem_ofFn, ReductionSlot.windowsOk_iff]
    simp [ReductionSlot.relink, ReductionSlot.emptied]
  unfold State.applyImage
  exact hlevels _ (hparams _ (hslots (fun r k => r.configure (SlotRecord.ofImage (imageRecord slots 23 4 5 k.val))) _
    ((((h.modLanes _).modPoll _).modRules _).modSign _)))

theorem KeepsBounds.noteLoad {a s : State} (o : LoadOutcome) (h : KeepsBounds a s) :
    KeepsBounds a (s.noteLoad o) := by
  unfold State.noteLoad
  repeat' first | with_reducible assumption | with_reducible apply KeepsBounds.notify | split

theorem KeepsBounds.endLoad {a s : State} (o : LoadOutcome) (h : KeepsBounds a s) :
    KeepsBounds a (s.endLoad o) := by
  unfold State.endLoad
  repeat' first | with_reducible assumption | with_reducible apply KeepsBounds.modCtl | with_reducible apply KeepsBounds.noteLoad | with_reducible apply KeepsBounds.settleAll | with_reducible apply KeepsBounds.storeKick | with_reducible apply KeepsBounds.dropsChoose

theorem KeepsBounds.judgeImage {a s : State} (ld : Load) (h : KeepsBounds a s) :
    KeepsBounds a (s.judgeImage ld) := by
  unfold State.judgeImage
  repeat' first | with_reducible assumption | with_reducible apply KeepsBounds.applyImage | with_reducible apply KeepsBounds.endLoad | split

theorem KeepsBounds.loadReadCompletes {a s : State} (slot : Nat) (got : ReadBack) (h : KeepsBounds a s) :
    KeepsBounds a (s.loadReadCompletes slot got) := by
  unfold State.loadReadCompletes
  dsimp only
  repeat' first | with_reducible assumption | with_reducible apply KeepsBounds.afterRead | with_reducible apply KeepsBounds.modCtl | with_reducible apply KeepsBounds.loadRead | with_reducible apply KeepsBounds.endLoad | with_reducible apply KeepsBounds.judgeImage | split

theorem KeepsBounds.looseSlot {a s : State} (slot : Nat) (h : KeepsBounds a s) :
    KeepsBounds a (s.looseSlot slot) := by
  unfold State.looseSlot
  repeat' first | with_reducible assumption | with_reducible apply KeepsBounds.putSlot | with_reducible apply KeepsBounds.spend

theorem KeepsBounds.looseHeaderMark {a s : State} (h : KeepsBounds a s) :
    KeepsBounds a (s.looseHeaderMark) := by
  unfold State.looseHeaderMark
  dsimp only
  repeat' first | with_reducible assumption | with_reducible apply KeepsBounds.putMark | with_reducible apply KeepsBounds.spend

theorem KeepsBounds.abandonWrite {a s : State} (h : KeepsBounds a s) :
    KeepsBounds a (s.abandonWrite) := by
  unfold State.abandonWrite
  repeat' first | with_reducible assumption | with_reducible apply KeepsBounds.looseSlot | with_reducible apply KeepsBounds.cutSlot | with_reducible apply KeepsBounds.cutMark | with_reducible apply KeepsBounds.looseHeaderMark | split

theorem KeepsBounds.countTimeout {a s : State} (h : KeepsBounds a s) :
    KeepsBounds a (s.countTimeout) := by
  unfold State.countTimeout
  repeat' first | with_reducible assumption | with_reducible apply KeepsBounds.modCtl

theorem KeepsBounds.reportTimeout {a s : State} (h : KeepsBounds a s) :
    KeepsBounds a (s.reportTimeout) := by
  unfold State.reportTimeout
  repeat' first | with_reducible assumption | with_reducible apply KeepsBounds.journalFault | with_reducible apply KeepsBounds.failSave

theorem KeepsBounds.scanResumes {a s : State} (h : KeepsBounds a s) : KeepsBounds a s.scanResumes :=
  h.modJrnl _ ((Journal.reopen_within _).trans ⟨id, id, id, id, id, id⟩)

theorem KeepsBounds.stepExpires {a s : State} (h : KeepsBounds a s) :
    KeepsBounds a (s.stepExpires) := by
  unfold State.stepExpires
  dsimp only
  repeat' first | with_reducible assumption | with_reducible apply KeepsBounds.abandonWrite | with_reducible apply KeepsBounds.countTimeout | with_reducible apply KeepsBounds.reportTimeout | with_reducible apply KeepsBounds.afterScan | with_reducible apply KeepsBounds.endLoad | with_reducible apply KeepsBounds.endOp | with_reducible apply KeepsBounds.scanResumes | with_reducible apply KeepsBounds.storeKick | split

theorem KeepsBounds.enterIsolated {a s : State} (h : KeepsBounds a s) : KeepsBounds a s.enterIsolated := by
  refine KeepsBounds.journalIsolated _ (KeepsBounds.callsIsolated ((h.modProt _).modRing _ fun hq => ?_))
  rw [State.queuesOk_iff] at hq ⊢
  obtain ⟨h1, h2, h3, -⟩ := hq
  exact ⟨h1, h2, h3, fun q => by cases q <;> exact Nat.zero_le _⟩

theorem KeepsBounds.leaveIsolated {a s : State} (h : KeepsBounds a s) :
    KeepsBounds a (s.leaveIsolated) := by
  unfold State.leaveIsolated
  repeat' first | with_reducible assumption | with_reducible apply KeepsBounds.callsHealed | with_reducible apply KeepsBounds.offerTolls | with_reducible apply KeepsBounds.agentRun

theorem KeepsBounds.noticeLink {a s : State} (p : Side) (cause : Option LinkCause) (h : KeepsBounds a s) :
    KeepsBounds a (s.noticeLink p cause) := by
  unfold State.noticeLink
  dsimp only
  repeat' first | with_reducible assumption | with_reducible apply KeepsBounds.notify

theorem KeepsBounds.offerKeep {a s : State} (p : Side) (h : KeepsBounds a s) :
    KeepsBounds a (s.offerKeep p) := by
  unfold State.offerKeep
  repeat' first | with_reducible assumption | with_reducible apply KeepsBounds.offerRing

theorem KeepsBounds.countRx {a s : State} (p : Side) (f : RxCounters → RxCounters) (h : KeepsBounds a s) :
    KeepsBounds a (s.countRx p f) := by
  unfold State.countRx
  repeat' first | with_reducible assumption | exact id | with_reducible apply KeepsBounds.modRing

theorem KeepsBounds.modSender {a s : State} (d : Dir) (f : HoldSender → HoldSender) (h : KeepsBounds a s) :
    KeepsBounds a (s.modSender d f) := by
  unfold State.modSender
  repeat' first | with_reducible assumption | exact id | with_reducible apply KeepsBounds.modRing

theorem KeepsBounds.sendHoldoff {a s : State} (d : Dir) (h : KeepsBounds a s) :
    KeepsBounds a (s.sendHoldoff d) := by
  unfold State.sendHoldoff
  repeat' first | with_reducible assumption | with_reducible apply KeepsBounds.offerRing | with_reducible apply KeepsBounds.modSender

theorem KeepsBounds.sendRelease {a s : State} (d : Dir) (h : KeepsBounds a s) :
    KeepsBounds a (s.sendRelease d) := by
  unfold State.sendRelease
  repeat' first | with_reducible assumption | with_reducible apply KeepsBounds.offerRing | with_reducible apply KeepsBounds.modSender

theorem KeepsBounds.afterJoin {a s : State} (d : Dir) (h : KeepsBounds a s) :
    KeepsBounds a (s.afterJoin d) := by
  unfold State.afterJoin
  repeat' first | with_reducible assumption | with_reducible apply KeepsBounds.sendHoldoff | split

theorem KeepsBounds.afterDeparture {a s : State} (d : Dir) (h : KeepsBounds a s) :
    KeepsBounds a (s.afterDeparture d) := by
  unfold State.afterDeparture
  repeat' first | with_reducible assumption | with_reducible apply KeepsBounds.sendRelease | split

theorem KeepsBounds.joinTransit {a s : State} (d : Dir) (b : Block) (h : KeepsBounds a s) : KeepsBounds a (s.joinTransit d b) := by
  unfold State.joinTransit
  dsimp only
  split
  next hroom => exact (h.setBuffer d _ fun _ => by rw [List.length_append]; exact hroom).afterJoin d
  next => exact h.overflow d b

theorem KeepsBounds.forward {a s : State} (d : Dir) (b : Block) (h : KeepsBounds a s) :
    KeepsBounds a (s.forward d b) := by
  unfold State.forward
  repeat' first | with_reducible assumption | with_reducible apply KeepsBounds.countDir | with_reducible apply KeepsBounds.joinTransit | split

theorem KeepsBounds.handBlock {a s : State} (b : Block) (h : KeepsBounds a s) :
    KeepsBounds a (s.handBlock b) := by
  unfold State.handBlock
  repeat' first | with_reducible assumption | with_reducible apply KeepsBounds.takeVoice | with_reducible apply KeepsBounds.takeCallBlock | with_reducible apply KeepsBounds.takeTollControl | with_reducible apply KeepsBounds.agentReceive | split

theorem KeepsBounds.deliver {a s : State} (b : Block) (h : KeepsBounds a s) :
    KeepsBounds a (s.deliver b) := by
  unfold State.deliver
  repeat' first | with_reducible assumption | with_reducible apply KeepsBounds.modLane | with_reducible apply KeepsBounds.handBlock | split

theorem KeepsBounds.classifyBlock {a s : State} (d : Dir) (b : Block) (h : KeepsBounds a s) :
    KeepsBounds a (s.classifyBlock d b) := by
  unfold State.classifyBlock
  repeat' first | with_reducible assumption | with_reducible apply KeepsBounds.deliver | with_reducible apply KeepsBounds.forward | split

theorem KeepsBounds.sourceTest {a s : State} (d : Dir) (b : Block) (h : KeepsBounds a s) :
    KeepsBounds a (s.sourceTest d b) := by
  unfold State.sourceTest
  repeat' first | with_reducible assumption | with_reducible apply KeepsBounds.countDir | with_reducible apply KeepsBounds.classifyBlock | split

theorem KeepsBounds.transitArrival {a s : State} (p : Side) (b : Block) (h : KeepsBounds a s) :
    KeepsBounds a (s.transitArrival p b) := by
  unfold State.transitArrival
  repeat' first | with_reducible assumption | with_reducible apply KeepsBounds.sourceTest | with_reducible apply KeepsBounds.countRx | split

theorem KeepsBounds.takeHoldoff {a s : State} (p : Side) (h : KeepsBounds a s) :
    KeepsBounds a (s.takeHoldoff p) := by
  unfold State.takeHoldoff
  repeat' first | with_reducible assumption | with_reducible apply KeepsBounds.modOut

theorem KeepsBounds.takeRelease {a s : State} (p : Side) (h : KeepsBounds a s) :
    KeepsBounds a (s.takeRelease p) := by
  unfold State.takeRelease
  repeat' first | with_reducible assumption | with_reducible apply KeepsBounds.modOut

theorem KeepsBounds.countMalformed {a s : State} (p : Side) (h : KeepsBounds a s) :
    KeepsBounds a (s.countMalformed p) := by
  unfold State.countMalformed
  repeat' first | with_reducible assumption | with_reducible apply KeepsBounds.countRx

theorem KeepsBounds.send {a s : State} (p : Side) (b : Block) (h : KeepsBounds a s) :
    KeepsBounds a (s.send p b) := by
  unfold State.send
  dsimp only
  repeat' first | with_reducible assumption | exact id | with_reducible apply KeepsBounds.modOut | with_reducible apply KeepsBounds.modRing | split

theorem KeepsBounds.afterPop {a s : State} (n : ClassQueue) (h : KeepsBounds a s) :
    KeepsBounds a (s.afterPop n) := by
  unfold State.afterPop
  repeat' first | with_reducible assumption | with_reducible apply KeepsBounds.offerTolls | with_reducible apply KeepsBounds.agentRun | split

/-- R14: what a choice takes leaves its place; a choice of RQ leaves no more there than it held. -/
theorem KeepsBounds.depart {a s : State} (c : Choice) (hrq : ∀ b rest, c = .rq b rest → rest.length ≤ s.ring.rq.length)
    (h : KeepsBounds a s) : KeepsBounds a (s.depart c) := by
  cases c with
  | rq b rest =>
    refine KeepsBounds.modRing h (fun r => { r with rq := rest }) fun hq => ?_
    rw [State.queuesOk_iff] at hq ⊢
    obtain ⟨h1, h2, h3, h4⟩ := hq
    exact ⟨h1, h2, (hrq b rest rfl).trans h3, h4⟩
  | eq b => exact h.pop .eq
  | transit d b => exact (h.setBuffer d _ fun hold => by rw [List.length_drop]; exact (Nat.sub_le _ _).trans hold).afterDeparture d
  | credit c b => exact (h.pop _).afterPop c
  | spare c b => exact (h.pop _).afterPop c
  | fill => exact h

theorem takeRq_length {p : Side} {l rest : List RingOffer} {b : Block} (h : takeRq p l = some (b, rest)) : rest.length ≤ l.length := by
  induction l generalizing rest with
  | nil => cases h
  | cons o l ih =>
    unfold takeRq at h
    split at h
    · cases h
      exact Nat.le_succ _
    · obtain ⟨x, hx, e⟩ := Option.map_eq_some_iff.mp h
      cases e
      exact Nat.succ_le_succ (ih hx)

/-- R19 step 1: a choice of RQ is what takeRq finds. -/
theorem State.choose_rq {s : State} {p : Side} {b : Block} {rest : List RingOffer} (h : s.choose p = .rq b rest) :
    takeRq p s.ring.rq = some (b, rest) := by
  unfold State.choose at h
  dsimp only at h
  split at h
  next hrq => cases h; exact hrq
  next =>
    exfalso
    split at h
    · cases h
    · split at h
      · cases h
      · split at h
        next c _ => cases hq : (s.ring.queue c.insertQueue).head? <;> rw [hq] at h <;> cases h
        next =>
          split at h
          next c _ => cases hq : (s.ring.queue c.insertQueue).head? <;> rw [hq] at h <;> cases h
          next => cases h

theorem KeepsBounds.chooseOnce {a s : State} (p : Side) (h : KeepsBounds a s) : KeepsBounds a (s.chooseOnce p).1 := by
  have hrq (b : Block) (rest : List RingOffer) (e : s.choose p = .rq b rest) : rest.length ≤ s.ring.rq.length :=
    takeRq_length (State.choose_rq e)
  unfold State.chooseOnce
  dsimp only
  split <;> exact KeepsBounds.depart _ hrq ((h.modOut p _).modProt _)

theorem KeepsBounds.chooseUpTo {a : State} (p : Side) (n : Nat) : ∀ {s : State}, KeepsBounds a s → KeepsBounds a (s.chooseUpTo p n) := by
  induction n with
  | zero => exact fun h => KeepsBounds.send _ _ h
  | succ n ih =>
    intro s h
    have hone := h.chooseOnce p
    unfold State.chooseUpTo
    split
    next e => rw [e] at hone; exact hone.send _ _
    next e => rw [e] at hone; exact ih hone

theorem KeepsBounds.arbiter {a s : State} (p : Side) (h : KeepsBounds a s) :
    KeepsBounds a (s.arbiter p) := by
  unfold State.arbiter
  repeat' first | with_reducible assumption | with_reducible apply KeepsBounds.chooseUpTo

theorem KeepsBounds.changeRing {a s : State} (new : RingState) (h : KeepsBounds a s) :
    KeepsBounds a (s.changeRing new) := by
  unfold State.changeRing
  dsimp only
  repeat' first | with_reducible assumption | with_reducible apply KeepsBounds.modProt | with_reducible apply KeepsBounds.notify | with_reducible apply KeepsBounds.enterIsolated | with_reducible apply KeepsBounds.leaveIsolated | split

theorem KeepsBounds.deriveRing {a s : State} (h : KeepsBounds a s) :
    KeepsBounds a (s.deriveRing) := by
  unfold State.deriveRing
  repeat' first | with_reducible assumption | with_reducible apply KeepsBounds.changeRing | split

theorem KeepsBounds.portDown {a s : State} (p : Side) (cause : LinkCause) (h : KeepsBounds a s) :
    KeepsBounds a (s.portDown p cause) := by
  unfold State.portDown
  repeat' first | with_reducible assumption | with_reducible apply KeepsBounds.modPort | with_reducible apply KeepsBounds.deriveRing | with_reducible apply KeepsBounds.noticeLink | split

theorem KeepsBounds.validArrival {a s : State} (p : Side) (h : KeepsBounds a s) :
    KeepsBounds a (s.validArrival p) := by
  unfold State.validArrival
  dsimp only
  repeat' first | with_reducible assumption | with_reducible apply KeepsBounds.modPort | with_reducible apply KeepsBounds.deriveRing | split

theorem KeepsBounds.erroredArrival {a s : State} (p : Side) (h : KeepsBounds a s) :
    KeepsBounds a (s.erroredArrival p) := by
  unfold State.erroredArrival
  dsimp only
  repeat' first | with_reducible assumption | with_reducible apply KeepsBounds.modPort | with_reducible apply KeepsBounds.portDown | split

theorem KeepsBounds.portUp {a s : State} (p : Side) (h : KeepsBounds a s) :
    KeepsBounds a (s.portUp p) := by
  unfold State.portUp
  repeat' first | with_reducible assumption | with_reducible apply KeepsBounds.modPort | with_reducible apply KeepsBounds.noticeLink | with_reducible apply KeepsBounds.deriveRing

theorem KeepsBounds.validKeep {a s : State} (p : Side) (b : Block) (h : KeepsBounds a s) :
    KeepsBounds a (s.validKeep p b) := by
  unfold State.validKeep
  dsimp only
  repeat' first | with_reducible assumption | with_reducible apply KeepsBounds.modPort | with_reducible apply KeepsBounds.deriveRing | with_reducible apply KeepsBounds.noticeLink | split

theorem KeepsBounds.takeKeep {a s : State} (p : Side) (b : Block) (h : KeepsBounds a s) :
    KeepsBounds a (s.takeKeep p b) := by
  unfold State.takeKeep
  repeat' first | with_reducible assumption | with_reducible apply KeepsBounds.modPort | with_reducible apply KeepsBounds.validKeep | split

theorem KeepsBounds.takeRing {a s : State} (p : Side) (b : Block) (h : KeepsBounds a s) :
    KeepsBounds a (s.takeRing p b) := by
  unfold State.takeRing
  repeat' first | with_reducible assumption | with_reducible apply KeepsBounds.takeKeep | with_reducible apply KeepsBounds.takeHoldoff | with_reducible apply KeepsBounds.takeRelease | with_reducible apply KeepsBounds.countMalformed | split

theorem KeepsBounds.takeBlock {a s : State} (p : Side) (b : Block) (h : KeepsBounds a s) :
    KeepsBounds a (s.takeBlock p b) := by
  unfold State.takeBlock
  repeat' first | with_reducible assumption | with_reducible apply KeepsBounds.takeRing | with_reducible apply KeepsBounds.transitArrival | split

theorem KeepsBounds.arrive {a s : State} (p : Side) (l : List Byte) (h : KeepsBounds a s) :
    KeepsBounds a (s.arrive p l) := by
  unfold State.arrive
  dsimp only
  repeat' first | with_reducible assumption | with_reducible apply KeepsBounds.countRx | with_reducible apply KeepsBounds.erroredArrival | with_reducible apply KeepsBounds.countMalformed | with_reducible apply KeepsBounds.validArrival | with_reducible apply KeepsBounds.takeBlock | split

end Sys2Proof.Machine
end

section
/-! PROOFS. The bounds and the play-out law of a step. -/

namespace Sys2Proof.Machine

theorem keptByCommands_keepsBounds (a : State) : KeptByCommands (KeepsBounds a) where
  reach _ n h := h.reach n
  light _ p _ h := h.modPort p _
  portDown _ p c h := h.portDown p c
  portUp _ p h := h.portUp p
  arrive _ p l h := h.arrive p l
  arbiter _ p h := h.arbiter p
  modOut _ p f h := h.modOut p f
  offerKeep _ p h := h.offerKeep p
  keepTimer _ _ h := h.modProt _
  sendHoldoff _ d h := h.sendHoldoff d
  modSender _ d f h := h.modSender d f
  dueComes _ i t h := h.dueComes i t
  dropChoose _ d h := h.dropChoose d
  frameSent _ d h := h.frameSent d
  modDrop _ d f h := h.modDrop d f
  frameArrives _ d o h := h.frameArrives d o
  completeWith _ d o h := h.completeWith d o
  callingExpires _ r h := h.callingExpires r
  clearingExpires _ r h := h.clearingExpires r
  isolatedSignals _ r h := h.isolatedSignals r
  startVerify _ slot bytes op h := h.startVerify slot bytes op
  commitCompletes _ slot bytes got h := h.commitCompletes slot bytes got
  markCompletes _ slot h := h.markCompletes slot
  readCompletes _ serial slot live got h := h.readCompletes serial slot live got
  saveMarkCompletes _ h := h.saveMarkCompletes
  saveSlotCompletes _ slot bytes got h := h.saveSlotCompletes slot bytes got
  stepExpires _ h := h.stepExpires
  scanReadCompletes _ slot got h := h.scanReadCompletes slot got
  loadReadCompletes _ slot got h := h.loadReadCompletes slot got
  revert _ h := h.revert
  dropRequest _ k h := h.dropRequest k
  sampleFeed _ n h := h.sampleFeed n
  settleExpires _ h := h.settleExpires
  assertFeedLost _ h := h.assertFeedLost
  negateFeedLost _ h := h.negateFeedLost
  feedLost _ _ h := h.modSup _ id
  agentReceive _ c h := h.agentReceive c

/-- A full reset leaves every queue, list and window empty. -/
theorem State.fullReset_keepsBounds (a s : State) (v : BitVec 5) : KeepsBounds a (s.fullReset v) where
  queues _ := rfl
  agent _ := rfl
  jrnl _ := (Journal.bounded_iff _).mpr ⟨Nat.zero_le _, fun i => by
    show ((Vector.replicate 32 [])[i] : List AnswerEntry).length ≤ 4
    rw [Fin.getElem_fin, Vector.getElem_replicate]
    exact Nat.zero_le _, Nat.zero_le _, Nat.zero_le _, Nat.zero_le _⟩
  wait _ := Nat.zero_le _
  bad _ := Nat.zero_le _
  window _ := Nat.zero_le _
  slots k _ := by
    show ((Vector.replicate 8 ReductionSlot.reset)[k]).windowsOk = true
    rw [Fin.getElem_fin, Vector.getElem_replicate]
    rfl
  voice _ := by
    show ((Vector.replicate 16 CallRecord.free).toList.all fun r => r.voice.lawful) = true
    rw [Vector.toList_replicate, List.all_replicate]
    rfl

/-- A step keeps each bound. -/
theorem step_keepsBounds {s t : State} (e : step s = .next t) : KeepsBounds s t :=
  (keptByCommands_keepsBounds s).step (fun v u _ => State.fullReset_keepsBounds s u v)
    (fun _ _ _ h => h.same rfl rfl rfl rfl rfl rfl) (.refl s) e

/-- Settles O6. -/
theorem stepKeepsBounds : Obligations.StepKeepsBounds := by
  unfold Obligations.StepKeepsBounds
  intro s t e
  have h := step_keepsBounds e
  exact ⟨h.queues, h.agent, h.jrnl, h.wait, h.bad, h.window, h.slots⟩

/-- Settles O7. -/
theorem stepKeepsPlayOutLaw : Obligations.StepKeepsPlayOutLaw := by
  unfold Obligations.StepKeepsPlayOutLaw
  refine ⟨fun s t h e => (step_keepsBounds e).voice h, fun r b s h => ((KeepsBounds.refl s).takeVoice r b).voice h,
    fun slot s h => ((KeepsBounds.refl s).voicePayload slot).voice h, fun v h => VoiceFields.lawful_length h⟩

end Sys2Proof.Machine
end

section
/-! PROOFS. The ring block's 64 bytes (12.1): what is sent reads back field by field. -/

namespace Sys2Proof.Machine

theorem byteAt_append (pre l : List Byte) (i : Nat) : byteAt (pre ++ l) (pre.length + i) = byteAt l i := by
  unfold byteAt
  rw [List.getD_append_right _ _ _ _ (Nat.le_add_right _ _), Nat.add_sub_cancel_left]

theorem word32At_append (pre l : List Byte) : word32At (pre ++ l) pre.length = word32At l 0 := by
  simp only [word32At, word16At, Nat.add_assoc, byteAt_append]
  rw [show byteAt (pre ++ l) pre.length = byteAt l 0 from byteAt_append pre l 0]

theorem word32At_be32 (x : BitVec 32) (l : List Byte) : word32At (be32 x ++ l) 0 = x := by
  simp only [word32At, word16At, byteAt, be32]
  ext i
  simp
  grind

theorem sized_length (n : Nat) (l : List Byte) : (sized n l).length = n := by
  simp [sized]; omega

theorem sized_take (n : Nat) (l : List Byte) (h : l.length ≤ n) : (sized n l).take l.length = l := by
  simp [sized, List.take_of_length_le h]

theorem BlockKind.ofCode?_code (k : BlockKind) : BlockKind.ofCode? k.code = some k := by cases k <;> rfl

theorem Block.front_length (b : Block) : b.front.length = 60 := by simp [Block.front, sized_length]

theorem Block.bytes_length (b : Block) : b.bytes.length = 64 := by simp [Block.bytes, Block.front_length, be32]

theorem Block.bytes_checkOk (b : Block) : (Received.ofBytes b.bytes).checkOk = true := by
  have hfront : b.bytes.take 60 = b.front := List.take_left' b.front_length
  have hword : word32At b.bytes 60 = crc32 b.front := by
    have h := word32At_append b.front (be32 (crc32 b.front) ++ [])
    rwa [word32At_be32, b.front_length, List.append_nil] at h
  simp [Received.ofBytes, b.bytes_length, hfront, hword]

theorem extractLsb'_high (m n : Nat) (x : BitVec m) (y : BitVec n) : (x ++ y).extractLsb' n m = x := by
  ext i h
  simp [BitVec.getLsbD_append, BitVec.getLsbD_eq_getElem h]

theorem extractLsb'_low (m n : Nat) (x : BitVec m) (y : BitVec n) : (x ++ y).extractLsb' 0 n = y := by
  ext i h
  simp [BitVec.getLsbD_append, h]

theorem Block.bytes_kind (b : Block) : (Received.ofBytes b.bytes).kind = some b.kind := by
  have h : (byteAt b.bytes 0).extractLsb' 4 4 = b.kind.code := extractLsb'_high 4 4 b.kind.code b.subtype
  rw [← b.kind.ofCode?_code, ← h]; rfl

/-- The body within the 64 bytes: padded to 52 and cut again at the length byte. -/
theorem Block.bytes_body (b : Block) (h : b.fits = true) :
    ((b.bytes.drop 8).take 52).take ((byteAt b.bytes 6).extractLsb' 0 6).toNat = b.body := by
  have hlen : b.body.length ≤ 52 := by simpa [Block.fits] using h
  have hcontent : (b.bytes.drop 8).take 52 = sized 52 b.body := by
    simp [Block.bytes, Block.front, sized_length]
  have hcount : ((byteAt b.bytes 6).extractLsb' 0 6).toNat = b.body.length := by
    have : (byteAt b.bytes 6) = byte b.body.length := rfl
    rw [this]; simp [byte]; omega
  rw [hcontent, hcount, sized_take 52 _ hlen]

theorem Block.bytes_block (b : Block) (h : b.fits = true) : (Received.ofBytes b.bytes).block b.kind = b := by
  obtain ⟨kind, subtype, wrapped, dst, src, lane, hops, seq, body⟩ := b
  have hbody := Block.bytes_body _ h
  simp only [Received.ofBytes, Received.block, Block.mk.injEq, true_and]
  refine ⟨extractLsb'_low 4 4 kind.code subtype, ?_, ?_, extractLsb'_low 3 5 0#3 src, extractLsb'_low 2 6 0#2 lane,
    extractLsb'_low 2 6 0#2 hops, rfl, hbody⟩
  · show (BitVec.ofBool wrapped ++ 0#2 ++ dst).msb = wrapped
    rw [BitVec.msb_append]
    cases wrapped <;> rfl
  · exact extractLsb'_low 3 5 (BitVec.ofBool wrapped ++ 0#2) dst

/-- Settles O10. -/
theorem blockReadsBackAsSent : Obligations.BlockReadsBackAsSent := by
  unfold Obligations.BlockReadsBackAsSent
  exact fun b h => ⟨b.bytes_length, b.bytes_checkOk, b.bytes_kind, b.bytes_block h⟩

end Sys2Proof.Machine
end

section
/-! PROOFS. Reception (1.2) and the ports of ring protection (2.1 to 2.3): how an arrival is read, and what each event of a port
leaves. -/

namespace Sys2Proof.Machine

theorem PerSide.upd_congr {α : Type} (x : PerSide α) (p : Side) {f g : α → α} (h : f (x.get p) = g (x.get p)) :
    x.upd p f = x.upd p g := by
  cases p
  · exact congrArg (fun a => ({ x with e := a } : PerSide α)) h
  · exact congrArg (fun a => ({ x with w := a } : PerSide α)) h

theorem PerDir.upd_congr {α : Type} (x : PerDir α) (d : Dir) {f g : α → α} (h : f (x.get d) = g (x.get d)) :
    x.upd d f = x.upd d g := by
  cases d
  · exact congrArg (fun a => ({ x with cw := a } : PerDir α)) h
  · exact congrArg (fun a => ({ x with ccw := a } : PerDir α)) h

theorem PerSide.get_upd_self {α : Type} (x : PerSide α) (p : Side) (f : α → α) : (x.upd p f).get p = f (x.get p) := by
  cases p <;> rfl

theorem PerSide.get_upd_other {α : Type} (x : PerSide α) (p : Side) (f : α → α) :
    (x.upd p f).get (otherSide p) = x.get (otherSide p) := by
  cases p <;> rfl

theorem PerDir.get_upd_self {α : Type} (x : PerDir α) (d : Dir) (f : α → α) : (x.upd d f).get d = f (x.get d) := by
  cases d <;> rfl

theorem PerSide.upd_upd {α : Type} (x : PerSide α) (p : Side) (f g : α → α) :
    (x.upd p f).upd p g = x.upd p fun a => g (f a) := by
  cases p <;> rfl

theorem directionOn_otherSide_ne (p : Side) : directionOn (otherSide p) ≠ directionOn p := by cases p <;> decide

/-! ### How the 64 bytes of a block are read (R3) -/

theorem exec_blockArrival (p : Side) (l : List Byte) (s : State) : exec (.blockArrival p l) s = .next (s.arrive p l) := rfl

/-- The state in which an errored arrival is handled: it has been counted (R23). -/
def State.countErrored (s : State) (p : Side) : State := s.countRx p fun c => { c with errored := bump c.errored }

theorem State.arrive_errored (s : State) (p : Side) (l : List Byte) (h : (Received.ofBytes l).checkOk = false) :
    s.arrive p l = (s.countErrored p).erroredArrival p := by
  simp only [State.arrive, h, if_true, State.countErrored]

theorem State.arrive_malformed (s : State) (p : Side) (l : List Byte) (h : (Received.ofBytes l).checkOk = true)
    (hn : (Received.ofBytes l).sense? = none) : s.arrive p l = (s.countMalformed p).validArrival p := by
  simp [State.arrive, h, hn]

theorem State.arrive_sense (s : State) (p : Side) (l : List Byte) (b : Block) (h : (Received.ofBytes l).checkOk = true)
    (hb : (Received.ofBytes l).sense? = some b) : s.arrive p l = (s.validArrival p).takeBlock p b := by
  simp [State.arrive, h, hb]

/-- A block is read as itself when it is FILL, RING, or its node ids are in their ranges (R3). -/
theorem Block.bytes_sense (b : Block) (hf : b.fits = true)
    (h : b.kind = .fill ∨ b.kind = .ring ∨ (b.src.toNat ≤ 23 ∧ (b.dst.toNat ≤ 23 ∨ b.dst = 31))) :
    (Received.ofBytes b.bytes).sense? = some b := by
  have hblock := b.bytes_block hf
  have hsrc : (Received.ofBytes b.bytes).src = b.src := congrArg Block.src hblock
  have hdst : (Received.ofBytes b.bytes).dst = b.dst := congrArg Block.dst hblock
  have hlen : (Received.ofBytes b.bytes).length ≤ 52 := by
    have hbody : b.body.length ≤ 52 := by simpa [Block.fits] using hf
    have : byteAt b.bytes 6 = byte b.body.length := rfl
    simp only [Received.ofBytes, this, byte]
    simp; omega
  have hs : (Received.ofBytes b.bytes).sensible b.kind = true := by
    simp only [Received.sensible, hsrc, hdst, hlen, decide_true, Bool.true_and, Bool.or_eq_true, Bool.and_eq_true, beq_iff_eq,
      decide_eq_true_eq, or_assoc]
    exact h
  rw [Received.sense?, b.bytes_kind]
  exact (if_pos hs).trans (congrArg some hblock)

/-- R26: a valid arrival on a port that stays as it is only ends the errored run. -/
theorem State.validArrival_quiet (s : State) (p : Side)
    (h : (s.prot.ports.get p).link ≠ .down ∨ (s.prot.ports.get p).light = false) :
    s.validArrival p = s.modPort p fun x => { x with run := 0 } := by
  refine if_neg fun hd => ?_
  have hport : ((s.modPort p fun x => { x with run := 0 }).prot.ports.get p) = { s.prot.ports.get p with run := 0 } := by
    simp [State.modPort]
  rw [hport] at hd
  obtain ⟨hlink, hlight⟩ := hd
  exact h.elim (fun h => h hlink) fun h => Bool.noConfusion (h.symm.trans hlight)

/-- The link state of a port after an update that does not move it. -/
theorem State.modPort_link (s : State) (p : Side) (f : RxPort → RxPort) (h : ∀ x, (f x).link = x.link) :
    ((s.modPort p f).prot.ports.get p).link = (s.prot.ports.get p).link := by
  simp [State.modPort, h]

/-- The state in which a block of a port that neither proves nor goes down is handled: its errored run has ended (R26). -/
def State.heard (s : State) (p : Side) : State := s.modPort p fun x => { x with run := 0 }

theorem State.heard_link (s : State) (p : Side) : ((s.heard p).prot.ports.get p).link = (s.prot.ports.get p).link :=
  s.modPort_link p (fun x => { x with run := 0 }) fun _ => rfl

theorem State.takeBlock_transit (s : State) (p : Side) (b : Block) (hfill : b.kind ≠ .fill) (hring : b.kind ≠ .ring) :
    s.takeBlock p b = s.transitArrival p b := by
  unfold State.takeBlock; split <;> simp_all

/-- R5: a block of a kind that passes through, on a port that is UP. -/
theorem State.arrive_up (s : State) (p : Side) (b : Block) (hf : b.fits = true) (hfill : b.kind ≠ .fill) (hring : b.kind ≠ .ring)
    (hsrc : b.src.toNat ≤ 23) (hdst : b.dst.toNat ≤ 23 ∨ b.dst = 31) (hup : (s.prot.ports.get p).link = .up) :
    s.arrive p b.bytes = (s.heard p).sourceTest (directionOn p) b := by
  rw [s.arrive_sense p _ b b.bytes_checkOk (b.bytes_sense hf (.inr (.inr ⟨hsrc, hdst⟩))),
    s.validArrival_quiet p (.inl (by rw [hup]; decide))]
  exact ((s.heard p).takeBlock_transit p b hfill hring).trans (if_pos ((s.heard_link p).trans hup))

/-! ### The source test and the destination (R6, R7) -/

theorem State.sourceTest_own (s : State) (d : Dir) (b : Block) (h : s.repeater = false ∧ b.src = s.straps ∧ b.wrapped = false) :
    s.sourceTest d b = s.countDir d fun c => { c with stripped := bump c.stripped } := if_pos h

theorem State.sourceTest_passes (s : State) (d : Dir) (b : Block)
    (h : s.repeater = true ∨ b.src ≠ s.straps ∨ b.wrapped = true) : s.sourceTest d b = s.classifyBlock d b := by
  refine if_neg fun ⟨h1, h2, h3⟩ => ?_
  rcases h with h | h | h
  · exact Bool.noConfusion (h.symm.trans h1)
  · exact h h2
  · exact Bool.noConfusion (h.symm.trans h3)

theorem State.classifyBlock_other (s : State) (d : Dir) (b : Block) (h : s.repeater = true ∨ b.dst ≠ s.straps) (hb : b.dst ≠ 31) :
    s.classifyBlock d b = s.forward d b := by
  have hown : ¬(s.repeater = false ∧ b.dst = s.straps) := fun ⟨h1, h2⟩ =>
    h.elim (fun h => Bool.noConfusion (h.symm.trans h1)) fun h => h h2
  rw [State.classifyBlock, if_neg hown, if_neg hb]

theorem State.classifyBlock_own (s : State) (d : Dir) (b : Block) (h : s.repeater = false) (hb : b.dst = s.straps) :
    s.classifyBlock d b = s.deliver b := if_pos ⟨h, hb⟩

theorem State.straps_ne_broadcast (s : State) (h : s.repeater = false) : s.straps ≠ 31 := by
  intro e; rw [State.repeater, e] at h; exact absurd h (by decide)

theorem State.straps_node (s : State) (h : s.repeater = false) : s.straps.toNat ≤ 23 := by
  have := of_decide_eq_false h; omega

theorem State.classifyBlock_broadcast (s : State) (d : Dir) (b : Block) (h : s.repeater = false) (hb : b.dst = 31) :
    s.classifyBlock d b = (s.deliver b).forward d b := by
  rw [State.classifyBlock, if_neg fun e => s.straps_ne_broadcast h (e.2.symm.trans hb), if_pos hb]

theorem State.forward_expired (s : State) (d : Dir) (b : Block) (h : b.hops = 0) :
    s.forward d b = s.countDir d fun c => { c with hopsExpired := bump c.hopsExpired } := if_pos h

theorem State.forward_joins (s : State) (d : Dir) (b : Block) (h : b.hops ≠ 0) :
    s.forward d b = s.joinTransit d { b with hops := b.hops - 1 } := if_neg h

/-! ### Local delivery (R9) -/

theorem State.deliver_refused (s : State) (b : Block) (hr : s.repeater = false) (h : s.acceptsLocal b = false) :
    s.deliver b = s.modLane (laneIndex b.lane) fun e => { e with refused := bump e.refused } := by
  simp [State.deliver, hr, h]

theorem State.deliver_accepted (s : State) (b : Block) (hr : s.repeater = false) (h : s.acceptsLocal b = true) :
    s.deliver b = (s.modLane (laneIndex b.lane) fun e => { e with delivered := bump e.delivered }).handBlock b := by
  simp [State.deliver, hr, h]

theorem State.delivered_binding (s : State) (i : Fin 64) :
    ((s.modLane i fun e => { e with delivered := bump e.delivered }).lanes[i]).binding = s.lanes[i].binding := by
  simp [State.modLane]

/-- R9: which kinds fit an ordinary lane. -/
theorem LaneEntry.fits_iff (e : LaneEntry) (k : BlockKind) : e.fits k = true ↔
    (e.service = .voice ∧ k = .voice ∧ e.binding ≠ none) ∨ (e.service = .call ∧ k = .call) ∨
      (e.service = .toll ∧ k = .tollctl) := by
  unfold LaneEntry.fits
  split <;> simp_all [Option.isSome_iff_ne_none]

/-- R10: an accepted block is handed to the service of its kind. -/
theorem State.handBlock_voice (s : State) (b : Block) (r : Fin 16) (hk : b.kind = .voice)
    (hr : s.lanes[laneIndex b.lane].binding = some r) : s.handBlock b = s.takeVoice r b := by
  unfold State.handBlock; rw [hk]; dsimp only; rw [hr]

theorem State.handBlock_call (s : State) (b : Block) (hk : b.kind = .call) : s.handBlock b = s.takeCallBlock b := by
  unfold State.handBlock; rw [hk]

theorem State.handBlock_tollctl (s : State) (b : Block) (hk : b.kind = .tollctl) : s.handBlock b = s.takeTollControl b := by
  unfold State.handBlock; rw [hk]

theorem State.handBlock_mgt (s : State) (b : Block) (hk : b.kind = .mgt) :
    s.handBlock b = s.agentReceive { src := b.src, tag := b.seq, code := b.subtype, body := b.body } := by
  unfold State.handBlock; rw [hk]

/-! ### Joining a transit buffer (R12, R21) -/

theorem State.joinTransit_room (s : State) (d : Dir) (b : Block) (h : (s.ring.buffers.get d).length < 32) :
    s.joinTransit d b = (s.setBuffer d (s.ring.buffers.get d ++ [b])).afterJoin d := if_pos h

theorem State.offerRing_kept (s : State) (p : Side) (st : BitVec 4) (body : List Byte) : ∃ r : RingTransit,
    s.offerRing p st body = { s with ring := r } ∧ r.buffers = s.ring.buffers ∧ (∀ q, r.queue q = s.ring.queue q) ∧
      r.senders = s.ring.senders ∧ r.out = s.ring.out := by
  rcases s.offerRing_cases p st body with ⟨_, e⟩ | ⟨_, e⟩ <;> exact ⟨_, e, rfl, fun q => by cases q <;> rfl, rfl, rfl⟩

/-- The hold-off test after a join changes neither a buffer nor an insert queue of the node's own. -/
theorem State.afterJoin_kept (s : State) (d : Dir) : ∃ r : RingTransit, s.afterJoin d = { s with ring := r } ∧
    r.buffers = s.ring.buffers ∧ ∀ q, r.queue q = s.ring.queue q := by
  unfold State.afterJoin
  split
  · obtain ⟨r, e, hb, hq, -, -⟩ := s.offerRing_kept (fedFrom d) subHoldoff []
    unfold State.sendHoldoff
    rw [e]
    exact ⟨_, rfl, hb, fun q => by rw [← hq q]; cases q <;> rfl⟩
  · exact ⟨s.ring, rfl, rfl, fun _ => rfl⟩

/-! ### Settled: forwarding and the ends of an arrival -/

/-- Settles O11: an UP port passes the block on, the source test and the destination leave it to `forward`, and the buffer has room. -/
theorem arrivalForwardsToTransit : Obligations.ArrivalForwardsToTransit := by
  unfold Obligations.ArrivalForwardsToTransit
  intro p b s hf hfill hring hsrc hdst hhops hup hother hroom
  have hne31 : b.dst ≠ 31 := fun e => by rw [e] at hdst; exact absurd hdst (by decide)
  have harrive : s.arrive p b.bytes = (((s.heard p).setBuffer (directionOn p)
      (s.ring.buffers.get (directionOn p) ++ [{ b with hops := b.hops - 1 }])).afterJoin (directionOn p)) := by
    rw [s.arrive_up p b hf hfill hring hsrc (.inl hdst) hup, (s.heard p).sourceTest_passes _ _ (hother.imp_right And.right),
      (s.heard p).classifyBlock_other _ _ (hother.imp_right And.left) hne31, State.forward_joins _ _ _ hhops,
      (s.heard p).joinTransit_room _ _ hroom]
    rfl
  obtain ⟨r, e, hb, hq⟩ := State.afterJoin_kept ((s.heard p).setBuffer (directionOn p)
      (s.ring.buffers.get (directionOn p) ++ [{ b with hops := b.hops - 1 }])) (directionOn p)
  rw [exec_blockArrival, harrive, e]
  refine ⟨_, rfl, ?_, ?_, fun q => (hq q).trans (by cases q <;> rfl), rfl, rfl⟩
  · show r.buffers.get _ = _
    rw [hb, State.setBuffer_get]
  · show r.buffers.get _ = _
    rw [hb, State.setBuffer_other _ _ _ _ (directionOn_otherSide_ne p).symm]
    rfl

/-- Settles O12: each way out of `arrive` that does not forward, by the test that takes it. -/
theorem arrivalEndsByItsHeader : Obligations.ArrivalEndsByItsHeader := by
  unfold Obligations.ArrivalEndsByItsHeader
  refine ⟨fun p l s hok hup hbad => ?_, fun p b s hf hfill hring hsrc hdst => ⟨fun hlink => ?_, fun hup hr hown hw => ?_,
    fun hup hpass hne hne31 hhops => ?_, fun hup hr hpass hown href => ?_, fun hup hr hpass h31 hhops => ⟨fun href => ?_,
    fun r hacc hkind hbind => ?_⟩⟩⟩
  · have hnone : (Received.ofBytes l).sense? = none := by
      unfold Received.sense?
      split
      · rename_i k hk
        refine if_neg fun hs => ?_
        simp only [Received.sensible, Bool.and_eq_true, decide_eq_true_eq, Bool.or_eq_true, beq_iff_eq] at hs
        obtain ⟨hlen, hids⟩ := hs
        rcases hbad with h | h | ⟨k', hk', h1, h2, h3⟩
        · rw [h] at hk; cases hk
        · omega
        · obtain rfl : k' = k := Option.some.inj (hk'.symm.trans hk)
          rcases hids with (h | h) | ⟨hsrc, hdst⟩
          · exact h1 h
          · exact h2 h
          · rcases h3 with h3 | ⟨h3, h4⟩
            · omega
            · exact hdst.elim (by omega) h4
      · rfl
    rw [exec_blockArrival, s.arrive_malformed p l hok hnone, State.validArrival_quiet _ _ (.inl ?_)]
    · rfl
    · show (s.prot.ports.get p).link ≠ .down
      rw [hup]; decide
  · have hquiet : (s.prot.ports.get p).link ≠ .down ∨ (s.prot.ports.get p).light = false :=
      hlink.imp (fun h => by rw [h]; decide) And.right
    have hnotup : ((s.heard p).prot.ports.get p).link ≠ .up := by
      rw [s.heard_link p]
      rcases hlink with h | ⟨h, -⟩ <;> rw [h] <;> decide
    rw [exec_blockArrival, s.arrive_sense p _ b b.bytes_checkOk (b.bytes_sense hf (.inr (.inr ⟨hsrc, hdst⟩))),
      s.validArrival_quiet p hquiet,
      State.takeBlock_transit _ p b hfill hring]
    exact congrArg _ (if_neg hnotup)
  · rw [exec_blockArrival, s.arrive_up p b hf hfill hring hsrc hdst hup, (s.heard p).sourceTest_own _ _ ⟨hr, hown, hw⟩]
    rfl
  · rw [exec_blockArrival, s.arrive_up p b hf hfill hring hsrc hdst hup, (s.heard p).sourceTest_passes _ _ (.inr hpass),
      (s.heard p).classifyBlock_other _ _ (.inr hne) hne31, State.forward_expired _ _ _ hhops]
    rfl
  · rw [exec_blockArrival, s.arrive_up p b hf hfill hring hsrc hdst hup, (s.heard p).sourceTest_passes _ _ (.inr hpass),
      (s.heard p).classifyBlock_own _ _ hr hown, (s.heard p).deliver_refused _ hr href]
    rfl
  · rw [exec_blockArrival, s.arrive_up p b hf hfill hring hsrc hdst hup, (s.heard p).sourceTest_passes _ _ (.inr hpass),
      (s.heard p).classifyBlock_broadcast _ _ hr h31, (s.heard p).deliver_refused _ hr href, State.forward_joins _ _ _ hhops]
    rfl
  · rw [exec_blockArrival, s.arrive_up p b hf hfill hring hsrc hdst hup, (s.heard p).sourceTest_passes _ _ (.inr hpass),
      (s.heard p).classifyBlock_broadcast _ _ hr h31, (s.heard p).deliver_accepted _ hr hacc, State.forward_joins _ _ _ hhops,
      State.handBlock_voice _ b r hkind (((s.heard p).delivered_binding _).trans hbind)]
    rfl

/-- Settles O14. -/
theorem acceptedBlockReachesService : Obligations.AcceptedBlockReachesService := by
  unfold Obligations.AcceptedBlockReachesService
  refine ⟨fun b i s hi => ?_, fun p b s u w hf hsrc hup hr hpass hacc hu hw => ?_⟩
  · subst hi
    unfold State.acceptsLocal
    dsimp only
    by_cases h63 : (laneIndex b.lane).val = 63
    · simp [h63]
    · simp [h63, and_assoc, LaneEntry.fits_iff]
  · have hkind : b.kind = .mgt ∨ b.kind = .call ∨ b.kind = .tollctl ∨ b.kind = .voice := by
      rcases hw with ⟨h, -⟩ | ⟨h, -⟩ | ⟨h, -⟩ | ⟨r, h, -⟩ <;> simp [h]
    have hfill : b.kind ≠ .fill := by rcases hkind with h | h | h | h <;> rw [h] <;> decide
    have hring : b.kind ≠ .ring := by rcases hkind with h | h | h | h <;> rw [h] <;> decide
    have hhand : (s.heard p).deliver b = w := by
      rw [(s.heard p).deliver_accepted b hr hacc]
      have hu' : (s.heard p).modLane (laneIndex b.lane) (fun e => { e with delivered := bump e.delivered }) = u := hu.symm
      rw [hu']
      rcases hw with ⟨h, rfl⟩ | ⟨h, rfl⟩ | ⟨h, rfl⟩ | ⟨r, h, hbind, rfl⟩
      · exact u.handBlock_mgt b h
      · exact u.handBlock_call b h
      · exact u.handBlock_tollctl b h
      · refine u.handBlock_voice b r h ?_
        rw [← hu']
        exact ((s.heard p).delivered_binding _).trans hbind
    have harrive : b.dst.toNat ≤ 23 ∨ b.dst = 31 → exec (.blockArrival p b.bytes) s =
        .next ((s.heard p).classifyBlock (directionOn p) b) := fun hdst => by
      rw [exec_blockArrival, s.arrive_up p b hf hfill hring hsrc hdst hup, (s.heard p).sourceTest_passes _ _ (.inr hpass)]
    refine ⟨fun hown => ?_, fun h31 hhops => ?_, fun h31 hhops => ?_⟩
    · rw [harrive (.inl (hown ▸ s.straps_node hr)), (s.heard p).classifyBlock_own _ _ hr hown, hhand]
    · rw [harrive (.inr h31), (s.heard p).classifyBlock_broadcast _ _ hr h31, hhand, State.forward_joins _ _ _ hhops]
    · rw [harrive (.inr h31), (s.heard p).classifyBlock_broadcast _ _ hr h31, hhand, State.forward_expired _ _ _ hhops]
      rfl

end Sys2Proof.Machine
end

section
/-! PROOFS. The ports of ring protection and the RING blocks (2.1 to 2.3): what each event of a port leaves. -/

namespace Sys2Proof.Machine

/-! ### The ports, their counters apart -/

theorem State.core_of_ringView {s t : State} (h : t.ringView = s.ringView) (q : Side) :
    (t.prot.ports.get q).core = (s.prot.ports.get q).core := by
  cases q
  · exact congrArg (fun v => v.2.1) h
  · exact congrArg (fun v => v.2.2) h

theorem State.deriveRing_core (s : State) (q : Side) : (s.deriveRing.prot.ports.get q).core = (s.prot.ports.get q).core := by
  rw [port_of_view s.deriveRing_view]; cases q <;> rfl

theorem State.noticeLink_core (s : State) (p q : Side) (cause : Option LinkCause) :
    ((s.noticeLink p cause).prot.ports.get q).core = (s.prot.ports.get q).core :=
  State.core_of_ringView (s.noticeLink_ringView p cause) q

theorem State.modPort_self (s : State) (p : Side) (f : RxPort → RxPort) :
    (s.modPort p f).prot.ports.get p = f (s.prot.ports.get p) := by
  simp [State.modPort]

theorem State.modPort_other (s : State) (p : Side) (f : RxPort → RxPort) :
    (s.modPort p f).prot.ports.get (otherSide p) = s.prot.ports.get (otherSide p) := by
  cases p <;> rfl

/-- R27, R28: a port that leaves PROVING or UP for DOWN, and what stands after. -/
theorem State.portDown_spec (s : State) (p : Side) (cause : LinkCause) (h : (s.prot.ports.get p).link ≠ .down) :
    ((s.portDown p cause).prot.ports.get p).core = ((s.prot.ports.get p).goDown cause).core ∧
      ((s.portDown p cause).prot.ports.get (otherSide p)).core = (s.prot.ports.get (otherSide p)).core ∧
      (s.portDown p cause).ringOk = true := by
  unfold State.portDown
  split
  case h_1 hd => exact absurd hd h
  case h_2 =>
    rw [State.deriveRing_core, State.deriveRing_core, State.modPort_self, State.modPort_other]
    exact ⟨rfl, rfl, State.deriveRing_ringOk _⟩
  case h_3 =>
    rw [State.deriveRing_core, State.deriveRing_core, State.noticeLink_core, State.noticeLink_core, State.modPort_self,
      State.modPort_other]
    exact ⟨rfl, rfl, State.deriveRing_ringOk _⟩

/-- The fields of a port that is DOWN after `goDown`, read from its core. -/
theorem RxPort.goDown_fields {x y : RxPort} {cause : LinkCause} (h : y.core = (x.goDown cause).core) :
    y.link = .down ∧ y.cause = some cause ∧ y.gap = none ∧ y.proving = none ∧ y.run = 0 ∧ y.light = x.light :=
  ⟨show y.core.link = _ by rw [h]; rfl, show y.core.cause = _ by rw [h]; rfl, show y.core.gap = _ by rw [h]; rfl,
    show y.core.proving = _ by rw [h]; rfl, show y.core.run = _ by rw [h]; rfl, show y.core.light = _ by rw [h]; rfl⟩

theorem State.portDown_proving (s : State) (p : Side) (cause : LinkCause) (h : (s.prot.ports.get p).link = .proving) :
    s.portDown p cause = (s.modPort p (·.goDown cause)).deriveRing := by
  unfold State.portDown; rw [h]

/-- R27: a valid arrival on a DOWN port with light. -/
theorem State.validArrival_proves (s : State) (p : Side) (hd : (s.prot.ports.get p).link = .down)
    (hl : (s.prot.ports.get p).light = true) :
    s.validArrival p = ((s.heard p).modPort p (·.prove s.now)).deriveRing := by
  refine if_pos ?_
  rw [State.modPort_self]
  exact ⟨hd, hl⟩

/-- A derivation with nothing to change changes nothing. -/
theorem State.deriveRing_of_ok (s : State) (h : s.ringOk = true) : s.deriveRing = s :=
  if_pos (beq_iff_eq.mp h).symm

/-- R26: an errored arrival on a DOWN port only adds to the run. -/
theorem State.erroredArrival_down (s : State) (p : Side) (h : (s.prot.ports.get p).link = .down) :
    s.erroredArrival p = s.modPort p fun x => { x with run := min 8 (x.run + 1) } := by
  have hlink : ((s.modPort p fun x => { x with run := min 8 (x.run + 1) }).prot.ports.get p).link = .down := by
    rw [State.modPort_self]; exact h
  unfold State.erroredArrival
  dsimp only
  rw [hlink]

/-- R27: an errored arrival takes a PROVING port DOWN. -/
theorem State.erroredArrival_proving (s : State) (p : Side) (h : (s.prot.ports.get p).link = .proving) :
    s.erroredArrival p = (s.modPort p fun x => { x with run := min 8 (x.run + 1) }).portDown p .errors := by
  have hlink : ((s.modPort p fun x => { x with run := min 8 (x.run + 1) }).prot.ports.get p).link = .proving := by
    rw [State.modPort_self]; exact h
  unfold State.erroredArrival
  dsimp only
  rw [hlink]

/-! ### Settled: the events of a port -/

/-- No fault of a side comes or goes with a port that was faulted before and is after. -/
theorem State.modPort_ringOk_faulted (s : State) (p : Side) (f : RxPort → RxPort) (h : s.ringOk = true)
    (hs : (s.prot.ports.get p).faulted = true) (hf : (f (s.prot.ports.get p)).faulted = true) : (s.modPort p f).ringOk = true :=
  s.modPort_ringOk p f h (hf.trans hs.symm)

theorem RxPort.faulted_of_not_up (x : RxPort) (h : x.link ≠ .up) : x.faulted = true := by
  simp [RxPort.faulted, h]

/-- What a RING block leaves of the ports: on its side it may set the far-fault flag, the neighbour and the keep-gap timer. -/
theorem State.takeKeep_port (s : State) (p : Side) (b : Block) :
    (((s.takeKeep p b).prot.ports.get p).core = (s.prot.ports.get p).core ∨
      ((s.takeKeep p b).prot.ports.get p).core = ((s.prot.ports.get p).keep (keepFlagOf b.body) b.src s.now).core) ∧
    ((s.takeKeep p b).prot.ports.get (otherSide p)).core = (s.prot.ports.get (otherSide p)).core := by
  unfold State.takeKeep
  split
  · rw [State.modPort_self, State.modPort_other]; exact ⟨.inl rfl, rfl⟩
  · have hkeep : ∀ q, ((if keepFlagOf b.body = (s.prot.ports.get p).farFault
        then s.modPort p (·.keep (keepFlagOf b.body) b.src s.now)
        else (s.modPort p (·.keep (keepFlagOf b.body) b.src s.now)).deriveRing).prot.ports.get q).core =
        ((s.modPort p (·.keep (keepFlagOf b.body) b.src s.now)).prot.ports.get q).core := by
      intro q; split
      · rfl
      · exact State.deriveRing_core _ q
    have hself := (hkeep p).trans (congrArg _ (s.modPort_self p _))
    have hother := (hkeep (otherSide p)).trans (congrArg _ (s.modPort_other p _))
    unfold State.validKeep
    dsimp only
    split
    · exact ⟨.inr ((State.noticeLink_core _ p p _).trans hself), (State.noticeLink_core _ p _ _).trans hother⟩
    · exact ⟨.inr hself, hother⟩

theorem State.takeRing_port (s : State) (p : Side) (b : Block) :
    (((s.takeRing p b).prot.ports.get p).core = (s.prot.ports.get p).core ∨
      ((s.takeRing p b).prot.ports.get p).core = ((s.prot.ports.get p).keep (keepFlagOf b.body) b.src s.now).core) ∧
    ((s.takeRing p b).prot.ports.get (otherSide p)).core = (s.prot.ports.get (otherSide p)).core := by
  unfold State.takeRing
  split
  · exact s.takeKeep_port p b
  · split
    · exact ⟨.inl rfl, rfl⟩
    · split <;> exact ⟨.inl rfl, rfl⟩

/-- What a block handled leaves of a port that is PROVING, and of the other. -/
theorem State.takeBlock_proving (s : State) (p : Side) (b : Block) (h : (s.prot.ports.get p).link = .proving) :
    (((s.takeBlock p b).prot.ports.get p).core = (s.prot.ports.get p).core ∨
      ((s.takeBlock p b).prot.ports.get p).core = ((s.prot.ports.get p).keep (keepFlagOf b.body) b.src s.now).core) ∧
    ((s.takeBlock p b).prot.ports.get (otherSide p)).core = (s.prot.ports.get (otherSide p)).core ∧
    (s.ringOk = true → (s.takeBlock p b).ringOk = true) := by
  by_cases hfill : b.kind = .fill
  · unfold State.takeBlock; rw [hfill]; exact ⟨.inl rfl, rfl, id⟩
  · by_cases hring : b.kind = .ring
    · unfold State.takeBlock; rw [hring]
      exact ⟨(s.takeRing_port p b).1, (s.takeRing_port p b).2, s.takeRing_ringOk p b⟩
    · rw [s.takeBlock_transit p b hfill hring, State.transitArrival, if_neg (by rw [h]; decide)]
      exact ⟨.inl rfl, rfl, id⟩

/-- An arrival with its check correct on a DOWN port with light, whatever it carries (R27). -/
theorem State.arrive_proves (s : State) (p : Side) (l : List Byte) (hok : (Received.ofBytes l).checkOk = true)
    (hd : (s.prot.ports.get p).link = .down) (hl : (s.prot.ports.get p).light = true) :
    (((s.arrive p l).prot.ports.get p).core = ((s.prot.ports.get p).prove s.now).core ∨ ∃ flag src,
      ((s.arrive p l).prot.ports.get p).core = (((s.prot.ports.get p).prove s.now).keep flag src s.now).core) ∧
    ((s.arrive p l).prot.ports.get (otherSide p)).core = (s.prot.ports.get (otherSide p)).core ∧
    (s.arrive p l).ringOk = true := by
  have hprove : ∀ u : State, u.prot = s.prot → u.now = s.now →
      ((u.validArrival p).prot.ports.get p).core = ((s.prot.ports.get p).prove s.now).core ∧
      ((u.validArrival p).prot.ports.get (otherSide p)).core = (s.prot.ports.get (otherSide p)).core ∧
      (u.validArrival p).ringOk = true ∧ (u.validArrival p).now = s.now := by
    intro u hu hnow
    rw [u.validArrival_proves p (by rw [hu]; exact hd) (by rw [hu]; exact hl), State.deriveRing_core, State.deriveRing_core,
      State.modPort_self, State.modPort_other, State.heard, State.modPort_self, State.modPort_other, hu, hnow]
    refine ⟨rfl, rfl, State.deriveRing_ringOk _, ?_⟩
    exact (congrArg Prod.fst (State.deriveRing_outer ((u.modPort p _).modPort p _))).trans hnow
  cases hs : (Received.ofBytes l).sense? with
  | none =>
    rw [s.arrive_malformed p l hok hs]
    obtain ⟨hself, hother, hring, -⟩ := hprove (s.countMalformed p) rfl rfl
    exact ⟨.inl hself, hother, hring⟩
  | some b =>
    rw [s.arrive_sense p l b hok hs]
    obtain ⟨hself, hother, hring, hnow⟩ := hprove s rfl rfl
    have hlink : ((s.validArrival p).prot.ports.get p).link = .proving :=
      show ((s.validArrival p).prot.ports.get p).core.link = _ by rw [hself]; rfl
    obtain ⟨hport, hkept, hok'⟩ := (s.validArrival p).takeBlock_proving p b hlink
    refine ⟨hport.imp (·.trans hself) fun e => ⟨keepFlagOf b.body, b.src, e.trans ?_⟩, hkept.trans hother, hok' hring⟩
    rw [hnow]
    exact congrArg (fun x : RxPort => x.keep (keepFlagOf b.body) b.src s.now) hself

/-- The fields of a port that has begun to prove, read from its core. -/
theorem RxPort.prove_fields {x y : RxPort} {now : Nat}
    (h : y.core = (x.prove now).core ∨ ∃ flag src, y.core = ((x.prove now).keep flag src now).core) :
    y.link = .proving ∧ y.run = 0 ∧ y.proving = some (now + 2000) ∧ y.gap = some (now + 5) := by
  rcases h with h | ⟨_, _, h⟩
  all_goals exact ⟨show y.core.link = _ by rw [h]; rfl, show y.core.run = _ by rw [h]; rfl,
    show y.core.proving = _ by rw [h]; rfl, show y.core.gap = _ by rw [h]; rfl⟩

/-- Settles O21: each event goes to `portDown`, `validArrival` or `erroredArrival`, and the ring state is derived there. -/
theorem portEventsMoveLink : Obligations.PortEventsMoveLink := by
  unfold Obligations.PortEventsMoveLink
  refine ⟨fun p dl s hgap hlink => ?_, fun p dl s hproving hlink => ?_, fun p s => rfl, fun p s hd => ?_, fun p s hlink => ?_,
    fun p l s hok hd hl => ?_, fun p s hring hd hl => ?_, fun p l s hbad hring => ⟨fun hp => ?_, fun hd => ?_⟩⟩
  · have he : exec (.keepGapExpiry p) s = .next ((s.reach dl).portDown p .keepGap) := by
      show Host.Outcome.next (s.onTimer (s.prot.ports.get p).gap _) = _
      rw [hgap]; rfl
    obtain ⟨hself, hother, hok⟩ := (s.reach dl).portDown_spec p .keepGap hlink
    obtain ⟨hl, hc, hg, hp, hr, -⟩ := RxPort.goDown_fields hself
    exact ⟨_, he, hl, hc, hg, hp, hr, hok, hother⟩
  · have he : exec (.provingTimerExpiry p) s = .next ((s.reach dl).portUp p) := by
      show Host.Outcome.next (s.onTimer (s.prot.ports.get p).proving _) = _
      rw [hproving]; rfl
    have hcore : ∀ q, (((s.reach dl).portUp p).prot.ports.get q).core =
        (((s.reach dl).modPort p fun x => { x with link := .up, proving := none }).prot.ports.get q).core := fun q => by
      rw [State.portUp, State.deriveRing_core, State.noticeLink_core]
    have hself := (hcore p).trans (congrArg _ ((s.reach dl).modPort_self p _))
    exact ⟨_, he, show (((s.reach dl).portUp p).prot.ports.get p).core.link = _ by rw [hself]; rfl,
      show (((s.reach dl).portUp p).prot.ports.get p).core.proving = _ by rw [hself]; rfl,
      show (((s.reach dl).portUp p).prot.ports.get p).core.gap = _ by rw [hself]; rfl, State.deriveRing_ringOk _,
      (hcore _).trans (congrArg _ ((s.reach dl).modPort_other p _))⟩
  · show Host.Outcome.next ((s.modPort p fun x => { x with light := false }).portDown p .light) = _
    have hlink : ((s.modPort p fun x => { x with light := false }).prot.ports.get p).link = .down := by
      rw [State.modPort_self]; exact hd
    unfold State.portDown
    rw [hlink]; rfl
  · have hlink' : ((s.modPort p fun x => { x with light := false }).prot.ports.get p).link ≠ .down := by
      rw [State.modPort_self]; exact hlink
    obtain ⟨hself, hother, hok⟩ := (s.modPort p fun x => { x with light := false }).portDown_spec p .light hlink'
    obtain ⟨hl, hc, hg, hp, hr, hlight⟩ := RxPort.goDown_fields hself
    exact ⟨_, rfl, hl, hlight.trans (by rw [State.modPort_self]), hc, hr, hg, hp, hok,
      hother.trans (congrArg _ (s.modPort_other p _))⟩
  · obtain ⟨hself, hother, hring⟩ := s.arrive_proves p l hok hd hl
    obtain ⟨hlink, hrun, hprove, hgap⟩ := RxPort.prove_fields hself
    exact ⟨_, rfl, hlink, hrun, hprove, hgap, hring, hother⟩
  · rw [exec_blockArrival, s.arrive_sense p _ Block.fill Block.fill.bytes_checkOk (Block.bytes_sense _ rfl (.inl rfl)),
      s.validArrival_proves p hd hl, State.deriveRing_of_ok]
    · cases p <;> rfl
    · refine State.modPort_ringOk_faulted _ p _ (s.modPort_ringOk p _ hring rfl) ?_ rfl
      rw [State.heard, State.modPort_self]
      exact RxPort.faulted_of_not_up _ (by rw [hd]; decide)
  · have hself := (s.countErrored p).modPort_self p fun x => { x with run := min 8 (x.run + 1) }
    have hok : (((s.countErrored p).modPort p fun x => { x with run := min 8 (x.run + 1) }).modPort p
        (·.goDown .errors)).ringOk = true := by
      refine State.modPort_ringOk_faulted _ p _ ((s.countErrored p).modPort_ringOk p _ hring rfl) ?_ rfl
      rw [hself]
      exact RxPort.faulted_of_not_up _ fun hup => by cases hp.symm.trans hup
    rw [exec_blockArrival, s.arrive_errored p l hbad, (s.countErrored p).erroredArrival_proving p hp,
      State.portDown_proving _ p _ (by rw [hself]; exact hp), State.deriveRing_of_ok _ hok]
    have hports : (s.prot.ports.upd p fun x => { x with run := min 8 (x.run + 1) }).upd p (·.goDown .errors) =
        s.prot.ports.upd p fun x => { x with link := .down, run := 0, gap := none, proving := none, cause := some .errors,
                                             provingFailed := bump x.provingFailed } := by
      rw [PerSide.upd_upd]
      exact PerSide.upd_congr _ p (by simp [RxPort.goDown, hp])
    exact congrArg (fun ports => Host.Outcome.next ((s.countErrored p).modProt fun x => { x with ports := ports })) hports
  · rw [exec_blockArrival, s.arrive_errored p l hbad, (s.countErrored p).erroredArrival_down p hd]
    rfl

/-! ### Settled: RING blocks and the hold-off senders -/

theorem State.arrive_ring (s : State) (p : Side) (b : Block) (hf : b.fits = true) (hk : b.kind = .ring)
    (h : (s.prot.ports.get p).link ≠ .down) : s.arrive p b.bytes = (s.heard p).takeRing p b := by
  rw [s.arrive_sense p _ b b.bytes_checkOk (b.bytes_sense hf (.inr (.inl hk))), s.validArrival_quiet p (.inl h), State.takeBlock,
    hk]
  rfl

theorem State.takeRing_keep (s : State) (p : Side) (b : Block) (h : b.subtype = 1) : s.takeRing p b = s.takeKeep p b := if_pos h

theorem keepFlagOf_flag (f : Bool) : keepFlagOf [if f = true then 1 else 0] = f := by cases f <;> rfl

/-- R25: a KEEP of another node, with nothing changed that is noticed. -/
theorem State.validKeep_same (s : State) (p : Side) (b : Block) (hflag : keepFlagOf b.body = (s.prot.ports.get p).farFault)
    (hn : (s.prot.ports.get p).newNeighbour b.src = false) :
    s.validKeep p b = s.modPort p (·.keep (keepFlagOf b.body) b.src s.now) := by
  simp [State.validKeep, hflag, hn]

/-- R25: a KEEP of another node whose flag is new derives the ring state again. -/
theorem State.validKeep_ringOk (s : State) (p : Side) (b : Block) (hflag : keepFlagOf b.body ≠ (s.prot.ports.get p).farFault) :
    (s.validKeep p b).ringOk = true := by
  unfold State.validKeep
  simp only [if_neg hflag]
  split
  · exact ringOk_keeps (State.noticeLink_ringView _ p _) (State.deriveRing_ringOk _)
  · exact State.deriveRing_ringOk _

theorem State.validKeep_core (s : State) (p q : Side) (b : Block) : ((s.validKeep p b).prot.ports.get q).core =
    ((s.modPort p (·.keep (keepFlagOf b.body) b.src s.now)).prot.ports.get q).core := by
  have hkeep : ((if keepFlagOf b.body = (s.prot.ports.get p).farFault
      then s.modPort p (·.keep (keepFlagOf b.body) b.src s.now)
      else (s.modPort p (·.keep (keepFlagOf b.body) b.src s.now)).deriveRing).prot.ports.get q).core =
      ((s.modPort p (·.keep (keepFlagOf b.body) b.src s.now)).prot.ports.get q).core := by
    split
    · rfl
    · exact State.deriveRing_core _ q
  unfold State.validKeep
  dsimp only
  split
  · exact (State.noticeLink_core _ p q _).trans hkeep
  · exact hkeep

/-- R21: the join that brings a QUIET buffer to 24. -/
theorem State.offerRing_room (s : State) (p : Side) (st : BitVec 4) (body : List Byte) (h : s.ring.rq.length < 4) :
    s.offerRing p st body = s.modRing fun r => { r with rq := r.rq ++ [{ port := p, block := s.ringBlock st body }] } := if_pos h

theorem PerDir.upd_const {α : Type} (x : PerDir α) (d : Dir) (f : α → α) : x.upd d (fun _ => f (x.get d)) = x.upd d f := by
  cases d <;> rfl

/-- Settles O20: a RING block goes to `takeRing`, and a join or a departure to its hold-off test. -/
theorem ringBlocksActOnTheirSide : Obligations.RingBlocksActOnTheirSide := by
  unfold Obligations.RingBlocksActOnTheirSide
  refine ⟨fun p b f s hf hk hst hbody hlink hother => ?_, fun p b s hf hk hlink => ⟨fun hst hr hown => ?_, fun hst => ?_,
    fun hst => ?_⟩, fun d b s hlen hq hrq => ?_, fun d b rest s hbuf hlen ha hrq => ?_⟩
  · have hnot : ¬((s.heard p).repeater = false ∧ b.src = (s.heard p).straps) := fun ⟨h1, h2⟩ =>
      hother.elim (fun h => Bool.noConfusion (h.symm.trans h1)) fun h => h h2
    have harrive : s.arrive p b.bytes = (s.heard p).validKeep p b := by
      rw [s.arrive_ring p b hf hk hlink, (s.heard p).takeRing_keep p b hst]
      exact if_neg hnot
    have hflag : keepFlagOf b.body = f := by rw [hbody]; exact keepFlagOf_flag f
    have hfar : ((s.heard p).prot.ports.get p).farFault = (s.prot.ports.get p).farFault := by rw [State.heard, State.modPort_self]
    rw [exec_blockArrival, harrive]
    refine ⟨_, rfl, ?_, ?_, fun hne => (s.heard p).validKeep_ringOk p b (by rw [hflag, hfar]; exact hne), fun heq hsame => ?_⟩
    · rw [State.validKeep_core, State.modPort_self, State.heard, State.modPort_self, hflag]; rfl
    · rw [State.validKeep_core, State.modPort_other, State.heard, State.modPort_other]
    · have hnew : ((s.heard p).prot.ports.get p).newNeighbour b.src = false := by
        rw [State.heard, State.modPort_self]
        rcases hsame with h | h | h <;> simp [RxPort.newNeighbour, h]
      rw [(s.heard p).validKeep_same p b (by rw [hflag, hfar, heq]) hnew, hflag, heq]
      have hports : (s.prot.ports.upd p fun x => { x with run := 0 }).upd p
            (·.keep (s.prot.ports.get p).farFault b.src s.now) = s.prot.ports.upd p fun x =>
            { x with run := 0, gap := x.gap.map fun _ => s.now + 5, neighbour := some b.src } := by
        rw [PerSide.upd_upd]; exact PerSide.upd_congr _ p rfl
      exact congrArg (fun ports => s.modProt fun x => { x with ports := ports }) hports
  · rw [exec_blockArrival, s.arrive_ring p b hf hk hlink, (s.heard p).takeRing_keep p b hst, State.takeKeep, if_pos ⟨hr, hown⟩]
    cases p <;> rfl
  · rw [exec_blockArrival, s.arrive_ring p b hf hk hlink, State.takeRing, if_neg (by rw [hst]; decide),
      if_pos (show b.subtype = subHoldoff from hst)]
    rfl
  · rw [exec_blockArrival, s.arrive_ring p b hf hk hlink, State.takeRing, if_neg (by rw [hst]; decide),
      if_neg (by rw [hst]; decide), if_pos (show b.subtype = subRelease from hst)]
    rfl
  · have hnew : (((s.setBuffer d (s.ring.buffers.get d ++ [b])).ring.buffers.get d).length = 24 ∧
        ((s.setBuffer d (s.ring.buffers.get d ++ [b])).ring.senders.get d).asserted = false) := by
      rw [State.setBuffer_get, List.length_append, hlen]; exact ⟨rfl, hq⟩
    rw [s.joinTransit_room d b (by omega), State.afterJoin, if_pos hnew, State.sendHoldoff,
      (s.setBuffer d (s.ring.buffers.get d ++ [b])).offerRing_room _ _ _ hrq,
      ← PerDir.upd_const s.ring.buffers d (· ++ [b])]
    rfl
  · have hnew : (((s.setBuffer d ((s.ring.buffers.get d).drop 1)).ring.buffers.get d).length = 7 ∧
        ((s.setBuffer d ((s.ring.buffers.get d).drop 1)).ring.senders.get d).asserted = true) := by
      rw [State.setBuffer_get, hbuf]; exact ⟨hlen, ha⟩
    show (s.setBuffer d ((s.ring.buffers.get d).drop 1)).afterDeparture d = _
    rw [State.afterDeparture, if_pos hnew, State.sendRelease,
      (s.setBuffer d ((s.ring.buffers.get d).drop 1)).offerRing_room _ _ _ hrq, hbuf]
    rfl

/-! ### Settled: the timers of ring transit -/

theorem State.onTimer_running (s : State) {o : Option Nat} {dl : Nat} (h : o = some dl) (f : State → State) :
    s.onTimer o f = f (s.reach dl) := by rw [h]; rfl

/-- Settles O19: each expiry acts at the deadline on the one port or buffer its timer belongs to. -/
theorem creditKeepAndHoldoffTimersAct : Obligations.CreditKeepAndHoldoffTimersAct := by
  unfold Obligations.CreditKeepAndHoldoffTimersAct
  refine ⟨fun p s => ?_, fun p s => ?_, fun d dl s hdl => ?_, fun p dl s hdl => ?_⟩
  · exact ⟨_, rfl, rfl, PerSide.get_upd_self s.ring.out p _, PerSide.get_upd_other s.ring.out p _, rfl, rfl⟩
  · have hflag : flagByte ((s.prot.ports.get p).link != .up) = if (s.prot.ports.get p).link = .up then 0 else 1 := by
      cases (s.prot.ports.get p).link <;> rfl
    rcases (s.reach (s.prot.keep.get p)).offerRing_cases p subKeep [flagByte ((s.prot.ports.get p).link != .up)] with
      ⟨hl, e⟩ | ⟨hl, e⟩
    all_goals
      have he : exec (.keepTimerExpiry p) s = .next (((s.reach (s.prot.keep.get p)).offerRing p subKeep
        [flagByte ((s.prot.ports.get p).link != .up)]).modProt fun x =>
          { x with keep := x.keep.upd p fun _ => (s.reach (s.prot.keep.get p)).now + 1 }) := rfl
      rw [he, e]
    · exact ⟨_, rfl, rfl, rfl, fun _ => by rw [← hflag]; rfl, fun h => absurd hl (by show ¬ s.ring.rq.length < 4; omega), rfl⟩
    · exact ⟨_, rfl, rfl, rfl, fun h => absurd hl (by show ¬ 4 ≤ s.ring.rq.length; omega), fun _ => rfl, rfl⟩
  · have he : exec (.holdoffRepeatExpiry d) s = .next (if 8 ≤ (s.ring.buffers.get d).length then (s.reach dl).sendHoldoff d
        else (s.reach dl).modSender d fun x => { x with timer := none }) := congrArg _ (s.onTimer_running hdl _)
    rw [he]
    split_ifs with h8
    · obtain ⟨r, e, hb, -, hs, -⟩ := (s.reach dl).offerRing_kept (fedFrom d) subHoldoff []
      have hr : ((s.reach dl).offerRing (fedFrom d) subHoldoff []).ring = r := congrArg State.ring e
      refine ⟨_, rfl, ?_, ?_, fun _ => ?_, fun h => absurd h8 (by omega), ?_⟩
      · rw [State.sendHoldoff, e]; rfl
      · rw [State.sendHoldoff, e]; exact hb
      · rw [State.sendHoldoff, e]
        have hself := PerDir.get_upd_self r.senders d fun _ => { asserted := true, timer := some ((s.reach dl).now + 5) }
        refine ⟨congrArg HoldSender.asserted hself, congrArg HoldSender.timer hself, fun hrq => ?_⟩
        show r.rq = _
        rw [← hr, (s.reach dl).offerRing_room _ _ _ hrq]; rfl
      · rw [State.sendHoldoff, e]; rfl
    · refine ⟨_, rfl, rfl, rfl, fun h => absurd h h8, fun _ => ⟨?_, rfl⟩, rfl⟩
      exact congrArg HoldSender.timer (PerDir.get_upd_self s.ring.senders d _)
  · have he : exec (.holdoffReceiverExpiry p) s = .next ((s.reach dl).modOut p fun o => { o with heldOff := none }) :=
      congrArg _ (s.onTimer_running hdl _)
    exact ⟨_, he, congrArg OutPort.heldOff (PerSide.get_upd_self s.ring.out p _), PerSide.get_upd_other s.ring.out p _, rfl, rfl⟩

/-! ### Refuted: the eighth errored arrival -/

/-- Both ports UP, the errored run of E at 7, and yet the ring state ISOLATED: a state of no run. MQ is full and a CLEAR-COUNTERS of ring
transit and ring protection waits in the intake. -/
def State.isolatedThoughUp : State := { State.reset with
  prot := { State.reset.prot with
    ports := ⟨{ RxPort.reset true with link := .up, run := 7 }, { RxPort.reset true with link := .up }⟩ }
  ring := { State.reset.ring with mq := List.replicate 16 Block.fill }
  ctl := { State.reset.ctl with state := .idle, op := none, timer := none }
  agent := { State.reset.agent with intake := [{ src := 0, tag := 0, code := cmdClearCounters, body := [Group.ring.code] }] } }

/-- There the port's way DOWN leads out of ISOLATED, where the agent takes the command that waits, which clears the counter again. -/
theorem State.isolatedThoughUp_errored : (State.isolatedThoughUp.arrive .E []).ring.rx.e.errored = 0 := by rfl

/-- Refutes O13: the eighth errored arrival in a row leaves the errored counter 0, not 1, where it is what ends ISOLATED and a command
that clears the counter waits in the intake. The statement does not ask that the ring state be the one the two sides derive. -/
theorem not_erroredRunOfEightTakesPortDown : ¬ Obligations.ErroredRunOfEightTakesPortDown := by
  unfold Obligations.ErroredRunOfEightTakesPortDown
  intro h
  obtain ⟨t, ht, -, -, -, hcount, -⟩ := (h .E [] State.isolatedThoughUp rfl rfl).2 rfl
  have he : t = State.isolatedThoughUp.arrive .E [] := (Host.Outcome.next.inj ht).symm
  rw [he] at hcount
  exact absurd (hcount.symm.trans State.isolatedThoughUp_errored) (by decide)

end Sys2Proof.Machine
end

section
/-! PROOFS. The transmit arbiter (1.6): what one choice takes and leaves. -/

namespace Sys2Proof.Machine

theorem PerSide.upd_id {α : Type} (x : PerSide α) (p : Side) (f : α → α) (h : ∀ a, f a = a) : x.upd p f = x := by
  cases p
  · exact congrArg (fun a => ({ x with e := a } : PerSide α)) (h x.e)
  · exact congrArg (fun a => ({ x with w := a } : PerSide α)) (h x.w)

/-! ### What a choice finds (R19) -/

/-- No emergency block goes before the others: the port is not the insertion port, EQ is empty or its allowance spent. -/
def State.noEmergency (s : State) (p : Side) : Prop :=
  s.prot.ring.insertion ≠ some p ∨ s.ring.eq = [] ∨ (s.ring.out.get p).allowance = 0

theorem State.emergency_none (s : State) (p : Side) (h : s.noEmergency p) :
    (if s.prot.ring.insertion == some p && decide (0 < (s.ring.out.get p).allowance) then s.ring.eq.head? else none) = none := by
  rcases h with h | h | h <;> simp [h]

/-- RQ gives a port the oldest block that names it. -/
theorem takeRq_split (p : Side) (b : Block) (pre post : List RingOffer) (h : ∀ o ∈ pre, o.port ≠ p) :
    takeRq p (pre ++ { port := p, block := b } :: post) = some (b, pre ++ post) := by
  induction pre with
  | nil => simp [takeRq]
  | cons o l ih => simp [takeRq, h o (by simp), ih fun x hx => h x (by simp [hx])]

theorem State.choose_of_rq (s : State) (p : Side) (b : Block) (rest : List RingOffer) (h : takeRq p s.ring.rq = some (b, rest)) :
    s.choose p = .rq b rest := by
  simp [State.choose, h]

theorem State.choose_of_eq (s : State) (p : Side) (b : Block) (rest : List Block) (hq : ∀ o ∈ s.ring.rq, o.port ≠ p)
    (hi : s.prot.ring.insertion = some p) (ha : 0 < (s.ring.out.get p).allowance) (he : s.ring.eq = b :: rest) :
    s.choose p = .eq b := by
  simp [State.choose, takeRq_eq_none p _ hq, hi, ha, he]

theorem State.choose_of_transit (s : State) (p : Side) (d : Dir) (b : Block) (hq : ∀ o ∈ s.ring.rq, o.port ≠ p)
    (he : s.noEmergency p) (hb : pickBuffer (s.prot.ring.serves p) (s.ring.out.get p).lastBuffer s.ring = some (d, b)) :
    s.choose p = .transit d b := by
  simp only [State.choose, takeRq_eq_none p _ hq, s.emergency_none p he, hb]

/-- The class queue the insertion port serves by credit (R19). -/
def State.byCredit (s : State) (p : Side) : Option ClassQueue :=
  (s.ring.out.get p).rotation.search fun c => s.ring.hasClass c && decide (0 < (s.ring.out.get p).credits.get c)

/-- The class queue it serves by rotation alone, with no credit left that counts (R19). -/
def State.byRotation (s : State) (p : Side) : Option ClassQueue := (s.ring.out.get p).rotation.search s.ring.hasClass

theorem State.choose_of_credit (s : State) (p : Side) (c : ClassQueue) (b : Block) (rest : List Block)
    (hq : ∀ o ∈ s.ring.rq, o.port ≠ p) (he : s.noEmergency p)
    (hn : pickBuffer (s.prot.ring.serves p) (s.ring.out.get p).lastBuffer s.ring = none)
    (hi : s.prot.ring.insertion = some p) (hf : (s.ring.out.get p).heldOff = none) (hc : s.byCredit p = some c)
    (hb : s.ring.queue c.insertQueue = b :: rest) : s.choose p = .credit c b := by
  unfold State.byCredit at hc
  simp only [State.choose, takeRq_eq_none p _ hq, s.emergency_none p he, hn]
  simp only [hi, hf, Option.isNone_none, Bool.and_true, beq_self_eq_true, if_true, hc, hb]
  rfl

theorem State.choose_of_spare (s : State) (p : Side) (c : ClassQueue) (b : Block) (rest : List Block)
    (hq : ∀ o ∈ s.ring.rq, o.port ≠ p) (he : s.noEmergency p)
    (hn : pickBuffer (s.prot.ring.serves p) (s.ring.out.get p).lastBuffer s.ring = none)
    (hi : s.prot.ring.insertion = some p) (hf : (s.ring.out.get p).heldOff = none) (h0 : s.byCredit p = none)
    (hc : s.byRotation p = some c) (hb : s.ring.queue c.insertQueue = b :: rest) : s.choose p = .spare c b := by
  unfold State.byCredit at h0
  unfold State.byRotation at hc
  simp only [State.choose, takeRq_eq_none p _ hq, s.emergency_none p he, hn]
  simp only [hi, hf, Option.isNone_none, Bool.and_true, beq_self_eq_true, if_true, h0, hc, hb]
  rfl

/-- Nothing in its buffers, and either no insertion here, or held off, or no class queue with a block: FILL (R19 step 6). -/
theorem State.choose_fill (s : State) (p : Side) (hq : ∀ o ∈ s.ring.rq, o.port ≠ p) (he : s.noEmergency p)
    (hn : pickBuffer (s.prot.ring.serves p) (s.ring.out.get p).lastBuffer s.ring = none)
    (hf : s.prot.ring.insertion ≠ some p ∨ (s.ring.out.get p).heldOff.isSome = true ∨ ∀ c, s.ring.hasClass c = false) :
    s.choose p = .fill := by
  have hnone : ∀ l : ClassQueue, (∀ c, s.ring.hasClass c = false) → l.search s.ring.hasClass = none ∧
      l.search (fun c => s.ring.hasClass c && decide (0 < (s.ring.out.get p).credits.get c)) = none := fun l h => by
    simp [ClassQueue.search, h]
  simp only [State.choose, takeRq_eq_none p _ hq, s.emergency_none p he, hn]
  rcases hf with h | h | h
  · simp [h]
  · obtain ⟨t, ht⟩ := Option.isSome_iff_exists.mp h
    simp [ht]
  · simp [(hnone _ h).1, (hnone _ h).2]

/-! ### The state a choice leaves -/

/-- The state after a choice has left its place and its outcome of the wrap test has been counted. -/
def State.taken (s : State) (p : Side) (c : Choice) : State :=
  ((s.modOut p (·.chose c)).modProt fun x =>
    { x with wrap := x.wrap.upd (c.tested s.prot.ring).1 (·.after (c.tested s.prot.ring).2) }).depart c

theorem State.chooseUpTo_sent (s : State) (p : Side) (n : Nat) (c : Choice) (b : Block) (hc : s.choose p = c)
    (hb : (c.tested s.prot.ring).2 = .sent b ∨ (c.tested s.prot.ring).2 = .turned b) :
    s.chooseUpTo p (n + 1) = (s.taken p c).send p b := by
  subst hc
  rcases hb with h | h <;> simp only [State.chooseUpTo, State.chooseOnce, State.taken, h]

theorem State.chooseUpTo_discarded (s : State) (p : Side) (n : Nat) (c : Choice) (hc : s.choose p = c)
    (hb : (c.tested s.prot.ring).2 = .discarded) : s.chooseUpTo p (n + 1) = (s.taken p c).chooseUpTo p n := by
  subst hc
  simp only [State.chooseUpTo, State.chooseOnce, State.taken, hb]

/-- R19: a port sends the block its choice and the wrap test give. -/
theorem State.arbiter_sent (s : State) (p : Side) (c : Choice) (b : Block) (hc : s.choose p = c)
    (hb : (c.tested s.prot.ring).2 = .sent b ∨ (c.tested s.prot.ring).2 = .turned b) :
    s.arbiter p = (s.taken p c).send p b := s.chooseUpTo_sent p _ c b hc hb

/-- A block sent as it is leaves the wrap counters. -/
theorem State.taken_sent (s : State) (p : Side) (c : Choice) (b : Block) (h : (c.tested s.prot.ring).2 = .sent b) :
    s.taken p c = (s.modOut p (·.chose c)).depart c := by
  unfold State.taken
  rw [h]
  have hw : s.prot.wrap.upd (c.tested s.prot.ring).1 (·.after (.sent b)) = s.prot.wrap := PerSide.upd_id _ _ _ fun _ => rfl
  exact congrArg (fun w => ((s.modOut p (·.chose c)).modProt fun x => { x with wrap := w }).depart c) hw

theorem State.send_fill (s : State) (p : Side) : s.send p Block.fill = s.modOut p fun o => { o with sending := Block.fill } := rfl

theorem State.send_counted (s : State) (p : Side) (b : Block) (h : b.kind ≠ .fill) :
    s.send p b = (s.modOut p fun o => { o with sending := b }).modRing fun r =>
      { r with tx := r.tx.upd p fun c => { c with sent := bump c.sent } } := if_neg h

/-- What a departure from a transit buffer changes beside that buffer: RQ, the hold-off sender and the count of RQ's refusals. -/
theorem State.afterDeparture_kept (s : State) (d : Dir) : ∃ r : RingTransit, s.afterDeparture d = { s with ring := r } ∧
    r.buffers = s.ring.buffers ∧ (∀ q, r.queue q = s.ring.queue q) ∧ r.out = s.ring.out ∧
    (∀ p, (r.tx.get p).sent = (s.ring.tx.get p).sent) := by
  unfold State.afterDeparture
  split
  · unfold State.sendRelease
    rcases s.offerRing_cases (fedFrom d) subRelease [] with ⟨_, e⟩ | ⟨_, e⟩
    · rw [e]; exact ⟨_, rfl, rfl, fun q => by cases q <;> rfl, rfl, fun p => rfl⟩
    · rw [e]
      refine ⟨_, rfl, rfl, fun q => by cases q <;> rfl, rfl, fun p => ?_⟩
      show ((s.ring.tx.upd (fedFrom d) _).get p).sent = _
      rw [PerSide.get_upd]; split <;> rfl
  · exact ⟨s.ring, rfl, rfl, fun _ => rfl, rfl, fun _ => rfl⟩

/-! ### Settled: RQ and the transit head -/

theorem exec_sendCompletion (p : Side) (s : State) : exec (.sendCompletion p) s = .next (s.arbiter p) := rfl

theorem pickBuffer_one (d last : Dir) (r : RingTransit) (b : Block) (rest : List Block) (h : r.buffers.get d = b :: rest) :
    pickBuffer [d] last r = some (d, b) := by
  unfold pickBuffer
  simp only [List.filterMap_cons, h, List.head?_cons, Option.map_some, List.filterMap_nil, List.find?_cons]
  by_cases hd : (d != last) = true <;> simp [hd]

/-- Settles O16: RQ's oldest block for the port is the choice, or else the head of the one buffer it serves. -/
theorem sendTakesRingBlockThenTransitHead : Obligations.SendTakesRingBlockThenTransitHead := by
  unfold Obligations.SendTakesRingBlockThenTransitHead
  refine ⟨fun p b pre post s hrq hpre hk => ?_, fun p d b rest s hc hd hrq heq hbuf hk => ?_⟩
  · have hchoose : s.choose p = .rq b (pre ++ post) := s.choose_of_rq p b _ (by rw [hrq]; exact takeRq_split p b pre post hpre)
    rw [exec_sendCompletion, s.arbiter_sent p _ b hchoose (.inl rfl), s.taken_sent p _ b rfl, State.send_counted _ p b hk]
    refine ⟨_, rfl, ?_, rfl, ?_, rfl, fun q => by cases q <;> rfl, ?_, rfl⟩
    · cases p <;> rfl
    · cases p <;> rfl
    · cases p <;> rfl
  · have hchoose : s.choose p = .transit d b := by
      refine s.choose_of_transit p d b hrq ?_ ?_
      · unfold State.noEmergency
        rw [hc]
        cases p
        · exact .inr (heq rfl)
        · exact .inl (by decide)
      · have : s.prot.ring.serves p = [d] := by rw [hc]; subst hd; cases d <;> rfl
        rw [this]; exact pickBuffer_one d _ _ b rest hbuf
    have htest : ((Choice.transit d b).tested s.prot.ring).2 = .sent b := by rw [hc]; cases d <;> rfl
    rw [exec_sendCompletion, s.arbiter_sent p _ b hchoose (.inl htest), s.taken_sent p _ b htest, State.send_counted _ p b hk]
    obtain ⟨r, e, hb, hq, ho, ht⟩ := State.afterDeparture_kept (((s.modOut p (·.chose (.transit d b))).setBuffer d
      ((s.ring.buffers.get d).drop 1))) d
    have e' : (s.modOut p (·.chose (.transit d b))).depart (.transit d b) = { s with ring := r } := e
    rw [e']
    refine ⟨_, rfl, ?_, ?_, ?_, fun q => ?_, ?_, rfl⟩
    · exact congrArg OutPort.sending (PerSide.get_upd_self r.out p _)
    · show r.buffers.get d = rest
      rw [hb, State.setBuffer_get, hbuf]; rfl
    · show ((r.tx.upd p _).get p).sent = _
      rw [PerSide.get_upd_self]; exact congrArg bump (ht p)
    · exact Eq.trans (by cases q <;> rfl) ((hq q).trans (by cases q <;> rfl))
    · show (r.out.upd p _).get (otherSide p) = _
      rw [PerSide.get_upd_other, ho]; exact PerSide.get_upd_other s.ring.out p _

end Sys2Proof.Machine
end

section
/-! PROOFS. What the agent's turns leave of ring transit beside the insert queues: the two transit buffers, whatever command is taken. -/

namespace Sys2Proof.Machine

/-- The two transit buffers. -/
def State.transit (s : State) : PerDir (List Block) := s.ring.buffers

theorem State.modLanes_transit (s : State) (f : Vector LaneEntry 64 → Vector LaneEntry 64) :
    (s.modLanes f).transit = s.transit := rfl

theorem State.modPoll_transit (s : State) (f : Poller → Poller) :
    (s.modPoll f).transit = s.transit := rfl

theorem State.modCalls_transit (s : State) (f : CallEngine → CallEngine) :
    (s.modCalls f).transit = s.transit := rfl

theorem State.modJrnl_transit (s : State) (f : Journal → Journal) :
    (s.modJrnl f).transit = s.transit := rfl

theorem State.modCtl_transit (s : State) (f : StoreController → StoreController) :
    (s.modCtl f).transit = s.transit := rfl

theorem State.modSlots_transit (s : State) (f : Vector ReductionSlot 8 → Vector ReductionSlot 8) :
    (s.modSlots f).transit = s.transit := rfl

theorem State.modRules_transit (s : State) (f : Vector Rule 32 → Vector Rule 32) :
    (s.modRules f).transit = s.transit := rfl

theorem State.modSign_transit (s : State) (f : SignService → SignService) :
    (s.modSign f).transit = s.transit := rfl

theorem State.modSup_transit (s : State) (f : Supply → Supply) :
    (s.modSup f).transit = s.transit := rfl

theorem State.modAgent_transit (s : State) (f : Agent → Agent) :
    (s.modAgent f).transit = s.transit := rfl

theorem State.modLane_transit (s : State) (i : Fin 64) (f : LaneEntry → LaneEntry) :
    (s.modLane i f).transit = s.transit := rfl

theorem State.modStation_transit (s : State) (i : Fin 32) (f : Station → Station) :
    (s.modStation i f).transit = s.transit := rfl

theorem State.modDrop_transit (s : State) (i : Fin 4) (f : Drop → Drop) :
    (s.modDrop i f).transit = s.transit := rfl

theorem State.modRecord_transit (s : State) (i : Fin 16) (f : CallRecord → CallRecord) :
    (s.modRecord i f).transit = s.transit := rfl

theorem State.modAnswers_transit (s : State) (i : Fin 32) (f : List AnswerEntry → List AnswerEntry) :
    (s.modAnswers i f).transit = s.transit := rfl

theorem State.modSlot_transit (s : State) (i : Fin 8) (f : ReductionSlot → ReductionSlot) :
    (s.modSlot i f).transit = s.transit := rfl

theorem State.modRule_transit (s : State) (i : Fin 32) (f : Rule → Rule) :
    (s.modRule i f).transit = s.transit := rfl

theorem State.modSignRec_transit (s : State) (i : Fin 12) (f : Sign → Sign) :
    (s.modSignRec i f).transit = s.transit := rfl

theorem State.spend_transit (s : State) (n : Nat) :
    (s.spend n).transit = s.transit := rfl

/-- A loop whose steps leave it leaves it. -/
theorem State.forEach_transit {α : Type} (f : α → State → State) (h : ∀ a t, (f a t).transit = t.transit) (l : List α) :
    ∀ s : State, (s.forEach l f).transit = s.transit := by
  induction l with
  | nil => intro s; rfl
  | cons a l ih => intro s; exact (ih (f a s)).trans (h a s)

theorem State.join_transit (s : State) (q : LocalQueue) (b : Block) :
    (s.join q b).transit = s.transit := by
  unfold State.join
  cases q <;> rfl

theorem State.passNotice_transit (s : State) :
    (s.passNotice).transit = s.transit := by
  unfold State.passNotice
  repeat' first | (with_reducible rfl) | simp only [State.modAgent_transit, State.join_transit] | split

theorem State.offerNotice_transit (s : State) :
    (s.offerNotice).transit = s.transit := by
  unfold State.offerNotice
  repeat' first | (with_reducible rfl) | simp only [State.passNotice_transit] | split

theorem State.notify_transit (s : State) (body : NoticeBody) :
    (s.notify body).transit = s.transit := by
  unfold State.notify
  repeat' first | (with_reducible rfl) | simp only [State.modAgent_transit, State.offerNotice_transit] | split

theorem State.startStep_transit (s : State) (op : StoreOp) :
    (s.startStep op).transit = s.transit := by
  simp only [State.startStep, State.modCtl_transit]

theorem State.startOp_transit (s : State) (op : StoreOp) :
    (s.startOp op).transit = s.transit := by
  simp only [State.startOp, State.modCtl_transit, State.startStep_transit]

theorem State.startCommit_transit (s : State) :
    (s.startCommit).transit = s.transit := by
  unfold State.startCommit
  repeat' first | (with_reducible rfl) | simp only [State.modJrnl_transit, State.startOp_transit] | split

theorem State.startRead_transit (s : State) (serial : Nat) (rest : List Nat) :
    (s.startRead serial rest).transit = s.transit := by
  unfold State.startRead
  repeat' first | (with_reducible rfl) | simp only [State.modJrnl_transit, State.modCtl_transit, State.startOp_transit] | split

theorem State.startSave_transit (s : State) (sv : Save) :
    (s.startSave sv).transit = s.transit := by
  unfold State.startSave
  repeat' first | (with_reducible rfl) | simp only [State.startOp_transit] | split

theorem State.storeKick_transit (s : State) :
    (s.storeKick).transit = s.transit := by
  unfold State.storeKick
  repeat' first | (with_reducible rfl) | simp only [State.startCommit_transit, State.startOp_transit, State.startSave_transit, State.startRead_transit] | split

theorem State.scanRead_transit (s : State) (slot : Nat) :
    (s.scanRead slot).transit = s.transit := by
  simp only [State.scanRead, State.startStep_transit]

theorem State.emptyAnswers_transit (s : State) (slot : Fin 32) :
    (s.emptyAnswers slot).transit = s.transit := by
  simp only [State.emptyAnswers, State.modJrnl_transit, State.modAnswers_transit]

theorem State.emptyReadAhead_transit (s : State) :
    (s.emptyReadAhead).transit = s.transit := by
  simp only [State.emptyReadAhead, State.modJrnl_transit, State.modCtl_transit]

theorem State.requestRead_transit (s : State) (serial : Nat) :
    (s.requestRead serial).transit = s.transit := by
  simp only [State.requestRead, State.modJrnl_transit, State.modCtl_transit, State.storeKick_transit]

theorem State.requestReadsUpTo_transit (s : State) (n : Nat) :
    (s.requestReadsUpTo n).transit = s.transit := by
  induction n generalizing s with
  | zero => rfl
  | succ n ih =>
    unfold State.requestReadsUpTo
    repeat' first | (with_reducible rfl) | simp only [State.requestRead_transit, ih] | split

theorem State.requestReads_transit (s : State) :
    (s.requestReads).transit = s.transit := by
  simp only [State.requestReads, State.requestReadsUpTo_transit]

theorem State.offerTollsUpTo_transit (s : State) (n : Nat) :
    (s.offerTollsUpTo n).transit = s.transit := by
  induction n generalizing s with
  | zero => rfl
  | succ n ih =>
    unfold State.offerTollsUpTo
    repeat' first | (with_reducible rfl) | simp only [State.modJrnl_transit, State.requestReads_transit, State.join_transit, ih] | split

theorem State.offerTolls_transit (s : State) :
    (s.offerTolls).transit = s.transit := by
  simp only [State.offerTolls, State.offerTollsUpTo_transit]

theorem State.carryAnswers_transit (s : State) (slot : Fin 32) :
    (s.carryAnswers slot).transit = s.transit := by
  simp only [State.carryAnswers, State.modAnswers_transit]

theorem State.restartJournal_transit (s : State) :
    (s.restartJournal).transit = s.transit := by
  simp only [State.restartJournal, State.modJrnl_transit, State.emptyReadAhead_transit]

theorem State.countVoice_transit (s : State) (r : Fin 16) (f : VoiceCounters → VoiceCounters) :
    (s.countVoice r f).transit = s.transit := by
  simp only [State.countVoice, State.modCalls_transit, State.modRecord_transit]

theorem State.modVoice_transit (s : State) (r : Fin 16) (f : VoiceFields → VoiceFields) :
    (s.modVoice r f).transit = s.transit := by
  simp only [State.modVoice, State.modRecord_transit]

theorem State.playStep_transit (s : State) (r : Fin 16) :
    (s.playStep r).2.transit = s.transit := by
  unfold State.playStep
  repeat' first | (with_reducible rfl) | simp only [State.countVoice_transit, State.modVoice_transit] | split

theorem State.arbitrate_transit (s : State) (k : Fin 12) :
    (s.arbitrate k).transit = s.transit := by
  simp only [State.arbitrate, State.modSignRec_transit]

theorem State.arbitrateSet_transit (s : State) (m : BitVec 12) :
    (s.arbitrateSet m).transit = s.transit := by
  simp only [State.arbitrateSet, State.arbitrate_transit, State.forEach_transit, implies_true]

theorem State.noticeRule_transit (s : State) (i : Fin 32) :
    (s.noticeRule i).transit = s.transit := by
  simp only [State.noticeRule, State.notify_transit]

theorem State.settle_transit (s : State) (also : BitVec 12) (but : Option (Fin 32)) :
    (s.settle also but).transit = s.transit := by
  unfold State.settle
  repeat' first | (with_reducible rfl) | simp only [State.modRules_transit, State.noticeRule_transit, State.arbitrateSet_transit, State.forEach_transit, implies_true]

theorem State.writeRule_transit (s : State) (i : Fin 32) (x : RuleRecord) :
    (s.writeRule i x).transit = s.transit := by
  simp only [State.writeRule, State.modRule_transit, State.settle_transit]

theorem State.settleAll_transit (s : State) :
    (s.settleAll).transit = s.transit := by
  simp only [State.settleAll, State.modRules_transit, State.arbitrateSet_transit]

theorem State.restartSigns_transit (s : State) :
    (s.restartSigns).transit = s.transit := by
  simp only [State.restartSigns, State.modRules_transit, State.settleAll_transit]

theorem State.modPage_transit (s : State) (k : Fin 12) (p : Fin 8) (f : Page → Page) :
    (s.modPage k p f).transit = s.transit := by
  simp only [State.modPage, State.modSignRec_transit]

theorem State.pageOpen_transit (s : State) (k : Fin 12) (p : Fin 8) (code : Byte) :
    (s.pageOpen k p code).2.transit = s.transit := by
  unfold State.pageOpen
  repeat' first | (with_reducible rfl) | simp only [State.modSign_transit, State.modPage_transit] | split

theorem State.pageData_transit (s : State) (k : Fin 12) (p : Fin 8) (offset : Nat) (data : List Byte) :
    (s.pageData k p offset data).2.transit = s.transit := by
  unfold State.pageData
  repeat' first | (with_reducible rfl) | simp only [State.modSign_transit, State.modPage_transit, State.arbitrate_transit] | split

theorem State.pageDiscard_transit (s : State) (k : Fin 12) (p : Fin 8) :
    (s.pageDiscard k p).2.transit = s.transit := by
  unfold State.pageDiscard
  repeat' first | (with_reducible rfl) | simp only [State.modPage_transit, State.arbitrate_transit] | split

theorem State.signSet_transit (s : State) (k : Fin 12) (p : Fin 8) (priority minutes : Nat) :
    (s.signSet k p priority minutes).2.transit = s.transit := by
  unfold State.signSet
  repeat' first | (with_reducible rfl) | simp only [State.modSignRec_transit, State.arbitrate_transit] | split

theorem State.dropRequest_transit (s : State) (k : Fin 12) :
    (s.dropRequest k).transit = s.transit := by
  simp only [State.dropRequest, State.modSignRec_transit, State.arbitrate_transit]

theorem State.signCancel_transit (s : State) (k : Fin 12) :
    (s.signCancel k).2.transit = s.transit := by
  unfold State.signCancel
  repeat' first | (with_reducible rfl) | simp only [State.dropRequest_transit] | split

theorem State.signPayload_transit (s : State) (k : Fin 12) :
    (s.signPayload k).2.transit = s.transit := by
  unfold State.signPayload
  repeat' first | (with_reducible rfl) | simp only [State.modSignRec_transit]

theorem State.relinkSign_transit (s : State) (k : Fin 12) (station : Option (Fin 32)) :
    (s.relinkSign k station).transit = s.transit := by
  simp only [State.relinkSign, State.modSignRec_transit]

theorem State.writeSign_transit (s : State) (k : Fin 12) (m : IntensityMode) :
    (s.writeSign k m).transit = s.transit := by
  simp only [State.writeSign, State.modSignRec_transit, State.arbitrate_transit]

theorem State.stationPayload_transit (s : State) (slot : Fin 32) :
    (s.stationPayload slot).2.transit = s.transit := by
  unfold State.stationPayload
  repeat' first | (with_reducible rfl) | simp only [State.signPayload_transit, State.carryAnswers_transit] | split

theorem State.voicePayload_transit (s : State) (slot : Fin 32) :
    (s.voicePayload slot).2.transit = s.transit := by
  unfold State.voicePayload
  repeat' first | (with_reducible rfl) | simp only [State.playStep_transit] | split

theorem State.beginExchange_transit (s : State) (d : Fin 4) (x : Exchange) (count : DropCounters → DropCounters) :
    (s.beginExchange d x count).transit = s.transit := by
  simp only [State.beginExchange, State.modDrop_transit]

theorem State.beginBroadcast_transit (s : State) (d : Fin 4) :
    (s.beginBroadcast d).transit = s.transit := by
  simp only [State.beginBroadcast, State.modDrop_transit, State.beginExchange_transit]

theorem State.beginVoice_transit (s : State) (d : Fin 4) (slot : Fin 32) :
    (s.beginVoice d slot).transit = s.transit := by
  unfold State.beginVoice
  repeat' first | (with_reducible rfl) | simp only [State.beginExchange_transit, State.voicePayload_transit]

theorem State.beginPoll_transit (s : State) (d : Fin 4) (slot : Fin 32) :
    (s.beginPoll d slot).transit = s.transit := by
  unfold State.beginPoll
  repeat' first | (with_reducible rfl) | simp only [State.beginExchange_transit, State.stationPayload_transit]

theorem State.chooseFrom_transit (s : State) (d : Fin 4) (voices polls : List (Fin 32 × Nat)) :
    (s.chooseFrom d voices polls).transit = s.transit := by
  unfold State.chooseFrom
  repeat' first | (with_reducible rfl) | simp only [State.beginBroadcast_transit, State.beginVoice_transit, State.beginPoll_transit] | split

theorem State.dropChoose_transit (s : State) (d : Fin 4) :
    (s.dropChoose d).transit = s.transit := by
  simp only [State.dropChoose, State.chooseFrom_transit]

theorem State.seatReleased_transit (s : State) (slot : Fin 32) :
    (s.seatReleased slot).transit = s.transit := by
  simp only [State.seatReleased, State.modStation_transit]

theorem State.countCalls_transit (s : State) (f : CallCounters → CallCounters) :
    (s.countCalls f).transit = s.transit := by
  simp only [State.countCalls, State.modCalls_transit]

theorem State.sendCall_transit (s : State) (subtype : BitVec 4) (seq : Byte) (body : List Byte) :
    (s.sendCall subtype seq body).transit = s.transit := by
  unfold State.sendCall
  repeat' first | (with_reducible rfl) | simp only [State.countCalls_transit, State.join_transit] | split

theorem State.sendRequest_transit (s : State) (r : Fin 16) :
    (s.sendRequest r).transit = s.transit := by
  simp only [State.sendRequest, State.sendCall_transit]

theorem State.sendClear_transit (s : State) (r : Fin 16) (reason : ClearReason) :
    (s.sendClear r reason).transit = s.transit := by
  simp only [State.sendClear, State.sendCall_transit]

theorem State.enterCalling_transit (s : State) (r : Fin 16) (lane : Fin 64) :
    (s.enterCalling r lane).transit = s.transit := by
  unfold State.enterCalling
  repeat' first | (with_reducible rfl) | simp only [State.modCalls_transit, State.modLane_transit, State.modRecord_transit, State.countCalls_transit, State.sendRequest_transit]

theorem State.tryCalling_transit (s : State) (r : Fin 16) :
    (s.tryCalling r).transit = s.transit := by
  unfold State.tryCalling
  repeat' first | (with_reducible rfl) | simp only [State.enterCalling_transit] | split

theorem State.testSeized_transit (s : State) :
    (s.testSeized).transit = s.transit := by
  simp only [State.testSeized, State.tryCalling_transit, State.forEach_transit, implies_true]

theorem State.releaseSeat_transit (s : State) (r : Fin 16) :
    (s.releaseSeat r).transit = s.transit := by
  unfold State.releaseSeat
  repeat' first | (with_reducible rfl) | simp only [State.seatReleased_transit] | split

theorem State.unbind_transit (s : State) (r : Fin 16) :
    (s.unbind r).transit = s.transit := by
  unfold State.unbind
  repeat' first | (with_reducible rfl) | simp only [State.modLane_transit] | split

theorem State.clearRecord_transit (s : State) (r : Fin 16) :
    (s.clearRecord r).transit = s.transit := by
  simp only [State.clearRecord, State.modRecord_transit, State.unbind_transit, State.releaseSeat_transit]

theorem State.forceClear_transit (s : State) (r : Fin 16) :
    (s.forceClear r).transit = s.transit := by
  unfold State.forceClear
  repeat' first | (with_reducible rfl) | simp only [State.modRecord_transit, State.countCalls_transit, State.sendClear_transit] | split

theorem State.restartCalls_transit (s : State) :
    (s.restartCalls).transit = s.transit := by
  unfold State.restartCalls
  repeat' first | (with_reducible rfl) | simp only [State.modCalls_transit, State.forceClear_transit, State.notify_transit, State.clearRecord_transit, State.forEach_transit, implies_true] | split

theorem State.clearRing_transit (s : State) :
    (s.clearRing).transit = s.transit := by
  rfl

theorem State.clearDrop_transit (s : State) :
    (s.clearDrop).transit = s.transit := by
  simp only [State.clearDrop, State.modPoll_transit]

theorem State.clearCalls_transit (s : State) :
    (s.clearCalls).transit = s.transit := by
  simp only [State.clearCalls, State.modCalls_transit]

theorem State.clearJournal_transit (s : State) :
    (s.clearJournal).transit = s.transit := by
  simp only [State.clearJournal, State.modJrnl_transit, State.modCtl_transit]

theorem State.clearSupply_transit (s : State) :
    (s.clearSupply).transit = s.transit := by
  simp only [State.clearSupply, State.modSup_transit]

theorem State.clearLanes_transit (s : State) :
    (s.clearLanes).transit = s.transit := by
  simp only [State.clearLanes, State.modLanes_transit]

theorem State.clearSigns_transit (s : State) :
    (s.clearSigns).transit = s.transit := by
  simp only [State.clearSigns, State.modRules_transit, State.modSign_transit]

theorem State.clearSlots_transit (s : State) :
    (s.clearSlots).transit = s.transit := by
  simp only [State.clearSlots, State.modSlots_transit, State.modAgent_transit]

theorem State.clearGroup_transit (s : State) (n : Group) :
    (s.clearGroup n).transit = s.transit := by
  unfold State.clearGroup
  split <;> rfl

theorem State.writeLane_transit (s : State) (i : Fin 64) (l : List Byte) :
    (s.writeLane i l).2.transit = s.transit := by
  unfold State.writeLane
  repeat' first | (with_reducible rfl) | simp only [State.modLane_transit, State.testSeized_transit, State.offerTolls_transit] | split

theorem State.reportLink_transit (s : State) (e : Station) :
    (s.reportLink e).transit = s.transit := by
  unfold State.reportLink
  repeat' first | (with_reducible rfl) | simp only [State.modSlot_transit, State.relinkSign_transit] | split

theorem State.reportStation_transit (s : State) (i : Fin 32) (old : Station) (x : StationRecord) :
    (s.reportStation i old x).transit = s.transit := by
  unfold State.reportStation
  repeat' first | (with_reducible rfl) | simp only [State.emptyAnswers_transit, State.reportLink_transit] | split

theorem State.writeStation_transit (s : State) (i : Fin 32) (l : List Byte) :
    (s.writeStation i l).2.transit = s.transit := by
  unfold State.writeStation
  repeat' first | (with_reducible rfl) | simp only [State.modStation_transit, State.reportStation_transit, State.dropChoose_transit] | split

theorem State.writeRuleEntry_transit (s : State) (i : Fin 32) (l : List Byte) :
    (s.writeRuleEntry i l).2.transit = s.transit := by
  unfold State.writeRuleEntry
  repeat' first | (with_reducible rfl) | simp only [State.writeRule_transit] | split

theorem State.writeSignEntry_transit (s : State) (k : Fin 12) (l : List Byte) :
    (s.writeSignEntry k l).2.transit = s.transit := by
  unfold State.writeSignEntry
  repeat' first | (with_reducible rfl) | simp only [State.writeSign_transit] | split

theorem State.writeSlotEntry_transit (s : State) (k : Fin 8) (l : List Byte) :
    (s.writeSlotEntry k l).2.transit = s.transit := by
  unfold State.writeSlotEntry
  repeat' first | (with_reducible rfl) | simp only [State.modSlot_transit] | split

theorem State.writeParams_transit (s : State) (l : List Byte) :
    (s.writeParams l).2.transit = s.transit := by
  unfold State.writeParams
  repeat' first | (with_reducible rfl) | simp only [State.modAgent_transit] | split

theorem State.writeEntry_transit (s : State) (t : Table) (i : Nat) (l : List Byte) :
    (s.writeEntry t i l).2.transit = s.transit := by
  unfold State.writeEntry
  split
  · cases fin? 64 i <;> simp only [Option.elim, State.writeLane_transit]
  · cases fin? 32 i <;> simp only [Option.elim, State.writeStation_transit]
  · cases fin? 32 i <;> simp only [Option.elim, State.writeRuleEntry_transit]
  · cases fin? 12 i <;> simp only [Option.elim, State.writeSignEntry_transit]
  · cases fin? 8 i <;> simp only [Option.elim, State.writeSlotEntry_transit]
  · simp only [State.writeParams_transit]

theorem State.rescan_transit (s : State) :
    (s.rescan).transit = s.transit := by
  unfold State.rescan
  repeat' first | (with_reducible rfl) | simp only [State.modCtl_transit, State.scanRead_transit] | split

theorem State.restartCustody_transit (s : State) :
    (s.restartCustody).transit = s.transit := by
  unfold State.restartCustody
  repeat' first | (with_reducible rfl) | simp only [State.rescan_transit, State.restartJournal_transit] | split

theorem State.unbindAll_transit (s : State) :
    (s.unbindAll).transit = s.transit := by
  simp only [State.unbindAll, State.modLanes_transit]

theorem State.restartWeather_transit (s : State) :
    (s.restartWeather).transit = s.transit := by
  simp only [State.restartWeather, State.modSlots_transit]

theorem State.restartAll_transit (s : State) :
    (s.restartAll).transit = s.transit := by
  unfold State.restartAll
  simp only [State.restartSigns_transit, State.restartWeather_transit, State.restartCustody_transit, State.unbindAll_transit, State.restartCalls_transit]
  rfl

theorem State.beginSave_transit (s : State) (src : NodeId) (tag : Byte) :
    (s.beginSave src tag).transit = s.transit := by
  simp only [State.beginSave, State.modCtl_transit, State.modAgent_transit, State.storeKick_transit]

theorem State.perform_transit (s : State) (src : NodeId) (tag : Byte) (o : Order) :
    (s.perform src tag o).2.transit = s.transit := by
  unfold State.perform
  repeat' first | (with_reducible rfl) | simp only [State.signSet_transit, State.pageDiscard_transit, State.signCancel_transit, State.pageOpen_transit, State.restartAll_transit, State.beginSave_transit, State.pageData_transit, State.clearGroup_transit, State.writeEntry_transit, answered] | split

theorem State.carryOut_transit (s : State) (c : Command) :
    (s.carryOut c).2.transit = s.transit := by
  unfold State.carryOut
  repeat' first | (with_reducible rfl) | simp only [State.perform_transit] | split

theorem State.reply_transit (s : State) (c : Command) (a : Answer) :
    (s.reply c a).transit = s.transit := by
  unfold State.reply
  repeat' first | (with_reducible rfl) | simp only [State.modAgent_transit] | split

theorem State.takeCommand_transit (s : State) (c : Command) (rest : List Command) :
    (s.takeCommand c rest).transit = s.transit := by
  unfold State.takeCommand
  repeat' first | (with_reducible rfl) | simp only [State.modAgent_transit, State.carryOut_transit, State.reply_transit]

theorem State.passReply_transit (s : State) (b : Block) (rest : List Block) :
    (s.passReply b rest).transit = s.transit := by
  simp only [State.passReply, State.modAgent_transit, State.join_transit]

theorem State.agentTurn_transit (s : State) (t : State) (h : s.agentTurn = some t) :
    t.transit = s.transit := by
  unfold State.agentTurn at h
  split at h
  · split at h
    · cases h; exact State.passReply_transit s _ _
    · cases h
  · cases h; exact State.takeCommand_transit s _ _
  · cases h

theorem State.noticeTurn_transit (s : State) (t : State) (h : s.noticeTurn = some t) :
    t.transit = s.transit := by
  unfold State.noticeTurn at h
  split at h
  · cases h; exact State.passNotice_transit s
  · cases h

theorem State.agentTurns_transit (s : State) (n : Nat) :
    (s.agentTurns n).transit = s.transit := by
  induction n generalizing s with
  | zero => rfl
  | succ n ih =>
    unfold State.agentTurns
    split
    · rfl
    · rename_i ha _; rw [ih, State.agentTurn_transit s _ ha]
    · rename_i _ hb; rw [ih, State.noticeTurn_transit s _ hb]
    · rename_i ha hb
      split
      · rw [ih, State.spend_transit, State.agentTurn_transit s _ ha]
      · rw [ih, State.spend_transit, State.noticeTurn_transit s _ hb]

theorem State.agentRun_transit (s : State) :
    (s.agentRun).transit = s.transit := by
  simp only [State.agentRun, State.agentTurns_transit]

end Sys2Proof.Machine
end

section
/-! PROOFS. The insert queues at the insertion port (1.6) and the wrap test (2.4). -/

namespace Sys2Proof.Machine

/-! ### What the custody journal's offers leave -/

/-- The store arbiter changes the journal and the controller alone. -/
theorem State.storeKick_kept (s : State) : ∃ (j : Journal) (c : StoreController), s.storeKick = { s with jrnl := j, ctl := c } := by
  refine ⟨s.storeKick.jrnl, s.storeKick.ctl, ?_⟩
  unfold State.storeKick State.startRead State.startOp State.startCommit State.startSave
  dsimp only
  repeat' first | rfl | split

theorem State.requestReadsUpTo_kept (n : Nat) : ∀ s : State, ∃ (j : Journal) (c : StoreController),
    s.requestReadsUpTo n = { s with jrnl := j, ctl := c } := by
  induction n with
  | zero => exact fun s => ⟨s.jrnl, s.ctl, rfl⟩
  | succ n ih =>
    intro s
    unfold State.requestReadsUpTo
    split
    · split
      · exact ⟨s.jrnl, s.ctl, rfl⟩
      · rename_i k _
        obtain ⟨j, c, e⟩ := State.storeKick_kept ((s.modJrnl fun j =>
          { j with readAhead := j.readAhead ++ [{ serial := k, phase := .waiting }] }).modCtl fun c =>
            { c with requests := c.requests ++ [k] })
        obtain ⟨j', c', e'⟩ := ih (s.requestRead k)
        have hk : s.requestRead k = { s with jrnl := j, ctl := c } := e
        rw [hk] at e' ⊢
        exact ⟨j', c', e'⟩
    · exact ⟨s.jrnl, s.ctl, rfl⟩

/-- R105: the offers to TQ change the journal, the controller and TQ alone, which keeps what it holds in front. -/
theorem State.offerTollsUpTo_kept (n : Nat) : ∀ s : State, ∃ (more : List Block) (j : Journal) (c : StoreController),
    s.offerTollsUpTo n = { s with ring := { s.ring with tq := s.ring.tq ++ more }, jrnl := j, ctl := c } := by
  induction n with
  | zero => exact fun s => ⟨[], s.jrnl, s.ctl, by rw [List.append_nil]; rfl⟩
  | succ n ih =>
    intro s
    have hstay : ∃ (more : List Block) (j : Journal) (c : StoreController),
        s = { s with ring := { s.ring with tq := s.ring.tq ++ more }, jrnl := j, ctl := c } :=
      ⟨[], s.jrnl, s.ctl, by rw [List.append_nil]⟩
    unfold State.offerTollsUpTo
    split
    · exact hstay
    · rename_i x rest _
      split
      · rename_i r lane _ _
        split
        · obtain ⟨j, c, e⟩ := State.requestReadsUpTo_kept 4 ((s.join .tq (tollBlock lane s.lanes[lane].peer x.serial r)).modJrnl
            fun j => j.sentOne x.serial rest s.now)
          obtain ⟨more, j', c', e'⟩ := ih (State.requestReads ((s.join .tq (tollBlock lane s.lanes[lane].peer x.serial r)).modJrnl
            fun j => j.sentOne x.serial rest s.now))
          refine ⟨s.completed (tollBlock lane s.lanes[lane].peer x.serial r) :: more, j', c', e'.trans ?_⟩
          rw [State.requestReads, e, ← List.singleton_append, ← List.append_assoc]
          rfl
        · exact hstay
      · exact hstay

/-- What a departure from a class queue lets its engines offer: blocks behind those the queue holds, and nothing else of ring transit or
ring protection while no command waits. -/
theorem State.afterPop_kept (s : State) (c : ClassQueue) (h : c = .mq → s.agent.intake = []) :
    (s.afterPop c).prot = s.prot ∧ (s.afterPop c).ring.tx = s.ring.tx ∧ (s.afterPop c).ring.out = s.ring.out ∧
      ∃ more : List Block, (s.afterPop c).ring.queue c.insertQueue = s.ring.queue c.insertQueue ++ more := by
  cases c with
  | tq =>
    obtain ⟨more, j, ctl, e⟩ := State.offerTollsUpTo_kept 4 s
    have e' : s.afterPop .tq = _ := e
    rw [e']
    exact ⟨rfl, rfl, rfl, more, rfl⟩
  | mq =>
    obtain ⟨more, e⟩ := State.agentTurns_ring 24 s (h rfl)
    have e' : (s.afterPop .mq).ring = _ := e
    have hw : (s.afterPop .mq).work = s.work := (State.agentTurns_work 24 s (h rfl)).1
    rw [e']
    exact ⟨show (s.afterPop .mq).work.prot = s.work.prot by rw [hw], rfl, rfl, more, rfl⟩
  | aq => exact ⟨rfl, rfl, rfl, [], (List.append_nil _).symm⟩

/-- Whatever command is taken, the out ports and the transit buffers stay. -/
theorem State.afterPop_ports (s : State) (c : ClassQueue) : (s.afterPop c).ring.out = s.ring.out ∧
    (s.afterPop c).ring.buffers = s.ring.buffers := by
  cases c with
  | tq => exact ⟨s.offerTolls_outView, s.offerTolls_transit⟩
  | mq => exact ⟨s.agentRun_outView, s.agentRun_transit⟩
  | aq => exact ⟨rfl, rfl⟩

/-! ### What a port's sending leaves -/

theorem State.send_out (s : State) (p : Side) (b : Block) :
    (s.send p b).ring.out = s.ring.out.upd p fun o => { o with sending := b } := by
  unfold State.send; dsimp only; split <;> rfl

theorem State.send_queue (s : State) (p : Side) (b : Block) (q : LocalQueue) : (s.send p b).ring.queue q = s.ring.queue q := by
  unfold State.send; dsimp only; split <;> cases q <;> rfl

theorem State.send_buffers (s : State) (p : Side) (b : Block) : (s.send p b).ring.buffers = s.ring.buffers := by
  unfold State.send; dsimp only; split <;> rfl

theorem State.send_prot (s : State) (p : Side) (b : Block) : (s.send p b).prot = s.prot := by
  unfold State.send; dsimp only; split <;> rfl

theorem State.send_sent (s : State) (p : Side) (b : Block) (h : b.kind ≠ .fill) :
    ((s.send p b).ring.tx.get p).sent = bump (s.ring.tx.get p).sent := by
  rw [s.send_counted p b h]
  exact congrArg TxCounters.sent (PerSide.get_upd_self s.ring.tx p _)

/-- The credits after one of a class is spent. -/
theorem PerClass.eq_spend (x y : PerClass) (c : ClassQueue) (hc : y.get c + 1 = x.get c) (ho : ∀ k, k ≠ c → y.get k = x.get k) :
    y = x.spend c := by
  obtain ⟨a1, a2, a3⟩ := x
  obtain ⟨b1, b2, b3⟩ := y
  have h1 := ho .tq; have h2 := ho .mq; have h3 := ho .aq
  cases c <;> simp_all [PerClass.get, PerClass.spend] <;> omega

/-- The state when the head of a class queue has left it, before the engines it lets offer again. -/
def State.popped (s : State) (p : Side) (ch : Choice) (c : ClassQueue) : State :=
  (s.modOut p (·.chose ch)).modRing (·.pop c.insertQueue)

/-- A block of a class queue sent, by credit or by rotation alone: what the port and the queue hold then. -/
theorem State.classSent_spec (u : State) (p : Side) (c : ClassQueue) (b : Block) (rest : List Block)
    (hq : u.ring.queue c.insertQueue = rest) :
    ((u.afterPop c).send p b).ring.out = (u.ring.out.upd p fun o => { o with sending := b }) ∧
    ((u.afterPop c).send p b).ring.buffers = u.ring.buffers ∧
    ((c = .mq → u.agent.intake = []) → ∃ more : List Block, ((u.afterPop c).send p b).ring.queue c.insertQueue = rest ++ more) ∧
    (b.kind ≠ .fill → (c = .mq → u.agent.intake = []) →
      (((u.afterPop c).send p b).ring.tx.get p).sent = bump (u.ring.tx.get p).sent) ∧
    ((c = .mq → u.agent.intake = []) → ((u.afterPop c).send p b).prot = u.prot) := by
  obtain ⟨hout, hbuf⟩ := u.afterPop_ports c
  refine ⟨by rw [State.send_out, hout], by rw [State.send_buffers, hbuf], fun h => ?_, fun hk h => ?_, fun h => ?_⟩
  · obtain ⟨-, -, -, more, e⟩ := u.afterPop_kept c h
    exact ⟨more, by rw [State.send_queue, e, hq]⟩
  · obtain ⟨-, htx, -⟩ := u.afterPop_kept c h
    rw [State.send_sent _ p b hk, htx]
  · obtain ⟨hp, -⟩ := u.afterPop_kept c h
    rw [State.send_prot, hp]

theorem RingTransit.pop_class (r : RingTransit) (c : ClassQueue) (b : Block) (rest : List Block)
    (h : r.queue c.insertQueue = b :: rest) : r.pop c.insertQueue = { r with
      tq := if c = .tq then rest else r.tq
      mq := if c = .mq then rest else r.mq
      aq := if c = .aq then rest else r.aq } := by
  cases c
  · exact congrArg (fun l => { r with tq := l.drop 1 }) h
  · exact congrArg (fun l => { r with mq := l.drop 1 }) h
  · exact congrArg (fun l => { r with aq := l.drop 1 }) h

theorem State.popped_eq (s : State) (p : Side) (ch : Choice) (c : ClassQueue) (b : Block) (rest : List Block)
    (h : s.ring.queue c.insertQueue = b :: rest) : s.popped p ch c = { s with ring := { s.ring with
      tq := if c = .tq then rest else s.ring.tq
      mq := if c = .mq then rest else s.ring.mq
      aq := if c = .aq then rest else s.ring.aq
      out := s.ring.out.upd p (·.chose ch) } } := by
  have hq : (s.modOut p (·.chose ch)).ring.queue c.insertQueue = b :: rest := by rw [← h]; cases c <;> rfl
  exact congrArg (fun r => { s with ring := r }) (RingTransit.pop_class _ c b rest hq)

/-- The insertion port of a CLOSED ring sends the head of a class queue: what that leaves, whichever the turn. -/
theorem State.insertion_sends (s v w : State) (ch : Choice) (c : ClassQueue) (b : Block) (rest : List Block) (credits : PerClass)
    (hchoose : s.choose .E = ch) (htest : (ch.tested s.prot.ring).2 = .sent b)
    (hdep : (s.modOut .E (·.chose ch)).depart ch = (s.popped .E ch c).afterPop c) (hpop : s.popped .E ch c = v)
    (hq : s.ring.queue c.insertQueue = b :: rest)
    (hout : s.ring.out.e.chose ch = { s.ring.out.e with rotation := c, credits := credits })
    (hw : w = v.afterPop c) :
    ∃ t : State, exec (.sendCompletion .E) s = .next t ∧ t.ring.out.e.sending = b ∧ t.ring.out.e.credits = credits ∧
      t.ring.out.e.rotation = c ∧ t.ring.out.e.allowance = s.ring.out.e.allowance ∧ t.ring.out.w = s.ring.out.w ∧
      t.ring.buffers = s.ring.buffers ∧
      ((c = .mq → s.agent.intake = []) → ∃ more : List Block, t.ring.queue c.insertQueue = rest ++ more) ∧
      (b.kind ≠ .fill → t = { w with ring := { w.ring with
        out := { w.ring.out with e := { w.ring.out.e with sending := b } }
        tx := w.ring.tx.upd .E fun x => { x with sent := bump x.sent } } }) ∧
      (b.kind ≠ .fill → (c = .mq → s.agent.intake = []) → t.ring.tx.e.sent = bump s.ring.tx.e.sent) := by
  have he : s.arbiter .E = w.send .E b := by
    rw [s.arbiter_sent .E _ b hchoose (.inl htest), s.taken_sent .E _ b htest, hdep, hpop, hw]
  have hv := s.popped_eq .E ch c b rest hq
  rw [hpop] at hv
  have hvq : v.ring.queue c.insertQueue = rest := by rw [hv]; cases c <;> rfl
  have hvi : v.agent = s.agent := by rw [hv]
  have hvout : v.ring.out = { s.ring.out with e := { s.ring.out.e with rotation := c, credits := credits } } := by
    rw [hv, ← hout]; rfl
  obtain ⟨hout', hbufs, hmore, hsent, -⟩ := v.classSent_spec .E c b rest hvq
  rw [← hw] at hout' hbufs hmore hsent
  rw [hvi] at hmore hsent
  rw [exec_sendCompletion, he]
  refine ⟨_, rfl, ?_, ?_, ?_, ?_, ?_, ?_, hmore, fun hk => ?_, fun hk h => ?_⟩
  · rw [hout']; rfl
  · rw [hout', hvout]; rfl
  · rw [hout', hvout]; rfl
  · rw [hout', hvout]; rfl
  · rw [hout', hvout]; rfl
  · rw [hbufs, hv]
  · rw [State.send_counted _ _ b hk]; rfl
  · exact (hsent hk h).trans (by rw [hv]; rfl)

theorem pickBuffer_empty (dirs : List Dir) (last : Dir) (r : RingTransit) (h : ∀ d ∈ dirs, r.buffers.get d = []) :
    pickBuffer dirs last r = none := by
  have hnil : (dirs.filterMap fun d => ((r.buffers.get d).head?).map fun b => (d, b)) = [] :=
    List.filterMap_eq_nil_iff.mpr fun d hd => by rw [h d hd]; rfl
  unfold pickBuffer
  rw [hnil]; rfl

theorem State.choose_pick_closed (s : State) (hc : s.prot.ring = .closed) (hbuf : s.ring.buffers.cw = []) :
    pickBuffer (s.prot.ring.serves .E) (s.ring.out.get .E).lastBuffer s.ring = none := by
  rw [hc]
  exact pickBuffer_empty _ _ _ fun d hd => by rw [List.mem_singleton.mp hd]; exact hbuf

/-- Settles O17: the choice of the insertion port, step by step of R19, and what its departure leaves. -/
theorem insertQueuesLeaveByTurn : Obligations.InsertQueuesLeaveByTurn := by
  unfold Obligations.InsertQueuesLeaveByTurn
  refine ⟨fun c b rest credits s v w hc hrq heq hbuf hf hs hb hcr hco hv hw => ?_, fun s hc hrq heq hbuf hf => ?_,
    fun b rest s hc hrq heq ha hk => ?_, fun c b rest s v w hc hrq heq hbuf hf h0 hs hb hv hw => ?_⟩
  · have hcred := PerClass.eq_spend _ _ c hcr hco
    refine s.insertion_sends v w (.credit c b) c b rest credits (s.choose_of_credit .E c b rest hrq (.inr heq)
      (s.choose_pick_closed hc hbuf) (by rw [hc]; rfl) hf hs hb) (by rw [hc]; rfl) rfl ?_ hb (by rw [hcred]; rfl) ?_
    · rw [s.popped_eq .E _ c b rest hb, hv, hcred]; rfl
    · rw [hw]; cases c <;> rfl
  · have hchoose := s.choose_fill .E (by simp [hrq]) (.inr (.inl heq)) (s.choose_pick_closed hc hbuf) (.inr (.inl hf))
    rw [exec_sendCompletion, s.arbiter_sent .E _ _ hchoose (.inl rfl), s.taken_sent .E _ _ rfl]
    rfl
  · have hchoose := s.choose_of_eq .E b rest hrq (by rw [hc]; rfl) ha heq
    have htest : ((Choice.eq b).tested s.prot.ring).2 = .sent b := by rw [hc]; rfl
    rw [exec_sendCompletion, s.arbiter_sent .E _ b hchoose (.inl htest), s.taken_sent .E _ b htest,
      State.send_counted _ _ b hk]
    have hpop : s.ring.eq.drop 1 = rest := by rw [heq]; rfl
    rw [← hpop]
    rfl
  · refine s.insertion_sends v w (.spare c b) c b rest s.ring.out.e.credits (s.choose_of_spare .E c b rest hrq (.inr heq)
      (s.choose_pick_closed hc hbuf) (by rw [hc]; rfl) hf h0 hs hb) (by rw [hc]; rfl) rfl ?_ hb rfl ?_
    · rw [s.popped_eq .E _ c b rest hb, hv]; rfl
    · rw [hw]; cases c <;> rfl

end Sys2Proof.Machine
end

section
/-! PROOFS. The wrap points (2.4): each block turns once. -/

namespace Sys2Proof.Machine

/-- A port that serves both buffers takes from the one its last transit block did not come from, where that one holds a block. -/
theorem pickBuffer_both (last d : Dir) (b : Block) (rest : List Block) (r : RingTransit) (h : r.buffers.get d = b :: rest)
    (hd : last ≠ d ∨ ∀ k : Dir, k ≠ d → r.buffers.get k = []) : pickBuffer [.CW, .CCW] last r = some (d, b) := by
  cases d with
  | CW =>
    have hother : last = .CCW ∨ r.buffers.get .CCW = [] := hd.imp (by cases last <;> simp) (· .CCW (by decide))
    rcases hother with rfl | hother
    · simp [pickBuffer, h]
    · cases last <;> simp [pickBuffer, h, hother]
  | CCW =>
    have hother : last = .CW ∨ r.buffers.get .CW = [] := hd.imp (by cases last <;> simp) (· .CW (by decide))
    rcases hother with rfl | hother
    · cases hcw : r.buffers.get .CW <;> simp [pickBuffer, h, hcw]
    · cases last <;> simp [pickBuffer, h, hother]

/-- R37: an outcome of the wrap test is counted. -/
def State.countWrap (s : State) (n : Side) (o : Departure) : State :=
  s.modProt fun x => { x with wrap := x.wrap.upd n (·.after o) }

/-- The serving port of a wrapped ring, with the port that faces the fault. -/
def WrapEnds (ring : RingState) (p q : Side) : Prop := (ring = .wrapE ∧ p = .W ∧ q = .E) ∨ (ring = .wrapW ∧ p = .E ∧ q = .W)

theorem WrapEnds.serves {ring : RingState} {p q : Side} (h : WrapEnds ring p q) : ring.serves p = [.CW, .CCW] := by
  rcases h with ⟨rfl, rfl, -⟩ | ⟨rfl, rfl, -⟩ <;> rfl

theorem WrapEnds.insertion {ring : RingState} {p q : Side} (h : WrapEnds ring p q) : ring.insertion = some p := by
  rcases h with ⟨rfl, rfl, -⟩ | ⟨rfl, rfl, -⟩ <;> rfl

/-- The blocks that reach the wrap point are those whose natural port faces the fault. -/
theorem WrapEnds.wraps {ring : RingState} {p q : Side} (h : WrapEnds ring p q) (n : Side) : ring.wraps n = decide (n = q) := by
  rcases h with ⟨rfl, -, rfl⟩ | ⟨rfl, -, rfl⟩ <;> cases n <;> rfl

theorem WrapEnds.discards {ring : RingState} {p q : Side} (h : WrapEnds ring p q) {n : Side} {b : Block} (hn : n = q)
    (hw : b.wrapped = true) : wrapTest ring n b = .discarded := by
  rw [wrapTest, h.wraps, decide_eq_true hn, hw]; rfl

theorem WrapEnds.turns {ring : RingState} {p q : Side} (h : WrapEnds ring p q) {n : Side} {b : Block} (hn : n = q)
    (hw : b.wrapped = false) : wrapTest ring n b = .turned { b with wrapped := true } := by
  rw [wrapTest, h.wraps, decide_eq_true hn, hw]; rfl

theorem WrapEnds.passes {ring : RingState} {p q : Side} (h : WrapEnds ring p q) {n : Side} {b : Block} (hn : n ≠ q) :
    wrapTest ring n b = .sent b := by
  rw [wrapTest, h.wraps, decide_eq_false hn]; rfl

/-- The buffer whose natural port faces the fault, and the other. -/
theorem wrapEnds_of_buffers {ring : RingState} {p q : Side} {d k : Dir}
    (h : (ring = .wrapE ∧ p = .W ∧ q = .E ∧ d = .CW ∧ k = .CCW) ∨ (ring = .wrapW ∧ p = .E ∧ q = .W ∧ d = .CCW ∧ k = .CW)) :
    WrapEnds ring p q ∧ naturalPort d = q ∧ naturalPort k ≠ q ∧ k ≠ d := by
  rcases h with ⟨rfl, rfl, rfl, rfl, rfl⟩ | ⟨rfl, rfl, rfl, rfl, rfl⟩
  · exact ⟨.inl ⟨rfl, rfl, rfl⟩, rfl, by decide, by decide⟩
  · exact ⟨.inr ⟨rfl, rfl, rfl⟩, rfl, by decide, by decide⟩

theorem State.taken_transit (s : State) (p : Side) (d : Dir) (b : Block) (rest : List Block) (h : s.ring.buffers.get d = b :: rest) :
    s.taken p (.transit d b) = (((s.modOut p fun o => { o with lastBuffer := d }).countWrap (naturalPort d)
      (wrapTest s.prot.ring (naturalPort d) b)).setBuffer d rest).afterDeparture d := by
  have hdrop : (s.ring.buffers.get d).drop 1 = rest := by rw [h]; rfl
  rw [← hdrop]; rfl

/-- A transit block sent at the wrap point: what it leaves. -/
theorem State.transit_sends (s : State) (p : Side) (d : Dir) (n : Nat) (b x : Block) (rest : List Block)
    (hc : s.choose p = .transit d b) (hb : s.ring.buffers.get d = b :: rest)
    (ht : wrapTest s.prot.ring (naturalPort d) b = .sent x ∨ wrapTest s.prot.ring (naturalPort d) b = .turned x) :
    ∃ t : State, s.chooseUpTo p (n + 1) = t ∧
      t.ring.out = s.ring.out.upd p (fun o => { o with sending := x, lastBuffer := d }) ∧
      t.ring.buffers = s.ring.buffers.upd d (fun _ => rest) ∧
      (x.kind ≠ .fill → (t.ring.tx.get p).sent = bump (s.ring.tx.get p).sent) ∧
      (∀ l : LocalQueue, t.ring.queue l = s.ring.queue l) ∧
      t = { s with ring := t.ring, prot := { s.prot with wrap := t.prot.wrap } } ∧
      t.prot.wrap = s.prot.wrap.upd (naturalPort d) (·.after (wrapTest s.prot.ring (naturalPort d) b)) := by
  obtain ⟨r, e, hbuf, hq, hout, hsent⟩ := State.afterDeparture_kept (((s.modOut p fun o => { o with lastBuffer := d }).countWrap
    (naturalPort d) (wrapTest s.prot.ring (naturalPort d) b)).setBuffer d rest) d
  have he : s.chooseUpTo p (n + 1) = ({ ((s.modOut p fun o => { o with lastBuffer := d }).countWrap (naturalPort d)
      (wrapTest s.prot.ring (naturalPort d) b)) with ring := r } : State).send p x := by
    rw [s.chooseUpTo_sent p n _ x hc ht, s.taken_transit p d b rest hb, e]; rfl
  refine ⟨_, he, ?_, ?_, fun hk => ?_, fun l => ?_, ?_, ?_⟩
  · rw [State.send_out]
    exact (congrArg (PerSide.upd · p _) hout).trans (PerSide.upd_upd s.ring.out p
      (fun o => { o with lastBuffer := d }) fun o => { o with sending := x })
  · rw [State.send_buffers]; exact hbuf
  · rw [State.send_sent _ p x hk]; exact congrArg bump (hsent p)
  · rw [State.send_queue]; exact (hq l).trans (by cases l <;> rfl)
  · unfold State.send; dsimp only; split <;> rfl
  · rw [State.send_prot]; rfl

/-- A block discarded at the wrap point: the state in which the port chooses again. -/
def State.discardedAt (s : State) (p : Side) (d : Dir) (rest : List Block) : State :=
  ((s.modOut p fun o => { o with lastBuffer := d }).countWrap (naturalPort d) .discarded).setBuffer d rest

theorem State.transit_discards (s : State) (p : Side) (d : Dir) (b : Block) (rest : List Block)
    (hc : s.choose p = .transit d b) (hb : s.ring.buffers.get d = b :: rest) (ha : (s.ring.senders.get d).asserted = false)
    (ht : wrapTest s.prot.ring (naturalPort d) b = .discarded) :
    ∃ n, s.arbiter p = (s.discardedAt p d rest).chooseUpTo p (n + 1) := by
  obtain ⟨n, hn⟩ : ∃ n, s.ring.buffers.cw.length + s.ring.buffers.ccw.length + 1 = (n + 1) + 1 := by
    cases d
    · exact ⟨rest.length + s.ring.buffers.ccw.length, by rw [show s.ring.buffers.cw = _ from hb, List.length_cons]; omega⟩
    · exact ⟨s.ring.buffers.cw.length + rest.length, by rw [show s.ring.buffers.ccw = _ from hb, List.length_cons]; omega⟩
  have hquiet : (s.discardedAt p d rest).afterDeparture d = s.discardedAt p d rest :=
    if_neg fun ⟨_, h⟩ => Bool.noConfusion (ha.symm.trans h)
  refine ⟨n, ?_⟩
  rw [State.arbiter, hn, s.chooseUpTo_discarded p (n + 1) _ hc ht, s.taken_transit p d b rest hb, ht]
  exact congrArg (State.chooseUpTo · p (n + 1)) hquiet

theorem State.discardedAt_out (s : State) (p : Side) (d : Dir) (rest : List Block) :
    (s.discardedAt p d rest).ring.out.get p = { s.ring.out.get p with lastBuffer := d } := PerSide.get_upd_self s.ring.out p _

theorem State.discardedAt_noEmergency (s : State) (p : Side) (d : Dir) (rest : List Block)
    (h : s.ring.eq = [] ∨ (s.ring.out.get p).allowance = 0) : (s.discardedAt p d rest).noEmergency p :=
  .inr (h.imp_right fun h => by rw [State.discardedAt_out]; exact h)

theorem PerClass.spend_get (x : PerClass) (c : ClassQueue) (h : 0 < x.get c) : (x.spend c).get c + 1 = x.get c := by
  cases c <;> exact Nat.sub_add_cancel h

theorem PerClass.spend_other (x : PerClass) (c k : ClassQueue) (h : k ≠ c) : (x.spend c).get k = x.get k := by
  cases c <;> cases k <;> first | rfl | exact absurd rfl h

theorem State.byCredit_pos (s : State) (p : Side) (c : ClassQueue) (h : s.byCredit p = some c) :
    0 < (s.ring.out.get p).credits.get c := by
  have := List.find?_some h
  simp only [Bool.and_eq_true, decide_eq_true_eq] at this
  exact this.2

/-- A local block at a wrap point: its natural port is E (R30), so that it turns in WRAP-E alone. -/
theorem wrapTest_local {ring : RingState} {p : Side} (h : (ring = .wrapE ∧ p = .W) ∨ (ring = .wrapW ∧ p = .E)) (b : Block)
    (hw : b.wrapped = false) :
    wrapTest ring .E b = if ring = .wrapE then .turned { b with wrapped := decide (ring = .wrapE) }
      else .sent { b with wrapped := decide (ring = .wrapE) } := by
  obtain ⟨kind, subtype, wrapped, dst, src, lane, hops, seq, body⟩ := b
  obtain rfl : wrapped = false := hw
  rcases h with ⟨rfl, -⟩ | ⟨rfl, -⟩ <;> rfl

theorem wrapTest_local_sent {ring : RingState} {p : Side} (h : (ring = .wrapE ∧ p = .W) ∨ (ring = .wrapW ∧ p = .E)) (b : Block)
    (hw : b.wrapped = false) : wrapTest ring .E b = .sent { b with wrapped := decide (ring = .wrapE) } ∨
      wrapTest ring .E b = .turned { b with wrapped := decide (ring = .wrapE) } := by
  rw [wrapTest_local h b hw]
  split
  · exact .inr rfl
  · exact .inl rfl

theorem countWrap_local {ring : RingState} {p : Side} (h : (ring = .wrapE ∧ p = .W) ∨ (ring = .wrapW ∧ p = .E)) (s : State)
    (b : Block) (hw : b.wrapped = false) : (s.countWrap .E (wrapTest ring .E b)) = { s with prot := { s.prot with wrap :=
      if ring = .wrapE then { s.prot.wrap with e := { s.prot.wrap.e with turned := bump s.prot.wrap.e.turned } }
      else s.prot.wrap } } := by
  rw [wrapTest_local h b hw]
  rcases h with ⟨rfl, -⟩ | ⟨rfl, -⟩ <;> rfl

/-- Settles O18: at a wrap point the wrap test of R30 decides what becomes of the block that the choice of R19 takes. -/
theorem wrapTurnsBlockOnce : Obligations.WrapTurnsBlockOnce := by
  unfold Obligations.WrapTurnsBlockOnce
  refine ⟨fun ring p q d turns b rest s hring hs hturns hrq heq hbuf hlast hw hk => ?_,
    fun ring p q d k b rest s hring hs hrq heq hbuf hw ha => ⟨fun c more hkb hlast => ?_, fun hkb hrest htq hmq haq => ?_⟩,
    fun ring q s hring hs hrq => ?_, fun ring p b rest s hring hs hrq heq ha hw hk => ?_,
    fun ring p c n b rest s hring hs hrq heq hcw hccw hf hsearch hq hw hk hi => ?_⟩
  · have hends : WrapEnds ring p q := hring
    have hchoose : s.choose p = .transit d b := by
      refine s.choose_of_transit p d b hrq (.inr heq) ?_
      rw [hs, hends.serves]
      exact pickBuffer_both _ d b rest _ hbuf hlast
    have hnat : turns = decide (naturalPort d = q) := by
      rcases hring with ⟨rfl, -, rfl⟩ | ⟨rfl, -, rfl⟩ <;> cases d <;> cases turns <;> simp_all [naturalPort]
    have htest : wrapTest s.prot.ring (naturalPort d) b =
        if turns = true then .turned { b with wrapped := true } else .sent b := by
      rw [wrapTest, hs, hends.wraps, ← hnat]
      cases turns
      · rfl
      · rw [hw.resolve_left (by decide)]; rfl
    obtain ⟨t, he, hout, hbufs, hsent, hqs, hrest, hwrap⟩ := s.transit_sends p d
      (s.ring.buffers.cw.length + s.ring.buffers.ccw.length) b (if turns = true then { b with wrapped := true } else b) rest
      hchoose hbuf (by rw [htest]; cases turns <;> simp)
    refine ⟨t, congrArg _ he, hout, hbufs, hsent (by cases turns <;> exact hk), hqs, hrest, fun h => ?_, fun h => ?_⟩
    · rw [hwrap, htest, h]; exact PerSide.upd_id _ _ _ fun _ => rfl
    · have hq : naturalPort d = q := of_decide_eq_true (hnat.symm.trans h)
      rw [hwrap, htest, h, hq]; rfl
  · obtain ⟨hends, hnat, hnatk, hkd⟩ := wrapEnds_of_buffers hring
    have hchoose : s.choose p = .transit d b := by
      refine s.choose_of_transit p d b hrq (.inr heq) ?_
      rw [hs, hends.serves]
      exact pickBuffer_both _ d b rest _ hbuf (.inl hlast)
    obtain ⟨n, hn⟩ := s.transit_discards p d b rest hchoose hbuf ha (by rw [hs]; exact hends.discards hnat hw)
    have hkb' : (s.discardedAt p d rest).ring.buffers.get k = c :: more := by
      rw [← hkb]; exact State.setBuffer_other _ d k rest hkd.symm
    have hchoose' : (s.discardedAt p d rest).choose p = .transit k c := by
      refine State.choose_of_transit _ p k c hrq (s.discardedAt_noEmergency p d rest heq) ?_
      rw [State.discardedAt_out, show (s.discardedAt p d rest).prot.ring = ring from hs, hends.serves]
      exact pickBuffer_both _ k c more _ hkb' (.inl hkd.symm)
    have htest : wrapTest (s.discardedAt p d rest).prot.ring (naturalPort k) c = .sent c := by
      rw [show (s.discardedAt p d rest).prot.ring = ring from hs]; exact hends.passes hnatk
    obtain ⟨t, he, hout, hbufs, -, -, hrest, hwrap⟩ := State.transit_sends _ p k n c c more hchoose' hkb' (.inl htest)
    have hself : t.ring.out.get p = { s.ring.out.get p with sending := c, lastBuffer := k } := by
      rw [hout, PerSide.get_upd_self, State.discardedAt_out]
    refine ⟨t, congrArg _ (hn.trans he), congrArg OutPort.sending hself, congrArg OutPort.lastBuffer hself, ?_, ?_, ?_⟩
    · rw [hbufs, PerDir.get_upd, if_neg hkd]; exact State.setBuffer_get _ d rest
    · rw [hbufs, PerDir.get_upd_self]
    · rw [htest, PerSide.upd_id _ _ (fun x : WrapCounters => x.after (.sent c)) fun _ => rfl] at hwrap
      rw [hrest, hwrap, ← hnat]; rfl
  · obtain ⟨hends, hnat, hnatk, hkd⟩ := wrapEnds_of_buffers hring
    have hall : ∀ l : Dir, l ≠ d → s.ring.buffers.get l = [] := fun l hl => by
      rw [← hkb]; congr 1
      revert hl hkd; cases l <;> cases d <;> cases k <;> decide
    have hchoose : s.choose p = .transit d b := by
      refine s.choose_of_transit p d b hrq (.inr heq) ?_
      rw [hs, hends.serves]
      exact pickBuffer_both _ d b rest _ hbuf (.inr hall)
    obtain ⟨n, hn⟩ := s.transit_discards p d b rest hchoose hbuf ha (by rw [hs]; exact hends.discards hnat hw)
    have hempty : ∀ l : Dir, (s.discardedAt p d rest).ring.buffers.get l = [] := fun l => by
      by_cases hl : l = d
      · rw [hl, ← hrest]; exact State.setBuffer_get _ d rest
      · rw [← hall l hl]; exact State.setBuffer_other _ d l rest (Ne.symm hl)
    have hclass : ∀ c, (s.discardedAt p d rest).ring.hasClass c = false := fun c => by
      have hq : (s.discardedAt p d rest).ring.queue c.insertQueue = [] := by cases c <;> assumption
      rw [RingTransit.hasClass, hq]; rfl
    have hchoose' : (s.discardedAt p d rest).choose p = .fill :=
      State.choose_fill _ p hrq (s.discardedAt_noEmergency p d rest heq) (pickBuffer_empty _ _ _ fun l _ => hempty l)
        (.inr (.inr hclass))
    rw [exec_sendCompletion, hn, State.chooseUpTo_sent _ p n _ _ hchoose' (.inl rfl), State.taken_sent _ p _ _ rfl, State.send_fill]
    refine ⟨_, rfl, ?_, (hempty d), hempty k, rfl, by rw [← hnat]; rfl⟩
    exact congrArg OutPort.sending (PerSide.get_upd_self ((s.discardedAt p d rest).modOut p (·.chose .fill)).ring.out p _)
  · have hserves : s.prot.ring.serves q = [] := by rw [hs]; rcases hring with ⟨rfl, rfl⟩ | ⟨rfl, rfl⟩ <;> rfl
    have hins : s.prot.ring.insertion ≠ some q := by rw [hs]; rcases hring with ⟨rfl, rfl⟩ | ⟨rfl, rfl⟩ <;> decide
    have hchoose := s.choose_fill q hrq (.inl hins) (by rw [hserves]; rfl) (.inl hins)
    rw [exec_sendCompletion, s.arbiter_sent q _ _ hchoose (.inl rfl), s.taken_sent q _ _ rfl, State.send_fill]
    exact congrArg (fun o => Host.Outcome.next ({ s with ring := { s.ring with out := o } } : State))
      (PerSide.upd_upd s.ring.out q (·.chose .fill) fun o => { o with sending := Block.fill })
  · have hins : s.prot.ring.insertion = some p := by rw [hs]; rcases hring with ⟨rfl, rfl⟩ | ⟨rfl, rfl⟩ <;> rfl
    have hchoose := s.choose_of_eq p b rest hrq hins ha heq
    have htaken : s.taken p (.eq b) = (((s.modOut p fun o => { o with allowance := o.allowance - 1 }).countWrap .E
        (wrapTest ring .E b)).modRing (·.pop .eq)) := by rw [← hs]; rfl
    have hpop : s.ring.eq.drop 1 = rest := by rw [heq]; rfl
    rw [exec_sendCompletion, s.arbiter_sent p _ _ hchoose (by rw [hs]; exact wrapTest_local_sent hring b hw), htaken,
      countWrap_local hring _ b hw, State.send_counted _ p { b with wrapped := decide (ring = .wrapE) } hk, ← hpop]
    rcases hring with ⟨-, rfl⟩ | ⟨-, rfl⟩ <;> rfl
  · have hins : s.prot.ring.insertion = some p := by rw [hs]; rcases hring with ⟨rfl, rfl⟩ | ⟨rfl, rfl⟩ <;> rfl
    have hpick : pickBuffer (s.prot.ring.serves p) (s.ring.out.get p).lastBuffer s.ring = none :=
      pickBuffer_empty _ _ _ fun d _ => by cases d <;> assumption
    obtain ⟨ch, hchoose, hdep, htest, hrot, hspent, hothers⟩ : ∃ ch : Choice, s.choose p = ch ∧
        s.taken p ch = ((s.popped p ch c).countWrap .E (wrapTest ring .E b)).afterPop c ∧
        (ch.tested s.prot.ring).2 = wrapTest ring .E b ∧ ((s.ring.out.get p).chose ch).rotation = c ∧
        ((s.ring.out.get p).chose ch).credits.get c + n = (s.ring.out.get p).credits.get c ∧
        ∀ k, k ≠ c → ((s.ring.out.get p).chose ch).credits.get k = (s.ring.out.get p).credits.get k := by
      rcases hsearch with ⟨hcr, rfl⟩ | ⟨h0, hro, rfl⟩
      · refine ⟨_, s.choose_of_credit p c b rest hrq (.inr heq) hpick hins hf hcr hq, by rw [← hs]; rfl, by rw [hs]; rfl, rfl, ?_, ?_⟩
        · exact PerClass.spend_get _ c (s.byCredit_pos p c hcr)
        · exact fun k hk => PerClass.spend_other _ c k hk
      · exact ⟨_, s.choose_of_spare p c b rest hrq (.inr heq) hpick hins hf h0 hro hq, by rw [← hs]; rfl, by rw [hs]; rfl, rfl, rfl,
          fun k _ => rfl⟩
    have hu := s.popped_eq p ch c b rest hq
    have huq : ((s.popped p ch c).countWrap .E (wrapTest ring .E b)).ring.queue c.insertQueue = rest := by
      show (s.popped p ch c).ring.queue c.insertQueue = rest
      rw [hu]; cases c <;> rfl
    obtain ⟨hout, -, hmore, hsent, hprot⟩ := State.classSent_spec ((s.popped p ch c).countWrap .E (wrapTest ring .E b)) p c
      { b with wrapped := decide (ring = .wrapE) } rest huq
    have hself : ((((s.popped p ch c).countWrap .E (wrapTest ring .E b)).afterPop c).send p
        { b with wrapped := decide (ring = .wrapE) }).ring.out.get p =
        { (s.ring.out.get p).chose ch with sending := { b with wrapped := decide (ring = RingState.wrapE) } } := by
      rw [hout, PerSide.get_upd_self]
      show ({ (s.popped p ch c).ring.out.get p with sending := _ } : OutPort) = _
      rw [hu]
      exact congrArg (fun o : OutPort => { o with sending := { b with wrapped := decide (ring = RingState.wrapE) } })
        (PerSide.get_upd_self s.ring.out p (·.chose ch))
    rw [exec_sendCompletion, s.arbiter_sent p ch _ hchoose (by rw [htest]; exact wrapTest_local_sent hring b hw), hdep]
    refine ⟨_, rfl, congrArg OutPort.sending hself, (congrArg OutPort.rotation hself).trans hrot, ?_, fun k hk => ?_,
      hmore fun h => ?_, (hsent hk fun h => ?_).trans ?_, (hprot fun h => ?_).trans ?_⟩
    · rw [hself]; exact hspent
    · rw [hself]; exact hothers k hk
    · show (s.popped p ch c).agent.intake = []
      rw [hu]; exact hi h
    · show (s.popped p ch c).agent.intake = []
      rw [hu]; exact hi h
    · show bump (((s.popped p ch c).ring.tx.get p).sent) = _
      rw [hu]
    · show (s.popped p ch c).agent.intake = []
      rw [hu]; exact hi h
    · rw [countWrap_local hring _ b hw, hu]

end Sys2Proof.Machine
end

section
/-! PROOFS. The full reset (1.9, 7.1): every value it leaves. -/

namespace Sys2Proof.Machine

/-- A full reset cuts nothing short in the store unless a commit, a mark write or a save's step is in flight (R114). -/
theorem State.cutShort_of_none (s : State)
    (h : ∀ (slot : Nat) (bytes : List Byte) (w : WriteStep), s.ctl.op ≠ some (.commit slot bytes w) ∧
      s.ctl.op ≠ some (.saveSlot slot bytes w) ∧ s.ctl.op ≠ some (.mark slot)) (hm : s.ctl.op ≠ some .saveMark) :
    s.cutShort = s := by
  unfold State.cutShort
  split
  · rename_i slot bytes w hop; exact absurd hop (h slot bytes w).1
  · rename_i slot bytes w hop; exact absurd hop (h slot bytes w).2.1
  · rename_i slot hop; exact absurd hop (h slot [] .write).2.2
  · rename_i hop; exact absurd hop hm
  all_goals rfl

/-- Settles O9: the state after a full reset is `State.afterReset` of what stands outside the node. -/
theorem fullResetLeavesManualValues : Obligations.FullResetLeavesManualValues := by
  unfold Obligations.FullResetLeavesManualValues
  intro v s
  obtain ⟨m, n, hcut, -⟩ := s.cutShort_eq
  have ht : s.fullReset v =
      State.afterReset v s.prot.ports.e.light s.prot.ports.w.light s.sup.feedLost s.cutShort.nv n s.pending := by
    unfold State.fullReset; rw [hcut]
  have hget : ∀ {α : Type} {k : Nat} (x : α) (i : Fin k), (Vector.replicate k x)[i] = x := fun x i => Vector.getElem_replicate i.isLt
  refine ⟨s.fullReset v, rfl, ?_⟩
  rw [ht]
  refine ⟨rfl, rfl, rfl, fun p => ?_, fun d => ?_, rfl, fun q => ?_, fun i => ?_, fun i => ?_, fun d => ?_, fun r => ?_, rfl, rfl, rfl, rfl,
    rfl, fun hr => ?_, fun hr => ?_, fun k => ?_, fun i => ?_, fun k => ?_, rfl, rfl, rfl, rfl, rfl, rfl, rfl, rfl, rfl, rfl,
    fun hop hm a => ?_⟩
  · cases p <;> exact ⟨rfl, rfl, rfl, rfl, rfl⟩
  · cases d <;> rfl
  · cases q <;> rfl
  · show (Vector.replicate 64 LaneEntry.reset)[i].active = false ∧ (Vector.replicate 64 LaneEntry.reset)[i].binding = none
    rw [hget]; exact ⟨rfl, rfl⟩
  · exact congrArg Station.state (hget Station.reset i)
  · show (Vector.replicate 4 Drop.reset)[d].line = .idle ∧ (Vector.replicate 4 Drop.reset)[d].broadcast = true
    rw [hget]; exact ⟨rfl, rfl⟩
  · exact congrArg CallRecord.state (hget CallRecord.free r)
  · have hv : decide (24 ≤ v.toNat) = false := hr
    exact ⟨congrArg (fun b => (StoreController.reset b).state) hv, congrArg (fun b => (StoreController.reset b).op) hv⟩
  · have hv : decide (24 ≤ v.toNat) = true := hr
    exact ⟨congrArg (fun b => (StoreController.reset b).state) hv, congrArg (fun b => (StoreController.reset b).op) hv⟩
  · show (Vector.replicate 8 ReductionSlot.reset)[k].fresh = false ∧ (Vector.replicate 8 ReductionSlot.reset)[k].depth = 1 ∧
      (Vector.replicate 8 ReductionSlot.reset)[k].derived = Derived.none
    rw [hget]; exact ⟨rfl, rfl, rfl⟩
  · show (Vector.replicate 32 Rule.reset)[i].enabled = false ∧ (Vector.replicate 32 Rule.reset)[i].state = .inactive
    rw [hget]; exact ⟨rfl, rfl⟩
  · show (Vector.replicate 12 Sign.reset)[k].live = none ∧ (Vector.replicate 12 Sign.reset)[k].next = none ∧
      (Vector.replicate 12 Sign.reset)[k].request = none
    rw [hget]; exact ⟨rfl, rfl, rfl⟩
  · show Memory.read storeBlank s.cutShort.nv a = _
    rw [s.cutShort_of_none hop hm]

end Sys2Proof.Machine
end

section
/-! PROOFS. The custody journal's operations (chapter 6) and the store arbiter (7.3): what each one changes, said once. -/

namespace Sys2Proof.Machine

/-! ### The store arbiter -/

/-- What the start of an operation changes of the controller. -/
structure StoreController.Started (c c' : StoreController) : Prop where
  kept : c' = { c with
    state := c'.state, op := c'.op, timer := c'.timer, requests := c'.requests
    ctr := { c.ctr with slotWrites := c'.ctr.slotWrites, stateWrites := c'.ctr.stateWrites, reads := c'.ctr.reads } }
  busy : c.state ≠ .idle → c'.state ≠ .idle

theorem StoreController.Started.refl (c : StoreController) : c.Started c := ⟨rfl, id⟩

theorem StoreController.Started.trans {a b c : StoreController} (h : a.Started b) (k : b.Started c) : a.Started c :=
  ⟨by rw [k.kept, h.kept], fun hb => k.busy (h.busy hb)⟩

/-- What the start of an operation changes of the journal: the commit in hand is taken from staging, a mark leaves those pending, and a
record read ahead is started. -/
structure Journal.Started (j j' : Journal) : Prop where
  kept : j' = { j with
    staging := j'.staging, overrun := j'.overrun, hand := j'.hand, nextSerial := j'.nextSerial, pendingMarks := j'.pendingMarks
    readAhead := j'.readAhead }
  serials : j'.readAhead.map (·.serial) = j.readAhead.map (·.serial)
  unread : ∀ x ∈ j'.readAhead, x ∈ j.readAhead ∨ x.phase = .started
  marks : ∀ m ∈ j'.pendingMarks, m ∈ j.pendingMarks
  hand : ∀ h, j.hand = some h → ∃ retry, j'.hand = some { h with retry := retry }

theorem Journal.Started.refl (j : Journal) : j.Started j := ⟨rfl, rfl, fun _ h => .inl h, fun _ h => h, fun h e => ⟨h.retry, e⟩⟩

theorem Journal.Started.trans {a b c : Journal} (h : a.Started b) (k : b.Started c) : a.Started c where
  kept := by rw [k.kept, h.kept]
  serials := k.serials.trans h.serials
  unread x hx := (k.unread x hx).elim (h.unread x) .inr
  marks m hm := h.marks m (k.marks m hm)
  hand x e := by
    obtain ⟨r, e1⟩ := h.hand x e
    obtain ⟨r', e2⟩ := k.hand _ e1
    exact ⟨r', e2⟩

/-- A state that the start of an operation has left. -/
structure State.Started (s t : State) : Prop where
  kept : t = { s with jrnl := t.jrnl, ctl := t.ctl }
  jrnl : s.jrnl.Started t.jrnl
  ctl : s.ctl.Started t.ctl

theorem State.Started.refl (s : State) : s.Started s := ⟨rfl, .refl _, .refl _⟩

theorem State.Started.trans {a b c : State} (h : a.Started b) (k : b.Started c) : a.Started c :=
  ⟨by rw [k.kept, h.kept], h.jrnl.trans k.jrnl, h.ctl.trans k.ctl⟩

theorem State.startOp_started (s : State) (op : StoreOp) : s.Started (s.startOp op) := by
  refine ⟨rfl, .refl _, ⟨?_, fun _ => CtlState.noConfusion⟩⟩
  cases op with
  | commit _ _ w => cases w <;> rfl
  | saveSlot _ _ w => cases w <;> rfl
  | _ => rfl

theorem Journal.takeCommit_started (j : Journal) : j.Started j.takeCommit := by
  unfold Journal.takeCommit
  split
  · rename_i h e
    exact ⟨rfl, rfl, fun _ hx => .inl hx, fun _ hm => hm, fun x ex => by rw [e] at ex; cases ex; exact ⟨false, rfl⟩⟩
  · rename_i e
    split
    · exact .refl j
    · exact ⟨rfl, rfl, fun _ hx => .inl hx, fun _ hm => hm, fun x ex => by rw [e] at ex; cases ex⟩

theorem State.startCommit_started (s : State) : s.Started s.startCommit := by
  have hmarks : s.Started (s.modJrnl fun j =>
      { j.takeCommit with pendingMarks := j.takeCommit.pendingMarks.filter (· != j.takeCommit.cursor) }) := by
    refine ⟨rfl, s.jrnl.takeCommit_started.trans ⟨rfl, rfl, fun _ hx => .inl hx, fun m hm => ?_, fun h e => ⟨h.retry, e⟩⟩, .refl _⟩
    exact List.mem_of_mem_filter hm
  unfold State.startCommit
  dsimp only
  split
  · exact hmarks
  · exact hmarks.trans (State.startOp_started _ _)

theorem Journal.setPhase_serials (j : Journal) (serial : Nat) (p : ReadPhase) :
    (j.setPhase serial p).readAhead.map (·.serial) = j.readAhead.map (·.serial) := by
  show List.map _ (List.map _ _) = _
  rw [List.map_map]
  exact List.map_congr_left fun x _ => by show (if _ then _ else _ : ReadAhead).serial = _; split <;> rfl

/-- A record read ahead whose READ starts. -/
theorem State.setPhase_started (s : State) (serial : Nat) : s.Started (s.modJrnl (·.setPhase serial .started)) := by
  refine ⟨rfl, ⟨rfl, s.jrnl.setPhase_serials serial _, fun x hx => ?_, fun _ hm => hm, fun h e => ⟨h.retry, e⟩⟩, .refl _⟩
  obtain ⟨y, hy, rfl⟩ := List.mem_map.mp hx
  split
  · exact .inr rfl
  · exact .inl hy

theorem State.startRead_started (s : State) (serial : Nat) (rest : List Nat) : s.Started (s.startRead serial rest) := by
  have hreq : s.Started (s.modCtl fun c => { c with requests := rest }) := ⟨rfl, .refl _, ⟨rfl, id⟩⟩
  unfold State.startRead
  dsimp only
  split
  · exact hreq
  · exact hreq.trans ((State.setPhase_started _ serial).trans (State.startOp_started _ _))

theorem State.storeKick_started (s : State) : s.Started s.storeKick := by
  unfold State.storeKick
  split
  · exact .refl s
  · split
    · exact s.startRead_started _ _
    · split
      · split
        · exact s.startOp_started _
        · split
          · exact s.startCommit_started
          · exact s.startOp_started _
      · split
        · exact s.startCommit_started
        · split
          · unfold State.startSave; split <;> exact s.startOp_started _
          · exact .refl s

/-- With a READ requested and a journal that drains, the arbiter starts a READ or nothing (R117 step 1). -/
theorem State.storeKick_reads (s : State) (hd : s.jrnl.cond.drains = true) (hr : s.ctl.requests ≠ []) :
    s.storeKick.jrnl = { s.jrnl with readAhead := s.storeKick.jrnl.readAhead } := by
  obtain ⟨serial, rest, e⟩ := List.exists_cons_of_ne_nil hr
  unfold State.storeKick
  split
  · rfl
  · rw [hd, e]
    dsimp only
    unfold State.startRead
    dsimp only
    split <;> rfl

/-! ### The drain's requests (R104) -/

/-- What requesting READs changes: the read-ahead buffer takes further serials, none of them read yet, and the arbiter may start. -/
structure State.Requested (s t : State) (ks : List Nat) : Prop where
  kept : t = { s with jrnl := { s.jrnl with readAhead := t.jrnl.readAhead }, ctl := t.ctl }
  ctl : s.ctl.Started t.ctl
  serials : t.jrnl.readAhead.map (·.serial) = s.jrnl.readAhead.map (·.serial) ++ ks
  unread : ∀ x ∈ t.jrnl.readAhead, x ∈ s.jrnl.readAhead ∨ x.phase = .waiting ∨ x.phase = .started

theorem State.Requested.refl (s : State) : s.Requested s [] :=
  ⟨rfl, .refl _, (List.append_nil _).symm, fun _ h => .inl h⟩

theorem State.Requested.trans {a b c : State} {l m : List Nat} (h : a.Requested b l) (k : b.Requested c m) :
    a.Requested c (l ++ m) where
  kept := by rw [k.kept, h.kept]
  ctl := h.ctl.trans k.ctl
  serials := by rw [k.serials, h.serials, List.append_assoc]
  unread x hx := (k.unread x hx).elim (h.unread x) .inr

theorem Journal.mayRequest_drains (j : Journal) (h : j.mayRequest = true) : j.cond.drains = true ∧ j.readAhead.length < 4 := by
  simp only [Journal.mayRequest, Bool.and_eq_true, decide_eq_true_eq] at h
  exact ⟨h.1.1.1, h.1.2⟩

theorem State.requestRead_spec (s : State) (serial : Nat) (h : s.jrnl.cond.drains = true) :
    s.Requested (s.requestRead serial) [serial] := by
  unfold State.requestRead
  generalize hu : ((s.modJrnl fun j => { j with readAhead := j.readAhead ++ [{ serial := serial, phase := .waiting }] }).modCtl
    fun c => { c with requests := c.requests ++ [serial] }) = u
  have hkick := u.storeKick_started
  have hj := u.storeKick_reads (by rw [← hu]; exact h) (by rw [← hu]; exact List.append_ne_nil_of_right_ne_nil _ (by simp))
  have hujrnl : u.jrnl = { s.jrnl with readAhead := s.jrnl.readAhead ++ [{ serial := serial, phase := .waiting }] } := by rw [← hu]; rfl
  refine ⟨?_, ?_, ?_, fun x hx => ?_⟩
  · rw [hkick.kept, hj, ← hu]; rfl
  · exact StoreController.Started.trans (b := u.ctl) ⟨by rw [← hu]; rfl, by rw [← hu]; exact id⟩ hkick.ctl
  · rw [hkick.jrnl.serials, hujrnl]; simp
  · rcases hkick.jrnl.unread x hx with h | h
    · rw [hujrnl] at h
      rcases List.mem_append.mp h with h | h
      · exact .inl h
      · rw [List.mem_singleton.mp h]; exact .inr (.inl rfl)
    · exact .inr (.inr h)

theorem Journal.firstUnsent_spec (j : Journal) (n : Nat) : ∀ k m : Nat, j.firstUnsent n k = some m →
    k ≤ m ∧ m < k + n ∧ j.isInTransit m = false ∧ j.isReading m = false ∧
      ∀ i, k ≤ i → i < m → j.isInTransit i = true ∨ j.isReading i = true := by
  induction n with
  | zero => exact fun k m h => nomatch h
  | succ n ih =>
    intro k m h
    unfold Journal.firstUnsent at h
    split at h
    · rename_i hk
      obtain ⟨h1, h2, h3, h4, h5⟩ := ih (k + 1) m h
      refine ⟨by omega, by omega, h3, h4, fun i hi him => ?_⟩
      by_cases e : i = k
      · subst e; simpa using hk
      · exact h5 i (by omega) him
    · rename_i hk
      cases h
      simp only [Bool.or_eq_true, not_or, Bool.not_eq_true] at hk
      exact ⟨Nat.le_refl _, by omega, hk.1, hk.2, fun i hi him => by omega⟩

/-- R104: the send cursor is a held record that is neither sent nor read ahead, and every held one before it is. -/
theorem Journal.sendCursor_spec (j : Journal) (k : Nat) (h : j.sendCursor = some k) :
    j.holdsSerial k = true ∧ j.isInTransit k = false ∧ j.isReading k = false ∧
      ∀ i, j.holdsSerial i = true → i < k → j.isInTransit i = true ∨ j.isReading i = true := by
  unfold Journal.sendCursor at h
  split at h
  · cases h
  · rename_i o ho
    obtain ⟨h1, h2, h3, h4, h5⟩ := j.firstUnsent_spec _ _ _ h
    refine ⟨by simp [Journal.holdsSerial, ho, h1, h2], h3, h4, fun i hi hik => h5 i ?_ hik⟩
    simp only [Journal.holdsSerial, ho, Bool.and_eq_true, decide_eq_true_eq] at hi
    exact hi.1

theorem Journal.isReading_congr {j j' : Journal} {ks : List Nat}
    (h : j'.readAhead.map (·.serial) = j.readAhead.map (·.serial) ++ ks) (k : Nat) :
    j'.isReading k = (j.isReading k || ks.contains k) := by
  have hany : ∀ l : List ReadAhead, (l.any fun x => x.serial == k) = (l.map (·.serial)).contains k := fun l => by
    rw [Bool.eq_iff_iff]; simp
  unfold Journal.isReading
  rw [hany, h, hany, List.contains_append]

/-- R104: the READs requested run by rising serial through held records that are neither sent nor read ahead, until the terms stop. -/
theorem State.requestReadsUpTo_spec (n : Nat) : ∀ s : State, ∃ ks : List Nat, s.Requested (s.requestReadsUpTo n) ks ∧
    ks.Pairwise (· < ·) ∧
    (∀ k ∈ ks, s.jrnl.holdsSerial k = true ∧ s.jrnl.isInTransit k = false ∧ s.jrnl.isReading k = false) ∧
    (4 ≤ n + s.jrnl.readAhead.length →
      (s.requestReadsUpTo n).jrnl.mayRequest = false ∨ (s.requestReadsUpTo n).jrnl.sendCursor = none) := by
  induction n with
  | zero =>
    intro s
    refine ⟨[], .refl s, .nil, fun k hk => by simp at hk, fun h => .inl ?_⟩
    cases hm : s.jrnl.mayRequest with
    | false => exact hm
    | true => have := (s.jrnl.mayRequest_drains hm).2; omega
  | succ n ih =>
    intro s
    have hstay : ∀ hstop : s.jrnl.mayRequest = false ∨ s.jrnl.sendCursor = none, ∃ ks : List Nat, s.Requested s ks ∧
        ks.Pairwise (· < ·) ∧
        (∀ k ∈ ks, s.jrnl.holdsSerial k = true ∧ s.jrnl.isInTransit k = false ∧ s.jrnl.isReading k = false) ∧
        (4 ≤ n + 1 + s.jrnl.readAhead.length → s.jrnl.mayRequest = false ∨ s.jrnl.sendCursor = none) :=
      fun hstop => ⟨[], .refl s, .nil, fun k hk => by simp at hk, fun _ => hstop⟩
    unfold State.requestReadsUpTo
    split
    · rename_i hm
      split
      · rename_i hc; exact hstay (.inr hc)
      · rename_i k hc
        obtain ⟨hholds, hnt, hnr, hbefore⟩ := s.jrnl.sendCursor_spec k hc
        have hone := s.requestRead_spec k (s.jrnl.mayRequest_drains hm).1
        obtain ⟨ks, hreq, hpair, hks, hstop⟩ := ih (s.requestRead k)
        have hkeeps : ∀ i, (s.requestRead k).jrnl.holdsSerial i = s.jrnl.holdsSerial i ∧
            (s.requestRead k).jrnl.isInTransit i = s.jrnl.isInTransit i := fun i => by
          rw [hone.kept]; exact ⟨rfl, rfl⟩
        have hreads : ∀ i, (s.requestRead k).jrnl.isReading i = (s.jrnl.isReading i || [k].contains i) :=
          Journal.isReading_congr hone.serials
        have hrise : ∀ i ∈ ks, s.jrnl.holdsSerial i = true ∧ s.jrnl.isInTransit i = false ∧ s.jrnl.isReading i = false ∧ k < i := by
          intro i hi
          obtain ⟨h1, h2, h3⟩ := hks i hi
          rw [(hkeeps i).1] at h1
          rw [(hkeeps i).2] at h2
          rw [hreads i, Bool.or_eq_false_iff] at h3
          refine ⟨h1, h2, h3.1, ?_⟩
          rcases Nat.lt_trichotomy i k with hlt | heq | hgt
          · rcases hbefore i h1 hlt with h | h
            · rw [h] at h2; cases h2
            · rw [h] at h3; cases h3.1
          · subst heq; simp at h3
          · exact hgt
        refine ⟨k :: ks, hone.trans hreq, ?_, ?_, fun hlen => hstop ?_⟩
        · exact List.pairwise_cons.mpr ⟨fun i hi => (hrise i hi).2.2.2, hpair⟩
        · intro i hi
          rcases List.mem_cons.mp hi with rfl | hi
          · exact ⟨hholds, hnt, hnr⟩
          · exact ⟨(hrise i hi).1, (hrise i hi).2.1, (hrise i hi).2.2.1⟩
        · have := congrArg List.length hone.serials
          simp at this
          omega
    · rename_i hm; exact hstay (.inl (by simpa using hm))

end Sys2Proof.Machine
end

section
/-! PROOFS. Transactions (6.2, 6.3) and the control of the toll centre (6.6). -/

namespace Sys2Proof.Machine

/-! ### Transactions judged -/

theorem updAt_updAt {α : Type} {n : Nat} (v : Vector α n) (i : Fin n) (f g : α → α) :
    updAt (updAt v i f) i g = updAt v i fun x => g (f x) := by
  unfold updAt
  simp

theorem updAt_congr {α : Type} {n : Nat} (v : Vector α n) (i : Fin n) {f g : α → α} (h : f v[i] = g v[i]) :
    updAt v i f = updAt v i g := congrArg (Vector.set v i · i.isLt) h

theorem updAt_self {α : Type} {n : Nat} (v : Vector α n) (i : Fin n) (f : α → α) : (updAt v i f)[i] = f v[i] :=
  updAt_get_self v i f

theorem AnswerEntry.inHand_iff (e : AnswerEntry) : e.inHand = true ↔ e.state ≠ .ready .deferred ∧ e.state ≠ .ready .refusedFull := by
  unfold AnswerEntry.inHand
  split <;> simp_all

theorem State.takeTxn_repeat (s : State) (slot : Fin 32) (drop : Fin 4) (address : BitVec 5) (number : BitVec 16)
    (body : List Byte)
    (h : ∃ e ∈ s.jrnl.answers[slot], e.number = number ∧ e.state ≠ .ready .deferred ∧ e.state ≠ .ready .refusedFull) :
    s.takeTxn slot drop address number body =
      s.modJrnl fun j => { j with ctr := { j.ctr with repeatOffer := bump j.ctr.repeatOffer } } := by
  obtain ⟨e, he, hn, hst⟩ := h
  refine if_pos (List.any_eq_true.mpr ⟨e, he, ?_⟩)
  rw [hn, (AnswerEntry.inHand_iff e).mpr hst]; simp

/-- R93: with no entry in hand the number's entry leaves the list and the transaction is judged. -/
theorem State.takeTxn_judged (s : State) (slot : Fin 32) (drop : Fin 4) (address : BitVec 5) (number : BitVec 16)
    (body : List Byte)
    (h : ∀ e ∈ s.jrnl.answers[slot], e.number = number → e.state = .ready .deferred ∨ e.state = .ready .refusedFull) :
    s.takeTxn slot drop address number body =
      (s.modAnswers slot (·.filter fun e => e.number != number)).judgeTxn slot drop address number body := by
  refine if_neg fun hany => ?_
  obtain ⟨e, he, hboth⟩ := List.any_eq_true.mp hany
  simp only [Bool.and_eq_true, beq_iff_eq] at hboth
  obtain ⟨h1, h2⟩ := (AnswerEntry.inHand_iff e).mp hboth.2
  exact (h e he hboth.1).elim h1 h2

theorem updAt_same {α : Type} {n : Nat} (v : Vector α n) (i : Fin n) {f : α → α} (h : f v[i] = v[i]) : updAt v i f = v := by
  unfold updAt
  rw [h]
  exact Vector.set_getElem_self i.isLt

/-- R93: a verdict given at once is counted by its kind. -/
def Journal.countVerdict (j : Journal) (v : Verdict) : Journal :=
  { j with ctr := { j.ctr with
      deferred := if v = .refusedFull then j.ctr.deferred else bump j.ctr.deferred
      refusedFull := if v = .refusedFull then bump j.ctr.refusedFull else j.ctr.refusedFull } }

/-- R93: the verdict of a transaction that is not taken. -/
theorem State.giveVerdict_eq (s : State) (slot : Fin 32) (number : BitVec 16) (v : Verdict) :
    s.giveVerdict slot number v = s.modJrnl fun j => { j with
      answers := updAt j.answers slot fun l => if l.length < 4 then l ++ [{ number := number, state := .ready v }] else l
      ctr := { j.ctr with
        deferred := if v = .refusedFull then j.ctr.deferred else bump j.ctr.deferred
        refusedFull := if v = .refusedFull then bump j.ctr.refusedFull else j.ctr.refusedFull
        unplaced := if (j.answers[slot]).length < 4 then j.ctr.unplaced else bump j.ctr.unplaced } } := by
  have hmark : s.giveVerdict slot number v = if (s.jrnl.answers[slot]).length < 4 then
      (s.modJrnl (·.countVerdict v)).modAnswers slot (· ++ [{ number := number, state := .ready v }])
      else (s.modJrnl (·.countVerdict v)).modJrnl fun j => { j with ctr := { j.ctr with unplaced := bump j.ctr.unplaced } } := by
    unfold State.giveVerdict Journal.countVerdict
    cases v <;> rfl
  rw [hmark]
  by_cases hl : (s.jrnl.answers[slot]).length < 4
  · have hadd : updAt s.jrnl.answers slot (fun l => if l.length < 4 then l ++ [{ number := number, state := .ready v }] else l) =
        updAt s.jrnl.answers slot (· ++ [{ number := number, state := .ready v }]) := updAt_congr _ slot (if_pos hl)
    simp only [State.modJrnl, hl, if_true, hadd]; rfl
  · have hsame : updAt s.jrnl.answers slot (fun l => if l.length < 4 then l ++ [{ number := number, state := .ready v }] else l) =
        s.jrnl.answers := updAt_same _ slot (if_neg hl)
    simp only [State.modJrnl, hl, if_false, hsame]; rfl

/-- R93: which transactions the journal takes. -/
def Journal.takesTxn (j : Journal) (slot : Fin 32) : Prop :=
  j.cond = .accepting ∧ j.staging.length < 32 ∧ j.overrun = false ∧ (j.answers[slot]).length < 4

theorem State.judgeTxn_taken (s : State) (slot : Fin 32) (drop : Fin 4) (address : BitVec 5) (number : BitVec 16)
    (body : List Byte) (h : s.jrnl.takesTxn slot) : s.judgeTxn slot drop address number body =
      ((s.modAnswers slot (· ++ [{ number := number, state := .processing }])).modJrnl (·.stage
        { slot := slot, drop := drop, address := address, number := number, body := body, linked := true })).storeKick := by
  obtain ⟨hc, h⟩ := h
  unfold State.judgeTxn
  rw [hc]
  exact if_pos h

theorem State.judgeTxn_refused (s : State) (slot : Fin 32) (drop : Fin 4) (address : BitVec 5) (number : BitVec 16)
    (body : List Byte) (h : ¬ s.jrnl.takesTxn slot) : s.judgeTxn slot drop address number body =
      s.giveVerdict slot number (if s.jrnl.cond = .full then .refusedFull else .deferred) := by
  unfold Journal.takesTxn at h
  unfold State.judgeTxn
  cases hc : s.jrnl.cond with
  | accepting => exact if_neg fun hcond => h ⟨hc, hcond⟩
  | _ => rfl

/-- R117: with nothing else to do, the arbiter starts the commit that may start. -/
theorem State.storeKick_commits (s : State) (hi : s.ctl.state = .idle) (hr : s.ctl.requests = []) (hm : s.jrnl.pendingMarks = [])
    (hc : s.jrnl.mayCommit = true) : s.storeKick = s.startCommit := by
  unfold State.storeKick
  rw [hi, hr, hm, hc]
  simp only
  split_ifs with h
  · exact absurd h (by decide)
  · cases s.jrnl.cond.drains <;> rfl

/-- The state in which a transaction has been taken: PROCESSING in the list and at staging's tail. -/
def State.txnTaken (s : State) (slot : Fin 32) (l : List AnswerEntry) (x : Txn) : State :=
  { s with jrnl := { s.jrnl with
      answers := updAt s.jrnl.answers slot fun _ => l ++ [{ number := x.number, state := .processing }]
      staging := s.jrnl.staging ++ [x]
      overrun := decide (s.jrnl.staging.length = 31)
      ctr := { s.jrnl.ctr with
        taken := bump s.jrnl.ctr.taken
        overrun := if s.jrnl.staging.length = 31 then bump s.jrnl.ctr.overrun else s.jrnl.ctr.overrun } } }

theorem State.stage_eq (s : State) (slot : Fin 32) (l : List AnswerEntry) (x : Txn) (ho : s.jrnl.overrun = false) :
    (((s.modAnswers slot fun _ => l).modAnswers slot (· ++ [{ number := x.number, state := .processing }])).modJrnl (·.stage x)) =
      s.txnTaken slot l x := by
  have hadd : updAt (updAt s.jrnl.answers slot fun _ => l) slot (· ++ [{ number := x.number, state := .processing }]) =
      updAt s.jrnl.answers slot fun _ => l ++ [{ number := x.number, state := .processing }] := updAt_updAt _ _ _ _
  have hfull : (s.jrnl.staging.length + 1 == 32) = decide (s.jrnl.staging.length = 31) := by
    rw [Bool.eq_iff_iff]; simp
  simp only [State.modAnswers, State.modJrnl, hadd, Journal.stage, ho, Bool.false_or, hfull, decide_eq_true_eq]
  rfl

/-- Settles O35: a repeat offer, a transaction taken, and one given its verdict at once. -/
theorem transactionIsJudged : Obligations.TransactionIsJudged := by
  unfold Obligations.TransactionIsJudged
  intro slot drop address number body x l s hx
  refine ⟨fun h => s.takeTxn_repeat slot drop address number body h, fun hnone hl => ⟨fun hc hst ho hlen => ⟨fun hbusy => ?_,
    fun hi hr hm hh hs0 hser => ?_⟩, fun v hv hno => ?_⟩⟩
  all_goals
    have hu : s.modAnswers slot (·.filter fun e => e.number != number) = s.modAnswers slot fun _ => l :=
      congrArg (fun a => s.modJrnl fun j => { j with answers := a }) (updAt_congr s.jrnl.answers slot hl.symm)
    have hlist : (s.modAnswers slot fun _ => l).jrnl.answers[slot] = l := updAt_self s.jrnl.answers slot _
    rw [s.takeTxn_judged slot drop address number body hnone, hu]
  · have htaken := s.stage_eq slot l x ho
    rw [show x.number = number by rw [hx]] at htaken
    rw [(s.modAnswers slot fun _ => l).judgeTxn_taken slot drop address number body ⟨hc, hst, ho, hlist.symm ▸ hlen⟩, ← hx, htaken,
      (s.txnTaken slot l x).storeKick_busy hbusy, State.txnTaken, show x.number = number by rw [hx]]
  · have htaken := s.stage_eq slot l x ho
    have hmay : (s.txnTaken slot l x).jrnl.mayCommit = true := by
      simp [State.txnTaken, Journal.mayCommit, hc, hh, hser]
    rw [show x.number = number by rw [hx]] at htaken
    rw [(s.modAnswers slot fun _ => l).judgeTxn_taken slot drop address number body ⟨hc, hst, ho, hlist.symm ▸ hlen⟩, ← hx, htaken,
      (s.txnTaken slot l x).storeKick_commits hi hr hm hmay]
    have hcommit : (s.txnTaken slot l x).jrnl.takeCommit = { s.jrnl with
        answers := updAt s.jrnl.answers slot fun _ => l ++ [{ number := number, state := .processing }]
        hand := some { serial := s.jrnl.nextSerial, txn := x, retry := false }
        nextSerial := s.jrnl.nextSerial + 1
        ctr := { s.jrnl.ctr with taken := bump s.jrnl.ctr.taken } } := by
      simp [State.txnTaken, Journal.takeCommit, Journal.takeHead, hh, hs0, ho, hx]
    simp only [State.startCommit, State.modJrnl, hcommit, hm, List.filter_nil]
    rw [hx, ← hm]
    rfl
  · have hno' : ¬ (s.modAnswers slot fun _ => l).jrnl.takesTxn slot := by
      rintro ⟨h1, h2, h3, h4⟩
      rw [hlist] at h4
      rcases hno with h | h | h | h
      · exact h h1
      · exact absurd h2 (Nat.not_lt.mpr h)
      · exact Bool.noConfusion (h.symm.trans h3)
      · omega
    rw [State.judgeTxn_refused _ slot drop address number body hno', State.giveVerdict_eq,
      show (if (s.modAnswers slot fun _ => l).jrnl.cond = .full then Verdict.refusedFull else .deferred) = v from hv.symm]
    have hplace : updAt (updAt s.jrnl.answers slot fun _ => l) slot
        (fun l => if l.length < 4 then l ++ [{ number := number, state := .ready v }] else l) =
        updAt s.jrnl.answers slot fun _ => if l.length < 4 then l ++ [{ number := number, state := .ready v }] else l :=
      updAt_updAt _ _ _ _
    have hkind : (v = .refusedFull) = (s.jrnl.cond = .full) := by
      rw [hv]; by_cases hf : s.jrnl.cond = .full <;> simp [hf]
    simp only [State.modJrnl, hlist, hkind]
    simp only [State.modAnswers, State.modJrnl, hplace]

end Sys2Proof.Machine
end

section
/-! PROOFS. The control of the toll centre (6.6): PULL, END and ACK. -/

namespace Sys2Proof.Machine

/-! ### Releases (R107) -/

/-- What the drain leaves of the journal while its records are sent, reverted or read ahead. -/
def Journal.custody (j : Journal) : Option Held × Nat × Nat × List Nat × Nat × Bool × JournalCond :=
  (j.oldest, j.held, j.cursor, j.bad, j.ctr.released, j.highSpent, j.cond)

theorem Journal.Started.custody {j j' : Journal} (h : j.Started j') : j'.custody = j.custody := by rw [h.kept]; rfl

/-- The serials on their way, read ahead or sent, all meet a condition. -/
structure Journal.OnWay (P : Nat → Prop) (j : Journal) : Prop where
  sent : ∀ x ∈ j.inTransit, P x.serial
  reading : ∀ x ∈ j.readAhead, P x.serial
  holds : ∀ k, j.holdsSerial k = true → P k

/-- Outside the journal, the store controller and TQ nothing differs. -/
def State.DrainOnly (s t : State) : Prop := t = { s with jrnl := t.jrnl, ctl := t.ctl, ring := { s.ring with tq := t.ring.tq } }

theorem State.DrainOnly.trans {a b c : State} (h : a.DrainOnly b) (k : b.DrainOnly c) : a.DrainOnly c := by
  unfold State.DrainOnly at *
  rw [k, h]

/-- A step of the drain: the records held stay, and what is on its way still meets the condition. -/
structure State.Drains (P : Nat → Prop) (s t : State) : Prop where
  kept : s.DrainOnly t
  custody : t.jrnl.custody = s.jrnl.custody
  onWay : t.jrnl.OnWay P
  busy : s.ctl.state ≠ .idle → t.jrnl.pendingMarks = s.jrnl.pendingMarks ∧ t.ctl.state ≠ .idle

theorem State.Drains.refl {P : Nat → Prop} {s : State} (h : s.jrnl.OnWay P) : State.Drains P s s := ⟨rfl, rfl, h, fun hb => ⟨rfl, hb⟩⟩

theorem State.Drains.trans {P : Nat → Prop} {a b c : State} (h : State.Drains P a b) (k : State.Drains P b c) :
    State.Drains P a c where
  kept := h.kept.trans k.kept
  custody := k.custody.trans h.custody
  onWay := k.onWay
  busy hb := ⟨(k.busy (h.busy hb).2).1.trans (h.busy hb).1, (k.busy (h.busy hb).2).2⟩

theorem State.requestReads_drains {P : Nat → Prop} (s : State) (h : s.jrnl.OnWay P) : State.Drains P s s.requestReads := by
  obtain ⟨ks, hreq, -, hks, -⟩ := State.requestReadsUpTo_spec 4 s
  refine ⟨by rw [State.requestReads, hreq.kept]; rfl, by rw [State.requestReads, hreq.kept]; rfl, ⟨?_, fun x hx => ?_, ?_⟩,
    fun hb => ⟨by rw [State.requestReads, hreq.kept], hreq.ctl.busy hb⟩⟩
  · rw [State.requestReads, hreq.kept]; exact h.sent
  · have hmem := List.mem_map_of_mem (f := (·.serial)) hx
    rw [State.requestReads, hreq.serials, List.mem_append] at hmem
    rcases hmem with hmem | hmem
    · obtain ⟨y, hy, e⟩ := List.mem_map.mp hmem
      exact e ▸ h.reading y hy
    · exact h.holds _ (hks _ hmem).1
  · rw [State.requestReads, hreq.kept]; exact h.holds

theorem State.offerTollsUpTo_drains {P : Nat → Prop} (n : Nat) : ∀ s : State, s.jrnl.OnWay P →
    State.Drains P s (s.offerTollsUpTo n) := by
  induction n with
  | zero => exact fun s h => .refl h
  | succ n ih =>
    intro s h
    unfold State.offerTollsUpTo
    split
    · exact .refl h
    · rename_i x rest hra
      split
      · rename_i r lane _ _
        split
        · have hsent : State.Drains P s ((s.join .tq (tollBlock lane s.lanes[lane].peer x.serial r)).modJrnl
              fun j => j.sentOne x.serial rest s.now) := by
            refine ⟨rfl, rfl, ⟨fun y hy => ?_, fun y hy => h.reading y (by rw [hra]; exact List.mem_cons_of_mem _ hy), h.holds⟩,
              fun hb => ⟨rfl, hb⟩⟩
            rcases List.mem_append.mp hy with hy | hy
            · exact h.sent y hy
            · rw [List.mem_singleton.mp hy]; exact h.reading x (by rw [hra]; exact List.mem_cons_self)
          have hreads := hsent.trans (State.requestReads_drains _ hsent.onWay)
          exact hreads.trans (ih _ hreads.onWay)
        · exact .refl h
      · exact .refl h

theorem State.revert_drains {P : Nat → Prop} (s : State) (h : ∀ k, s.jrnl.holdsSerial k = true → P k) :
    State.Drains P s s.revert := by
  have hrevert : State.Drains P s ((s.modCtl (·.withdraw fun _ => true)).modJrnl (·.revert)) :=
    ⟨rfl, rfl, ⟨fun _ hx => absurd hx List.not_mem_nil, fun _ hx => absurd hx List.not_mem_nil, h⟩, fun hb => ⟨rfl, hb⟩⟩
  exact hrevert.trans (State.requestReads_drains _ hrevert.onWay)

theorem State.retime_drains {P : Nat → Prop} (s : State) (h : s.jrnl.OnWay P) : State.Drains P s s.retime := by
  unfold State.retime
  split
  · exact .refl h
  · split
    · exact s.revert_drains h.holds
    · exact .refl h

theorem State.storeKick_drains {P : Nat → Prop} (s : State) (h : s.jrnl.OnWay P) : State.Drains P s s.storeKick := by
  have hk := s.storeKick_started
  refine ⟨by rw [hk.kept]; rfl, hk.jrnl.custody, ⟨?_, fun x hx => ?_, ?_⟩, fun hb => ?_⟩
  · rw [hk.jrnl.kept]; exact h.sent
  · have hmem := List.mem_map_of_mem (f := (·.serial)) hx
    rw [hk.jrnl.serials] at hmem
    obtain ⟨y, hy, e⟩ := List.mem_map.mp hmem
    exact e ▸ h.reading y hy
  · rw [hk.jrnl.kept]; exact h.holds
  · rw [s.storeKick_busy hb]; exact ⟨rfl, hb⟩

/-! ### The oldest records released (R107) -/

theorem heldRun_getD (bad : List Nat) : ∀ n slot i : Nat, i < n → (heldRun bad n slot).getD i 0 = (nextGood bad)^[i] slot := by
  intro n
  induction n with
  | zero => exact fun slot i h => absurd h (Nat.not_lt_zero i)
  | succ n ih =>
    intro slot i h
    cases i with
    | zero => rfl
    | succ i => exact ih (nextGood bad slot) i (by omega)

theorem bump_iterate (r : Nat) : ∀ n : Nat, 0 < n → bump^[n] r = bumpBy r n := by
  intro n hn
  induction n generalizing r with
  | zero => exact absurd hn (Nat.lt_irrefl 0)
  | succ n ih =>
    rcases Nat.eq_zero_or_pos n with rfl | hpos
    · rfl
    · rw [Function.iterate_succ_apply, ih (bump r) hpos]
      unfold bump bumpBy; omega

/-- The state once the journal's n oldest records have been released, their slots' marks pending. -/
structure State.Released (n : Nat) (h : Held) (s t : State) : Prop where
  kept : t = { s with jrnl := t.jrnl, ctl := t.ctl }
  custody : t.jrnl.custody = (if s.jrnl.held ≤ n then none else
      some { serial := h.serial + n, slot := (nextGood s.jrnl.bad)^[n] h.slot },
    s.jrnl.held - n, s.jrnl.cursor, s.jrnl.bad, bump^[n] s.jrnl.ctr.released, s.jrnl.highSpent, s.jrnl.cond)
  sent : ∀ x ∈ t.jrnl.inTransit, x ∈ s.jrnl.inTransit ∧ (x.serial < h.serial ∨ h.serial + n ≤ x.serial)
  reading : ∀ x ∈ t.jrnl.readAhead, x.serial ∈ s.jrnl.readAhead.map (·.serial) ∧ (x.serial < h.serial ∨ h.serial + n ≤ x.serial)
  busy : s.ctl.state ≠ .idle → t.jrnl.pendingMarks = s.jrnl.pendingMarks ++ (heldRun s.jrnl.bad n h.slot) ∧ t.ctl.state ≠ .idle

theorem State.Released.held {n : Nat} {h : Held} {s t : State} (r : State.Released n h s t) : t.jrnl.held = s.jrnl.held - n :=
  congrArg (fun v => v.2.1) r.custody

theorem State.Released.oldest {n : Nat} {h : Held} {s t : State} (r : State.Released n h s t) :
    t.jrnl.oldest = if s.jrnl.held ≤ n then none else some { serial := h.serial + n, slot := (nextGood s.jrnl.bad)^[n] h.slot } :=
  congrArg (fun v => v.1) r.custody

theorem State.releaseOldest_spec (s : State) (h : Held) (ho : s.jrnl.oldest = some h) :
    State.Released 1 h s s.releaseOldest := by
  unfold State.releaseOldest
  rw [ho]
  dsimp only
  generalize hu : ((s.modCtl (·.withdraw (· == h.serial))).modJrnl fun j => { j with
    held := j.held - 1
    oldest := if j.held ≤ 1 then none else some { serial := h.serial + 1, slot := nextGood j.bad h.slot }
    inTransit := j.inTransit.filter fun x => x.serial != h.serial
    readAhead := j.readAhead.filter fun x => x.serial != h.serial
    pendingMarks := j.pendingMarks ++ [h.slot]
    ctr := { j.ctr with released := bump j.ctr.released } }) = u
  have hk := u.storeKick_started
  have hjrnl : u.jrnl = { s.jrnl with
    held := s.jrnl.held - 1
    oldest := if s.jrnl.held ≤ 1 then none else some { serial := h.serial + 1, slot := nextGood s.jrnl.bad h.slot }
    inTransit := s.jrnl.inTransit.filter fun x => x.serial != h.serial
    readAhead := s.jrnl.readAhead.filter fun x => x.serial != h.serial
    pendingMarks := s.jrnl.pendingMarks ++ [h.slot]
    ctr := { s.jrnl.ctr with released := bump s.jrnl.ctr.released } } := by rw [← hu]; rfl
  have hside : ∀ k : Nat, (k != h.serial) = true → k < h.serial ∨ h.serial + 1 ≤ k := fun k hk => by
    have : k ≠ h.serial := by simpa using hk
    omega
  refine ⟨by rw [hk.kept, ← hu]; rfl, ?_, fun x hx => ?_, fun x hx => ?_, fun hb => ?_⟩
  · rw [hk.jrnl.custody, hjrnl]; rfl
  · have hin : u.storeKick.jrnl.inTransit = s.jrnl.inTransit.filter fun x => x.serial != h.serial := by rw [hk.jrnl.kept, hjrnl]
    rw [hin, List.mem_filter] at hx
    exact ⟨hx.1, hside _ hx.2⟩
  · have hmem := List.mem_map_of_mem (f := (·.serial)) hx
    rw [hk.jrnl.serials, hjrnl] at hmem
    obtain ⟨y, hy, e⟩ := List.mem_map.mp hmem
    obtain ⟨hy, hne⟩ := List.mem_filter.mp hy
    exact ⟨e ▸ List.mem_map_of_mem (f := (·.serial)) hy, e ▸ hside _ hne⟩
  · have hb' : u.ctl.state ≠ .idle := by rw [← hu]; exact hb
    rw [u.storeKick_busy hb', hjrnl]
    exact ⟨rfl, hb'⟩

theorem heldRun_add (bad : List Nat) : ∀ n m slot : Nat,
    heldRun bad (n + m) slot = heldRun bad n slot ++ heldRun bad m ((nextGood bad)^[n] slot) := by
  intro n
  induction n with
  | zero => exact fun m slot => by rw [Nat.zero_add]; rfl
  | succ n ih =>
    intro m slot
    rw [Nat.succ_add, heldRun, ih, heldRun, List.cons_append, Function.iterate_succ_apply]

theorem heldRun_length (bad : List Nat) : ∀ n slot : Nat, (heldRun bad n slot).length = n := by
  intro n
  induction n with
  | zero => exact fun _ => rfl
  | succ n ih => exact fun slot => by rw [heldRun, List.length_cons, ih]

theorem heldRun_take (bad : List Nat) {n m : Nat} (slot : Nat) (h : n ≤ m) : (heldRun bad m slot).take n = heldRun bad n slot := by
  obtain ⟨k, rfl⟩ := Nat.exists_eq_add_of_le h
  rw [heldRun_add, List.take_append_of_le_length (by rw [heldRun_length]), List.take_of_length_le (by rw [heldRun_length])]

theorem State.Released.trans {n : Nat} {h h' : Held} {s u t : State} (a : State.Released 1 h s u) (b : State.Released n h' u t)
    (ho : u.jrnl.oldest = some h') : State.Released (n + 1) h s t := by
  have hh : h' = { serial := h.serial + 1, slot := nextGood s.jrnl.bad h.slot } := by
    have := a.oldest.symm.trans ho
    split at this
    · cases this
    · exact (Option.some.inj this).symm
  have hbad : u.jrnl.bad = s.jrnl.bad := congrArg (fun v => v.2.2.2.1) a.custody
  have hcursor : u.jrnl.cursor = s.jrnl.cursor := congrArg (fun v => v.2.2.1) a.custody
  have hctr : u.jrnl.ctr.released = bump s.jrnl.ctr.released := congrArg (fun v => v.2.2.2.2.1) a.custody
  have hhigh : u.jrnl.highSpent = s.jrnl.highSpent := congrArg (fun v => v.2.2.2.2.2.1) a.custody
  have hcond : u.jrnl.cond = s.jrnl.cond := congrArg (fun v => v.2.2.2.2.2.2) a.custody
  have hle : (s.jrnl.held - 1 ≤ n) = (s.jrnl.held ≤ n + 1) := propext ⟨fun _ => by omega, fun _ => by omega⟩
  have hserial : h'.serial + n = h.serial + (n + 1) := by rw [hh]; show h.serial + 1 + n = _; omega
  refine ⟨by rw [b.kept, a.kept], ?_, fun x hx => ?_, fun x hx => ?_, fun hb => ?_⟩
  · rw [b.custody, a.held, hbad, hcursor, hctr, hhigh, hcond, hserial, hh, Nat.sub_sub, Nat.add_comm 1 n]
    simp only [hle]
    rfl
  · have hu := b.sent x hx
    have hs := a.sent x hu.1
    have hn := hu.2
    rw [hh] at hn
    exact ⟨hs.1, by have := hs.2; dsimp only at hn; omega⟩
  · obtain ⟨hu, hn⟩ := b.reading x hx
    obtain ⟨y, hy, e⟩ := List.mem_map.mp hu
    obtain ⟨hs, h1⟩ := a.reading y hy
    rw [hh] at hn
    rw [e] at hs h1
    exact ⟨hs, by dsimp only at hn; omega⟩
  · obtain ⟨hmarks, hbusy⟩ := a.busy hb
    obtain ⟨hmarks', hbusy'⟩ := b.busy hbusy
    refine ⟨?_, hbusy'⟩
    rw [hmarks', hmarks, hbad, hh, List.append_assoc, Nat.add_comm n 1, heldRun_add]
    rfl

theorem State.release_spec (n : Nat) : ∀ (s : State) (h : Held), s.jrnl.oldest = some h → n + 1 ≤ s.jrnl.held →
    State.Released (n + 1) h s (s.release (n + 1)) := by
  induction n with
  | zero => exact fun s h ho _ => s.releaseOldest_spec h ho
  | succ n ih =>
    intro s h ho hn
    have hone := s.releaseOldest_spec h ho
    have hnext := hone.oldest.trans (if_neg (by omega))
    exact hone.trans (ih _ _ hnext (by rw [hone.held]; omega)) hnext

/-! ### An ACK, a PULL and an END (6.6) -/

/-- The record k lies outside the n oldest of h. -/
def Held.Leaves (h : Held) (n k : Nat) : Prop := k < h.serial ∨ h.serial + n ≤ k

theorem State.Released.onWay {n : Nat} {h : Held} {s t : State} (r : State.Released n h s t) : t.jrnl.OnWay (h.Leaves n) where
  sent x hx := (r.sent x hx).2
  reading x hx := (r.reading x hx).2
  holds k hk := by
    unfold Journal.holdsSerial at hk
    rw [r.oldest] at hk
    split at hk
    · cases hk
    · rename_i x e
      split at e
      · cases e
      · cases e
        exact .inr (of_decide_eq_true (Bool.and_eq_true_iff.mp hk).1)

theorem Journal.holdsSlot_congr {j j' : Journal} (h : j'.oldest = j.oldest) (hh : j'.held = j.held) (hb : j'.bad = j.bad) (slot : Nat) :
    j'.holdsSlot slot = j.holdsSlot slot := by
  unfold Journal.holdsSlot Journal.heldSlots; rw [h, hh, hb]

theorem Journal.holdsSlot_of_custody {j j' : Journal} (h : (j'.oldest, j'.held, j'.cursor, j'.bad) = (j.oldest, j.held, j.cursor, j.bad)) :
    j'.holdsSlot j'.cursor = j.holdsSlot j.cursor := by
  simp only [Prod.mk.injEq] at h
  obtain ⟨ho, hh, hc, hb⟩ := h
  rw [hc]; exact holdsSlot_congr ho hh hb _

/-- The journal after an ACK that covers n records, in the fields the drain keeps. -/
def Journal.ackedCustody (j : Journal) (h : Held) (n : Nat) : Option Held × Nat × Nat × List Nat × Nat × Bool :=
  (if j.held ≤ n then none else some { serial := h.serial + n, slot := (nextGood j.bad)^[n] h.slot },
    j.held - n, j.cursor, j.bad, bump^[n] j.ctr.released, j.highSpent && decide (6000 ≤ j.held - n))

/-- The state after an ACK that covers the n oldest records. -/
structure State.Acked (n : Nat) (h : Held) (s t : State) : Prop where
  kept : s.DrainOnly t
  view : (t.jrnl.oldest, t.jrnl.held, t.jrnl.cursor, t.jrnl.bad, t.jrnl.ctr.released, t.jrnl.highSpent) = s.jrnl.ackedCustody h n
  cond : t.jrnl.cond = if s.jrnl.cond = .full ∧ t.jrnl.holdsSlot t.jrnl.cursor = false then .accepting else s.jrnl.cond
  onWay : t.jrnl.OnWay (h.Leaves n)
  busy : s.ctl.state ≠ .idle → t.jrnl.pendingMarks = s.jrnl.pendingMarks ++ heldRun s.jrnl.bad n h.slot

/-- The drain's part before the held count is tested for the high mark: the condition is tested, the rest stands as released. -/
theorem State.testReopened_drains {P : Nat → Prop} (s : State) (h : s.jrnl.OnWay P) :
    s.testReopened = { s with jrnl := s.testReopened.jrnl, ctl := s.testReopened.ctl } ∧
    s.testReopened.jrnl.custody = (s.jrnl.oldest, s.jrnl.held, s.jrnl.cursor, s.jrnl.bad, s.jrnl.ctr.released, s.jrnl.highSpent,
      if s.jrnl.cond = .full ∧ s.jrnl.holdsSlot s.jrnl.cursor = false then .accepting else s.jrnl.cond) ∧
    s.testReopened.jrnl.OnWay P ∧
    (s.ctl.state ≠ .idle → s.testReopened.jrnl.pendingMarks = s.jrnl.pendingMarks ∧ s.testReopened.ctl.state ≠ .idle) := by
  unfold State.testReopened
  by_cases hc : s.jrnl.cond = .full ∧ s.jrnl.holdsSlot s.jrnl.cursor = false
  · simp only [if_pos hc]
    generalize hu : (s.modJrnl fun j => { j with cond := .accepting }) = u
    have hway : u.jrnl.OnWay P := by rw [← hu]; exact ⟨h.sent, h.reading, h.holds⟩
    have hd := u.storeKick_drains hway
    refine ⟨?_, ?_, hd.onWay, fun hb => ?_⟩
    · rw [u.storeKick_started.kept, ← hu]; rfl
    · rw [hd.custody, ← hu]; rfl
    · have := hd.busy (by rw [← hu]; exact hb)
      rw [← hu] at this ⊢
      exact this
  · rw [if_neg hc, if_neg hc]
    exact ⟨rfl, rfl, h, fun hb => ⟨rfl, hb⟩⟩

theorem State.ack_spec (s : State) (k : Nat) (h : Held) (n : Nat) (ho : s.jrnl.oldest = some h) (hn : s.jrnl.ackCovers k = n + 1)
    (hle : n + 1 ≤ s.jrnl.held) : State.Acked (n + 1) h s (s.ack k) := by
  have hrel := State.release_spec n s h ho hle
  unfold State.ack
  rw [if_neg (by omega), hn]
  generalize s.release (n + 1) = r at hrel
  have htimed := r.retime_drains hrel.onWay
  obtain ⟨hkept, hview, hway, hbusy⟩ := r.retime.testReopened_drains htimed.onWay
  generalize r.retime = u at htimed hkept hview hbusy hway
  generalize u.testReopened = v at hkept hview hbusy hway
  generalize hw : v.modJrnl (·.rearm) = w
  have hjrnl : w.jrnl = { v.jrnl with highSpent := v.jrnl.highSpent && decide (6000 ≤ v.jrnl.held) } := by
    rw [← hw]
    show v.jrnl.rearm = _
    unfold Journal.rearm
    by_cases hlow : v.jrnl.held < 6000
    · rw [if_pos hlow, decide_eq_false (by omega), Bool.and_false]
    · rw [if_neg hlow, decide_eq_true (by omega), Bool.and_true]
  have hwayw : w.jrnl.OnWay (h.Leaves (n + 1)) := by rw [hjrnl]; exact ⟨hway.sent, hway.reading, hway.holds⟩
  have hreads := w.requestReads_drains hwayw
  have hdone := hreads.trans (State.offerTollsUpTo_drains 4 _ hreads.onWay)
  replace hdone : State.Drains (h.Leaves (n + 1)) w w.requestReads.offerTolls := hdone
  generalize w.requestReads.offerTolls = t at hdone
  have hu := htimed.custody.trans hrel.custody
  simp only [Journal.custody, Prod.mk.injEq] at hview hu
  obtain ⟨hvo, hvh, hvc, hvb, hvr, hvs, hvcond⟩ := hview
  obtain ⟨huo, huh, huc, hub, hur, hus, hucond⟩ := hu
  have hcust := hdone.custody
  rw [hjrnl] at hcust
  simp only [Journal.custody, Prod.mk.injEq] at hcust
  obtain ⟨hto, hth, htc, htb, htr, hts, htcond⟩ := hcust
  have hslot : t.jrnl.holdsSlot t.jrnl.cursor = u.jrnl.holdsSlot u.jrnl.cursor :=
    Journal.holdsSlot_of_custody (by rw [hto, hth, htc, htb, hvo, hvh, hvc, hvb])
  refine ⟨?_, ?_, ?_, hdone.onWay, fun hb => ?_⟩
  · have hru : State.DrainOnly s r := by rw [State.DrainOnly, hrel.kept]
    have huv : State.DrainOnly u v := by rw [State.DrainOnly, hkept]
    exact ((hru.trans htimed.kept).trans huv).trans ((show State.DrainOnly v w by rw [← hw]; rfl).trans hdone.kept)
  · rw [hto, hth, htc, htb, htr, hts]
    show (v.jrnl.oldest, v.jrnl.held, v.jrnl.cursor, v.jrnl.bad, v.jrnl.ctr.released, _) = _
    rw [hvo, hvh, hvc, hvb, hvr, hvs, huo, huh, huc, hub, hur, hus]
    rfl
  · rw [hslot, htcond]
    show v.jrnl.cond = _
    rw [hvcond, hucond]
  · obtain ⟨hmr, hbr⟩ := hrel.busy hb
    obtain ⟨hmu, hbu⟩ := htimed.busy hbr
    obtain ⟨hmv, hbv⟩ := hbusy hbu
    have hmt := (hdone.busy (by rw [← hw]; exact hbv)).1
    rw [hmt, hjrnl]
    show v.jrnl.pendingMarks = _
    rw [hmv, hmu, hmr]

theorem JournalCond.drains_false (c : JournalCond) : c.drains = false ↔ c = .recovering ∨ c = .fault := by
  cases c <;> simp [JournalCond.drains]

theorem State.takeTollControl_discarded (b : Block) (s : State)
    (h : (s.jrnl.cond = .recovering ∨ s.jrnl.cond = .fault) ∨ (b.subtype ≠ 1 ∧ b.subtype ≠ 2 ∧ b.subtype ≠ 3) ∨
      (b.subtype = 1 ∧ (b.body.length ≠ 1 ∨ byteAt b.body 0 = 0 ∨ 64 < (byteAt b.body 0).toNat)) ∨
      (b.subtype = 2 ∧ b.body.length ≠ 4) ∨ (b.subtype = 3 ∧ b.body.length ≠ 0)) :
    s.takeTollControl b = s.controlDiscarded := by
  unfold State.takeTollControl
  by_cases hd : s.jrnl.cond.drains = false
  · rw [if_pos hd]
  have hzero : ¬ (byteAt b.body 0 = 0 ∧ 1 ≤ (byteAt b.body 0).toNat) := fun hz => by rw [hz.1] at hz; exact absurd hz.2 (by decide)
  rw [if_neg hd]
  rcases h with h | ⟨h1, h2, h3⟩ | ⟨e, h⟩ | ⟨e, h⟩ | ⟨e, h⟩
  · exact absurd ((JournalCond.drains_false _).mpr h) hd
  · rw [if_neg fun h => h1 h.1, if_neg fun h => h2 h.1, if_neg fun h => h3 h.1]
  · rw [if_neg fun ⟨_, hl, hlo, hhi⟩ => h.elim (fun h => h hl) fun h => h.elim (fun h => hzero ⟨h, hlo⟩) fun h => absurd hhi (by omega)]
    rw [if_neg (fun h => by rw [e] at h; exact absurd h.1 (by decide)), if_neg (fun h => by rw [e] at h; exact absurd h.1 (by decide))]
  · rw [if_neg (fun h => by rw [e] at h; exact absurd h.1 (by decide)), if_neg (fun h' => h h'.2),
      if_neg (fun h => by rw [e] at h; exact absurd h.1 (by decide))]
  · rw [if_neg (fun h => by rw [e] at h; exact absurd h.1 (by decide)), if_neg (fun h => by rw [e] at h; exact absurd h.1 (by decide)),
      if_neg fun h' => h h'.2]

theorem State.takeTollControl_pull (b : Block) (s : State) (c : Byte) (hd : s.jrnl.cond.drains = true) (hs : b.subtype = 1)
    (hb : b.body = [c]) (hlo : 1 ≤ c.toNat) (hhi : c.toNat ≤ 64) : s.takeTollControl b = s.pull c.toNat := by
  unfold State.takeTollControl
  rw [if_neg (by rw [hd]; exact Bool.noConfusion), if_pos ⟨hs, by rw [hb]; rfl, by rw [hb]; exact hlo, by rw [hb]; exact hhi⟩, hb]
  rfl

theorem State.takeTollControl_end (b : Block) (s : State) (hd : s.jrnl.cond.drains = true) (hs : b.subtype = 3) (hb : b.body = []) :
    s.takeTollControl b = s.drainEnd := by
  unfold State.takeTollControl
  rw [if_neg (by rw [hd]; exact Bool.noConfusion), if_neg (by rw [hb]; exact fun h => absurd h.2.1 (by decide)),
    if_neg (by rw [hb]; exact fun h => absurd h.2 (by decide)), if_pos ⟨hs, by rw [hb]; rfl⟩]

theorem State.takeTollControl_ack (b : Block) (s : State) (hd : s.jrnl.cond.drains = true) (hs : b.subtype = 2)
    (hb : b.body.length = 4) : s.takeTollControl b = s.ack (word32At b.body 0).toNat := by
  unfold State.takeTollControl
  rw [if_neg (by rw [hd]; exact Bool.noConfusion), if_neg (by rw [hs]; exact fun h => absurd h.1 (by decide)), if_pos ⟨hs, hb⟩]

theorem State.pull_spec (s : State) (c : Nat) : ∃ (ks : List Nat) (t : State),
    s.pull c = t ∧ t.jrnl.credit = min 64 (s.jrnl.credit + c) ∧
    t.jrnl.readAhead.map (·.serial) = s.jrnl.readAhead.map (·.serial) ++ ks ∧ ks.Pairwise (· < ·) ∧
    (∀ k ∈ ks, s.jrnl.holdsSerial k = true ∧ s.jrnl.isInTransit k = false ∧ s.jrnl.isReading k = false) ∧
    (t.jrnl.mayRequest = false ∨ t.jrnl.sendCursor = none) ∧
    t = { s with jrnl := { s.jrnl with credit := t.jrnl.credit, readAhead := t.jrnl.readAhead }, ctl := t.ctl } := by
  obtain ⟨ks, hreq, hrise, hks, hstop⟩ := State.requestReadsUpTo_spec 4 (s.modJrnl fun j => { j with credit := min 64 (j.credit + c) })
  refine ⟨ks, _, rfl, ?_, hreq.serials, hrise, hks, hstop (by omega), ?_⟩
  · rw [State.pull, State.requestReads, hreq.kept]; rfl
  · rw [State.pull, State.requestReads, hreq.kept]; rfl

theorem Journal.ackCovers_zero (j : Journal) (k : Nat) (h : j.oldest = none ∨ j.newestSent = none ∨ j.held = 0 ∨
    ∃ (h : Held) (newest : Nat), j.oldest = some h ∧ j.newestSent = some newest ∧ min k newest < h.serial) : j.ackCovers k = 0 := by
  unfold Journal.ackCovers
  rcases h with h | h | h | ⟨x, newest, ho, hs, hlt⟩
  · rw [h]
  · rw [h]; cases j.oldest <;> rfl
  · rw [h]
    split
    · split
      · rfl
      · exact Nat.min_zero _
    · rfl
  · rw [ho, hs]; exact if_pos hlt

theorem Journal.ackCovers_some (j : Journal) (k : Nat) {h : Held} {newest : Nat} (ho : j.oldest = some h) (hs : j.newestSent = some newest)
    (hle : h.serial ≤ min k newest) : j.ackCovers k = min (min k newest - h.serial + 1) j.held := by
  unfold Journal.ackCovers
  rw [ho, hs]
  exact if_neg (by omega)

theorem Journal.heldSlots_of_oldest {j : Journal} {h : Held} (ho : j.oldest = some h) : j.heldSlots = heldRun j.bad j.held h.slot := by
  unfold Journal.heldSlots; rw [ho]

theorem State.Acked.oldest {n : Nat} {h : Held} {s t : State} (a : State.Acked n h s t) (ho : s.jrnl.oldest = some h) :
    t.jrnl.oldest = if s.jrnl.held ≤ n then none else some { serial := h.serial + n, slot := s.jrnl.heldSlots.getD n 0 } := by
  have hview : t.jrnl.oldest = if s.jrnl.held ≤ n then none else
      some { serial := h.serial + n, slot := (nextGood s.jrnl.bad)^[n] h.slot } := congrArg (fun v => v.1) a.view
  rw [hview, Journal.heldSlots_of_oldest ho]
  by_cases hle : s.jrnl.held ≤ n
  · rw [if_pos hle, if_pos hle]
  · rw [if_neg hle, if_neg hle, heldRun_getD _ _ _ _ (by omega)]

theorem StoreController.withdraw_all (c : StoreController) : c.withdraw (fun _ => true) = { c with
    requests := []
    op := match c.op with
      | some (.read serial slot _) => some (.read serial slot false)
      | op => op } := by
  unfold StoreController.withdraw
  have hnone : c.requests.filter (fun _ => !true) = [] := List.filter_eq_nil_iff.mpr fun _ _ => Bool.noConfusion
  dsimp only
  rw [hnone]
  congr 1
  cases c.op with
  | none => rfl
  | some op =>
    cases op with
    | read serial slot live => exact congrArg (fun b => some (StoreOp.read serial slot b)) (Bool.and_false live)
    | _ => rfl

theorem State.drainEnd_eq (s : State) : s.drainEnd = { s with
    jrnl := { s.jrnl with credit := 0, readAhead := [] }
    ctl := { s.ctl with
      requests := []
      op := match s.ctl.op with
        | some (.read serial slot _) => some (.read serial slot false)
        | op => op } } :=
  congrArg (fun c : StoreController => { s with jrnl := { s.jrnl with credit := 0, readAhead := [] }, ctl := c })
    s.ctl.withdraw_all

/-- Settles O36: a PULL asks for READs until a term stops it, and an ACK releases the oldest records one by one, retimes, reopens, rearms
and offers again. -/
theorem centreControlMovesJournal : Obligations.CentreControlMovesJournal := by
  refine ⟨State.takeTollControl_discarded, fun b s hd => ⟨?_, ?_, ?_⟩⟩
  · intro c hs hb hlo hhi
    rw [s.takeTollControl_pull b c hd hs hb hlo hhi]
    exact s.pull_spec c.toNat
  · intro hs hb
    rw [State.takeTollControl_end b s hd hs hb]
    exact s.drainEnd_eq.trans rfl
  · intro k hs hb hk
    rw [State.takeTollControl_ack b s hd hs hb, ← hk]
    refine ⟨fun h => if_pos (s.jrnl.ackCovers_zero k h), fun h newest n ho hsent hheld hle hn => ?_⟩
    have hcov := s.jrnl.ackCovers_some k ho hsent hle
    obtain ⟨m, rfl⟩ : ∃ m, n = m + 1 := ⟨n - 1, by omega⟩
    have hdone := s.ack_spec k h m ho (by omega) (by omega)
    generalize s.ack k = t at hdone
    have hview := hdone.view
    simp only [Journal.ackedCustody, Prod.mk.injEq] at hview
    obtain ⟨-, hth, -, -, hreleased, hspent⟩ := hview
    refine ⟨t, rfl, hth, hdone.oldest ho, ?_, hdone.onWay.sent, hdone.onWay.reading, fun hb => ?_, hspent, hdone.cond, hdone.kept⟩
    · rw [hreleased, bump_iterate _ _ (Nat.succ_pos m)]
    · rw [hdone.busy hb, Journal.heldSlots_of_oldest ho, heldRun_take _ _ (by omega)]

end Sys2Proof.Machine
end

section
/-! PROOFS. The completions of the store (6.5, 7.2): commits, marks and verifies. -/

namespace Sys2Proof.Machine

/-! ### Notices queued (R179) -/

theorem State.offerNotice_serial (s : State) : s.offerNotice.agent.serial = s.agent.serial := by
  unfold State.offerNotice State.passNotice
  split
  · split <;> rfl
  · rfl

theorem State.offerNotice_mq (s : State) : s.offerNotice = { s with
    ring := { s.ring with mq := s.offerNotice.ring.mq }, agent := { s.agent with notices := s.offerNotice.agent.notices } } := by
  unfold State.offerNotice State.passNotice
  split
  · split <;> rfl
  · rfl

/-- A notice changes MQ, the notice queue, the serial and the two counts of notices alone. -/
theorem State.notify_mq (s : State) (b : NoticeBody) : s.notify b = { s with
    ring := { s.ring with mq := (s.notify b).ring.mq }
    agent := { s.agent with
      notices := (s.notify b).agent.notices, serial := (s.notify b).agent.serial, queued := (s.notify b).agent.queued
      lost := (s.notify b).agent.lost } } := by
  unfold State.notify
  split
  · rfl
  · dsimp only
    split
    · split
      · rw [State.offerNotice_mq]; rfl
      · rfl
    · rfl

/-- The notice the state would queue, and what queueing notices changes: they leave nothing but ring transit and the agent, take the next
serials, and join a queue that holds others and has room. -/
structure State.Queued (s t : State) (l : List NoticeBody) : Prop where
  kept : t = { s with
    ring := { s.ring with mq := t.ring.mq }
    agent := { s.agent with
      notices := t.agent.notices, serial := t.agent.serial, queued := t.agent.queued, lost := t.agent.lost } }
  serial : s.repeater = false → t.agent.serial = s.agent.serial + l.length
  notices : s.repeater = false → s.agent.notices ≠ [] → s.agent.notices.length + l.length ≤ 16 → t.agent.notices = s.agent.notices ++
    l.mapIdx fun i b => { serial := s.agent.serial + i, time := s.now % 4294967296, body := b }

theorem State.Queued.loose {s t : State} {l : List NoticeBody} (h : s.Queued t l) : t = { s with ring := t.ring, agent := t.agent } := by
  rw [h.kept]

theorem State.Queued.refl (s : State) : s.Queued s [] :=
  ⟨rfl, fun _ => (BitVec.add_zero _).symm, fun _ _ _ => (List.append_nil _).symm⟩

theorem State.notify_queued (s : State) (b : NoticeBody) : s.Queued (s.notify b) [b] := by
  refine ⟨s.notify_mq b, fun hr => ?_, fun hr hne hroom => ?_⟩
  · unfold State.notify
    rw [if_neg (by rw [hr]; decide)]
    dsimp only
    split
    · split
      · exact State.offerNotice_serial _
      · rfl
    · rfl
  · have hmore : s.agent.notices.isEmpty = false := List.isEmpty_eq_false_iff.mpr hne
    unfold State.notify
    rw [if_neg (by rw [hr]; decide)]
    dsimp only
    rw [if_pos (by simp only [List.length_singleton] at hroom; omega), if_neg (by rw [hmore]; decide)]
    show s.agent.notices ++ [_] = _
    simp

theorem State.Queued.trans {a b c : State} {x y : List NoticeBody} (h : a.Queued b x) (k : b.Queued c y) :
    a.Queued c (x ++ y) := by
  have hrep : b.repeater = a.repeater := by rw [h.kept]; rfl
  have hnow : b.now = a.now := by rw [h.kept]
  refine ⟨by rw [k.kept, h.kept], fun hr => ?_, fun hr hne hroom => ?_⟩
  · rw [k.serial (hrep.trans hr), h.serial hr, List.length_append, Nat.cast_add, add_assoc]
  · rw [List.length_append] at hroom
    have hb := h.notices hr hne (by omega)
    have hlen := congrArg List.length hb
    rw [List.length_append, List.length_mapIdx] at hlen
    rw [k.notices (hrep.trans hr) (by rw [hb]; exact List.append_ne_nil_of_left_ne_nil hne _)
      (by rw [hlen]; omega), hb, h.serial hr, hnow, List.append_assoc, List.mapIdx_append]
    simp [add_comm, add_left_comm]

theorem State.Queued.over {s t : State} {l : List NoticeBody} (h : s.Queued t l) (j : Journal) (c : StoreController) :
    State.Queued { s with jrnl := j, ctl := c } { t with jrnl := j, ctl := c } l :=
  ⟨by rw [h.kept], h.serial, h.notices⟩

/-! ### The tests at a commit's end (R101, R102) -/

/-- The journal after R101's test, which found FULL or not. -/
def Journal.tested (j : Journal) (full : Bool) : Journal :=
  { j with
    cond := if full = true then .full else j.cond
    ctr := { j.ctr with fullEntries := if full = true then bump j.ctr.fullEntries else j.ctr.fullEntries } }

theorem State.testFull_spec (s : State) (full : Bool) (h : full = (decide (s.jrnl.cond = .accepting) && s.jrnl.holdsSlot s.jrnl.cursor)) :
    (s.modJrnl (·.tested full)).Queued s.testFull (if full = true then [.full s.jrnl.held] else []) := by
  unfold State.testFull
  cases full with
  | true =>
    have hc := Bool.and_eq_true_iff.mp h.symm
    rw [if_pos ⟨of_decide_eq_true hc.1, hc.2⟩, if_pos rfl]
    exact State.notify_queued _ _
  | false =>
    rw [if_neg (fun hc => by rw [hc.2, decide_eq_true hc.1] at h; cases h), if_neg Bool.false_ne_true]
    exact .refl s

theorem State.testHighMark_spec (s : State) (high : Bool) (h : high = (decide (s.jrnl.held = 7000) && !s.jrnl.highSpent)) :
    (s.modJrnl fun j => { j with highSpent := j.highSpent || high }).Queued s.testHighMark
      (if high = true then [.highMark s.jrnl.held] else []) := by
  unfold State.testHighMark
  cases high with
  | true =>
    have hc := Bool.and_eq_true_iff.mp h.symm
    rw [if_pos ⟨of_decide_eq_true hc.1, by simpa using hc.2⟩, if_pos rfl]
    have hs : (s.modJrnl fun j => { j with highSpent := j.highSpent || true }) = s.modJrnl fun j => { j with highSpent := true } :=
      congrArg (fun b => s.modJrnl fun j => { j with highSpent := b }) (Bool.or_true s.jrnl.highSpent)
    rw [hs]
    exact State.notify_queued _ _
  | false =>
    rw [if_neg (fun hc => by rw [hc.2, decide_eq_true hc.1] at h; cases h), if_neg Bool.false_ne_true]
    have hs : (s.modJrnl fun j => { j with highSpent := j.highSpent || false }) = s :=
      congrArg (fun b => s.modJrnl fun j => { j with highSpent := b }) (Bool.or_false s.jrnl.highSpent)
    rw [hs]
    exact .refl s

/-- The journal after a verdict for a transaction. -/
def Journal.settled (j : Journal) (x : Txn) (v : Verdict) : Journal :=
  { j with
    answers := if x.linked = true then updAt j.answers x.slot (settleEntry x.number v) else j.answers
    ctr := { j.ctr with lost := if x.linked = true then j.ctr.lost else bump j.ctr.lost } }

theorem State.deliverVerdict_kept (s : State) (x : Txn) (v : Verdict) :
    s.deliverVerdict x v = { s with jrnl := s.jrnl.settled x v } := by
  unfold State.deliverVerdict Journal.settled
  split <;> rfl

/-- The journal once the record in hand is held and its verdict given, before the condition is tested. -/
def Journal.committed (j : Journal) (h : InHand) : Journal := (j.hold h.serial).settled h.txn .committed

/-- The notices of a commit's end. -/
def commitNotices (full high : Bool) (held : Nat) : List NoticeBody :=
  (if full = true then [.full held] else []) ++ if high = true then [.highMark held] else []

/-- What a commit's success leaves: the record held, both tests made, and READs requested. -/
structure State.CommitHeld (s : State) (h : InHand) (full high : Bool) (t : State) : Prop where
  jrnl : t.jrnl = { (s.jrnl.committed h).tested full with
    highSpent := s.jrnl.highSpent || high
    staging := t.jrnl.staging, overrun := t.jrnl.overrun, hand := t.jrnl.hand, nextSerial := t.jrnl.nextSerial
    pendingMarks := t.jrnl.pendingMarks, readAhead := t.jrnl.readAhead }
  queued : s.Queued { s with ring := t.ring, agent := t.agent } (commitNotices full high (s.jrnl.held + 1))
  kept : t = { s with jrnl := t.jrnl, ctl := t.ctl, ring := t.ring, agent := t.agent }

theorem State.commitSucceeds_spec (s : State) (h : InHand) (full high : Bool)
    (hf : full = (decide (s.jrnl.cond = .accepting) && (s.jrnl.committed h).holdsSlot (nextGood s.jrnl.bad s.jrnl.cursor)))
    (hh : high = (decide (s.jrnl.held + 1 = 7000) && !s.jrnl.highSpent)) :
    s.CommitHeld h full high (s.commitSucceeds h).storeKick := by
  have hdel : (s.modJrnl (·.hold h.serial)).deliverVerdict h.txn .committed = s.modJrnl (·.committed h) := by
    rw [State.deliverVerdict_kept]; rfl
  unfold State.commitSucceeds
  rw [hdel]
  generalize hu : s.modJrnl (·.committed h) = u
  have hfull := u.testFull_spec full (by rw [hf, ← hu]; rfl)
  have hheld : u.jrnl.held = s.jrnl.held + 1 := by rw [← hu]; rfl
  have hspent : u.jrnl.highSpent = s.jrnl.highSpent := by rw [← hu]; rfl
  have hv : u.testFull.jrnl = u.jrnl.tested full := by rw [hfull.kept]; rfl
  have hhigh := u.testFull.testHighMark_spec high (by rw [hv, hh, ← hheld, ← hspent]; rfl)
  rw [hv, show (u.jrnl.tested full).held = s.jrnl.held + 1 from hheld] at hhigh
  have hw : u.testFull.testHighMark.jrnl = { (s.jrnl.committed h).tested full with highSpent := s.jrnl.highSpent || high } := by
    rw [hhigh.kept]
    show { u.testFull.jrnl with highSpent := u.testFull.jrnl.highSpent || high } = _
    rw [hv, ← hu]
    rfl
  obtain ⟨ks, hreads, -⟩ := State.requestReadsUpTo_spec 4 u.testFull.testHighMark
  have hkick := u.testFull.testHighMark.requestReads.storeKick_started
  have hreads' : u.testFull.testHighMark.requestReads = { u.testFull.testHighMark with
    jrnl := { u.testFull.testHighMark.jrnl with readAhead := u.testFull.testHighMark.requestReads.jrnl.readAhead }
    ctl := u.testFull.testHighMark.requestReads.ctl } := hreads.kept
  have hagent : u.testFull.testHighMark.requestReads.storeKick.agent = u.testFull.testHighMark.agent := by rw [hkick.kept, hreads']
  have hring : u.testFull.testHighMark.requestReads.storeKick.ring = u.testFull.testHighMark.ring := by rw [hkick.kept, hreads']
  refine ⟨?_, ?_, ?_⟩
  · rw [hkick.jrnl.kept, hreads', hw]
  · rw [hagent, hring]
    have hq := (hfull.over s.jrnl s.ctl).trans (hhigh.over s.jrnl s.ctl)
    subst hu
    have e := hq.loose
    rw [e] at hq
    exact hq
  · rw [hkick.kept, hreads', hhigh.kept, hfull.kept, ← hu]
    rfl

/-! ### A verify that differs (R100, R111) -/

theorem State.endOp_operating (s : State) (h : s.ctl.state = .operating) :
    s.endOp = s.modCtl fun c => { c with op := none, timer := none, state := .idle } := by
  unfold State.endOp
  rw [if_neg (by rw [h]; exact CtlState.noConfusion)]
  rfl

theorem State.afterRead_kept (s : State) (slot : Nat) (got : ReadBack) :
    s.afterRead slot got = { s with nv := (s.afterRead slot got).nv } := by
  cases got <;> rfl

/-- The state once a READ of the operation in flight is done and the controller is IDLE again. -/
theorem State.readEnded (s : State) (slot : Nat) (got : ReadBack) (h : s.ctl.state = .operating) :
    (s.afterRead slot got).endOp =
      { s with nv := (s.afterRead slot got).nv, ctl := { s.ctl with op := none, timer := none, state := .idle } } := by
  rw [State.endOp_operating _ (by rw [s.afterRead_kept slot got]; exact h), s.afterRead_kept slot got]
  rfl

theorem State.forEach_deliver (v : Verdict) (l : List Txn) : ∀ s : State, ∃ j : Journal,
    s.forEach l (fun x s => s.deliverVerdict x v) = { s with jrnl := j } ∧
      j = { s.jrnl with answers := j.answers, ctr := j.ctr } := by
  induction l with
  | nil => exact fun s => ⟨s.jrnl, rfl, rfl⟩
  | cons x l ih =>
    intro s
    obtain ⟨j, hs, hj⟩ := ih (s.deliverVerdict x v)
    refine ⟨j, ?_, ?_⟩
    · rw [show s.forEach (x :: l) _ = (s.deliverVerdict x v).forEach l _ from rfl, hs, State.deliverVerdict_kept]
    · rw [hj, State.deliverVerdict_kept]
      rfl

/-- The journal in FAULT (R97, R111). -/
structure Journal.Faulted (j : Journal) (cause : StoreCause) : Prop where
  cond : j.cond = .fault
  faultCause : j.faultCause = some cause
  staging : j.staging = []
  hand : j.hand = none
  credit : j.credit = 0
  inTransit : j.inTransit = []
  readAhead : j.readAhead = []

/-- The journal emptied into FAULT. -/
def Journal.toFault (j : Journal) (cause : StoreCause) : Journal :=
  { j with cond := .fault, faultCause := some cause, staging := [], overrun := false, hand := none, credit := 0,
           inTransit := [], readAhead := [] }

theorem Journal.toFault_faulted (j : Journal) (cause : StoreCause) : (j.toFault cause).Faulted cause := ⟨rfl, rfl, rfl, rfl, rfl, rfl, rfl⟩

/-- The move to FAULT: verdicts for all in hand, READs withdrawn, the notice queued. -/
theorem State.journalFault_spec (s : State) (cause : StoreCause) (h : s.jrnl.cond ≠ .fault) : ∃ j : Journal,
    j.Faulted cause ∧ j.held = s.jrnl.held ∧ j.hasView = s.jrnl.hasView ∧
    State.Queued { s with jrnl := j, ctl := s.ctl.withdraw fun _ => true } (s.journalFault cause) [.fault cause] := by
  unfold State.journalFault
  rw [if_neg h]
  obtain ⟨j, hs, hj⟩ := s.forEach_deliver .deferred s.jrnl.staging
  have hheld : j.held = s.jrnl.held := by rw [hj]
  have hview : j.hasView = s.jrnl.hasView := by rw [hj]
  have hverdicts : ∃ k : Journal, k.held = s.jrnl.held ∧ k.hasView = s.jrnl.hasView ∧ (match j.hand with
      | some x => State.deliverVerdict { s with jrnl := j } x.txn .deferred
      | none => { s with jrnl := j }) = { s with jrnl := k } := by
    cases j.hand with
    | none => exact ⟨j, hheld, hview, rfl⟩
    | some x => exact ⟨j.settled x.txn .deferred, hheld, hview, State.deliverVerdict_kept { s with jrnl := j } x.txn .deferred⟩
  obtain ⟨k, hk, hkv, e⟩ := hverdicts
  rw [hs]
  show ∃ j', _ ∧ _ ∧ _ ∧ State.Queued _ (State.notify (State.modJrnl (State.emptyReadAhead (match j.hand with
      | some x => State.deliverVerdict { s with jrnl := j } x.txn .deferred
      | none => { s with jrnl := j })) _) _) _
  rw [e]
  exact ⟨k.toFault cause, k.toFault_faulted cause, hk, hkv,
    State.notify_queued { s with jrnl := k.toFault cause, ctl := s.ctl.withdraw fun _ => true } (.fault cause)⟩

/-- With the journal in FAULT or RECOVERING the arbiter has no work but a save's (R117). -/
theorem State.storeKick_undrained (s : State) (h : s.jrnl.cond.drains = false) : s.storeKick.jrnl = s.jrnl := by
  have hcommit : s.jrnl.mayCommit = false := by
    unfold Journal.mayCommit
    cases hc : s.jrnl.cond <;> rw [hc] at h <;> first | rfl | cases h
  unfold State.storeKick
  rw [h, hcommit]
  split
  · rfl
  · dsimp only
    rw [if_neg Bool.false_ne_true]
    split
    · unfold State.startSave; split <;> rfl
    · rfl

theorem State.commitMismatches_full (s : State) (h : InHand) (hl : 64 ≤ s.jrnl.bad.length) :
    s.commitMismatches h = s.journalFault .badSlots := if_pos hl

/-- The journal whose commit verified wrong: the slot is bad and the record waits for a retry. -/
def Journal.retrying (j : Journal) (h : InHand) : Journal :=
  { j with bad := j.bad ++ [j.cursor], cursor := nextGood (j.bad ++ [j.cursor]) j.cursor, hand := some { h with retry := true } }

theorem State.commitMismatches_retry (s : State) (h : InHand) (hl : s.jrnl.bad.length < 64) :
    s.commitMismatches h = (s.modJrnl (·.retrying h)).testFull := if_neg (by omega)

theorem exec_commitWriteCompletion (s : State) (got : ReadBack) (slot : Nat) (bytes : List Byte)
    (h : s.ctl.op = some (.commit slot bytes .verify)) :
    exec (.commitWriteCompletion got) s = .next (s.commitCompletes slot bytes got) := by
  show execCommitWriteCompletion got s = _
  unfold execCommitWriteCompletion
  rw [h]

/-- The state in which a commit's verify has been read and the controller is IDLE. -/
def State.verified (s : State) (slot : Nat) (got : ReadBack) : State :=
  { s with nv := (s.afterRead slot got).nv, ctl := { s.ctl with op := none, timer := none, state := .idle } }

theorem State.commitCompletes_verified (s : State) (slot : Nat) (bytes : List Byte) (got : ReadBack) (h : InHand)
    (hs : s.ctl.state = .operating) (hh : s.jrnl.hand = some h) :
    s.commitCompletes slot bytes got =
      (if s.readBack slot got = bytes then (s.verified slot got).commitSucceeds h
       else (s.verified slot got).countMismatch.commitMismatches h).storeKick := by
  unfold State.commitCompletes
  dsimp only
  rw [s.readEnded slot got hs]
  show (match s.jrnl.hand with | none => _ | some h => _ : State).storeKick = _
  rw [hh]
  rfl

theorem Journal.hold_oldest (j : Journal) (k : Nat) : (j.hold k).oldest = some (j.oldest.getD { serial := k, slot := j.cursor }) := by
  unfold Journal.hold
  cases j.oldest <;> rfl

theorem Journal.committed_holdsSlot (j : Journal) (h : InHand) (slot : Nat) : (j.committed h).holdsSlot slot = ({ j with
    oldest := some (j.oldest.getD { serial := h.serial, slot := j.cursor }), held := j.held + 1 } : Journal).holdsSlot slot :=
  Journal.holdsSlot_congr (j' := j.committed h) (j := { j with
    oldest := some (j.oldest.getD { serial := h.serial, slot := j.cursor }), held := j.held + 1 }) (j.hold_oldest h.serial) rfl rfl slot

/-- A commit that verifies (R100). -/
theorem State.commitCompletes_held (s : State) (slot : Nat) (bytes : List Byte) (h : InHand) (got : ReadBack) (full high : Bool)
    (hs : s.ctl.state = .operating) (hh : s.jrnl.hand = some h) (hb : s.readBack slot got = bytes)
    (hf : full = (decide (s.jrnl.cond = .accepting) && ({ s.jrnl with
      oldest := some (s.jrnl.oldest.getD { serial := h.serial, slot := s.jrnl.cursor })
      held := s.jrnl.held + 1 } : Journal).holdsSlot (nextGood s.jrnl.bad s.jrnl.cursor)))
    (hi : high = (decide (s.jrnl.held + 1 = 7000) && !s.jrnl.highSpent)) :
    (s.verified slot got).CommitHeld h full high (s.commitCompletes slot bytes got) := by
  rw [s.commitCompletes_verified slot bytes got h hs hh, if_pos hb]
  refine (s.verified slot got).commitSucceeds_spec h full high (hf.trans ?_) hi
  rw [← Journal.committed_holdsSlot]; rfl

/-- A commit whose verify differs, with room on the bad-slot list (R100). -/
theorem State.commitCompletes_retry (s : State) (slot : Nat) (bytes : List Byte) (h : InHand) (got : ReadBack)
    (hs : s.ctl.state = .operating) (hh : s.jrnl.hand = some h) (hb : s.readBack slot got ≠ bytes) (hl : s.jrnl.bad.length < 64) :
    ∃ (full : Bool) (t : State),
      State.Queued { s.verified slot got with
        ctl := (s.verified slot got).countMismatch.ctl, jrnl := (s.jrnl.retrying h).tested full } t
        (if full = true then [.full s.jrnl.held] else []) ∧
      t.Started (s.commitCompletes slot bytes got) := by
  rw [s.commitCompletes_verified slot bytes got h hs hh, if_neg hb, State.commitMismatches_retry (s.verified slot got).countMismatch h hl]
  exact ⟨_, _, State.testFull_spec ((s.verified slot got).countMismatch.modJrnl (·.retrying h)) _ rfl, State.storeKick_started _⟩

/-- A commit whose verify differs, with the bad-slot list full (R111). -/
theorem State.commitCompletes_fault (s : State) (slot : Nat) (bytes : List Byte) (h : InHand) (got : ReadBack)
    (hs : s.ctl.state = .operating) (hh : s.jrnl.hand = some h) (hc : s.jrnl.cond ≠ .fault) (hb : s.readBack slot got ≠ bytes)
    (hl : 64 ≤ s.jrnl.bad.length) :
    ∃ (j : Journal) (t : State), j.Faulted .badSlots ∧ j.held = s.jrnl.held ∧
      State.Queued { s.verified slot got with
        ctl := (s.verified slot got).countMismatch.ctl.withdraw fun _ => true, jrnl := j } t [.fault .badSlots] ∧
      t.Started (s.commitCompletes slot bytes got) ∧ (s.commitCompletes slot bytes got).jrnl = j := by
  rw [s.commitCompletes_verified slot bytes got h hs hh, if_neg hb, State.commitMismatches_full (s.verified slot got).countMismatch h hl]
  obtain ⟨j, hj, hheld, -, hq⟩ := State.journalFault_spec (s.verified slot got).countMismatch .badSlots hc
  refine ⟨j, _, hj, hheld, hq, State.storeKick_started _, ?_⟩
  have hjrnl : ((s.verified slot got).countMismatch.journalFault .badSlots).jrnl = j := by rw [hq.kept]
  rw [State.storeKick_undrained _ (by rw [hjrnl, hj.cond]; rfl), hjrnl]

/-- Settles O37: the end of a commit's verify, by the READ and by the room on the bad-slot list. -/
theorem commitCompletionHoldsOrRetries : Obligations.CommitCompletionHoldsOrRetries := by
  refine ⟨fun slot bytes h got s hop hs hc hh => ⟨_, exec_commitWriteCompletion s got slot bytes hop, fun hb => ?_, fun hb => ?_, ?_⟩,
    fun slot bytes h got full high s hop hs _ hh hb hf hi => ⟨_, exec_commitWriteCompletion s got slot bytes hop, ?_⟩⟩
  · have hdone := s.commitCompletes_held slot bytes h got _ _ hs hh hb rfl rfl
    generalize s.commitCompletes slot bytes got = t at hdone
    refine ⟨by rw [hdone.jrnl]; rfl, by rw [hdone.jrnl]; rfl, by rw [hdone.jrnl]; rfl, by rw [hdone.jrnl]; rfl, ?_, fun hl => ?_⟩
    · rw [hdone.jrnl]; exact s.jrnl.hold_oldest h.serial
    · rw [hdone.jrnl]; exact if_pos hl
  · rcases Nat.lt_or_ge s.jrnl.bad.length 64 with hl | hl
    · obtain ⟨full, t, hq, hkick⟩ := s.commitCompletes_retry slot bytes h got hs hh hb hl
      have hhand := hkick.jrnl.hand { h with retry := true } (by rw [hq.kept]; rfl)
      obtain ⟨r, hhand⟩ := hhand
      refine ⟨?_, by rw [hkick.kept, hkick.jrnl.kept, hq.kept]; rfl, fun _ => ⟨?_, ?_, by rw [hhand]; rfl, ?_⟩, fun hfull => by omega⟩
      · rw [hkick.ctl.kept, hq.kept]; rfl
      · rw [hkick.jrnl.kept, hq.kept]; rfl
      · rw [hkick.jrnl.kept, hq.kept]; rfl
      · rw [hkick.jrnl.kept, hq.kept]; rfl
    · obtain ⟨j, t, hj, hheld, hq, hkick, hjrnl⟩ := s.commitCompletes_fault slot bytes h got hs hh hc hb hl
      refine ⟨?_, by rw [hjrnl, hheld], fun hroom => by omega, fun _ => ?_⟩
      · rw [hkick.ctl.kept, hq.kept]; rfl
      · rw [hjrnl]; exact ⟨hj.cond, hj.faultCause, hj.hand, hj.staging⟩
  · rintro rfl
    by_cases hb : s.readBack slot none = bytes
    · have hdone := s.commitCompletes_held slot bytes h none _ _ hs hh hb rfl rfl
      rw [hdone.kept]; rfl
    · rcases Nat.lt_or_ge s.jrnl.bad.length 64 with hl | hl
      · obtain ⟨full, t, hq, hkick⟩ := s.commitCompletes_retry slot bytes h none hs hh hb hl
        rw [hkick.kept, hq.kept]; rfl
      · obtain ⟨j, t, -, -, hq, hkick, -⟩ := s.commitCompletes_fault slot bytes h none hs hh hc hb hl
        rw [hkick.kept, hq.kept]; rfl
  · have hdone := s.commitCompletes_held slot bytes h got full high hs hh hb hf hi
    generalize s.commitCompletes slot bytes got = t at hdone
    refine ⟨by rw [hdone.jrnl]; rfl, by rw [hdone.jrnl]; rfl, by rw [hdone.jrnl]; rfl, fun hr => ?_, fun hr hne hroom => ?_⟩
    · refine (hdone.queued.serial hr).trans ?_
      cases full <;> cases high <;> simp [commitNotices, State.verified, add_assoc]
    · refine (hdone.queued.notices hr hne ?_).trans ?_
      · have hlen : (commitNotices full high (s.jrnl.held + 1)).length ≤ 2 := by cases full <;> cases high <;> simp [commitNotices]
        exact (Nat.add_le_add_left hlen _).trans (Nat.succ_le_of_lt (Nat.succ_lt_succ hroom))
      · cases full <;> cases high <;> simp [commitNotices, State.verified]

/-! ### Writes of one slot (7.1) -/

theorem exec_markWriteCompletion (s : State) (slot : Nat) (h : s.ctl.op = some (.mark slot)) :
    exec .markWriteCompletion s = .next (s.markCompletes slot) := by
  show execMarkWriteCompletion s = _
  unfold execMarkWriteCompletion
  rw [h]

/-- A mark write's end (R118): the mark alone is rewritten, and the arbiter may start the next operation. -/
theorem State.markCompletes_started (s : State) (slot : Nat) (hs : s.ctl.state = .operating) :
    State.Started { s with
      nv := Memory.write storeBlank s.nv (64 * slot) markReleased
      jrnl := { s.jrnl with pendingMarks := s.jrnl.pendingMarks.filter (· != slot) }
      ctl := { s.ctl with op := none, timer := none, state := .idle } } (s.markCompletes slot) := by
  unfold State.markCompletes
  rw [State.endOp_operating (s.putMark slot markReleased) hs]
  exact State.storeKick_started _

theorem State.startVerify_eq (s : State) (slot : Nat) (bytes : List Byte) (op : StoreOp)
    (hc : s.ctl.ctr.started op = { s.ctl.ctr with reads := bump s.ctl.ctr.reads }) : s.startVerify slot bytes op = { s with
      ctl := { s.ctl with op := some op, timer := some (s.now + 50), ctr := { s.ctl.ctr with reads := bump s.ctl.ctr.reads } }
      nv := (s.putSlot slot bytes).nv } := by
  rw [← hc]; rfl

theorem State.putSlot_storeSlot (s : State) (slot : Nat) (bytes : List Byte) (h : s.storeOk = true) (hl : bytes.length = 64) :
    (s.putSlot slot bytes).storeSlot slot = bytes := by
  show Memory.readList storeBlank (Memory.writeList storeBlank s.nv (64 * slot) (bytes.take 64)) (64 * slot) 64 = bytes
  rw [List.take_of_length_le (by omega)]
  have hread := Memory.readList_writeList storeBlank bytes s.nv (64 * slot) h
  rw [hl] at hread
  exact hread

theorem State.putSlot_other (s : State) (slot : Nat) (bytes : List Byte) (a : Nat) (h : a < 64 * slot ∨ 64 * slot + 64 ≤ a) :
    Memory.read storeBlank (s.putSlot slot bytes).nv a = Memory.read storeBlank s.nv a := by
  refine Memory.read_writeList_other storeBlank (bytes.take 64) s.nv (64 * slot) a (h.imp_right fun h => ?_)
  have := List.length_take_le 64 bytes
  omega

/-- Settles O38: a mark write rewrites one byte and a SLOT-WRITE the 64 of its slot. -/
theorem storeWritesTouchOneSlot : Obligations.StoreWritesTouchOneSlot := by
  refine ⟨fun slot s hok hop hs => ?_, fun slot bytes s w v hok hl hwv hop => ?_⟩
  · have hk := s.markCompletes_started slot hs
    refine ⟨_, exec_markWriteCompletion s slot hop, ?_, fun a ha => ?_, fun hm => ?_, ?_, ?_, ?_⟩
    · rw [hk.kept]; exact Memory.read_write_self storeBlank s.nv (64 * slot) markReleased hok
    · rw [hk.kept]; exact Memory.read_write_other storeBlank s.nv (64 * slot) a markReleased ha.symm
    · have := (List.mem_filter.mp (hk.jrnl.marks slot hm)).2
      simp at this
    · rw [hk.jrnl.kept]
    · rw [hk.jrnl.kept]
    · rw [hk.kept]
  · have hexec : exec .storeStepDone s = .next (s.startVerify slot bytes v) := by
      show execStoreStepDone s = _
      unfold execStoreStepDone
      rw [hop]
      rcases hwv with ⟨rfl, rfl⟩ | ⟨rfl, rfl⟩ <;> rfl
    have heq := s.startVerify_eq slot bytes v (by rcases hwv with ⟨-, rfl⟩ | ⟨-, rfl⟩ <;> rfl)
    refine ⟨_, hexec, ?_, fun a ha => ?_, ?_⟩
    · exact s.putSlot_storeSlot slot bytes hok hl
    · exact s.putSlot_other slot bytes a ha
    · rw [heq]

end Sys2Proof.Machine
end

section
/-! PROOFS. The end of a read-ahead READ and the revert timer (6.6, 7.3). -/

namespace Sys2Proof.Machine

theorem exec_readAheadCompletion (s : State) (got : ReadBack) (serial slot : Nat) (live : Bool)
    (h : s.ctl.op = some (.read serial slot live)) :
    exec (.readAheadCompletion got) s = .next (s.readCompletes serial slot live got) := by
  show execReadAheadCompletion got s = _
  unfold execReadAheadCompletion
  rw [h]

theorem State.readCompletes_verified (s : State) (serial slot : Nat) (live : Bool) (got : ReadBack) (hs : s.ctl.state = .operating) :
    s.readCompletes serial slot live got =
      (if live then (s.verified slot got).readDone serial slot (s.readBack slot got) else s.verified slot got).storeKick := by
  unfold State.readCompletes
  dsimp only
  rw [s.readEnded slot got hs]
  rfl

/-- With nothing read at the head of the read-ahead buffer, nothing is offered. -/
theorem State.offerTollsUpTo_unread (s : State) (n : Nat) (h : ∀ x ∈ s.jrnl.readAhead, x.phase = .waiting ∨ x.phase = .started) :
    s.offerTollsUpTo n = s := by
  cases n with
  | zero => rfl
  | succ n =>
    unfold State.offerTollsUpTo
    split
    · rfl
    · rename_i x rest hra
      have hx := h x (by rw [hra]; exact List.mem_cons_self)
      split
      · rename_i hphase _
        rw [hphase] at hx
        exact absurd hx (by simp)
      · rfl

/-- The only record read ahead has been read and TQ takes its block: it joins, and READs are requested (R105). -/
theorem State.offerTolls_one (s : State) (serial : Nat) (r : TollRecord) (lane : Fin 64)
    (hra : s.jrnl.readAhead = [{ serial := serial, phase := .read r }]) (hl : s.laneFor .toll = some lane) (ht : s.takes .tq = true) :
    s.offerTolls = ((s.join .tq (tollBlock lane s.lanes[lane].peer serial r)).modJrnl
      fun j => j.sentOne serial [] s.now).requestReads := by
  unfold State.offerTolls
  rw [State.offerTollsUpTo, hra]
  dsimp only
  rw [hl]
  dsimp only
  rw [if_pos ht]
  refine State.offerTollsUpTo_unread _ 3 fun x hx => ?_
  obtain ⟨ks, hreq, -⟩ := State.requestReadsUpTo_spec 4
    ((s.join .tq (tollBlock lane s.lanes[lane].peer serial r)).modJrnl fun j => j.sentOne serial [] s.now)
  exact (hreq.unread x hx).resolve_left List.not_mem_nil

/-- The journal whose record failed its READ (R105). -/
def Journal.rereading (j : Journal) (serial : Nat) : Journal :=
  { j.setPhase serial .waiting with ctr := { j.ctr with readRetry := bump j.ctr.readRetry } }

theorem State.readDone_fails (s : State) (serial slot : Nat) (l : List Byte) (h : s.jrnl.readPasses serial slot l = false) :
    s.readDone serial slot l =
      ((s.modJrnl (·.rereading serial)).modCtl fun c => { c with requests := c.requests ++ [serial] }).storeKick :=
  if_neg (by rw [h]; exact Bool.false_ne_true)

theorem State.readDone_passes (s : State) (serial slot : Nat) (l : List Byte) (h : s.jrnl.readPasses serial slot l = true) :
    s.readDone serial slot l = (s.modJrnl (·.setPhase serial (.read (TollRecord.ofSlot l)))).offerTolls := if_pos h

/-- An IDLE controller with a READ requested, of a record held, starts it (R117 step 1). -/
theorem State.storeKick_startsRead (s : State) (q sl : Nat) (rest : List Nat) (hi : s.ctl.state = .idle)
    (hd : s.jrnl.cond.drains = true) (hq : s.ctl.requests = q :: rest) (hsl : s.jrnl.slotOf q = some sl) :
    s.storeKick = ((s.modCtl fun c => { c with requests := rest }).modJrnl (·.setPhase q .started)).startOp (.read q sl true) := by
  unfold State.storeKick
  rw [if_neg (by rw [hi]; decide), hd, hq]
  unfold State.startRead
  dsimp only
  rw [show Journal.slotOf (s.modCtl _).jrnl q = some sl from hsl]
  rfl

theorem State.storeKick_storeKick (s : State) (q sl : Nat) (rest : List Nat) (hi : s.ctl.state = .idle)
    (hd : s.jrnl.cond.drains = true) (hq : s.ctl.requests = q :: rest) (hsl : s.jrnl.slotOf q = some sl) :
    s.storeKick.storeKick = s.storeKick := by
  rw [s.storeKick_startsRead q sl rest hi hd hq hsl]
  exact State.storeKick_busy _ CtlState.noConfusion

theorem Journal.setPhase_started_rereading (j : Journal) (serial q : Nat) :
    ((j.rereading serial).setPhase q .started).readAhead = j.readAhead.map fun x =>
      if x.serial = q then { x with phase := .started } else if x.serial = serial then { x with phase := .waiting } else x := by
  show List.map _ (List.map _ _) = _
  rw [List.map_map]
  refine List.map_congr_left fun x _ => ?_
  dsimp only [Function.comp]
  by_cases hs : x.serial = serial
  · simp only [if_pos hs]
  · simp only [if_neg hs]

theorem Journal.readPasses_iff (j : Journal) (serial slot : Nat) (l : List Byte) : j.readPasses serial slot l = true ↔
    l.length = 64 ∧ crc16 (l.drop 3) = word16At l 1 ∧ (word32At l 3).toNat = serial ∧
      ((byteAt l 0 ≠ 255 ∧ byteAt l 0 ≠ 0) ∨ slot ∈ j.pendingMarks) := by
  simp only [Journal.readPasses, slotValid, Journal.markReads, markReadsHeld, slotSerial, Bool.and_eq_true, Bool.or_eq_true, beq_iff_eq,
    bne_iff_ne, List.contains_iff_mem, markEmpty, markReleased]
  constructor
  · rintro ⟨⟨⟨hl, hc⟩, hm⟩, hk⟩; exact ⟨hl, hc, hk, hm⟩
  · rintro ⟨hl, hc, hk, hm⟩; exact ⟨⟨⟨hl, hc⟩, hm⟩, hk⟩

theorem Journal.onWay_true (j : Journal) : j.OnWay fun _ => True := ⟨fun _ _ => trivial, fun _ _ => trivial, fun _ _ => trivial⟩

/-- However a read-ahead READ ends, the held records stay, and nothing but the journal, the controller, TQ and the slot read differs. -/
theorem State.readCompletes_drains (s : State) (serial slot : Nat) (live : Bool) (got : ReadBack) (hs : s.ctl.state = .operating) :
    (s.readCompletes serial slot live got).jrnl.held = s.jrnl.held ∧
    (s.verified slot got).DrainOnly (s.readCompletes serial slot live got) := by
  rw [s.readCompletes_verified serial slot live got hs]
  generalize hv : s.verified slot got = v
  have hheld : v.jrnl.held = s.jrnl.held := by rw [← hv]; rfl
  rw [← hheld]
  have hkick : ∀ u : State, u.jrnl.held = v.jrnl.held → v.DrainOnly u →
      u.storeKick.jrnl.held = v.jrnl.held ∧ v.DrainOnly u.storeKick := fun u hu hk => by
    have hd := u.storeKick_drains u.jrnl.onWay_true
    exact ⟨(congrArg (fun x => x.2.1) hd.custody).trans hu, hk.trans hd.kept⟩
  cases live with
  | false => exact hkick v rfl rfl
  | true =>
    refine (fun h : v.DrainOnly _ ∧ _ => hkick _ h.2 h.1) (?_ : v.DrainOnly (v.readDone serial slot (s.readBack slot got)) ∧
      (v.readDone serial slot (s.readBack slot got)).jrnl.held = v.jrnl.held)
    cases hp : v.jrnl.readPasses serial slot (s.readBack slot got) with
    | true =>
      rw [State.readDone_passes _ _ _ _ hp]
      have hread : v.DrainOnly (v.modJrnl (·.setPhase serial (.read (TollRecord.ofSlot (s.readBack slot got))))) := rfl
      have hd := State.offerTollsUpTo_drains 4 (v.modJrnl (·.setPhase serial (.read (TollRecord.ofSlot (s.readBack slot got)))))
        (Journal.onWay_true _)
      exact ⟨hread.trans hd.kept, congrArg (fun x => x.2.1) hd.custody⟩
    | false =>
      rw [State.readDone_fails _ _ _ _ hp]
      exact (hkick ((v.modJrnl (·.rereading serial)).modCtl fun c => { c with requests := c.requests ++ [serial] }) rfl rfl).symm

/-- A record wanted, alone in the read-ahead buffer, that passes its test and whose block TQ takes (R105). -/
theorem State.readCompletes_sends (s : State) (serial slot : Nat) (got : ReadBack) (lane : Fin 64) (hs : s.ctl.state = .operating)
    (hp : s.jrnl.readPasses serial slot (s.readBack slot got) = true)
    (hra : s.jrnl.readAhead = [{ serial := serial, phase := .started }]) (hl : s.laneFor .toll = some lane) (ht : s.takes .tq = true) :
    ∃ t : State, ((s.verified slot got).join .tq
        (tollBlock lane s.lanes[lane].peer serial (TollRecord.ofSlot (s.readBack slot got)))).modJrnl
          (·.sentOne serial [] s.now) = t ∧
      (s.readCompletes serial slot true got).ring = t.ring ∧ (s.readCompletes serial slot true got).jrnl.ctr = t.jrnl.ctr ∧
      (s.readCompletes serial slot true got).jrnl.inTransit = t.jrnl.inTransit ∧
      (s.readCompletes serial slot true got).jrnl.credit = t.jrnl.credit := by
  rw [s.readCompletes_verified serial slot true got hs, if_pos rfl, State.readDone_passes (s.verified slot got) _ _ _ hp]
  generalize hu : (s.verified slot got).modJrnl (·.setPhase serial (.read (TollRecord.ofSlot (s.readBack slot got)))) = u
  have hone := u.offerTolls_one serial (TollRecord.ofSlot (s.readBack slot got)) lane
    (by rw [← hu]
        show (s.jrnl.readAhead.map _) = _
        rw [hra]
        show [if serial = serial then _ else _] = _
        rw [if_pos rfl]) (by rw [← hu]; exact hl) (by rw [← hu]; exact ht)
  have hlanes : u.lanes = s.lanes := by rw [← hu]; rfl
  rw [hlanes] at hone
  rw [hone]
  obtain ⟨ks, hreq, -⟩ := State.requestReadsUpTo_spec 4
    ((u.join .tq (tollBlock lane s.lanes[lane].peer serial (TollRecord.ofSlot (s.readBack slot got)))).modJrnl (·.sentOne serial [] u.now))
  have hkick := State.storeKick_started ((u.join .tq
    (tollBlock lane s.lanes[lane].peer serial (TollRecord.ofSlot (s.readBack slot got)))).modJrnl (·.sentOne serial [] u.now)).requestReads
  refine ⟨_, rfl, ?_, ?_, ?_, ?_⟩
  · rw [hkick.kept, State.requestReads, hreq.kept, ← hu]; rfl
  · rw [hkick.jrnl.kept, State.requestReads, hreq.kept, ← hu]; rfl
  · rw [hkick.jrnl.kept, State.requestReads, hreq.kept, ← hu]; rfl
  · rw [hkick.jrnl.kept, State.requestReads, hreq.kept, ← hu]; rfl

/-- Settles O39: one case for the READ of a record wanted that passes, one that fails, one no longer wanted, and the revert timer. -/
theorem drainSendsAndReverts : Obligations.DrainSendsAndReverts := by
  refine ⟨fun serial slot live got l s hop hs hl => ⟨_, exec_readAheadCompletion s got serial slot live hop, ?_⟩, fun dl s hdl => ?_,
    fun serial slot l s => s.jrnl.readPasses_iff serial slot l⟩
  · obtain ⟨hheld, honly⟩ := s.readCompletes_drains serial slot live got hs
    refine ⟨hheld, ?_, ?_, ?_, ?_⟩
    · rintro rfl; rw [honly]; rfl
    · rintro lane rfl hp hra hlane ht
      rw [hl] at hp ⊢
      obtain ⟨t, rfl, hring, hctr, hin, hcredit⟩ := s.readCompletes_sends serial slot got lane hs hp hra hlane ht
      exact ⟨hring, hin, hcredit, congrArg (·.sent) hctr⟩
    · rintro rfl hp
      rw [s.readCompletes_verified serial slot true got hs, if_pos rfl, ← hl, State.readDone_fails (s.verified slot got) _ _ _ hp]
      generalize hu : ((s.verified slot got).modJrnl (·.rereading serial)).modCtl (fun c => { c with requests := c.requests ++ [serial] }) = u
      have hkick := u.storeKick_started.trans u.storeKick.storeKick_started
      have hjrnl : u.jrnl = s.jrnl.rereading serial := by rw [← hu]; rfl
      refine ⟨?_, ?_, ?_, ?_, fun q sl hd hq hsl => ?_⟩
      · rw [hkick.jrnl.kept, hjrnl]; rfl
      · rw [hkick.kept, ← hu]; rfl
      · rw [hkick.jrnl.kept, hjrnl]; rfl
      · rw [hkick.jrnl.kept, hjrnl]; rfl
      · have hreq : u.ctl.requests = q :: (s.ctl.requests ++ [serial]).drop 1 := by
          rw [← hu]
          show s.ctl.requests ++ [serial] = _
          cases he : s.ctl.requests ++ [serial] with
          | nil => rw [he] at hq; cases hq
          | cons x l => rw [he] at hq; cases hq; rfl
        have hi : u.ctl.state = .idle := by rw [← hu]; rfl
        have hd' : u.jrnl.cond.drains = true := by rw [hjrnl]; exact hd
        have hsl' : u.jrnl.slotOf q = some sl := by rw [hjrnl]; exact hsl
        rw [u.storeKick_storeKick q sl _ hi hd' hreq hsl', u.storeKick_startsRead q sl _ hi hd' hreq hsl']
        refine ⟨rfl, rfl, ?_⟩
        show (u.jrnl.setPhase q .started).readAhead = _
        rw [hjrnl]
        exact s.jrnl.setPhase_started_rereading serial q
    · rintro rfl
      rw [s.readCompletes_verified serial slot false got hs, if_neg Bool.false_ne_true]
      have hkick := (s.verified slot got).storeKick_started
      exact ⟨by rw [hkick.jrnl.kept]; rfl, by rw [hkick.kept]; rfl, by rw [hkick.jrnl.kept]; rfl⟩
  · refine ⟨(s.reach dl).revert, congrArg Host.Outcome.next (s.onTimer_running hdl _), ?_⟩
    obtain ⟨ks, hreq, -⟩ := State.requestReadsUpTo_spec 4 (((s.reach dl).modCtl (·.withdraw fun _ => true)).modJrnl (·.revert))
    unfold State.revert State.requestReads
    refine ⟨?_, ?_, ?_, ?_, ?_, ?_, ?_, ?_⟩
    all_goals rw [hreq.kept]; rfl

end Sys2Proof.Machine
end

section
/-! PROOFS. What the choice of a drop changes (3.4): the exchange it begins and what its payload takes from the engines. -/

namespace Sys2Proof.Machine

/-- What the giving of payloads changes: play-out and its counters, the answers a TOLL poll carries, a sign's chunk and intensity. -/
structure State.Paid (s t : State) : Prop where
  kept : t = { s with
    poll := { s.poll with drops := t.poll.drops }
    calls := { s.calls with records := t.calls.records, totals := t.calls.totals }
    jrnl := { s.jrnl with answers := t.jrnl.answers }
    sign := { s.sign with signs := t.sign.signs } }
  records : ∀ r : Fin 16, t.calls.records[r] = { s.calls.records[r] with voice := t.calls.records[r].voice }
  signs : ∀ k : Fin 12, t.sign.signs[k] =
    { s.sign.signs[k] with chunk := t.sign.signs[k].chunk, lastIntensity := t.sign.signs[k].lastIntensity }

theorem State.Paid.refl (s : State) : s.Paid s := ⟨rfl, fun _ => rfl, fun _ => rfl⟩

theorem State.Paid.trans {a b c : State} (h : a.Paid b) (k : b.Paid c) : a.Paid c where
  kept := by rw [k.kept, h.kept]
  records r := by rw [k.records r, h.records r]
  signs i := by rw [k.signs i, h.signs i]

/-- What a choice changes: payloads are given, and drops of the set D whose line was IDLE begin an exchange. -/
structure State.Begun (D : Fin 4 → Prop) (s t : State) : Prop where
  paid : s.Paid t
  others : ∀ e : Fin 4, ¬ D e → t.poll.drops[e] = s.poll.drops[e]
  busy : ∀ e : Fin 4, s.poll.drops[e].line ≠ .idle → t.poll.drops[e] = s.poll.drops[e]

theorem State.Begun.refl (D : Fin 4 → Prop) (s : State) : State.Begun D s s := ⟨.refl s, fun _ _ => rfl, fun _ _ => rfl⟩

theorem State.Begun.trans {D : Fin 4 → Prop} {a b c : State} (h : State.Begun D a b) (k : State.Begun D b c) : State.Begun D a c where
  paid := h.paid.trans k.paid
  others e he := (k.others e he).trans (h.others e he)
  busy e he := (k.busy e (by rw [h.busy e he]; exact he)).trans (h.busy e he)

theorem State.Begun.mono {D E : Fin 4 → Prop} {s t : State} (h : State.Begun D s t) (hD : ∀ e, D e → E e) : State.Begun E s t :=
  ⟨h.paid, fun e he => h.others e fun hd => he (hD e hd), h.busy⟩

/-! ### Payloads (R55) -/

theorem updAt_get_eq {α β : Type} {n : Nat} (v : Vector α n) (i j : Fin n) (f : α → α) (g : α → β) (h : ∀ x, g (f x) = g x) :
    g (updAt v i f)[j] = g v[j] := by
  rw [updAt_get]; split
  · exact h _
  · rfl

theorem State.modRecord_get (s : State) (r q : Fin 16) (f : CallRecord → CallRecord) :
    (s.modRecord r f).calls.records[q] = if r = q then f s.calls.records[q] else s.calls.records[q] := updAt_get s.calls.records r q f

theorem State.modSignRec_get (s : State) (k q : Fin 12) (f : Sign → Sign) :
    (s.modSignRec k f).sign.signs[q] = if k = q then f s.sign.signs[q] else s.sign.signs[q] := updAt_get s.sign.signs k q f

theorem State.modDrop_get (s : State) (d e : Fin 4) (f : Drop → Drop) :
    (s.modDrop d f).poll.drops[e] = if d = e then f s.poll.drops[e] else s.poll.drops[e] := updAt_get s.poll.drops d e f

theorem State.modStation_get (s : State) (i j : Fin 32) (f : Station → Station) :
    (s.modStation i f).poll.stations[j] = if i = j then f s.poll.stations[j] else s.poll.stations[j] := updAt_get s.poll.stations i j f

theorem State.modRecord_paid (s : State) (r : Fin 16) (f : CallRecord → CallRecord) (h : ∀ x, f x = { x with voice := (f x).voice }) :
    s.Paid (s.modRecord r f) := by
  refine ⟨rfl, fun q => ?_, fun _ => rfl⟩
  rw [State.modRecord_get]
  split
  · exact h _
  · rfl

theorem State.modSignRec_paid (s : State) (k : Fin 12) (f : Sign → Sign)
    (h : ∀ x, f x = { x with chunk := (f x).chunk, lastIntensity := (f x).lastIntensity }) : s.Paid (s.modSignRec k f) := by
  refine ⟨rfl, fun _ => rfl, fun q => ?_⟩
  rw [State.modSignRec_get]
  split
  · exact h _
  · rfl

theorem State.modVoice_paid (s : State) (r : Fin 16) (f : VoiceFields → VoiceFields) : s.Paid (s.modVoice r f) :=
  s.modRecord_paid r _ fun _ => rfl

theorem State.countVoice_paid (s : State) (r : Fin 16) (f : VoiceCounters → VoiceCounters) : s.Paid (s.countVoice r f) :=
  (s.modRecord_paid r (fun x => { x with voice := { x.voice with ctr := f x.voice.ctr } }) fun _ => rfl).trans
    ⟨rfl, fun _ => rfl, fun _ => rfl⟩

theorem State.playStep_paid (s : State) (r : Fin 16) : s.Paid (s.playStep r).2 := by
  unfold State.playStep
  dsimp only
  split
  · split
    · exact .refl s
    · rename_i next _
      have hplay := s.modVoice_paid r fun _ => (s.calls.records[r].voice.playOut next).2
      split
      · exact hplay
      · exact hplay.trans (State.countVoice_paid _ r fun c => { c with repeats := bump c.repeats })
      · exact hplay.trans (State.countVoice_paid _ r fun c => { c with underruns := bump c.underruns })
  · exact .refl s

theorem State.signPayload_paid (s : State) (k : Fin 12) : s.Paid (s.signPayload k).2 := s.modSignRec_paid k _ fun _ => rfl

theorem State.stationPayload_paid (s : State) (slot : Fin 32) : s.Paid (s.stationPayload slot).2 := by
  unfold State.stationPayload
  dsimp only
  split
  · exact .refl s
  · exact ⟨rfl, fun _ => rfl, fun _ => rfl⟩
  · split
    · exact s.signPayload_paid _
    · exact .refl s
  · exact .refl s

theorem State.voicePayload_paid (s : State) (slot : Fin 32) : s.Paid (s.voicePayload slot).2 := by
  unfold State.voicePayload
  split
  · exact s.playStep_paid _
  · exact .refl s

/-- A payload given leaves every drop as it is. -/
theorem State.stationPayload_drops (s : State) (slot : Fin 32) : (s.stationPayload slot).2.poll = s.poll := by
  unfold State.stationPayload
  dsimp only
  split
  · rfl
  · rfl
  · split <;> rfl
  · rfl

theorem State.voicePayload_drops (s : State) (slot : Fin 32) : (s.voicePayload slot).2.poll = s.poll := by
  unfold State.voicePayload
  split
  · unfold State.playStep
    dsimp only
    split
    · split
      · rfl
      · split <;> rfl
    · rfl
  · rfl

/-! ### The choice (R49) -/

theorem State.modDrop_begun (s : State) (d : Fin 4) (f : Drop → Drop) (h : s.poll.drops[d].line = .idle) :
    State.Begun (· = d) s (s.modDrop d f) := by
  refine ⟨⟨rfl, fun _ => rfl, fun _ => rfl⟩, fun e he => updAt_get_other _ _ _ _ (Ne.symm he), fun e he => updAt_get_other _ _ _ _ ?_⟩
  rintro rfl
  exact he h

theorem State.Paid.begun {s t : State} (h : s.Paid t) (hp : t.poll = s.poll) (D : Fin 4 → Prop) : State.Begun D s t :=
  ⟨h, fun e _ => by rw [hp], fun e _ => by rw [hp]⟩

theorem State.chooseFrom_begun (s : State) (d : Fin 4) (voices polls : List (Fin 32 × Nat)) :
    State.Begun (· = d) s (s.chooseFrom d voices polls) := by
  unfold State.chooseFrom
  split
  · exact .refl _ s
  · rename_i hidle
    have hline : s.poll.drops[d].line = .idle := by
      rw [Bool.or_eq_true, not_or] at hidle
      simpa using hidle.2
    split
    · exact (s.modDrop_begun d (fun l => { l with broadcast := false }) hline).trans
        (State.modDrop_begun _ d _ (by rw [State.modDrop_get, if_pos rfl]; exact hline))
    · split
      · rename_i x _
        exact ((s.voicePayload_paid x.1).begun (s.voicePayload_drops x.1) _).trans
          (State.modDrop_begun _ d _ (by rw [s.voicePayload_drops]; exact hline))
      · split
        · rename_i x _
          exact ((s.stationPayload_paid x.1).begun (s.stationPayload_drops x.1) _).trans
            (State.modDrop_begun _ d _ (by rw [s.stationPayload_drops]; exact hline))
        · exact .refl _ s

theorem State.dropChoose_begun (s : State) (d : Fin 4) : State.Begun (· = d) s (s.dropChoose d) := s.chooseFrom_begun d _ _

theorem State.endChoose_begun (s : State) (d : Fin 4) : State.Begun (· = d) s (s.endChoose d) := s.chooseFrom_begun d _ _

theorem State.forEach_begun {α : Type} (l : List α) (f : α → State → State) (h : ∀ a s, State.Begun (fun _ => True) s (f a s)) :
    ∀ s : State, State.Begun (fun _ => True) s (s.forEach l f) := by
  induction l with
  | nil => exact fun s => .refl _ s
  | cons x l ih => exact fun s => (h x s).trans (ih (f x s))

theorem State.dropsChoose_begun (s : State) : State.Begun (fun _ => True) s s.dropsChoose :=
  State.forEach_begun _ _ (fun d s => (s.dropChoose_begun d).mono fun _ _ => trivial) s

end Sys2Proof.Machine
end

section
/-! PROOFS. Saves and step timeouts (7.2, 7.4, 7.6, 11.5). -/

namespace Sys2Proof.Machine

/-! ### The agent's run with an empty intake -/

theorem State.kept_of_work {s t : State} (h : t.work = s.work) : t = { s with
    ring := t.ring, free := t.free, agent := { s.agent with outbox := t.agent.outbox, notices := t.agent.notices } } :=
  State.ext_of_work h rfl rfl rfl rfl

theorem State.agentRun_kept (s : State) (h : s.agent.intake = []) : s.agentRun = { s with
    ring := s.agentRun.ring, free := s.agentRun.free
    agent := { s.agent with outbox := s.agentRun.agent.outbox, notices := s.agentRun.agent.notices } } :=
  State.kept_of_work (s.agentTurns_work 24 h).1

/-- The reply a save awaited is given, and the agent runs; with no command waiting nothing else moves (R177). -/
theorem State.saveReplies_kept (s : State) (st : Status) (content : List Byte) (h : s.agent.intake = []) :
    s.saveReplies st content = { s with
      ring := (s.saveReplies st content).ring, free := (s.saveReplies st content).free, agent := (s.saveReplies st content).agent } ∧
    (s.saveReplies st content).agent.saveReply = none := by
  unfold State.saveReplies
  split
  · rename_i hn
    exact ⟨rfl, hn⟩
  · rename_i r _
    have hk := State.agentRun_kept ((s.reply { src := r.src, tag := r.tag, code := cmdSaveConfig, body := [] }
      (some (st, content))).modAgent fun a => { a with saveReply := none }) h
    rw [hk]
    exact ⟨rfl, rfl⟩

theorem State.offerNotice_intake (s : State) : s.offerNotice.agent.intake = s.agent.intake := by
  unfold State.offerNotice State.passNotice
  split
  · split <;> rfl
  · rfl

/-- A notice leaves the commands that wait as they are. -/
theorem State.notify_intake (s : State) (b : NoticeBody) : (s.notify b).agent.intake = s.agent.intake := by
  unfold State.notify
  split
  · rfl
  · dsimp only
    split
    · split
      · exact State.offerNotice_intake _
      · rfl
    · rfl

/-- The controller once a save in flight has failed (R124). -/
def StoreController.saveFailed (c : StoreController) : StoreController :=
  if c.save.isSome then { c with save := none, ctr := { c.ctr with savesFailed := bump c.ctr.savesFailed } } else c

theorem StoreController.saveFailed_save (c : StoreController) : c.saveFailed.save = none := by
  unfold StoreController.saveFailed
  split
  · rfl
  · exact Option.not_isSome_iff_eq_none.mp ‹_›

theorem StoreController.saveFailed_kept (c : StoreController) :
    c.saveFailed = { c with save := none, ctr := { c.ctr with savesFailed := c.saveFailed.ctr.savesFailed } } := by
  unfold StoreController.saveFailed
  split
  · rfl
  · rw [← Option.not_isSome_iff_eq_none.mp ‹_›]

/-- The end of a save, by a notice and its reply (R123, R124). -/
theorem State.saveEnds_kept (s : State) (b : NoticeBody) (st : Status) (content : List Byte) (h : s.agent.intake = []) :
    ∃ (r : RingTransit) (a : Agent) (f : Nat), (s.notify b).saveReplies st content = { s with ring := r, agent := a, free := f } ∧
      a.saveReply = none := by
  obtain ⟨hk, hn⟩ := (s.notify b).saveReplies_kept st content ((s.notify_intake b).trans h)
  exact ⟨_, _, _, by rw [hk, s.notify_kept b], hn⟩

theorem State.failSave_kept (s : State) (cause : StoreCause) (h : s.agent.intake = []) : ∃ (r : RingTransit) (a : Agent) (f : Nat),
    s.failSave cause = { s with ring := r, agent := a, free := f, ctl := s.ctl.saveFailed } := by
  unfold State.failSave StoreController.saveFailed
  split
  · obtain ⟨r, a, f, e, -⟩ := State.saveEnds_kept (s.modCtl fun c => { c with save := none, ctr := { c.ctr with
      savesFailed := bump c.ctr.savesFailed } }) (.failed cause) .state [cause.code] h
    exact ⟨r, a, f, e⟩
  · exact ⟨s.ring, s.agent, s.free, rfl⟩

theorem State.failSave_none (s : State) (cause : StoreCause) (h : s.ctl.save = none) : s.failSave cause = s := by
  unfold State.failSave; rw [h]; rfl

/-! ### SAVE-CONFIG (R123, R177) -/

/-- The state in which a save has begun, before the arbiter is told. -/
def State.saving (s : State) (src : NodeId) (tag : Byte) : State := { s with
  ctl := { s.ctl with save := some { next := 1, generation := nextGeneration s.ctl.generation, check := BitVec.allOnes 32 } }
  agent := { s.agent with saveReply := some { src := src, tag := tag } } }

theorem State.beginSave_eq (s : State) (src : NodeId) (tag : Byte) : s.beginSave src tag = (s.saving src tag).storeKick := rfl

theorem State.agentTurns_none (s : State) (n : Nat) (hi : s.agent.intake = []) (ho : s.agent.outbox = []) (hn : s.agent.notices = []) :
    s.agentTurns n = s := by
  cases n with
  | zero => rfl
  | succ n =>
    have ha : s.agentTurn = none := by unfold State.agentTurn; rw [hi, ho]
    have hb : s.noticeTurn = none := by
      unfold State.noticeTurn
      rw [hn, if_neg (by simp)]
    unfold State.agentTurns
    rw [ha, hb]

theorem State.agentReceive_save (s : State) (src : NodeId) (tag : Byte) (h : s.agentIdle = true) (hs : s.ctl.save = none) :
    s.agentReceive { src := src, tag := tag, code := cmdSaveConfig, body := [] } = (s.tookCommand.saving src tag).storeKick := by
  obtain ⟨hr, hi, ho, hn, hready⟩ := s.agentIdle_iff.mp h
  rw [s.agentReceive_idle _ hi ho hn]
  have hcarry : s.tookCommand.carryOut { src := src, tag := tag, code := cmdSaveConfig, body := [] } =
      (none, s.tookCommand.beginSave src tag) := by
    have hready' : s.tookCommand.notReady = false := hready
    unfold State.carryOut
    rw [if_neg (by rw [hready']; simp), if_neg (by decide : ¬ knownCode cmdSaveConfig = false),
      show Command.order? { src := src, tag := tag, code := cmdSaveConfig, body := [] } = some .saveConfig from rfl]
    dsimp only
    rw [if_neg (by decide), if_neg (by rw [show s.tookCommand.ctl.save = none from hs]; simp)]
    rfl
  rw [hcarry, State.beginSave_eq]
  have hk := (s.tookCommand.saving src tag).storeKick_started
  have hag : (s.tookCommand.saving src tag).storeKick.agent = (s.tookCommand.saving src tag).agent := by rw [hk.kept]
  exact State.agentTurns_none (s.tookCommand.saving src tag).storeKick 23 ((congrArg Agent.intake hag).trans rfl)
    ((congrArg Agent.outbox hag).trans ho) ((congrArg Agent.notices hag).trans hn)

/-- An IDLE controller with no work but a save starts it (R117 step 5). -/
theorem State.storeKick_saves (s : State) (sv : Save) (hi : s.ctl.state = .idle) (hr : s.ctl.requests = [])
    (hm : s.jrnl.pendingMarks = []) (hc : s.jrnl.mayCommit = false) (hs : s.ctl.save = some sv) : s.storeKick = s.startSave sv := by
  unfold State.storeKick
  rw [if_neg (by rw [hi]; decide), hr, hm, hc, hs]
  cases s.jrnl.cond.drains <;> rfl

/-! ### What a write cut short leaves (R114) -/

theorem State.freeBytes_length (s : State) (n : Nat) : (s.freeBytes n).length = n := by simp [State.freeBytes]

theorem invalidated_length (l : List Byte) : (invalidated l).length = l.length := by
  unfold invalidated
  split
  · exact List.length_set
  · rfl

theorem byteAt_set_self (l : List Byte) (i : Nat) (b : Byte) (h : i < l.length) : byteAt (l.set i b) i = b := by
  simp [byteAt, h]

theorem byteAt_set_other (l : List Byte) (i j : Nat) (b : Byte) (h : i ≠ j) : byteAt (l.set i b) j = byteAt l j := by
  simp [byteAt, h]

theorem slotValid_invalidated (l : List Byte) : slotValid (invalidated l) = false := by
  unfold invalidated
  split
  · rename_i h
    obtain ⟨hl, hc⟩ := Bool.and_eq_true_iff.mp h
    have hlen : 1 < l.length := by rw [beq_iff_eq.mp hl]; decide
    have hdrop : (l.set 1 (byteAt l 1 ^^^ 1)).drop 3 = l.drop 3 := by rw [List.drop_set]; rfl
    refine Bool.eq_false_iff.mpr fun hbad => ?_
    have hword := (beq_iff_eq.mp (Bool.and_eq_true_iff.mp hbad).2).symm.trans ((congrArg crc16 hdrop).trans (beq_iff_eq.mp hc))
    unfold word16At at hword
    rw [byteAt_set_self l 1 _ hlen, byteAt_set_other l 1 2 _ (by decide)] at hword
    have hflip : byteAt l 1 ^^^ 1 = byteAt l 1 := by
      have := congrArg (fun w : BitVec 16 => w.extractLsb' 8 8) hword
      rwa [extractLsb'_high, extractLsb'_high] at this
    have hone : (1 : Byte) = 0 := by
      calc (1 : Byte) = (byteAt l 1 ^^^ 1) ^^^ byteAt l 1 := by rw [BitVec.xor_comm (byteAt l 1) 1, BitVec.xor_assoc, BitVec.xor_self, BitVec.xor_zero]
        _ = 0 := by rw [hflip, BitVec.xor_self]; rfl
    exact absurd hone (by decide)
  · rename_i h
    exact Bool.eq_false_iff.mpr h

theorem State.storeSlot_of_nv {s t : State} (h : t.nv = s.nv) (slot : Nat) : t.storeSlot slot = s.storeSlot slot := by
  unfold State.storeSlot; rw [h]

theorem State.nv_spend (s : State) (n : Nat) : (s.spend n).nv = s.nv := rfl

theorem State.cutSlot_nv (s : State) (slot : Nat) : (s.cutSlot slot).nv = (s.putSlot slot (invalidated (s.freeBytes 64))).nv := by
  unfold State.cutSlot; rw [State.nv_spend]

theorem State.cutSlot_storeSlot (s : State) (slot : Nat) (h : s.storeOk = true) :
    (s.cutSlot slot).storeSlot slot = invalidated (s.freeBytes 64) := by
  rw [State.storeSlot_of_nv (s.cutSlot_nv slot)]
  exact s.putSlot_storeSlot slot _ h (by rw [invalidated_length, State.freeBytes_length])

theorem State.cutSlot_invalid (s : State) (slot : Nat) (h : s.storeOk = true) : slotValid ((s.cutSlot slot).storeSlot slot) = false := by
  rw [s.cutSlot_storeSlot slot h]; exact slotValid_invalidated _

theorem headerValid_slotValid (l : List Byte) (h : slotValid l = false) : headerValid l = false := by
  unfold headerValid; rw [h]; rfl

/-- After a save that failed at its header, no header is valid (R124). -/
theorem State.spoilHeader_invalid (s : State) (h : s.storeOk = true) : headerValid ((s.spoilHeader 8064).storeSlot 8064) = false := by
  have hcut := headerValid_slotValid _ (s.cutSlot_invalid 8064 h)
  by_cases hv : headerValid (s.storeSlot 8064) = true
  · have e : s.spoilHeader 8064 = s.cutSlot 8064 := if_pos ⟨rfl, hv⟩
    rw [e]; exact hcut
  · have e : s.spoilHeader 8064 = s := if_neg fun h => hv h.2
    rw [e]; exact Bool.eq_false_iff.mpr hv

theorem State.putSlot_spend (s : State) (slot n : Nat) (l : List Byte) : (s.putSlot slot l).spend n =
    { s with nv := ((s.putSlot slot l).spend n).nv, free := ((s.putSlot slot l).spend n).free } := rfl

theorem State.putMark_spend (s : State) (slot n : Nat) (m : Byte) : (s.putMark slot m).spend n =
    { s with nv := ((s.putMark slot m).spend n).nv, free := ((s.putMark slot m).spend n).free } := rfl

theorem State.cutSlot_kept (s : State) (slot : Nat) :
    s.cutSlot slot = { s with nv := (s.cutSlot slot).nv, free := (s.cutSlot slot).free } :=
  s.putSlot_spend slot 64 (invalidated (s.freeBytes 64))

theorem State.spoilHeader_kept (s : State) (slot : Nat) :
    s.spoilHeader slot = { s with nv := (s.spoilHeader slot).nv, free := (s.spoilHeader slot).free } := by
  unfold State.spoilHeader
  split
  · exact s.cutSlot_kept 8064
  · rfl

theorem State.countMismatch_nv (s : State) : s.countMismatch.nv = s.nv := rfl

/-! ### The steps of a save (R123, R124) -/

theorem State.saveMarkCompletes_started (s : State) (sv : Save) (hs : s.ctl.state = .operating) (hsv : s.ctl.save = some sv) :
    State.Started { s with
      nv := Memory.write storeBlank s.nv (64 * 8064) markInvalid
      ctl := { s.ctl with op := none, timer := none, state := .idle, save := some { sv with next := 2 } } } s.saveMarkCompletes := by
  unfold State.saveMarkCompletes
  rw [State.endOp_operating (s.putMark 8064 markInvalid) hs]
  show State.Started { s with
      nv := Memory.write storeBlank s.nv (64 * 8064) markInvalid
      ctl := { s.ctl with op := none, timer := none, state := .idle, save := some { sv with next := 2 } } }
    (State.storeKick { s with
      nv := Memory.write storeBlank s.nv (64 * 8064) markInvalid
      ctl := { s.ctl with op := none, timer := none, state := .idle, save := s.ctl.save.map fun sv => { sv with next := 2 } } })
  rw [hsv]
  exact State.storeKick_started _

theorem State.saveSlotCompletes_verified (s : State) (slot : Nat) (bytes : List Byte) (got : ReadBack) (hs : s.ctl.state = .operating) :
    s.saveSlotCompletes slot bytes got =
      (if s.readBack slot got = bytes then (s.verified slot got).saveStepVerified bytes
       else (((s.verified slot got).spoilHeader slot).countMismatch).failSave .verify).storeKick := by
  unfold State.saveSlotCompletes
  dsimp only
  rw [s.readEnded slot got hs]
  rfl

theorem exec_saveStepCompletion_slot (s : State) (slot : Nat) (bytes : List Byte) (got : ReadBack)
    (h : s.ctl.op = some (.saveSlot slot bytes .verify)) :
    exec (.saveStepCompletion got) s = .next (s.saveSlotCompletes slot bytes got) := by
  show execSaveStepCompletion got s = _
  unfold execSaveStepCompletion
  rw [h]

theorem exec_saveStepCompletion_mark (s : State) (got : ReadBack) (h : s.ctl.op = some .saveMark) :
    exec (.saveStepCompletion got) s = .next s.saveMarkCompletes := by
  show execSaveStepCompletion got s = _
  unfold execSaveStepCompletion
  rw [h]

theorem State.verified_storeOk (s : State) (slot : Nat) (got : ReadBack) (h : s.storeOk = true) : (s.verified slot got).storeOk = true :=
  s.afterRead_storeOk slot got h

/-- Settles O40: the beginning of a save, its first step, and the verify of a slot it wrote. -/
theorem saveBeginsAndAdvances : Obligations.SaveBeginsAndAdvances := by
  refine ⟨fun src tag s hidle hs hg => ?_, fun sv s hok hs hsv hi => ⟨fun hop => ?_, fun slot bytes got hop => ?_⟩⟩
  · obtain ⟨hr, hint, -⟩ := s.agentIdle_iff.mp hidle
    have hexec : exec (.saveConfig src tag) s = .next (s.tookCommand.saving src tag).storeKick := by
      rw [← s.agentReceive_save src tag hidle hs]
      exact congrArg Host.Outcome.next (if_neg (by rw [hr]; decide))
    have htook : s.tookCommand = s.commandTaken := by
      show ({ s with agent := { s.agent with intake := [], taken := bump s.agent.taken } } : State) =
        { s with agent := { s.agent with taken := bump s.agent.taken } }
      rw [← hint]
    rw [htook] at hexec
    have hk := (s.commandTaken.saving src tag).storeKick_started
    have hgen : nextGeneration s.ctl.generation = s.ctl.generation + 1 := if_neg hg
    refine ⟨_, hexec, ?_, ?_, ?_, ?_, ?_, fun hi hq hm hc => ?_⟩
    · rw [hk.ctl.kept, ← hgen]; rfl
    · rw [hk.kept]; rfl
    · rw [hk.kept]; rfl
    · rw [hk.kept]; rfl
    · rw [hk.kept]; rfl
    · rw [State.storeKick_saves (s.commandTaken.saving src tag) _ hi hq hm hc rfl]
      exact ⟨rfl, rfl, rfl⟩
  · have hk := s.saveMarkCompletes_started sv hs hsv
    refine ⟨_, exec_saveStepCompletion_mark s none hop, ?_, ?_, fun a ha => ?_⟩
    · rw [hk.ctl.kept]
    · rw [hk.kept]; exact Memory.read_write_self storeBlank s.nv (64 * 8064) markInvalid hok
    · rw [hk.kept]; exact Memory.read_write_other storeBlank s.nv (64 * 8064) a markInvalid ha.symm
  · refine ⟨_, exec_saveStepCompletion_slot s slot bytes got hop, fun hb hlt => ?_, fun hb hge => ?_, fun hb => ?_⟩
    · rw [s.saveSlotCompletes_verified slot bytes got hs, if_pos hb]
      have hstep : (s.verified slot got).saveStepVerified bytes = (s.verified slot got).modCtl fun c => { c with save := some (sv.after bytes) } := by
        unfold State.saveStepVerified
        rw [show (s.verified slot got).ctl.save = some sv from hsv]
        exact if_pos hlt
      rw [hstep, (State.storeKick_started _).ctl.kept]
      rfl
    · rw [s.saveSlotCompletes_verified slot bytes got hs, if_pos hb]
      have hstep : (s.verified slot got).saveStepVerified bytes = (s.verified slot got).saveSucceeds sv := by
        unfold State.saveStepVerified
        rw [show (s.verified slot got).ctl.save = some sv from hsv]
        exact if_neg (by omega)
      obtain ⟨r, a, f, e, ha⟩ := State.saveEnds_kept ((s.verified slot got).modCtl fun c =>
        { c with save := none, generation := sv.generation, ctr := { c.ctr with saves := bump c.ctr.saves } })
        (.saved sv.generation) .done (be32 sv.generation) hi
      have hk := ((s.verified slot got).saveSucceeds sv).storeKick_started
      rw [hstep]
      rw [State.saveSucceeds, e] at hk ⊢
      refine ⟨by rw [hk.ctl.kept]; rfl, by rw [hk.ctl.kept]; rfl, by rw [hk.ctl.kept]; rfl, by rw [hk.kept]; exact ha⟩
    · rw [s.saveSlotCompletes_verified slot bytes got hs, if_neg hb]
      generalize hu : ((s.verified slot got).spoilHeader slot).countMismatch = u
      have hctl : u.ctl = (s.verified slot got).countMismatch.ctl := by rw [← hu, State.spoilHeader_kept]; rfl
      obtain ⟨r, a, f, e⟩ := u.failSave_kept .verify (by rw [← hu, State.spoilHeader_kept]; exact hi)
      have hk := (u.failSave .verify).storeKick_started
      have hfailed : u.ctl.saveFailed = { s.ctl with
          op := none, timer := none, state := .idle, save := none
          ctr := { s.ctl.ctr with
            mismatches := bump s.ctl.ctr.mismatches, savesFailed := bump s.ctl.ctr.savesFailed } } := by
        rw [hctl]
        unfold StoreController.saveFailed
        rw [if_pos (by show s.ctl.save.isSome = true; rw [hsv]; rfl)]
        rfl
      have hv : (u.failSave .verify).ctl = u.ctl.saveFailed := by rw [e]
      have hnv : (u.failSave .verify).nv = u.nv := by rw [e]
      generalize u.failSave .verify = v at hk hv hnv
      rw [hfailed] at hv
      refine ⟨by rw [hk.ctl.kept, hv], by rw [hk.ctl.kept, hv], by rw [hk.ctl.kept, hv], by rw [hk.ctl.kept, hv], ?_⟩
      rintro rfl
      have hkick : v.storeKick.nv = v.nv := by rw [hk.kept]
      have hspoiled : u.nv = ((s.verified 8064 got).spoilHeader 8064).nv := by rw [← hu, State.countMismatch_nv]
      rw [State.storeSlot_of_nv (hkick.trans (hnv.trans hspoiled))]
      exact State.spoilHeader_invalid _ (s.verified_storeOk 8064 got hok)

end Sys2Proof.Machine
end

section
/-! PROOFS. Step timeouts, and what a full reset or the step timer leaves of an operation cut short (7.2, 7.4, 7.7). -/

namespace Sys2Proof.Machine

/-! ### The arbiter with the journal in FAULT (R117) -/

theorem State.storeKick_rests (s : State) (h : s.jrnl.cond.drains = false) (hs : s.ctl.save = none) : s.storeKick = s := by
  have hcommit : s.jrnl.mayCommit = false := by
    unfold Journal.mayCommit
    cases hc : s.jrnl.cond <;> rw [hc] at h <;> first | rfl | cases h
  unfold State.storeKick
  rw [h, hcommit, hs]
  split <;> rfl

/-! ### Every effective state derived, every sign arbitrated (R159) -/

theorem Sign.setNext_shown (r : Sign) (n : Option (Fin 8)) :
    r.setNext n = { r with next := (r.setNext n).next, live := (r.setNext n).live, cursor := (r.setNext n).cursor } := by
  unfold Sign.setNext
  split
  · rfl
  · cases r.live <;> rfl

theorem State.arbitrateSet_kept (s : State) (m : BitVec 12) :
    s.arbitrateSet m = { s with sign := { s.sign with signs := (s.arbitrateSet m).sign.signs } } := by
  unfold State.arbitrateSet
  exact State.forEach_arbitrate_kept _ s

theorem State.modRules_arbitrateSet_kept (s : State) (f : Vector Rule 32 → Vector Rule 32) (m : BitVec 12) :
    (s.modRules f).arbitrateSet m =
      { s with rules := f s.rules, sign := { s.sign with signs := ((s.modRules f).arbitrateSet m).sign.signs } } := by
  have h := (s.modRules f).arbitrateSet_kept m
  generalize (s.modRules f).arbitrateSet m = t at h
  rw [h]
  rfl

theorem State.settleAll_kept (s : State) : s.settleAll =
    { s with rules := settleRules s.rules, sign := { s.sign with signs := s.settleAll.sign.signs } } :=
  s.modRules_arbitrateSet_kept settleRules (BitVec.allOnes 12)

theorem State.settleAll_signs (s : State) (k : Fin 12) :
    s.settleAll.sign.signs[k] = s.sign.signs[k].setNext ((s.modRules settleRules).arbitrated k) := by
  unfold State.settleAll
  rw [State.arbitrateSet_signs, if_pos (by rw [BitVec.getLsbD_allOnes]; exact decide_eq_true k.isLt)]
  rfl

theorem State.settleAll_sign (s : State) (k : Fin 12) : s.settleAll.sign.signs[k] = { s.sign.signs[k] with
    next := s.settleAll.sign.signs[k].next, live := s.settleAll.sign.signs[k].live, cursor := s.settleAll.sign.signs[k].cursor } := by
  rw [s.settleAll_signs k]; exact Sign.setNext_shown _ _

/-! ### Abandoned operations (R116) -/

theorem exec_stepTimerExpiry (s : State) (dl : Nat) (h : s.ctl.timer = some dl) :
    exec .stepTimerExpiry s = .next (s.reach dl).stepExpires := congrArg Host.Outcome.next (s.onTimer_running h _)

theorem State.abandonWrite_kept (s : State) : s.abandonWrite = { s with nv := s.abandonWrite.nv, free := s.abandonWrite.free } := by
  unfold State.abandonWrite
  split
  · rename_i slot _ _ _; exact s.putSlot_spend slot 64 (s.freeBytes 64)
  · split
    · exact s.cutSlot_kept _
    · split
      · rename_i slot _ _ _ _ _; exact s.putSlot_spend slot 64 (s.freeBytes 64)
      · rfl
  · rename_i slot _; exact s.putMark_spend slot 1 (byteAt (s.storeSlot slot) 0 &&& Config.freeByte s.free)
  · exact s.putMark_spend 8064 1 _
  all_goals rfl

/-- A state whose journal has entered FAULT and whose save has failed, the fault and a failed save's notices queued. -/
theorem State.reportTimeout_spec (s : State) (hc : s.jrnl.cond ≠ .fault) (hi : s.agent.intake = []) :
    ∃ (j : Journal) (r : RingTransit) (a : Agent) (f : Nat), j.Faulted .timeout ∧ j.held = s.jrnl.held ∧
      s.reportTimeout = { s with
        jrnl := j, ctl := (s.ctl.withdraw fun _ => true).saveFailed, ring := r, agent := a, free := f } := by
  obtain ⟨j, hj, hheld, -, hq⟩ := s.journalFault_spec .timeout hc
  unfold State.reportTimeout
  have hint : (s.journalFault .timeout).agent.intake = [] := by
    rw [hq.kept]; exact hi
  obtain ⟨r, a, f, e⟩ := (s.journalFault .timeout).failSave_kept .timeout hint
  refine ⟨j, r, a, f, hj, hheld, ?_⟩
  rw [e, hq.kept]

/-- The operation in flight is none of the scan's or the load's: its step expires (R116). -/
theorem State.stepExpires_operation (s : State) (o : StoreOp) (ho : s.ctl.op = some o) (hs : s.ctl.state = .operating)
    (hscan : ∀ slot, o ≠ .scan slot) (hload : ∀ slot, o ≠ .load slot) :
    s.stepExpires = ((s.abandonWrite.countTimeout).endOp).reportTimeout.storeKick := by
  unfold State.stepExpires
  dsimp only
  rw [ho, if_neg (by rw [hs]; exact CtlState.noConfusion)]
  cases o with
  | scan slot => exact absurd rfl (hscan slot)
  | load slot => exact absurd rfl (hload slot)
  | _ => rfl

theorem State.abandonWrite_reads (s : State)
    (h : (∃ (serial slot : Nat) (live : Bool), s.ctl.op = some (.read serial slot live)) ∨ (∃ slot : Nat, s.ctl.op = some (.scan slot)) ∨
      (∃ slot : Nat, s.ctl.op = some (.load slot))) : s.abandonWrite = s := by
  unfold State.abandonWrite
  rcases h with ⟨_, _, _, h⟩ | ⟨_, h⟩ | ⟨_, h⟩ <;> rw [h]

theorem State.stepExpires_scan (s : State) (slot : Nat) (ho : s.ctl.op = some (.scan slot)) :
    s.stepExpires = s.countTimeout.reportTimeout.afterScan := by
  unfold State.stepExpires
  rw [ho, s.abandonWrite_reads (.inr (.inl ⟨slot, ho⟩))]

theorem State.stepExpires_load (s : State) (slot : Nat) (ho : s.ctl.op = some (.load slot)) :
    s.stepExpires = s.countTimeout.reportTimeout.endLoad (.failed .timeout) := by
  unfold State.stepExpires
  rw [ho, s.abandonWrite_reads (.inr (.inr ⟨slot, ho⟩))]

/-- With no save in flight the report of a timeout is the journal's alone. -/
theorem State.reportTimeout_unsaved (s : State) (hs : s.ctl.save = none) :
    ∃ (j : Journal) (l : List NoticeBody), j.cond = .fault ∧ j.hasView = s.jrnl.hasView ∧
      j.faultCause = (if s.jrnl.cond = .fault then s.jrnl.faultCause else some .timeout) ∧
      l = (if s.jrnl.cond = .fault then [] else [.fault .timeout]) ∧
      State.Queued { s with jrnl := j, ctl := s.reportTimeout.ctl } s.reportTimeout l ∧
      s.reportTimeout.ctl = { s.ctl with requests := s.reportTimeout.ctl.requests, op := s.reportTimeout.ctl.op } := by
  by_cases hc : s.jrnl.cond = .fault
  · have e : s.reportTimeout = s := by
      unfold State.reportTimeout State.journalFault
      rw [if_pos hc, s.failSave_none .timeout hs]
    rw [e, if_pos hc, if_pos hc]
    exact ⟨s.jrnl, [], hc, rfl, rfl, rfl, .refl s, rfl⟩
  · obtain ⟨j, hj, -, hview, hq⟩ := s.journalFault_spec .timeout hc
    have hctl : (s.journalFault .timeout).ctl = s.ctl.withdraw fun _ => true := by rw [hq.kept]
    have e : s.reportTimeout = s.journalFault .timeout := by
      unfold State.reportTimeout
      exact State.failSave_none _ .timeout (by rw [hctl]; exact hs)
    rw [e, if_neg hc, if_neg hc, hctl]
    exact ⟨j, [.fault .timeout], hj.cond, hview, hj.faultCause, rfl, hq, rfl⟩

/-! ### The end of the configuration load (R125) -/

theorem State.Queued.params {s t : State} {l : List NoticeBody} (h : s.Queued t l) : t.agent.params = s.agent.params := by rw [h.kept]

/-- Notices queued in one state are queued so in any with its ring transit, agent, clock and straps. -/
theorem State.Queued.restate {u n : State} {l : List NoticeBody} (h : u.Queued n l) (s : State) (hring : u.ring = s.ring)
    (hagent : u.agent = s.agent) (hstraps : u.straps = s.straps) (hnow : u.now = s.now) :
    State.Queued s { s with ring := n.ring, agent := n.agent } l := by
  have hrep : u.repeater = s.repeater := by unfold State.repeater; rw [hstraps]
  have hr : n.ring = { s.ring with mq := n.ring.mq } := hring ▸ congrArg State.ring h.kept
  have ha : n.agent = { s.agent with
      notices := n.agent.notices, serial := n.agent.serial, queued := n.agent.queued, lost := n.agent.lost } :=
    hagent ▸ congrArg State.agent h.kept
  refine ⟨?_, fun hs => ?_, fun hs hne hroom => ?_⟩
  · show ({ s with ring := n.ring, agent := n.agent } : State) = { s with
      ring := { s.ring with mq := n.ring.mq }
      agent := { s.agent with
        notices := n.agent.notices, serial := n.agent.serial, queued := n.agent.queued, lost := n.agent.lost } }
    rw [← hr, ← ha]
  · exact hagent ▸ h.serial (hrep.trans hs)
  · have := h.notices (hrep.trans hs) (by rw [hagent]; exact hne) (by rw [hagent]; exact hroom)
    rw [hagent, hnow] at this
    exact this

/-- The notices of a load's end. -/
def LoadOutcome.notices : LoadOutcome → List NoticeBody
  | .loaded => []
  | .failed cause => [.failed cause]

theorem State.noteLoad_queued (s : State) (o : LoadOutcome) : s.Queued (s.noteLoad o) o.notices := by
  cases o with
  | loaded => exact .refl s
  | failed cause => exact s.notify_queued _

/-- The controller a load's end leaves to the arbiter. -/
def StoreController.loadEnded (c : StoreController) (o : LoadOutcome) : StoreController :=
  { c with op := none, timer := none, state := .idle, load := none, lastLoad := some o }

/-- What a load's end leaves: its outcome noted, the effective states derived, the signs arbitrated, and both arbiters' choices. -/
structure State.LoadEnded (s : State) (o : LoadOutcome) (t : State) : Prop where
  kept : t = { s with
    jrnl := t.jrnl, ctl := t.ctl, rules := settleRules s.rules, sign := { s.sign with signs := t.sign.signs }, ring := t.ring
    agent := t.agent, poll := { s.poll with drops := t.poll.drops }, calls := t.calls }
  queued : s.Queued { s with ring := t.ring, agent := t.agent } o.notices
  ctl : (s.ctl.loadEnded o).Started t.ctl
  cond : t.jrnl.cond = s.jrnl.cond ∧ t.jrnl.faultCause = s.jrnl.faultCause
  rests : s.jrnl.cond.drains = false → s.ctl.save = none → t.ctl = s.ctl.loadEnded o
  signs : ∀ k : Fin 12, t.sign.signs[k] = { s.sign.signs[k] with
    next := t.sign.signs[k].next, live := t.sign.signs[k].live, cursor := t.sign.signs[k].cursor
    chunk := t.sign.signs[k].chunk, lastIntensity := t.sign.signs[k].lastIntensity }

theorem State.endLoad_spec (s : State) (o : LoadOutcome) : s.LoadEnded o (s.endLoad o) := by
  unfold State.endLoad
  generalize hu : (s.modCtl fun c =>
    { c with op := none, timer := none, state := .idle, load := none, lastLoad := some o }) = u
  have huctl : u.ctl = s.ctl.loadEnded o := by rw [← hu]; rfl
  have hq := u.noteLoad_queued o
  generalize u.noteLoad o = n at hq
  have hset := n.settleAll_kept
  have hsigns := n.settleAll_sign
  generalize n.settleAll = m at hset hsigns
  have hkick := m.storeKick_started
  have hrests := m.storeKick_rests
  generalize m.storeKick = v at hkick hrests
  have hbegun := v.dropsChoose_begun.paid
  generalize v.dropsChoose = t at hbegun
  have hagent : t.agent = n.agent := by rw [hbegun.kept, hkick.kept, hset]
  have hring : t.ring = n.ring := by rw [hbegun.kept, hkick.kept, hset]
  refine ⟨?_, ?_, ?_, ?_, fun hd hs => ?_, fun k => ?_⟩
  · rw [hbegun.kept, hkick.kept, hset, hq.loose, ← hu]
    rfl
  · rw [hagent, hring]
    exact hq.restate s (by rw [← hu]; rfl) (by rw [← hu]; rfl) (by rw [← hu]; rfl) (by rw [← hu]; rfl)
  · rw [hbegun.kept, ← huctl]
    show u.ctl.Started v.ctl
    have : m.ctl = u.ctl := by rw [hset, hq.kept]
    exact this ▸ hkick.ctl
  · rw [hbegun.kept, hkick.jrnl.kept, hset, hq.kept, ← hu]
    exact ⟨rfl, rfl⟩
  · have hm : m.jrnl = s.jrnl ∧ m.ctl = s.ctl.loadEnded o := by rw [hset, hq.kept, ← huctl, ← hu]; exact ⟨rfl, rfl⟩
    have hv := hrests (by rw [hm.1]; exact hd) (by rw [hm.2]; exact hs)
    rw [hbegun.kept]
    show v.ctl = _
    rw [hv, hm.2]
  · have hm : m.sign.signs[k] = { s.sign.signs[k] with
        next := m.sign.signs[k].next, live := m.sign.signs[k].live, cursor := m.sign.signs[k].cursor } := by
      have : n.sign = s.sign := by rw [hq.kept, ← hu]; rfl
      rw [hsigns k, this]
    have hv : v.sign = m.sign := by rw [hkick.kept]
    rw [hbegun.signs k, hv, hm]

/-! ### The end of the recovery scan (R121) -/

/-- The controller at the scan's end, before the load begins or the arbiter is told. -/
def StoreController.scanEnded (c : StoreController) : StoreController :=
  { c with op := none, timer := none, state := .idle, scanThenLoad := false, found := [] }

/-- What the scan's end leaves: the load begun, or the arbiter told; and the drops' choices. -/
structure State.ScanEnded (s t : State) : Prop where
  kept : t = { s with
    jrnl := t.jrnl, ctl := t.ctl, sign := { s.sign with signs := t.sign.signs }, poll := { s.poll with drops := t.poll.drops }
    calls := t.calls }
  jrnl : t.jrnl = { s.jrnl with
    staging := t.jrnl.staging, overrun := t.jrnl.overrun, hand := t.jrnl.hand, nextSerial := t.jrnl.nextSerial
    pendingMarks := t.jrnl.pendingMarks, readAhead := t.jrnl.readAhead, answers := t.jrnl.answers }
  ctl : t.ctl.found = [] ∧ t.ctl.orphans = s.ctl.orphans ∧ t.ctl.gaps = s.ctl.gaps ∧ t.ctl.ctr.timeouts = s.ctl.ctr.timeouts
  loads : s.ctl.scanThenLoad = true → t.jrnl = { s.jrnl with answers := t.jrnl.answers } ∧ t.ctl.state = .loading ∧
    t.ctl.op = some (.load 8064) ∧ t.ctl.timer = some (s.now + 50)
  rests : s.ctl.scanThenLoad = false → s.jrnl.cond.drains = false → s.ctl.save = none → t.ctl = s.ctl.scanEnded

theorem State.afterScan_spec (s : State) : s.ScanEnded s.afterScan := by
  unfold State.afterScan
  cases hl : s.ctl.scanThenLoad with
  | true =>
    rw [if_pos rfl]
    generalize hu : ((s.modCtl fun c =>
      { c with op := none, timer := none, state := .idle, scanThenLoad := false, found := [] }).modCtl fun c =>
      { c with state := .loading, load := some { generation := 0, imageCheck := 0, slots := [], ok := true } }).loadRead 8064 = u
    have hb := u.dropsChoose_begun.paid
    have hj : u.jrnl = s.jrnl := by rw [← hu]; rfl
    refine ⟨?_, ?_, ?_, fun _ => ?_, fun h => by rw [hl] at h; cases h⟩
    · rw [hb.kept, ← hu]; rfl
    · rw [hb.kept, hj]
    · rw [hb.kept, ← hu]; exact ⟨rfl, rfl, rfl, rfl⟩
    · rw [hb.kept, hj]
      refine ⟨rfl, ?_⟩
      rw [← hu]
      exact ⟨rfl, rfl, rfl⟩
  | false =>
    rw [if_neg Bool.false_ne_true]
    generalize hu : (s.modCtl fun c =>
      { c with op := none, timer := none, state := .idle, scanThenLoad := false, found := [] }) = u
    have hctl : u.ctl = s.ctl.scanEnded := by rw [← hu]; rfl
    have hj : u.jrnl = s.jrnl := by rw [← hu]; rfl
    have hk := u.storeKick_started
    have hrests := u.storeKick_rests
    generalize u.storeKick = v at hk hrests
    have hb := v.dropsChoose_begun.paid
    generalize v.dropsChoose = t at hb
    have htctl : t.ctl = v.ctl := by rw [hb.kept]
    refine ⟨?_, ?_, ?_, fun h => (by rw [hl] at h; cases h), fun _ hd hs => ?_⟩
    · rw [hb.kept, hk.kept, ← hu]; rfl
    · rw [hb.kept, hk.jrnl.kept, ← hj]
    · rw [htctl, hk.ctl.kept, hctl]
      exact ⟨rfl, rfl, rfl, rfl⟩
    · rw [htctl, hrests (by rw [hj]; exact hd) (by rw [hctl]; exact hs), hctl]

/-- Settles O41: the step timer of an operation, of a scan's READ and of a load's. -/
theorem stepTimeoutFaultsJournal : Obligations.StepTimeoutFaultsJournal := by
  refine ⟨fun dl o s htimer hop hs hscan hload hc hi => ⟨_, exec_stepTimerExpiry s dl htimer, ?_⟩, fun _ => rfl,
    fun dl slot s htimer hop hc hsave => ⟨_, exec_stepTimerExpiry s dl htimer, ?_⟩,
    fun dl slot s htimer hop hsave => ⟨_, exec_stepTimerExpiry s dl htimer, ?_⟩⟩
  · rw [State.stepExpires_operation (s.reach dl) o hop hs hscan hload]
    generalize hu : ((s.reach dl).abandonWrite.countTimeout).endOp = u
    have hucore : u.jrnl = s.jrnl ∧ u.agent = s.agent ∧
        u.ctl = { s.ctl with op := none, timer := none, state := .idle, ctr := { s.ctl.ctr with timeouts := bump s.ctl.ctr.timeouts } } := by
      have hended := State.endOp_operating (s.reach dl).abandonWrite.countTimeout (by rw [State.abandonWrite_kept]; exact hs)
      rw [← hu, hended, State.abandonWrite_kept]
      exact ⟨rfl, rfl, rfl⟩
    obtain ⟨hj, hag, hctl⟩ := hucore
    obtain ⟨j, r, a, f, hjf, hheld, e⟩ := u.reportTimeout_spec (by rw [hj]; exact hc) (by rw [hag]; exact hi)
    have hdone : u.reportTimeout.storeKick = u.reportTimeout := State.storeKick_rests _ (by rw [e]; show j.cond.drains = false; rw [hjf.cond]; rfl)
      (by rw [e]; exact StoreController.saveFailed_save _)
    rw [hdone, e]
    have hfinal : (u.ctl.withdraw fun _ => true).saveFailed.op = none ∧ (u.ctl.withdraw fun _ => true).saveFailed.timer = none ∧
        (u.ctl.withdraw fun _ => true).saveFailed.state = .idle ∧
        (u.ctl.withdraw fun _ => true).saveFailed.ctr.timeouts = bump s.ctl.ctr.timeouts := by
      rw [StoreController.saveFailed_kept, StoreController.withdraw_all, hctl]
      exact ⟨rfl, rfl, rfl, rfl⟩
    obtain ⟨hopn, htn, hsn, hctr⟩ := hfinal
    exact ⟨hctr, hjf.cond, hjf.faultCause, hjf.staging, hjf.hand, hjf.credit, hjf.inTransit, hjf.readAhead, hheld.trans (by rw [hj]),
      StoreController.saveFailed_save _, hopn, htn, hsn⟩
  · rw [State.stepExpires_scan (s.reach dl) slot hop]
    obtain ⟨j, l, hcond, hview, hcause, -, hq, hctl⟩ := (s.reach dl).countTimeout.reportTimeout_unsaved hsave
    generalize (s.reach dl).countTimeout.reportTimeout = u at hq hctl
    have hend := u.afterScan_spec
    generalize u.afterScan = t at hend
    have huj : u.jrnl = j := by rw [hq.kept]
    rw [show (s.reach dl).countTimeout.jrnl = s.jrnl from rfl] at hview hcause
    rw [if_neg hc] at hcause
    have hfields : t.now = max s.now dl ∧ t.nv = s.nv ∧ u.now = t.now := by rw [hend.kept, hq.kept]; exact ⟨rfl, rfl, rfl⟩
    obtain ⟨hnow, hnv, hunow⟩ := hfields
    obtain ⟨hfound, horph, hgaps, htimeouts⟩ := hend.ctl
    have hstl : u.ctl.scanThenLoad = s.ctl.scanThenLoad := by rw [hctl]; rfl
    refine ⟨hnow, ?_, ?_, ?_, ?_, hfound, ?_, ?_, hnv, fun h => ?_, fun h => ?_⟩
    · rw [htimeouts, hctl]; rfl
    · rw [hend.jrnl, huj]; exact hcond
    · rw [hend.jrnl, huj]; exact hcause
    · rw [hend.jrnl, huj]; exact hview
    · rw [horph, hctl]; rfl
    · rw [hgaps, hctl]; rfl
    · obtain ⟨-, h1, h2, h3⟩ := hend.loads (hstl.trans h)
      exact ⟨h1, h2, by rw [h3, hunow]⟩
    · rw [hend.rests (hstl.trans h) (by rw [huj, hcond]; rfl) (by rw [hctl]; exact hsave)]
      exact ⟨rfl, rfl, rfl⟩
  · rw [State.stepExpires_load (s.reach dl) slot hop]
    obtain ⟨j, l, hcond, hview, hcause, hl, hq, hctl⟩ := (s.reach dl).countTimeout.reportTimeout_unsaved hsave
    generalize (s.reach dl).countTimeout.reportTimeout = u at hq hctl
    have hend := u.endLoad_spec (.failed .timeout)
    generalize u.endLoad (.failed .timeout) = t at hend
    rw [show (s.reach dl).countTimeout.jrnl = s.jrnl from rfl] at hcause hl
    have huj : u.jrnl = j := by rw [hq.kept]
    have htctl := hend.rests (by rw [huj, hcond]; rfl) (by rw [hctl]; exact hsave)
    have hall := (hq.restate (s.reach dl) rfl rfl rfl rfl).trans
      (hend.queued.restate { s.reach dl with ring := u.ring, agent := u.agent } rfl rfl (by rw [hq.kept]; rfl) (by rw [hq.kept]; rfl))
    have hnow : t.now = (s.reach dl).now := by rw [hend.kept, hq.kept]; rfl
    refine ⟨hnow, ?_, ?_, ?_, ?_, ?_, ?_, ?_, ?_, ?_, ?_, ?_, ?_, ?_, ?_, fun k => ?_, fun hr hne hroom => ?_⟩
    · rw [htctl, hctl]; rfl
    · rw [htctl]; rfl
    · rw [htctl]; rfl
    · rw [htctl]; rfl
    · rw [htctl]; rfl
    · rw [htctl]; rfl
    · rw [hend.cond.1, huj]; exact hcond
    · rw [hend.cond.2, huj]; exact hcause
    · rw [hend.kept, hq.kept]; rfl
    · rw [hend.kept, hq.kept]; rfl
    · rw [hend.kept, hq.kept]; rfl
    · have hparams : t.agent.params = u.agent.params := hend.queued.params
      rw [hparams, hq.kept]; rfl
    · rw [hend.kept, hq.kept]; rfl
    · rw [hend.kept, hq.kept]; rfl
    · rw [hend.signs k, hq.kept]; rfl
    · refine (hall.notices hr hne ?_).trans ?_
      · rw [hl]
        show s.agent.notices.length + _ ≤ 16
        split
        · exact Nat.succ_le_succ (Nat.le_of_lt hroom)
        · exact Nat.succ_le_of_lt (Nat.succ_lt_succ hroom)
      · rw [hnow, hl]
        by_cases hf : s.jrnl.cond = .fault
        · rw [if_pos hf, if_pos hf, if_pos hf, List.append_nil]; rfl
        · rw [if_neg hf, if_neg hf, if_neg hf]
          simp [LoadOutcome.notices, State.reach]

/-! ### Operations cut short (R114, R116) -/

theorem State.looseSlot_nv (s : State) (slot : Nat) : (s.looseSlot slot).nv = (s.putSlot slot (s.freeBytes 64)).nv := by
  unfold State.looseSlot; rw [State.nv_spend]

theorem State.cutMark_nv (s : State) (slot : Nat) : (s.cutMark slot).nv =
    Memory.write storeBlank s.nv (64 * slot) (byteAt (s.storeSlot slot) 0 &&& Config.freeByte s.free) := by
  unfold State.cutMark; rw [State.nv_spend]; rfl

theorem State.cutSlot_other (s : State) (slot a : Nat) (h : a < 64 * slot ∨ 64 * slot + 64 ≤ a) :
    Memory.read storeBlank (s.cutSlot slot).nv a = Memory.read storeBlank s.nv a := by
  rw [s.cutSlot_nv]; exact s.putSlot_other slot _ a h

theorem State.looseSlot_other (s : State) (slot a : Nat) (h : a < 64 * slot ∨ 64 * slot + 64 ≤ a) :
    Memory.read storeBlank (s.looseSlot slot).nv a = Memory.read storeBlank s.nv a := by
  rw [s.looseSlot_nv]; exact s.putSlot_other slot _ a h

theorem State.storeSlot_byte (s : State) (slot i : Nat) (h : i < 64) :
    byteAt (s.storeSlot slot) i = Memory.read storeBlank s.nv (64 * slot + i) := by
  have hl : i < (s.storeSlot slot).length := by
    unfold State.storeSlot; rw [Memory.readList_length]; exact h
  unfold byteAt
  rw [List.getD_eq_getElem _ _ hl]
  exact Memory.getElem_readList storeBlank s.nv 64 (64 * slot) i h

theorem State.storeSlot_mark (s : State) (slot : Nat) : byteAt (s.storeSlot slot) 0 = Memory.read storeBlank s.nv (64 * slot) :=
  s.storeSlot_byte slot 0 (by decide)

/-- A mark whose byte keeps the bits it had but for some cleared, every other byte as it was. -/
def MarkCleared (m m' : Memory) (slot : Nat) : Prop :=
  Memory.read storeBlank m' (64 * slot) &&& Memory.read storeBlank m (64 * slot) = Memory.read storeBlank m' (64 * slot) ∧
    ∀ a : Nat, a ≠ 64 * slot → Memory.read storeBlank m' a = Memory.read storeBlank m a

theorem markCleared_write (m : Memory) (slot : Nat) (b : Byte) (h : Memory.wf storeBlank m = true)
    (hb : b &&& Memory.read storeBlank m (64 * slot) = b) : MarkCleared m (Memory.write storeBlank m (64 * slot) b) slot :=
  ⟨by rw [Memory.read_write_self _ _ _ _ h]; exact hb, fun a ha => Memory.read_write_other _ _ _ a b ha.symm⟩

theorem and_and_self (x f : Byte) : (x &&& f) &&& x = x &&& f := by
  rw [BitVec.and_comm, ← BitVec.and_assoc, BitVec.and_self]

theorem State.cutMark_cleared (s : State) (slot : Nat) (h : s.storeOk = true) : MarkCleared s.nv (s.cutMark slot).nv slot := by
  rw [s.cutMark_nv]
  exact markCleared_write s.nv slot _ h (by rw [s.storeSlot_mark]; exact and_and_self _ _)

/-- The mark an abandoned STATE-WRITE of the header leaves (R124). -/
def State.looseMark (s : State) : Byte :=
  if byteAt (s.storeSlot 8064) 0 &&& Config.freeByte s.free = markValid then markInvalid
  else byteAt (s.storeSlot 8064) 0 &&& Config.freeByte s.free

theorem State.looseHeaderMark_nv (s : State) : s.looseHeaderMark.nv = Memory.write storeBlank s.nv (64 * 8064) s.looseMark := by
  unfold State.looseHeaderMark
  rw [State.nv_spend]
  rfl

theorem State.looseMark_ne (s : State) : s.looseMark ≠ markValid := by
  unfold State.looseMark
  split
  · decide
  · assumption

theorem State.looseHeaderMark_cleared (s : State) (h : s.storeOk = true) : MarkCleared s.nv s.looseHeaderMark.nv 8064 := by
  rw [s.looseHeaderMark_nv]
  refine markCleared_write s.nv 8064 _ h ?_
  rw [← s.storeSlot_mark]
  unfold State.looseMark
  split
  · exact BitVec.zero_and
  · exact and_and_self _ _

theorem State.looseHeaderMark_invalid (s : State) (h : s.storeOk = true) : headerValid (s.looseHeaderMark.storeSlot 8064) = false := by
  have hmark : byteAt (s.looseHeaderMark.storeSlot 8064) 0 = s.looseMark := by
    rw [State.storeSlot_mark, s.looseHeaderMark_nv, Memory.read_write_self _ _ _ _ h]
  unfold headerValid
  rw [hmark, beq_eq_false_iff_ne.mpr s.looseMark_ne, Bool.and_false, Bool.false_and]

theorem State.nv_of_outer {s t : State} (h : t.outer = s.outer) : t.nv = s.nv := congrArg (fun o => o.2.2.1) h

/-- A step's expiry changes the store by what it leaves of the write cut short alone. -/
theorem State.stepExpires_nv (s : State) (o : StoreOp) (h : s.ctl.op = some o) : s.stepExpires.nv = s.abandonWrite.nv := by
  unfold State.stepExpires
  dsimp only
  have hreport : ∀ u : State, u.reportTimeout.nv = u.nv := fun u => State.nv_of_outer u.reportTimeout_outer
  rw [h]
  split
  · rename_i hn; cases hn
  · rw [State.nv_of_outer (State.afterScan_outer _), hreport]; rfl
  · rw [State.nv_of_outer (State.endLoad_outer _ _), hreport]; rfl
  · split
    · rw [State.nv_of_outer (State.scanResumes_outer _), hreport, State.nv_of_outer (State.endOp_outer _)]; rfl
    · rw [State.nv_of_outer (State.storeKick_outer _), hreport, State.nv_of_outer (State.endOp_outer _)]; rfl

theorem State.fullReset_nv (s : State) (straps : BitVec 5) : (s.fullReset straps).nv = s.cutShort.nv := rfl

/-- What a full reset leaves of the operation in flight (R114). -/
theorem State.cutShort_slot (s : State) (slot : Nat) (bytes : List Byte) (w : WriteStep)
    (h : s.ctl.op = some (.commit slot bytes w) ∨ (s.ctl.op = some (.saveSlot slot bytes w) ∧ (w = .write ∨ slot = 8064))) :
    s.cutShort = s.cutSlot slot := by
  unfold State.cutShort
  rcases h with h | ⟨h, hw⟩ <;> rw [h]
  exact if_pos hw

theorem State.cutShort_verify (s : State) (slot : Nat) (bytes : List Byte) (hs : slot ≠ 8064)
    (h : s.ctl.op = some (.saveSlot slot bytes .verify)) : s.cutShort = s := by
  unfold State.cutShort
  rw [h]
  exact if_neg fun hw => hw.elim WriteStep.noConfusion hs

theorem State.cutShort_mark (s : State) (slot : Nat) (h : s.ctl.op = some (.mark slot) ∨ (s.ctl.op = some .saveMark ∧ slot = 8064)) :
    s.cutShort = s.cutMark slot := by
  unfold State.cutShort
  rcases h with h | ⟨h, rfl⟩ <;> rw [h]

/-- What an expired step leaves of a slot's write: its bytes loose, or the header cut. -/
theorem State.abandonWrite_other (s : State) (slot : Nat) (bytes : List Byte) (w : WriteStep)
    (h : s.ctl.op = some (.commit slot bytes w) ∨ s.ctl.op = some (.saveSlot slot bytes w)) (a : Nat)
    (ha : a < 64 * slot ∨ 64 * slot + 64 ≤ a) :
    Memory.read storeBlank s.abandonWrite.nv a = Memory.read storeBlank s.nv a := by
  unfold State.abandonWrite
  rcases h with h | h <;> rw [h]
  · exact s.looseSlot_other slot a ha
  · dsimp only
    split
    · exact s.cutSlot_other slot a ha
    · split
      · exact s.looseSlot_other slot a ha
      · rfl

theorem State.abandonWrite_verify (s : State) (slot : Nat) (bytes : List Byte) (hs : slot ≠ 8064)
    (h : s.ctl.op = some (.saveSlot slot bytes .verify)) : s.abandonWrite = s := by
  unfold State.abandonWrite
  rw [h]
  dsimp only
  rw [if_neg hs, if_neg WriteStep.noConfusion]

theorem State.abandonWrite_header (s : State) (bytes : List Byte) (w : WriteStep) (hok : s.storeOk = true)
    (h : s.ctl.op = some (.saveSlot 8064 bytes w) ∨ s.ctl.op = some .saveMark) :
    headerValid (s.abandonWrite.storeSlot 8064) = false := by
  rcases h with h | h
  · have e : s.abandonWrite = s.cutSlot 8064 := by unfold State.abandonWrite; rw [h]; exact if_pos rfl
    rw [e]
    exact headerValid_slotValid _ (s.cutSlot_invalid 8064 hok)
  · have e : s.abandonWrite = s.looseHeaderMark := by unfold State.abandonWrite; rw [h]
    rw [e]
    exact s.looseHeaderMark_invalid hok

theorem State.abandonWrite_mark (s : State) (slot : Nat) (hok : s.storeOk = true)
    (h : s.ctl.op = some (.mark slot) ∨ (s.ctl.op = some .saveMark ∧ slot = 8064)) : MarkCleared s.nv s.abandonWrite.nv slot := by
  rcases h with h | ⟨h, rfl⟩
  · have e : s.abandonWrite = s.cutMark slot := by unfold State.abandonWrite; rw [h]
    rw [e]
    exact s.cutMark_cleared slot hok
  · have e : s.abandonWrite = s.looseHeaderMark := by unfold State.abandonWrite; rw [h]
    rw [e]
    exact s.looseHeaderMark_cleared hok

/-- Settles O42, by the operation in flight: of a full reset, then of the step timer. -/
theorem cutShortWritesReadInvalid : Obligations.CutShortWritesReadInvalid := by
  refine ⟨fun straps s t hok hexec => ?_, fun dl s t hok htimer hexec => ?_⟩
  · have ht : t = s.fullReset straps := (Host.Outcome.next.inj hexec).symm
    have hnv : t.nv = s.cutShort.nv := by rw [ht, State.fullReset_nv]
    refine ⟨fun slot bytes w h => ?_, fun slot bytes hs h => ?_, fun slot h => ?_⟩
    · rw [s.cutShort_slot slot bytes w h] at hnv
      rw [State.storeSlot_of_nv hnv, hnv]
      exact ⟨s.cutSlot_invalid slot hok, fun a ha => s.cutSlot_other slot a ha⟩
    · rw [hnv, s.cutShort_verify slot bytes hs h]
    · rw [s.cutShort_mark slot h] at hnv
      rw [hnv]
      exact s.cutMark_cleared slot hok
  · rw [exec_stepTimerExpiry s dl htimer] at hexec
    have ht : t = (s.reach dl).stepExpires := (Host.Outcome.next.inj hexec).symm
    have hnv : ∀ o : StoreOp, s.ctl.op = some o → t.nv = (s.reach dl).abandonWrite.nv := fun o ho => by
      rw [ht]; exact State.stepExpires_nv (s.reach dl) o ho
    refine ⟨fun slot bytes w h a ha => ?_, fun slot bytes hs h => ?_, fun bytes w h => ?_, fun slot h => ?_, fun h => ?_⟩
    · rw [h.elim (fun h => hnv _ h) fun h => hnv _ h]
      exact (s.reach dl).abandonWrite_other slot bytes w h a ha
    · rw [hnv _ h, (s.reach dl).abandonWrite_verify slot bytes hs h]; rfl
    · rw [State.storeSlot_of_nv (h.elim (fun h => hnv _ h) fun h => hnv _ h)]
      exact (s.reach dl).abandonWrite_header bytes w hok h
    · rw [h.elim (fun h => hnv _ h) fun h => hnv _ h.1]
      exact (s.reach dl).abandonWrite_mark slot hok h
    · have hop : ∃ o, s.ctl.op = some o := by
        rcases h with ⟨_, _, _, h⟩ | ⟨_, h⟩ | ⟨_, h⟩ <;> exact ⟨_, h⟩
      obtain ⟨o, ho⟩ := hop
      rw [hnv o ho, (s.reach dl).abandonWrite_reads h]; rfl

end Sys2Proof.Machine
end

section
/-! PROOFS. The recovery scan and the configuration load (7.4, 7.7). -/

namespace Sys2Proof.Machine

/-! ### The recovery scan (R119 to R121) -/

theorem exec_scanReadDone (s : State) (got : ReadBack) (slot : Nat) (h : s.ctl.op = some (.scan slot)) :
    exec (.scanReadDone got) s = .next (s.scanReadCompletes slot got) := by
  show execScanReadDone got s = _
  unfold execScanReadDone
  rw [h]

theorem classify_eq (slot : Nat) (l : List Byte) : classify slot l = if slotValid l = true ∧ byteAt l 0 ≠ 255 then
    some { slot := slot, released := decide (byteAt l 0 = 0), serial := (word32At l 3).toNat } else none := by
  unfold classify
  by_cases h : slotValid l = true ∧ byteAt l 0 ≠ 255
  · have hreleased : (!markReadsHeld (byteAt l 0)) = decide (byteAt l 0 = 0) := by
      unfold markReadsHeld
      rw [bne_iff_ne.mpr (show byteAt l 0 ≠ markEmpty from h.2), Bool.true_and, bne, Bool.not_not]
      rfl
    rw [if_pos h, if_pos (show slotValid l = true ∧ byteAt l 0 ≠ markEmpty from h), hreleased]
    rfl
  · rw [if_neg h, if_neg (show ¬ (slotValid l = true ∧ byteAt l 0 ≠ markEmpty) from h)]

/-- The journal once it has the scan's view. -/
def Journal.scanned (j : Journal) (r : Rebuilt) (sup : SupplyState) : Journal := (j.takeView r).afterScan sup

theorem Journal.scanned_halted (j : Journal) (r : Rebuilt) : j.scanned r .holdup = (j.takeView r).halt := by
  unfold Journal.scanned Journal.afterScan
  exact if_pos rfl

theorem Journal.scanned_open (j : Journal) (r : Rebuilt) (sup : SupplyState) (h : sup ≠ .holdup) :
    j.scanned r sup = { j.takeView r with cond := (j.takeView r).openCond } := if_neg h

/-- The view of the journal the scan leaves. -/
theorem Journal.scanned_view (j : Journal) (r : Rebuilt) (sup : SupplyState) : j.scanned r sup = { j.takeView r with
    cond := (j.scanned r sup).cond, staging := (j.scanned r sup).staging, overrun := (j.scanned r sup).overrun
    answers := (j.scanned r sup).answers, ctr := (j.scanned r sup).ctr } := by
  by_cases h : sup = .holdup
  · rw [h, Journal.scanned_halted]; rfl
  · rw [Journal.scanned_open j r sup h]

theorem State.journalScanned_view (s : State) (r : Rebuilt) (h : r.bad.length ≤ 64) :
    ∃ l, State.Queued { s with jrnl := s.jrnl.scanned r s.sup.state } (s.journalScanned r) l := by
  unfold State.journalScanned
  rw [if_neg (by omega)]
  have hq := State.notify_queued { s with jrnl := s.jrnl.scanned r s.sup.state } (.recovered r.held r.nextSerial r.orphans r.bad.length)
  show ∃ l, State.Queued _ (if (State.notify { s with jrnl := s.jrnl.scanned r s.sup.state } _).jrnl.cond = .full then
    (State.notify { s with jrnl := s.jrnl.scanned r s.sup.state } _).notify _ else _) l
  split
  · exact ⟨_, hq.trans (State.notify_queued _ _)⟩
  · exact ⟨_, hq⟩

theorem State.journalScanned_jrnl (s : State) (r : Rebuilt) (h : r.bad.length ≤ 64) :
    (s.journalScanned r).jrnl = s.jrnl.scanned r s.sup.state := by
  obtain ⟨l, hq⟩ := s.journalScanned_view r h
  rw [hq.kept]

theorem State.journalScanned_overflow (s : State) (r : Rebuilt) (h : 64 < r.bad.length) :
    s.journalScanned r = s.journalFault .badSlots := if_pos h

/-- Whatever the scan found, the journal's move leaves the store, the clock and the supply, and of the controller all but its READs. -/
theorem State.journalScanned_kept (s : State) (r : Rebuilt) : ∃ (j : Journal) (c : StoreController) (l : List NoticeBody),
    State.Queued { s with jrnl := j, ctl := c } (s.journalScanned r) l ∧
      c = { s.ctl with requests := c.requests, op := c.op } := by
  by_cases h : 64 < r.bad.length
  · rw [s.journalScanned_overflow r h]
    by_cases hc : s.jrnl.cond = .fault
    · have e : s.journalFault .badSlots = s := if_pos hc
      rw [e]
      exact ⟨s.jrnl, s.ctl, [], .refl s, rfl⟩
    · obtain ⟨j, -, -, -, hq⟩ := s.journalFault_spec .badSlots hc
      exact ⟨j, _, _, hq, rfl⟩
  · obtain ⟨l, hq⟩ := s.journalScanned_view r (by omega)
    exact ⟨_, s.ctl, l, hq, rfl⟩

/-- The end of the scan: what was rebuilt, and the journal's move (R120, R121). -/
structure State.Scanned (s : State) (r : Rebuilt) (t : State) : Prop where
  nv : t.nv = s.nv
  counts : t.ctl.orphans = r.orphans ∧ t.ctl.gaps = r.bad.length ∧ t.ctl.found = []
  jrnl : ∃ u : State, u.jrnl = s.jrnl ∧ u.sup = s.sup ∧ t.jrnl = { (u.journalScanned r).jrnl with
    staging := t.jrnl.staging, overrun := t.jrnl.overrun, hand := t.jrnl.hand, nextSerial := t.jrnl.nextSerial
    pendingMarks := t.jrnl.pendingMarks, readAhead := t.jrnl.readAhead, answers := t.jrnl.answers } ∧
    (s.ctl.scanThenLoad = true → t.jrnl = { (u.journalScanned r).jrnl with answers := t.jrnl.answers })
  loads : s.ctl.scanThenLoad = true → t.ctl.state = .loading ∧ t.ctl.op = some (.load 8064)

theorem State.scanReadCompletes_last (s : State) (F : List Found) (hF : F = s.ctl.found ++ (classify 8063 (s.storeSlot 8063)).toList) :
    s.Scanned (rebuild F) (s.scanReadCompletes 8063 none) := by
  unfold State.scanReadCompletes
  dsimp only
  rw [if_neg (by decide)]
  unfold State.scanEnds
  generalize hr : rebuild ((s.afterRead 8063 none).modCtl fun c =>
    { c with found := c.found ++ (classify 8063 (s.readBack 8063 none)).toList }).ctl.found = r
  have hrF : rebuild F = r := by rw [hF, ← hr]; rfl
  dsimp only
  rw [hrF]
  generalize hu : (((s.afterRead 8063 none).modCtl fun c =>
    { c with found := c.found ++ (classify 8063 (s.readBack 8063 none)).toList }).modCtl fun c =>
    { c with orphans := r.orphans, gaps := r.bad.length }) = u
  have huj : u.jrnl = s.jrnl ∧ u.sup = s.sup ∧ u.nv = s.nv ∧ u.ctl.orphans = r.orphans ∧ u.ctl.gaps = r.bad.length ∧
      u.ctl.scanThenLoad = s.ctl.scanThenLoad := by rw [← hu]; exact ⟨rfl, rfl, rfl, rfl, rfl, rfl⟩
  obtain ⟨hj, hsup, hnv, horph, hgaps, hstl⟩ := huj
  obtain ⟨j, c, l, hq, hc⟩ := u.journalScanned_kept r
  have hend := (u.journalScanned r).afterScan_spec
  generalize (u.journalScanned r).afterScan = t at hend
  have hctl : (u.journalScanned r).ctl = c := by rw [hq.kept]
  have hwnv : (u.journalScanned r).nv = u.nv := by rw [hq.kept]
  obtain ⟨hfound, ho, hg, -⟩ := hend.ctl
  rw [hctl, hc] at ho hg
  have hwstl : (u.journalScanned r).ctl.scanThenLoad = s.ctl.scanThenLoad := by rw [hctl, hc]; exact hstl
  refine ⟨?_, ⟨ho.trans horph, hg.trans hgaps, hfound⟩, ⟨u, hj, hsup, hend.jrnl, fun h => (hend.loads (hwstl.trans h)).1⟩, fun h => ?_⟩
  · rw [hend.kept]; exact hwnv.trans hnv
  · obtain ⟨-, h1, h2, -⟩ := hend.loads (hwstl.trans h)
    exact ⟨h1, h2⟩

theorem State.scanReadCompletes_next (s : State) (slot : Nat) (h : slot < 8063) : s.scanReadCompletes slot none = { s with ctl := { s.ctl with
    op := some (.scan (slot + 1))
    timer := some (s.now + 50)
    found := s.ctl.found ++ (classify slot (s.storeSlot slot)).toList
    ctr := { s.ctl.ctr with reads := bump s.ctl.ctr.reads } } } :=
  if_pos (show slot + 1 < journalSlots from Nat.succ_lt_succ h)

theorem Journal.openCond_none (j : Journal) (h : j.oldest = none) : j.openCond = .accepting := by
  unfold Journal.openCond Journal.holdsSlot Journal.heldSlots
  rw [h]
  rfl

theorem Journal.keepsEntry_processing (j : Journal) (i : Fin 32) (e : AnswerEntry) (h : j.keepsEntry i e = true) : e.state = .processing :=
  beq_iff_eq.mp (Bool.and_eq_true_iff.mp h).1

theorem Journal.entriesDropped_all (j : Journal) (h : j.hand = none) :
    j.entriesDropped = ((List.finRange 32).map fun i => j.answers[i].length).sum := by
  unfold Journal.entriesDropped
  congr 1
  refine List.map_congr_left fun i _ => ?_
  congr 1
  refine List.filter_eq_self.mpr fun e _ => ?_
  unfold Journal.keepsEntry
  rw [h, Bool.and_false]
  rfl

/-- An entry into HALTED keeps of an answer list entries of it that are PROCESSING (R97). -/
theorem Journal.halt_answers (j : Journal) (i : Fin 32) (e : AnswerEntry) :
    e ∈ j.halt.answers[i] → e ∈ j.answers[i] ∧ e.state = .processing := by
  unfold Journal.halt
  intro h
  dsimp only at h
  rw [Fin.getElem_fin, Vector.getElem_ofFn, List.mem_filter] at h
  exact ⟨h.1, j.keepsEntry_processing i e h.2⟩

theorem State.journalScanned_fault (s : State) (r : Rebuilt) (h : 64 < r.bad.length) :
    (s.journalScanned r).jrnl.cond = .fault ∧ (s.journalScanned r).jrnl.hasView = s.jrnl.hasView ∧
      (s.jrnl.cond ≠ .fault → (s.journalScanned r).jrnl.Faulted .badSlots) := by
  rw [s.journalScanned_overflow r h]
  by_cases hc : s.jrnl.cond = .fault
  · have e : s.journalFault .badSlots = s := if_pos hc
    rw [e]
    exact ⟨hc, rfl, fun h => absurd hc h⟩
  · obtain ⟨j, hj, -, hview, hq⟩ := s.journalFault_spec .badSlots hc
    have e : (s.journalFault .badSlots).jrnl = j := by rw [hq.kept]
    rw [e]
    exact ⟨hj.cond, hview, fun _ => hj⟩

/-- Settles O43: the classification, the READs in order, and the move of the journal at the last. -/
theorem scanReadsSlotsInOrder : Obligations.ScanReadsSlotsInOrder := by
  refine ⟨classify_eq, fun slot s hop hlt => ?_, fun s hop hfound hlast hstl => ?_, fun F s hop hF => ?_, fun r s t ht => ?_⟩
  · rw [exec_scanReadDone s none slot hop, s.scanReadCompletes_next slot hlt]
  · have hr : rebuild (s.ctl.found ++ (classify 8063 (s.storeSlot 8063)).toList) =
        { oldest := none, held := 0, cursor := 0, nextSerial := 1, bad := [], orphans := 0 } := by rw [hfound, hlast]; rfl
    have hdone := s.scanReadCompletes_last _ rfl
    rw [hr] at hdone
    refine ⟨_, exec_scanReadDone s none 8063 hop, ?_⟩
    generalize s.scanReadCompletes 8063 none = t at hdone
    obtain ⟨u, huj, husup, -, hj⟩ := hdone.jrnl
    have hview := hj hstl
    rw [u.journalScanned_jrnl _ (by decide), huj, husup] at hview
    obtain ⟨horph, hgaps, -⟩ := hdone.counts
    obtain ⟨hstate, hop'⟩ := hdone.loads hstl
    refine ⟨?_, ?_, ?_, ?_, ?_, ?_, hstate, hop', horph, hgaps, hdone.nv⟩
    · rw [hview, Journal.scanned_view]; rfl
    · rw [hview, Journal.scanned_view]; rfl
    · rw [hview, Journal.scanned_view]; rfl
    · rw [hview, Journal.scanned_view]; rfl
    · rw [hview, Journal.scanned_view]; rfl
    · rw [hview]
      by_cases hs : s.sup.state = .holdup
      · rw [if_pos hs, hs, Journal.scanned_halted]; rfl
      · rw [if_neg hs, Journal.scanned_open _ _ _ hs]
        exact Journal.openCond_none (s.jrnl.takeView { oldest := none, held := 0, cursor := 0, nextSerial := 1, bad := [], orphans := 0 }) rfl
  · have hdone := s.scanReadCompletes_last F hF
    refine ⟨_, exec_scanReadDone s none 8063 hop, ?_⟩
    generalize s.scanReadCompletes 8063 none = t at hdone
    obtain ⟨u, huj, husup, hj, -⟩ := hdone.jrnl
    obtain ⟨horph, hgaps, hfound⟩ := hdone.counts
    refine ⟨horph, hgaps, hfound, hdone.nv, fun h => ?_, fun h => ?_, hdone.loads⟩
    · rw [u.journalScanned_jrnl _ h, Journal.scanned_view] at hj
      rw [hj]
      exact ⟨rfl, rfl, rfl, rfl, rfl⟩
    · obtain ⟨hcond, hview, -⟩ := u.journalScanned_fault _ h
      rw [hj]
      exact ⟨hcond, hview.trans (by rw [huj])⟩
  · rw [ht]
    refine ⟨fun h hc => ?_, fun h => ?_⟩
    · have hj := (s.journalScanned_fault r h).2.2 hc
      exact ⟨hj.cond, hj.faultCause, hj.staging, hj.hand, hj.credit⟩
    · rw [s.journalScanned_jrnl r h]
      have hview := s.jrnl.scanned_view r s.sup.state
      refine ⟨?_, ?_, ?_, ?_, ?_, ?_, ?_, ?_, ?_, ?_, ?_, ?_, fun hs => ?_, fun hs => ?_⟩
      iterate 12 · rw [hview]; rfl
      · rw [Journal.scanned_open _ _ _ hs]
        exact ⟨rfl, rfl, rfl, rfl⟩
      · rw [hs, Journal.scanned_halted]
        refine ⟨rfl, rfl, fun i e he => Journal.halt_answers _ i e he, fun hh => ?_⟩
        have hdrop := Journal.entriesDropped_all (s.jrnl.takeView r) hh
        show ({ s.jrnl.ctr with discarded := bumpBy s.jrnl.ctr.discarded (s.jrnl.takeView r).entriesDropped } : JournalCounters) = _
        rw [hdrop]
        rfl

end Sys2Proof.Machine
end

section
/-! PROOFS. The configuration load (7.7). -/

namespace Sys2Proof.Machine

theorem exec_loadReadDone (s : State) (got : ReadBack) (slot : Nat) (h : s.ctl.op = some (.load slot)) :
    exec (.loadReadDone got) s = .next (s.loadReadCompletes slot got) := by
  show execLoadReadDone got s = _
  unfold execLoadReadDone
  rw [h]

/-- The load after one more image slot. -/
def Load.grown (ld : Load) (l : List Byte) : Load :=
  { ld with slots := ld.slots ++ [l], ok := ld.ok && imageSlotOk ld.generation l }

theorem State.loadReadCompletes_header (s : State) (h : headerValid (s.storeSlot 8064) = true) :
    s.loadReadCompletes 8064 none = { s with ctl := { s.ctl with
      op := some (.load 8065)
      timer := some (s.now + 50)
      generation := slotGeneration (s.storeSlot 8064)
      load := some { generation := slotGeneration (s.storeSlot 8064), imageCheck := headerImageCheck (s.storeSlot 8064),
                     slots := [], ok := true }
      ctr := { s.ctl.ctr with reads := bump s.ctl.ctr.reads } } } := by
  unfold State.loadReadCompletes
  dsimp only
  rw [if_pos rfl, if_pos (show headerValid (s.readBack 8064 none) = true from h)]
  rfl

theorem State.loadReadCompletes_noHeader (s : State) (h : headerValid (s.storeSlot 8064) = false) :
    s.loadReadCompletes 8064 none = s.endLoad (.failed .noImage) := by
  unfold State.loadReadCompletes
  dsimp only
  rw [if_pos rfl, if_neg (show ¬ headerValid (s.readBack 8064 none) = true by rw [show s.readBack 8064 none = s.storeSlot 8064 from rfl, h]; simp)]
  rfl

theorem State.loadReadCompletes_next (s : State) (slot : Nat) (ld : Load) (hl : s.ctl.load = some ld) (hs : slot ≠ 8064) (hlt : slot < 8090) :
    s.loadReadCompletes slot none = { s with ctl := { s.ctl with
      op := some (.load (slot + 1))
      timer := some (s.now + 50)
      load := some (ld.grown (s.storeSlot slot))
      ctr := { s.ctl.ctr with reads := bump s.ctl.ctr.reads } } } := by
  unfold State.loadReadCompletes
  dsimp only
  rw [if_neg hs, show (s.afterRead slot none).ctl.load = some ld from hl]
  exact if_pos hlt

theorem State.loadReadCompletes_last (s : State) (ld : Load) (hl : s.ctl.load = some ld) :
    s.loadReadCompletes 8090 none = s.judgeImage (ld.grown (s.storeSlot 8090)) := by
  unfold State.loadReadCompletes
  dsimp only
  rw [if_neg (by decide), show (s.afterRead 8090 none).ctl.load = some ld from hl]
  exact if_neg (by decide)

theorem State.judgeImage_bad (s : State) (ld : Load) (h : ld.ok = false ∨ crc32 ld.slots.flatten ≠ ld.imageCheck) :
    s.judgeImage ld = s.endLoad (.failed .badImage) := by
  refine if_neg fun hok => ?_
  obtain ⟨h1, h2⟩ := Bool.and_eq_true_iff.mp hok
  exact h.elim (fun h => by rw [h] at h1; cases h1) fun h => h (beq_iff_eq.mp h2)

theorem State.judgeImage_good (s : State) (ld : Load) (h : ld.ok = true) (hc : crc32 ld.slots.flatten = ld.imageCheck) :
    s.judgeImage ld = (s.applyImage ld.slots).endLoad .loaded := if_pos (by rw [h, hc]; simp)

theorem settleRules_get (v : Vector Rule 32) (i : Fin 32) : (settleRules v)[i] = { v[i] with effective := ruleEffective v i } := by
  unfold settleRules
  rw [Fin.getElem_fin, Vector.getElem_ofFn]

/-! ### What a load's end keeps -/

theorem State.LoadEnded.noted {s t : State} {o : LoadOutcome} (h : s.LoadEnded o t) :
    t.ctl.lastLoad = some o ∧ t.ctl.load = none ∧ t.ctl.generation = s.ctl.generation := by
  rw [h.ctl.kept]; exact ⟨rfl, rfl, rfl⟩

theorem State.LoadEnded.rules {s t : State} {o : LoadOutcome} (h : s.LoadEnded o t) (i : Fin 32) :
    t.rules[i] = { s.rules[i] with effective := ruleEffective s.rules i } := by
  have e : t.rules = settleRules s.rules := by rw [h.kept]
  rw [e, settleRules_get]

/-! ### An image applied (R125) -/

def imageLanes (L : List (List Byte)) (v : Vector LaneEntry 64) : Vector LaneEntry 64 :=
  Vector.ofFn fun i => if i.val = 63 then v[i] else v[i].configure (LaneRecord.ofImage (imageRecord L 0 16 3 i.val))

def imageStations (L : List (List Byte)) (now : Nat) (v : Vector Station 32) : Vector Station 32 :=
  Vector.ofFn fun i => v[i].restore (StationRecord.ofImage (imageRecord L 4 4 10 i.val)) now

def imageRules (L : List (List Byte)) (v : Vector Rule 32) : Vector Rule 32 :=
  Vector.ofFn fun i => v[i].restore (RuleRecord.ofImage (imageRecord L 12 4 14 i.val))

def imageSigns (L : List (List Byte)) (stationOf : Fin 12 → Option (Fin 32)) (v : Vector Sign 12) : Vector Sign 12 :=
  Vector.ofFn fun k =>
    { v[k] with mode := IntensityMode.ofImage (imageRecord L 20 4 6 k.val), station := stationOf k, chunk := none }

def imageSlots (L : List (List Byte)) (feederOf : Fin 8 → Option (Fin 32)) (v : Vector ReductionSlot 8) : Vector ReductionSlot 8 :=
  Vector.ofFn fun k => (v[k].configure (SlotRecord.ofImage (imageRecord L 23 4 5 k.val))).relink (feederOf k)

/-- The state once an image's tables of lanes, stations and rules are set. -/
def State.imageTables (s : State) (L : List (List Byte)) : State :=
  ((s.modLanes (imageLanes L)).modPoll fun p => { p with stations := imageStations L s.now p.stations }).modRules (imageRules L)

/-- And once the sign records are. -/
def State.imageSigned (s : State) (L : List (List Byte)) : State :=
  (s.imageTables L).modSign fun g => { g with signs := imageSigns L (s.imageTables L).signStationOf g.signs }

theorem State.applyImage_eq (s : State) (L : List (List Byte)) : s.applyImage L =
    (((s.imageSigned L).modSlots (imageSlots L (s.imageSigned L).feederOf)).modAgent fun a => { a with
      params := Params.ofImage (imageRecord L 25 1 14 0) }).modSup fun u => { u with
      levels := (Params.ofImage (imageRecord L 25 1 14 0)).levels } := by
  unfold State.applyImage State.imageSigned State.imageTables imageLanes imageStations imageRules imageSigns imageSlots
  with_reducible rfl

theorem State.modTables_eq (s : State) (f : Vector LaneEntry 64 → Vector LaneEntry 64) (g : Vector Station 32 → Vector Station 32)
    (h : Vector Rule 32 → Vector Rule 32) :
    ((s.modLanes f).modPoll fun p => { p with stations := g p.stations }).modRules h =
      { s with lanes := f s.lanes, poll := { s.poll with stations := g s.poll.stations }, rules := h s.rules } := rfl

theorem State.modEngines_eq (s : State) (f : Vector Sign 12 → Vector Sign 12) (g : Vector ReductionSlot 8 → Vector ReductionSlot 8)
    (p : Params) (l : Levels) :
    (((s.modSign fun x => { x with signs := f x.signs }).modSlots g).modAgent fun a => { a with params := p }).modSup
        (fun u => { u with levels := l }) =
      { s with
        sign := { s.sign with signs := f s.sign.signs }, slots := g s.slots, agent := { s.agent with params := p }
        sup := { s.sup with levels := l } } := rfl

theorem State.signStationOf_congr {s t : State} (h : t.poll.stations = s.poll.stations) : t.signStationOf = s.signStationOf := by
  funext k; unfold State.signStationOf; rw [h]

theorem State.feederOf_congr {s t : State} (h : t.poll.stations = s.poll.stations) : t.feederOf = s.feederOf := by
  funext k; unfold State.feederOf; rw [h]

theorem State.applyImage_kept (s : State) (L : List (List Byte)) : s.applyImage L = { s with
    lanes := imageLanes L s.lanes
    poll := { s.poll with stations := imageStations L s.now s.poll.stations }
    rules := imageRules L s.rules
    sign := { s.sign with signs := imageSigns L (s.imageTables L).signStationOf s.sign.signs }
    slots := imageSlots L (s.imageTables L).feederOf s.slots
    agent := { s.agent with params := Params.ofImage (imageRecord L 25 1 14 0) }
    sup := { s.sup with levels := (Params.ofImage (imageRecord L 25 1 14 0)).levels } } := by
  rw [State.applyImage_eq, State.feederOf_congr (s := s.imageTables L) (t := s.imageSigned L) rfl]
  unfold State.imageSigned
  rw [State.modEngines_eq]
  generalize (s.imageTables L).signStationOf = A
  generalize (s.imageTables L).feederOf = B
  rw [State.imageTables, State.modTables_eq]

/-- The links are those the stations of the image name. -/
theorem State.applyImage_links (s : State) (L : List (List Byte)) (t : State) (h : t.poll.stations = (s.applyImage L).poll.stations) :
    (s.imageTables L).signStationOf = t.signStationOf ∧ (s.imageTables L).feederOf = t.feederOf := by
  have htab : t.poll.stations = (s.imageTables L).poll.stations := by rw [h, State.applyImage_kept, State.imageTables, State.modTables_eq]
  exact ⟨(State.signStationOf_congr htab).symm, (State.feederOf_congr htab).symm⟩

theorem imageLanes_get (L : List (List Byte)) (v : Vector LaneEntry 64) (i : Fin 64) : (imageLanes L v)[i] =
    if i.val = 63 then v[i] else v[i].configure (LaneRecord.ofImage (imageRecord L 0 16 3 i.val)) := by
  unfold imageLanes; rw [Fin.getElem_fin, Vector.getElem_ofFn]

theorem imageStations_get (L : List (List Byte)) (now : Nat) (v : Vector Station 32) (i : Fin 32) :
    (imageStations L now v)[i] = v[i].restore (StationRecord.ofImage (imageRecord L 4 4 10 i.val)) now := by
  unfold imageStations; rw [Fin.getElem_fin, Vector.getElem_ofFn]

theorem imageRules_get (L : List (List Byte)) (v : Vector Rule 32) (i : Fin 32) :
    (imageRules L v)[i] = v[i].restore (RuleRecord.ofImage (imageRecord L 12 4 14 i.val)) := by
  unfold imageRules; rw [Fin.getElem_fin, Vector.getElem_ofFn]

theorem imageSigns_get (L : List (List Byte)) (stationOf : Fin 12 → Option (Fin 32)) (v : Vector Sign 12) (k : Fin 12) :
    (imageSigns L stationOf v)[k] =
      { v[k] with mode := IntensityMode.ofImage (imageRecord L 20 4 6 k.val), station := stationOf k, chunk := none } := by
  unfold imageSigns; rw [Fin.getElem_fin, Vector.getElem_ofFn]

theorem imageSlots_get (L : List (List Byte)) (feederOf : Fin 8 → Option (Fin 32)) (v : Vector ReductionSlot 8) (k : Fin 8) :
    (imageSlots L feederOf v)[k] = (v[k].configure (SlotRecord.ofImage (imageRecord L 23 4 5 k.val))).relink (feederOf k) := by
  unfold imageSlots; rw [Fin.getElem_fin, Vector.getElem_ofFn]

/-- A slot's parameters as an image restores them, its windows emptied and its reading STALE. -/
theorem ReductionSlot.configure_relink (r : ReductionSlot) (x : SlotRecord) (st : Option (Fin 32)) : (r.configure x).relink st = { r with
    depth := x.depth, offset := x.offset, kw := x.kw, useLight := x.useLight, station := st, surface := []
    air := [], humidity := [], visibility := [], light := [], wind := [], gust := [], prev := none
    derived := Derived.none, fresh := false } := by
  unfold ReductionSlot.configure ReductionSlot.relink ReductionSlot.emptied
  dsimp only
  by_cases hd : x.depth = r.depth <;> by_cases ho : x.offset = r.offset <;> by_cases hk : x.kw = r.kw <;>
    by_cases hl : x.useLight = r.useLight <;> simp only [hd, ho, hk, hl, if_true, if_false]

/-- With no rule holding, none is effective. -/
theorem ruleEffective_inactive (v : Vector Rule 32) (i : Fin 32) (h : v[i].state = .inactive) : ruleEffective v i = false := by
  unfold ruleEffective Rule.holds
  rw [h]
  rfl

/-- Settles O45: the header, the slots between, and the last slot of a good image and of a bad one. -/
theorem loadReadsImageInOrder : Obligations.LoadReadsImageInOrder := by
  refine ⟨fun s hop hv => ?_, fun ld o s h => ?_, fun slot ld s hop hl hs hlt => ?_, fun ld L s hop hl hL hok hslot hcrc => ?_⟩
  · rw [exec_loadReadDone s none 8064 hop, s.loadReadCompletes_header hv]
  · have hexec : exec (.loadReadDone none) s = .next (s.endLoad o) := by
      rcases h with ⟨hop, hv, rfl⟩ | ⟨hop, hl, rfl, hbad⟩
      · rw [exec_loadReadDone s none 8064 hop, s.loadReadCompletes_noHeader hv]
      · rw [exec_loadReadDone s none 8090 hop, s.loadReadCompletes_last ld hl, State.judgeImage_bad]
        rcases hbad with hbad | hbad | hbad
        · exact .inl (by unfold Load.grown; rw [hbad]; rfl)
        · exact .inl (by unfold Load.grown; rw [hbad, Bool.and_false])
        · exact .inr hbad
    have hend := s.endLoad_spec o
    generalize s.endLoad o = t at hexec hend
    obtain ⟨hlast, hload, hgen⟩ := hend.noted
    refine ⟨t, hexec, hlast, hload, hgen, ?_, ?_, ?_, hend.rules, fun k => ?_, ?_, hend.queued.params, ?_, ?_⟩
    · rw [hend.kept]
    · rw [hend.kept]
    · rw [hend.kept]
    · rw [hend.signs k]; exact ⟨rfl, rfl, rfl, rfl⟩
    · rw [hend.kept]
    · rw [hend.kept]
    · rw [hend.kept]
  · rw [exec_loadReadDone s none slot hop, s.loadReadCompletes_next slot ld hl hs hlt]
    rfl
  · have hexec : exec (.loadReadDone none) s = .next ((s.applyImage L).endLoad .loaded) := by
      rw [exec_loadReadDone s none 8090 hop, s.loadReadCompletes_last ld hl, State.judgeImage_good, hL]
      · rfl
      · unfold Load.grown; rw [hok, hslot]; rfl
      · rw [hL] at hcrc; exact hcrc
    have hend := (s.applyImage L).endLoad_spec .loaded
    generalize (s.applyImage L).endLoad .loaded = t at hexec hend
    obtain ⟨hlast, hload, -⟩ := hend.noted
    have hstations : t.poll.stations = (s.applyImage L).poll.stations := by rw [hend.kept]
    obtain ⟨hsign, hfeeder⟩ := s.applyImage_links L t hstations
    have hkept := s.applyImage_kept L
    rw [hsign, hfeeder] at hkept
    generalize s.applyImage L = u at hend hkept
    have hlanes : t.lanes = imageLanes L s.lanes := by rw [hend.kept, hkept]
    have hst : t.poll.stations = imageStations L s.now s.poll.stations := by rw [hend.kept, hkept]
    have hsl : t.slots = imageSlots L t.feederOf s.slots := by
      have hu : t.slots = u.slots := by rw [hend.kept]
      rw [hu, hkept]
    refine ⟨t, hexec, hlast, hload, ?_, ?_, fun i x hi hx => ?_, fun i x hx => ?_, fun i x hx => ?_, fun k m hm => ?_, fun k x hx => ?_,
      fun p hp => ⟨?_, ?_⟩⟩
    · rw [hend.kept, hkept]
    · have := imageLanes_get L s.lanes 63
      rw [hlanes]; exact this.trans (if_pos rfl)
    · rw [hlanes, imageLanes_get, if_neg hi]
      unfold LaneRecord.ofImage
      rw [hx]; rfl
    · rw [hst, imageStations_get]
      unfold StationRecord.ofImage
      rw [hx]
      show (s.poll.stations[i]).restore x s.now = _
      unfold Station.restore
      by_cases hu : x.state = .unused
      · simp only [if_pos hu]; rfl
      · simp only [if_neg hu]; rfl
    · have hrule : u.rules[i] = s.rules[i].restore x := by
        have : u.rules = imageRules L s.rules := by rw [hkept]
        rw [this, imageRules_get]
        unfold RuleRecord.ofImage
        rw [hx]; rfl
      rw [hend.rules i, ruleEffective_inactive u.rules i (by rw [hrule]; rfl), hrule]
      rfl
    · have hu : u.sign.signs[k] = { s.sign.signs[k] with mode := m, station := t.signStationOf k, chunk := none } := by
        have : u.sign.signs = imageSigns L t.signStationOf s.sign.signs := by rw [hkept]
        rw [this, imageSigns_get]
        unfold IntensityMode.ofImage
        rw [hm]; rfl
      rw [hend.signs k, hu]
      exact ⟨rfl, rfl, rfl, rfl⟩
    · rw [hsl, imageSlots_get]
      unfold SlotRecord.ofImage
      rw [hx]
      exact ReductionSlot.configure_relink _ _ _
    · have hpar : t.agent.params = u.agent.params := hend.queued.params
      rw [hpar, hkept]
      show Params.ofImage _ = p
      unfold Params.ofImage
      rw [hp]; rfl
    · have hpi : Params.ofImage (imageRecord L 25 1 14 0) = p := by unfold Params.ofImage; rw [hp]; rfl
      rw [hend.kept, hkept, hpi]
      rfl

end Sys2Proof.Machine
end

section
/-! PROOFS. The rebuild of the held records (7.4, R120): the walk backward from the newest slot, by what each step keeps. -/

namespace Sys2Proof.Machine

/-! ### Distances between slots -/

/-- The slot i before slot n, in cyclic order. -/
def slotBefore (n i : Nat) : Nat := (n + journalSlots - i) % journalSlots

theorem slotsOn_lt (a n : Nat) : slotsOn a n < 8064 := Nat.mod_lt _ (by decide)

theorem slotsOn_slotBefore {n i : Nat} (hn : n < 8064) (hi : i < 8064) : slotsOn (slotBefore n i) n = i := by
  unfold slotsOn slotBefore journalSlots; omega

theorem slotBefore_slotsOn {n a : Nat} (hn : n < 8064) (ha : a < 8064) : slotBefore n (slotsOn a n) = a := by
  unfold slotsOn slotBefore journalSlots; omega

theorem slotBefore_lt (n i : Nat) : slotBefore n i < 8064 := Nat.mod_lt _ (by decide)

theorem prevSlot_slotBefore {n i : Nat} (hn : n < 8064) (hi : i < 8064) : prevSlot (slotBefore n i) = slotBefore n (i + 1) := by
  unfold prevSlot slotBefore journalSlots; omega

theorem slotsOn_inj {a b n : Nat} (hn : n < 8064) (ha : a < 8064) (hb : b < 8064) (h : slotsOn a n = slotsOn b n) : a = b := by
  rw [← slotBefore_slotsOn hn ha, h, slotBefore_slotsOn hn hb]

/-- Two slots, the second no nearer to n than the first: how far on the first lies from the second. -/
theorem slotsOn_between {g h n : Nat} (hn : n < 8064) (hg : g < 8064) (hh : h < 8064) (hle : slotsOn h n ≤ slotsOn g n) :
    slotsOn g h = slotsOn g n - slotsOn h n := by
  unfold slotsOn journalSlots at *; omega

/-! ### The newest record (R120) -/

theorem newestSerial_mem (F : List Found) : ∀ m, newestSerial F = some m → ∃ f ∈ F, f.serial = m := by
  induction F with
  | nil => exact fun m h => nomatch h
  | cons x l ih =>
    intro m h
    unfold newestSerial at h
    cases hl : newestSerial l with
    | none => rw [hl] at h; exact ⟨x, List.mem_cons_self, Option.some.inj h⟩
    | some y =>
      rw [hl] at h
      obtain ⟨f, hf, e⟩ := ih y hl
      rcases Nat.le_total x.serial y with hle | hle
      · exact ⟨f, List.mem_cons_of_mem _ hf, by rw [e, ← Option.some.inj h, Nat.max_eq_right hle]⟩
      · exact ⟨x, List.mem_cons_self, by rw [← Option.some.inj h, Nat.max_eq_left hle]⟩

theorem newestSerial_eq (F : List Found) (k : Nat) (hk : ∃ f ∈ F, f.serial = k) (hmax : ∀ f ∈ F, f.serial ≤ k) : newestSerial F = some k := by
  induction F with
  | nil => obtain ⟨f, hf, -⟩ := hk; exact absurd hf List.not_mem_nil
  | cons x l ih =>
    unfold newestSerial
    by_cases hl : ∃ f ∈ l, f.serial = k
    · rw [ih hl fun f hf => hmax f (List.mem_cons_of_mem _ hf)]
      exact congrArg some (Nat.max_eq_right (hmax x List.mem_cons_self))
    · have hx : x.serial = k := by
        obtain ⟨f, hf, e⟩ := hk
        rcases List.mem_cons.mp hf with rfl | hf
        · exact e
        · exact absurd ⟨f, hf, e⟩ hl
      have hrest : ∀ m, newestSerial l = some m → m ≤ k := by
        intro m hm
        obtain ⟨f, hf, rfl⟩ := newestSerial_mem l m hm
        exact hmax f (List.mem_cons_of_mem _ hf)
      cases hm : newestSerial l with
      | none => exact congrArg some hx
      | some m => exact congrArg some (by rw [hx]; exact Nat.max_eq_left (hrest m hm))

/-- The copy that each other copy precedes by at most 65 slots is the newest slot. -/
theorem newestOf_eq (copies : List Nat) (n : Nat) (hn : n < 8064) (hmem : n ∈ copies) (hlt : ∀ c ∈ copies, c < 8064)
    (h : ∀ c ∈ copies, slotsOn c n ≤ 65) : newestOf copies = n := by
  have htest : ∀ c ∈ copies, (copies.all fun o => o == c || decide (slotsOn o c ≤ 65)) = true → c = n := by
    intro c hc hall
    by_contra hne
    have hnc := List.all_eq_true.mp hall n hmem
    rw [Bool.or_eq_true, beq_iff_eq, decide_eq_true_eq] at hnc
    have h1 := hnc.resolve_left (Ne.symm hne)
    have h2 := h c hc
    have h3 := hlt c hc
    unfold slotsOn journalSlots at h1 h2
    omega
  unfold newestOf
  cases hf : copies.find? fun c => copies.all fun o => o == c || decide (slotsOn o c ≤ 65) with
  | some c => exact htest c (List.mem_of_find?_eq_some hf) (by have := List.find?_some hf; exact this)
  | none =>
    have hno := List.find?_eq_none.mp hf n hmem
    refine absurd (List.all_eq_true.mpr fun o ho => ?_) hno
    rw [Bool.or_eq_true, decide_eq_true_eq]
    exact .inr (h o ho)

/-! ### What the walk keeps -/

/-- The walk after i slots back from n, the newest serial being k. -/
structure Walk.At (F : List Found) (k n : Nat) (w : Walk) (i : Nat) : Prop where
  count : w.matches' + w.gaps.length + w.passed.length = i
  serial : w.expect + w.matches' = k + 1
  start : w.matches' = 0 → i = 0 ∧ w.last = none
  last : 0 < w.matches' → ∃ h : Held, w.last = some h ∧ h.serial = w.expect ∧ h.slot < 8064 ∧
    slotsOn h.slot n + 1 + w.passed.length = i ∧ ∃ f ∈ F, f.slot = h.slot ∧ f.serial = h.serial ∧ f.released = false
  run : ∀ j, w.expect ≤ j → j ≤ k → ∃ f ∈ F, f.serial = j ∧ f.released = false ∧ slotsOn f.slot n + w.passed.length + 1 ≤ i
  passed : ∀ p ∈ w.passed, p < 8064 ∧ i ≤ slotsOn p n + w.passed.length ∧ slotsOn p n < i
  gaps : ∀ b ∈ w.gaps, b < 8064 ∧ slotsOn b n + w.passed.length + 1 < i
  nodup : (w.passed ++ w.gaps).Nodup
  limit : w.passed.length ≤ 63
  unmatched : ∀ f ∈ F, f.serial + 1 = w.expect → i ≤ slotsOn f.slot n + w.passed.length → i ≤ slotsOn f.slot n

theorem Walk.At.begin (F : List Found) (k n : Nat) :
    Walk.At F k n { expect := k + 1, passed := [], gaps := [], matches' := 0, last := none } 0 where
  count := rfl
  serial := rfl
  start _ := ⟨rfl, rfl⟩
  last h := absurd h (Nat.lt_irrefl 0)
  run j h1 h2 := absurd h2 (by have : k + 1 ≤ j := h1; omega)
  passed p hp := absurd hp List.not_mem_nil
  gaps b hb := absurd hb List.not_mem_nil
  nodup := .nil
  limit := Nat.zero_le _
  unmatched f _ _ _ := Nat.zero_le _

/-- What the scan found, as R120's rebuild takes it: one record to a slot, the newest serial k, its newest copy in slot n. -/
structure Found.Scan (F : List Found) (k n : Nat) : Prop where
  slots : (F.map (·.slot)).Nodup
  bound : ∀ f ∈ F, f.slot < 8064
  newest : ∃ f ∈ F, f.serial = k ∧ f.slot = n

theorem Found.Scan.lt {F : List Found} {k n : Nat} (hs : Found.Scan F k n) : n < 8064 := by
  obtain ⟨f, hf, -, rfl⟩ := hs.newest; exact hs.bound f hf

/-- One record stands in a slot. -/
theorem Found.Scan.unique {F : List Found} {k n : Nat} (hs : Found.Scan F k n) {f g : Found} (hf : f ∈ F) (hg : g ∈ F)
    (h : f.slot = g.slot) : f = g := List.inj_on_of_nodup_map hs.slots hf hg h

theorem Found.Scan.find {F : List Found} {k n : Nat} (hs : Found.Scan F k n) (slot e : Nat) {f : Found} (hf : f ∈ F) (hslot : f.slot = slot)
    (he : f.serial + 1 = e) : F.find? (fun f => f.slot == slot && f.serial + 1 == e) = some f := by
  cases hfind : F.find? fun f => f.slot == slot && f.serial + 1 == e with
  | none =>
    have := List.find?_eq_none.mp hfind f hf
    rw [hslot, he] at this
    simp at this
  | some g =>
    have hg := List.find?_some hfind
    rw [Bool.and_eq_true, beq_iff_eq, beq_iff_eq] at hg
    rw [hs.unique (List.mem_of_find?_eq_some hfind) hf (hg.1.trans hslot.symm)]

theorem find_none (F : List Found) (slot e : Nat) (h : F.find? (fun f => f.slot == slot && f.serial + 1 == e) = none) :
    ∀ f ∈ F, f.slot = slot → f.serial + 1 ≠ e := by
  intro f hf hslot he
  have := List.find?_eq_none.mp h f hf
  rw [hslot, he] at this
  simp at this

/-- A slot that holds the record expected, HELD: the run grows by it, and what was passed over becomes gaps. -/
theorem Walk.At.matched {F : List Found} {k n i : Nat} {w : Walk} (hw : Walk.At F k n w i) (hs : Found.Scan F k n) (hi : i < 8064)
    {f : Found} (hf : f ∈ F) (hslot : f.slot = slotBefore n i) (he : f.serial + 1 = w.expect) (hr : f.released = false) :
    Walk.At F k n { expect := w.expect - 1, passed := [], gaps := w.passed ++ w.gaps, matches' := w.matches' + 1,
                    last := some { serial := f.serial, slot := slotBefore n i } } (i + 1) := by
  have hdist : slotsOn f.slot n = i := by rw [hslot]; exact slotsOn_slotBefore hs.lt hi
  refine ⟨?_, ?_, fun h => absurd h (Nat.succ_ne_zero _), fun _ => ⟨_, rfl, ?_, slotBefore_lt n i, ?_, f, hf, hslot, rfl, hr⟩,
    fun j hj hjk => ?_, fun p hp => absurd hp List.not_mem_nil, fun b hb => ?_, ?_, Nat.zero_le _, fun g hg hge hle => ?_⟩
  · have := hw.count
    simp only [List.length_append, List.length_nil]
    omega
  · have := hw.serial
    show w.expect - 1 + (w.matches' + 1) = k + 1
    omega
  · show f.serial = w.expect - 1
    omega
  · rw [slotsOn_slotBefore hs.lt hi]; rfl
  · by_cases hjf : j = f.serial
    · exact ⟨f, hf, hjf.symm, hr, by rw [hdist]; exact Nat.le_refl _⟩
    · obtain ⟨g, hg, hgj, hgr, hgi⟩ := hw.run j (by have : w.expect - 1 ≤ j := hj; omega) hjk
      exact ⟨g, hg, hgj, hgr, by simp only [List.length_nil]; omega⟩
  · rcases List.mem_append.mp hb with hb | hb
    · obtain ⟨h1, -, h3⟩ := hw.passed b hb
      exact ⟨h1, by simp only [List.length_nil]; omega⟩
    · obtain ⟨h1, h2⟩ := hw.gaps b hb
      exact ⟨h1, by simp only [List.length_nil]; omega⟩
  · exact hw.nodup
  · exact hle

/-- A slot that does not hold the record expected is passed over, 63 at most since the last match. -/
theorem Walk.At.pass {F : List Found} {k n i : Nat} {w : Walk} (hw : Walk.At F k n w i) (hs : Found.Scan F k n) (hi : i < 8064)
    (hno : ∀ f ∈ F, f.slot = slotBefore n i → f.serial + 1 ≠ w.expect) (hl : w.passed.length < 63) :
    Walk.At F k n { w with passed := slotBefore n i :: w.passed } (i + 1) := by
  have hdist := slotsOn_slotBefore hs.lt hi
  have hpos : 0 < w.matches' := by
    refine Nat.pos_of_ne_zero fun h => ?_
    obtain ⟨rfl, -⟩ := hw.start h
    obtain ⟨f, hf, hk, hn⟩ := hs.newest
    have hserial := hw.serial
    refine hno f hf ?_ (by omega)
    have := hs.lt
    unfold slotBefore journalSlots
    omega
  refine ⟨?_, hw.serial, fun h => absurd h (Nat.pos_iff_ne_zero.mp hpos), fun _ => ?_, fun j hj hjk => ?_, fun p hp => ?_, fun b hb => ?_,
    ?_, ?_, fun f hf he hle => ?_⟩
  · have := hw.count
    simp only [List.length_cons]
    omega
  · obtain ⟨h, e, h1, h2, h3, h4⟩ := hw.last hpos
    exact ⟨h, e, h1, h2, by simp only [List.length_cons]; omega, h4⟩
  · obtain ⟨g, hg, hgj, hgr, hgi⟩ := hw.run j hj hjk
    exact ⟨g, hg, hgj, hgr, by simp only [List.length_cons]; omega⟩
  · rcases List.mem_cons.mp hp with rfl | hp
    · exact ⟨slotBefore_lt n i, by rw [hdist]; simp only [List.length_cons]; omega, by rw [hdist]; exact Nat.lt_succ_self i⟩
    · obtain ⟨h1, h2, h3⟩ := hw.passed p hp
      exact ⟨h1, by simp only [List.length_cons]; omega, by omega⟩
  · obtain ⟨h1, h2⟩ := hw.gaps b hb
    exact ⟨h1, by simp only [List.length_cons]; omega⟩
  · refine List.nodup_cons.mpr ⟨fun hmem => ?_, hw.nodup⟩
    rcases List.mem_append.mp hmem with hmem | hmem
    · have := (hw.passed _ hmem).2.2
      omega
    · have := (hw.gaps _ hmem).2
      omega
  · exact hl
  · have h1 := hw.unmatched f hf he (by simp only [List.length_cons] at hle; omega)
    have hne : slotsOn f.slot n ≠ i := fun e =>
      hno f hf (slotsOn_inj hs.lt (hs.bound f hf) (slotBefore_lt n i) (e.trans hdist.symm)) he
    omega

/-- Why the walk stops at a slot: a RELEASED record of the serial expected, or the 64th slot without it. -/
def Walk.Stops (F : List Found) (w : Walk) (slot : Nat) : Prop :=
  (∃ g ∈ F, g.slot = slot ∧ g.serial + 1 = w.expect ∧ g.released = true) ∨
    (63 ≤ w.passed.length ∧ ∀ f ∈ F, f.slot = slot → f.serial + 1 ≠ w.expect)

theorem Walk.step_some {F : List Found} {k n i : Nat} {w w' : Walk} (hw : Walk.At F k n w i) (hs : Found.Scan F k n) (hi : i < 8064)
    (h : w.step F (slotBefore n i) = some w') : Walk.At F k n w' (i + 1) := by
  unfold Walk.step at h
  cases hfind : F.find? fun f => f.slot == slotBefore n i && f.serial + 1 == w.expect with
  | some f =>
    rw [hfind] at h
    have hf := List.find?_some hfind
    rw [Bool.and_eq_true, beq_iff_eq, beq_iff_eq] at hf
    dsimp only at h
    split at h
    · cases h
    · rename_i hr
      cases h
      exact hw.matched hs hi (List.mem_of_find?_eq_some hfind) hf.1 hf.2 (Bool.not_eq_true _ ▸ hr)
  | none =>
    rw [hfind] at h
    dsimp only at h
    split at h
    · cases h
    · rename_i hl
      cases h
      exact hw.pass hs hi (find_none F _ _ hfind) (by omega)

theorem Walk.step_none {F : List Found} {w : Walk} {slot : Nat} (h : w.step F slot = none) : w.Stops F slot := by
  unfold Walk.step at h
  cases hfind : F.find? fun f => f.slot == slot && f.serial + 1 == w.expect with
  | some f =>
    rw [hfind] at h
    have hf := List.find?_some hfind
    rw [Bool.and_eq_true, beq_iff_eq, beq_iff_eq] at hf
    dsimp only at h
    split at h
    · rename_i hr
      exact .inl ⟨f, List.mem_of_find?_eq_some hfind, hf.1, hf.2, hr⟩
    · cases h
  | none =>
    rw [hfind] at h
    dsimp only at h
    split at h
    · rename_i hl
      exact .inr ⟨hl, find_none F _ _ hfind⟩
    · cases h

/-- The whole walk: what it keeps holds at its end, which every slot has been read before or which a slot gives. -/
theorem Walk.run_at {F : List Found} {k n : Nat} (hs : Found.Scan F k n) (m : Nat) : ∀ (w : Walk) (i : Nat), Walk.At F k n w i →
    i + m = 8064 → ∃ i', i' ≤ 8064 ∧ Walk.At F k n (w.run F m (slotBefore n i)) i' ∧
      (i' = 8064 ∨ Walk.Stops F (w.run F m (slotBefore n i)) (slotBefore n i')) := by
  induction m with
  | zero => exact fun w i hw hi => ⟨i, by omega, hw, .inl (by omega)⟩
  | succ m ih =>
    intro w i hw hi
    unfold Walk.run
    cases hstep : w.step F (slotBefore n i) with
    | none => exact ⟨i, by omega, hw, .inr (Walk.step_none hstep)⟩
    | some w' =>
      dsimp only
      rw [prevSlot_slotBefore hs.lt (by omega)]
      exact ih w' (i + 1) (Walk.step_some hw hs (by omega) hstep) (by omega)

/-- The serials of the run are found HELD, so there are no more of them than of those. -/
theorem Walk.At.matches_le {F : List Found} {k n i : Nat} {w : Walk} (hw : Walk.At F k n w i) : w.matches' ≤ heldFound F := by
  have hserial := hw.serial
  have hsub : (List.range' w.expect w.matches') ⊆ ((F.filter fun f => !f.released).map (·.serial)) := by
    intro j hj
    rw [List.mem_range'_1] at hj
    obtain ⟨f, hf, hfj, hr, -⟩ := hw.run j hj.1 (by omega)
    exact List.mem_map.mpr ⟨f, List.mem_filter.mpr ⟨hf, by rw [hr]; rfl⟩, hfj⟩
  have hlen := ((List.nodup_range' (s := w.expect) (n := w.matches')).subperm hsub).length_le
  rwa [List.length_range', List.length_map] at hlen

/-- The walk that R120 makes of what the scan found. -/
def walkOf (F : List Found) (k n : Nat) : Walk :=
  Walk.run { expect := k + 1, passed := [], gaps := [], matches' := 0, last := none } F journalSlots n

theorem rebuild_eq (F : List Found) (k n : Nat) (hk : newestSerial F = some k)
    (hn : newestOf ((F.filter fun f => f.serial == k).map (·.slot)) = n) : rebuild F =
      { oldest := (walkOf F k n).last, held := (walkOf F k n).matches', cursor := nextSlot n, nextSerial := k + 1, bad := (walkOf F k n).gaps
        orphans := heldFound F - (walkOf F k n).matches' } := by
  unfold rebuild walkOf
  rw [hk]
  dsimp only
  rw [hn]

theorem walkOf_at {F : List Found} {k n : Nat} (hs : Found.Scan F k n) : ∃ i, i ≤ 8064 ∧ Walk.At F k n (walkOf F k n) i ∧
    (i = 8064 ∨ Walk.Stops F (walkOf F k n) (slotBefore n i)) := by
  have hn : slotBefore n 0 = n := by
    have := hs.lt
    unfold slotBefore journalSlots; omega
  have h := Walk.run_at hs 8064 _ 0 (Walk.At.begin F k n) rfl
  rw [hn] at h
  exact h

/-- A walk whose newest copy is RELEASED ends at once. -/
theorem walkOf_released {F : List Found} {k n : Nat} (hs : Found.Scan F k n) (h : ∀ f ∈ F, f.serial = k → f.released = true) :
    (walkOf F k n).matches' = 0 := by
  obtain ⟨f, hf, hfk, hfn⟩ := hs.newest
  have hstep : Walk.step { expect := k + 1, passed := [], gaps := [], matches' := 0, last := none } F n = none := by
    unfold Walk.step
    rw [hs.find n (k + 1) hf hfn (congrArg (· + 1) hfk)]
    exact if_pos (h f hf hfk)
  have hrun : ∀ m : Nat, Walk.run { expect := k + 1, passed := [], gaps := [], matches' := 0, last := none } F (m + 1) n =
      { expect := k + 1, passed := [], gaps := [], matches' := 0, last := none } := fun m => by
    unfold Walk.run
    rw [hstep]
  exact congrArg Walk.matches' (hrun 8063)

/-- A HELD record of the serial before the oldest, further back and within 64 slots, was cut off by a RELEASED one nearer. -/
theorem Walk.At.cut_off {F : List Found} {k n i : Nat} {w : Walk} (hw : Walk.At F k n w i) (hs : Found.Scan F k n)
    (hstop : i = 8064 ∨ Walk.Stops F w (slotBefore n i)) {h : Held} (hlast : w.last = some h) {f : Found} (hf : f ∈ F)
    (hser : f.serial + 1 = h.serial) (hr : f.released = false) (hback : slotsOn f.slot n = slotsOn h.slot n + slotsOn f.slot h.slot)
    (hnear : slotsOn f.slot h.slot ≤ 64) :
    ∃ g ∈ F, g.serial + 1 = h.serial ∧ g.released = true ∧ slotsOn g.slot h.slot < slotsOn f.slot h.slot := by
  have hpos : 0 < w.matches' := by
    refine Nat.pos_of_ne_zero fun h0 => ?_
    rw [(hw.start h0).2] at hlast
    cases hlast
  obtain ⟨h', e, hexp, hslot, hi, g, hg, hgslot, hgser, -⟩ := hw.last hpos
  obtain rfl : h = h' := Option.some.inj (hlast.symm.trans e)
  have hfn := slotsOn_lt f.slot n
  have hne : slotsOn f.slot h.slot ≠ 0 := by
    intro h0
    have hsame := slotsOn_inj hs.lt (hs.bound f hf) hslot (hback.trans (by rw [h0, Nat.add_zero]))
    have := hs.unique hf hg (hsame.trans hgslot.symm)
    rw [this] at hser
    omega
  have hbeyond : i ≤ slotsOn f.slot n := hw.unmatched f hf (hser.trans hexp) (by omega)
  rcases hstop with h8064 | ⟨x, hx, hxslot, hxser, hxr⟩ | ⟨hlim, hno⟩
  · omega
  · have hxi : slotsOn x.slot n = i := by rw [hxslot]; exact slotsOn_slotBefore hs.lt (by omega)
    have hnef : slotsOn f.slot n ≠ i := by
      intro hfi
      have hsame := slotsOn_inj hs.lt (hs.bound f hf) (hs.bound x hx) (hfi.trans hxi.symm)
      rw [hs.unique hf hx hsame, hxr] at hr
      cases hr
    have hxh := slotsOn_between hs.lt (hs.bound x hx) hslot (by omega)
    exact ⟨x, hx, hxser.trans hexp.symm, hxr, by omega⟩
  · have hfi : slotsOn f.slot n = i := by have := hw.limit; omega
    have hsame : f.slot = slotBefore n i := slotsOn_inj hs.lt (hs.bound f hf) (slotBefore_lt n i) (by
      rw [hfi]; exact (slotsOn_slotBefore hs.lt (by omega)).symm)
    exact absurd (hser.trans hexp) (hno f hf hsame)

/-- Settles O44: the rebuild is what the walk holds at its end. -/
theorem rebuildFollowsHeldRun : Obligations.RebuildFollowsHeldRun := by
  intro F k n hk hmax hnodup hbound hnewest hcopies
  have hs : Found.Scan F k n := ⟨hnodup, hbound, hnewest⟩
  have hcopy : ∀ c ∈ (F.filter fun f => f.serial == k).map (·.slot), ∃ f ∈ F, f.serial = k ∧ f.slot = c := by
    intro c hc
    obtain ⟨f, hf, rfl⟩ := List.mem_map.mp hc
    obtain ⟨hf, he⟩ := List.mem_filter.mp hf
    exact ⟨f, hf, beq_iff_eq.mp he, rfl⟩
  have hn : newestOf ((F.filter fun f => f.serial == k).map (·.slot)) = n := by
    refine newestOf_eq _ n hs.lt ?_ (fun c hc => ?_) fun c hc => ?_
    · obtain ⟨f, hf, hfk, hfn⟩ := hnewest
      exact List.mem_map.mpr ⟨f, List.mem_filter.mpr ⟨hf, beq_iff_eq.mpr hfk⟩, hfn⟩
    · obtain ⟨f, hf, -, rfl⟩ := hcopy c hc; exact hbound f hf
    · obtain ⟨f, hf, hfk, rfl⟩ := hcopy c hc; exact hcopies f hf hfk
  rw [rebuild_eq F k n (newestSerial_eq F k hk hmax) hn]
  obtain ⟨i, -, hw, hstop⟩ := walkOf_at hs
  have hle := hw.matches_le
  have hreleased := walkOf_released hs
  generalize walkOf F k n = w at hw hstop hle hreleased
  refine ⟨rfl, rfl, ?_, hreleased, ⟨fun h => ?_, fun h => (hw.start h).2⟩, fun h => ?_, fun h hlast => ?_⟩
  · show w.matches' + (heldFound F - w.matches') = heldFound F
    omega
  · refine Nat.eq_zero_of_not_pos fun hpos => ?_
    obtain ⟨x, e, -⟩ := hw.last hpos
    exact absurd (h.symm.trans e) (by simp)
  · have hcount := hw.count
    have hzero := (hw.start h).1
    exact List.length_eq_zero_iff.mp (show w.gaps.length = 0 by omega)
  · have hpos : 0 < w.matches' := by
      refine Nat.pos_of_ne_zero fun h0 => ?_
      exact absurd ((hw.start h0).2.symm.trans hlast) (by simp)
    obtain ⟨h', e, hexp, hslot, hi, g, hg, hgslot, hgser, hgr⟩ := hw.last hpos
    obtain rfl : h = h' := Option.some.inj (hlast.symm.trans e)
    have hserial := hw.serial
    have hcount := hw.count
    refine ⟨?_, ⟨g, hg, hgslot, hgser, hgr⟩, fun j hj hjk => ?_, ?_, (List.nodup_append.mp hw.nodup).2.1, fun b hb => ?_,
      fun f hf hser hr hback hnear => hw.cut_off hs hstop hlast hf hser hr hback hnear⟩
    · show h.serial + w.matches' = k + 1
      omega
    · obtain ⟨f, hf, hfj, hfr, hfi⟩ := hw.run j (by omega) hjk
      exact ⟨f, hf, hfj, hfr, by omega⟩
    · show w.matches' + w.gaps.length = slotsOn h.slot n + 1
      omega
    · obtain ⟨h1, h2⟩ := hw.gaps b hb
      exact ⟨h1, by omega⟩

end Sys2Proof.Machine
end

section
/-! PROOFS. Arbitration, request expiry and chunk outcomes of the signs (9.4 to 9.7). -/

namespace Sys2Proof.Machine

/-! ### The winner of arbitration (R154) -/

theorem winner_none (l : List Candidate) : winner l = none ↔ l = [] := by
  cases l with
  | nil => exact ⟨fun _ => rfl, fun _ => rfl⟩
  | cons c l =>
    refine ⟨fun h => ?_, fun h => nomatch h⟩
    unfold winner at h
    split at h
    · cases h
    · split at h <;> cases h

/-- The winner has the least priority number, and is the first of those that have it. -/
theorem winner_split (l : List Candidate) : ∀ c, winner l = some c → ∃ pre post : List Candidate, l = pre ++ c :: post ∧
    (∀ x ∈ pre, c.priority < x.priority) ∧ ∀ x ∈ post, c.priority ≤ x.priority := by
  induction l with
  | nil => exact fun c h => nomatch h
  | cons a l ih =>
    intro c h
    unfold winner at h
    cases hw : winner l with
    | none =>
      rw [hw] at h
      cases h
      rw [(winner_none l).mp hw]
      exact ⟨[], [], rfl, fun _ hx => absurd hx List.not_mem_nil, fun _ hx => absurd hx List.not_mem_nil⟩
    | some d =>
      rw [hw] at h
      dsimp only at h
      obtain ⟨pre, post, hl, hpre, hpost⟩ := ih d hw
      by_cases hle : a.priority ≤ d.priority
      · rw [if_pos hle] at h
        cases h
        refine ⟨[], l, rfl, fun _ hx => absurd hx List.not_mem_nil, fun x hx => ?_⟩
        rw [hl] at hx
        rcases List.mem_append.mp hx with hx | hx
        · exact hle.trans (Nat.le_of_lt (hpre x hx))
        · rcases List.mem_cons.mp hx with rfl | hx
          · exact hle
          · exact hle.trans (hpost x hx)
      · rw [if_neg hle] at h
        cases h
        refine ⟨a :: pre, post, by rw [hl]; rfl, fun x hx => ?_, hpost⟩
        rcases List.mem_cons.mp hx with rfl | hx
        · exact Nat.lt_of_not_le hle
        · exact hpre x hx

/-! ### A sign's NEXT (R155) -/

theorem Sign.setNext_same (r : Sign) (n : Option (Fin 8)) (h : n = r.next) : r.setNext n = r := if_pos h

theorem Sign.setNext_blank (r : Sign) (n : Option (Fin 8)) (h : n ≠ r.next) (hl : r.live = none) :
    r.setNext n = { r with next := n, live := n, cursor := 0 } := by
  unfold Sign.setNext
  rw [if_neg h, hl]

theorem Sign.setNext_page (r : Sign) (n : Option (Fin 8)) (h : n ≠ r.next) (hl : r.live ≠ none) : r.setNext n = { r with next := n } := by
  obtain ⟨p, hp⟩ := Option.ne_none_iff_exists'.mp hl
  unfold Sign.setNext
  rw [if_neg h, hp]

theorem Sign.setNext_next (r : Sign) (n : Option (Fin 8)) : (r.setNext n).next = n := by
  by_cases h : n = r.next
  · rw [r.setNext_same n h, h]
  · by_cases hl : r.live = none
    · rw [r.setNext_blank n h hl]
    · rw [r.setNext_page n h hl]

/-- While LIVE is a page it stays, with its cursor, until the refresh boundary. -/
theorem Sign.setNext_shows (r : Sign) (n : Option (Fin 8)) (hl : r.live ≠ none) :
    (r.setNext n).live = r.live ∧ (r.setNext n).cursor = r.cursor := by
  by_cases h : n = r.next
  · rw [r.setNext_same n h]; exact ⟨rfl, rfl⟩
  · rw [r.setNext_page n h hl]; exact ⟨rfl, rfl⟩

theorem State.arbitrate_self (s : State) (k : Fin 12) : (s.arbitrate k).sign.signs[k] = s.sign.signs[k].setNext (s.arbitrated k) := by
  unfold State.arbitrate; rw [State.modSignRec_get, if_pos rfl]

theorem State.arbitrate_other (s : State) (k j : Fin 12) (h : j ≠ k) : (s.arbitrate k).sign.signs[j] = s.sign.signs[j] := by
  unfold State.arbitrate; rw [State.modSignRec_get, if_neg h.symm]

theorem State.candidates_eq (s : State) (k : Fin 12) :
    s.candidates k = (s.sign.signs[k].request.elim [] fun q => [{ page := q.page, priority := q.priority }]) ++
      (List.finRange 32).filterMap fun i => if s.rules[i].effective = true ∧ s.rules[i].signs.getLsbD k.val = true then
        some { page := s.rules[i].page, priority := s.rules[i].priority } else none := by
  have hrules : ∀ i : Fin 32, (s.rules[i].effective && s.rules[i].signs.getLsbD k.val) = true ↔
      s.rules[i].effective = true ∧ s.rules[i].signs.getLsbD k.val = true := fun i => Bool.and_eq_true_iff
  unfold State.candidates
  simp only [hrules]
  cases s.sign.signs[k].request <;> rfl

/-- Settles O48. -/
theorem arbitrationTakesLeastPriority : Obligations.ArbitrationTakesLeastPriority := by
  refine ⟨winner_none, fun l c => winner_split l c, fun k l s hl => ?_, fun k s => ⟨?_, fun hl => ?_, fun j hj => s.arbitrate_other k j hj⟩,
    fun k q dl s hq hdl => ?_⟩
  · have hcand : s.candidates k = l := by
      rw [hl, State.candidates_eq]
      cases s.sign.signs[k].request <;> rfl
    unfold State.arbitrated
    rw [hcand]
    rfl
  · rw [s.arbitrate_self, Sign.setNext_next]
  · rw [s.arbitrate_self]; exact (Sign.setNext_shows _ _ hl).1
  · have hexec : exec (.signRequestExpiry k) s = .next ((s.reach dl).dropRequest k) :=
      congrArg Host.Outcome.next (s.onTimer_running (by rw [hq]; exact hdl) _)
    refine ⟨_, hexec, ?_⟩
    unfold State.dropRequest
    generalize hu : (s.reach dl).modSignRec k (fun r => { r with request := none }) = u
    have huk : u.sign.signs[k] = { s.sign.signs[k] with request := none } := by rw [← hu, State.modSignRec_get, if_pos rfl]; rfl
    have huj : ∀ j : Fin 12, j ≠ k → u.sign.signs[j] = s.sign.signs[j] := fun j hj => by
      rw [← hu, State.modSignRec_get, if_neg hj.symm]; rfl
    have hkept := Sign.setNext_kept u.sign.signs[k] (u.arbitrated k)
    refine ⟨?_, ?_, ?_, fun hl => ?_, fun hl hn => ?_, fun j hj => ?_, ?_, ?_⟩
    · rw [u.arbitrate_self, hkept.1, huk]
    · rw [u.arbitrate_self, Sign.setNext_next, State.arbitrated_arbitrate]
    · rw [u.arbitrate_self, hkept.2, huk]
    · rw [u.arbitrate_self]
      have := Sign.setNext_shows u.sign.signs[k] (u.arbitrated k) (by rw [huk]; exact hl)
      rw [huk] at this ⊢
      exact this
    · rw [u.arbitrate_self]
      by_cases h : u.arbitrated k = u.sign.signs[k].next
      · rw [Sign.setNext_same _ _ h, huk]; exact hl.trans hn.symm
      · rw [Sign.setNext_blank _ _ h (by rw [huk]; exact hl)]
    · rw [u.arbitrate_other k j hj, huj j hj]
    · rw [← hu]; rfl
    · rw [← hu]; rfl

/-! ### Chunk outcomes (R157) -/

theorem Sign.outcome_stale (r : Sign) (o : SignOutcome) (h : r.chunk = none ∨ ∃ f : Chunk, r.chunk = some f ∧ f.page ≠ r.live) :
    r.outcome o = { r with chunk := none, ctr := { r.ctr.outcome o with stale := bump (r.ctr.outcome o).stale } } := by
  have hstale : r.staleOutcome = true := by
    unfold Sign.staleOutcome
    rcases h with h | ⟨f, h, hp⟩
    · rw [h]
    · rw [h]; exact bne_iff_ne.mpr hp
  unfold Sign.outcome
  rw [hstale]
  rfl

theorem Sign.staleOutcome_current (r : Sign) (f : Chunk) (h : r.chunk = some f) (hp : f.page = r.live) : r.staleOutcome = false := by
  unfold Sign.staleOutcome
  rw [h]
  show (f.page != r.live) = false
  rw [hp]
  exact bne_self_eq_false _

theorem Sign.outcome_current (r : Sign) (o : SignOutcome) (f : Chunk) (h : r.chunk = some f) (hp : f.page = r.live) :
    r.outcome o = match o with
      | .ok => Sign.advance { r with chunk := none, ctr := r.ctr.outcome .ok }
      | _ => { r with chunk := none, ctr := r.ctr.outcome o } := by
  unfold Sign.outcome
  rw [r.staleOutcome_current f h hp]
  cases o <;> rfl

theorem Sign.advance_blank (r : Sign) (h : r.live = none) : r.advance = r := by unfold Sign.advance; rw [h]

theorem Sign.advance_page (r : Sign) (p : Fin 8) (h : r.live = some p) :
    r.advance = if r.cursor + 32 = r.pages[p].size then r.boundary else { r with cursor := r.cursor + 32 } := by
  unfold Sign.advance; rw [h]

/-- Settles O49: a stale outcome, one that keeps the cursor, and CHUNK-OK within the page and at its end. -/
theorem chunkOutcomeMovesCursor : Obligations.ChunkOutcomeMovesCursor := by
  refine ⟨fun x k e o s hkind hlink ho => ?_, fun r o c hc => ?_, fun r n => ⟨r.setNext_same n, r.setNext_blank n, r.setNext_page n⟩⟩
  · have ho' : e.sign = o := by
      rw [ho]
      cases e with
      | good r => cases r <;> rfl
      | bad => rfl
      | noReply => rfl
    unfold State.reportOutcome
    rw [hkind]
    dsimp only
    rw [hlink, ho']
    rfl
  · have hctr : r.ctr.outcome o = c := by rw [hc]; cases o <;> rfl
    have hstale : (r.ctr.outcome o).stale = r.ctr.stale := by cases o <;> rfl
    have hswaps : (r.ctr.outcome o).swaps = r.ctr.swaps := by cases o <;> rfl
    refine ⟨fun h => ?_, fun f hf hp => ⟨fun h => ?_, fun p hl ho => ?_⟩⟩
    · rw [r.outcome_stale o h, hstale, hctr]
    · rw [r.outcome_current o f hf hp, ← hctr]
      rcases h with hl | rfl | rfl
      · cases o with
        | ok => exact Sign.advance_blank _ hl
        | again => rfl
        | miss => rfl
      · rfl
      · rfl
    · subst ho
      rw [r.outcome_current .ok f hf hp]
      dsimp only
      rw [Sign.advance_page { r with chunk := none, ctr := r.ctr.outcome .ok } p hl, hctr]
      refine ⟨fun h => if_neg h, fun h hn => ?_, fun h hn => ?_⟩
      · rw [if_pos h]
        exact if_pos hn
      · rw [if_pos h, ← hswaps, hctr]
        exact if_neg hn

end Sys2Proof.Machine
end

section
/-! PROOFS. A change of supply state (10.5) with its broadcasts (3.5), the samples (10.1, 10.3, 10.4) and the feed-lost input. -/

namespace Sys2Proof.Machine

theorem State.unlessRepeater_run (s : State) (f : State → State) (h : s.repeater = false) : s.unlessRepeater f = f s :=
  if_neg (by rw [h]; decide)

/-! ### The broadcasts (R52) -/

/-- A drop whose broadcast is pending, after a choice: an IDLE line begins the broadcast (R49 step 1). -/
def Drop.broadcasts (l : Drop) (sup : SupplyState) (now : Nat) : Drop :=
  if l.line = .idle then
    { l with
      line := .sending, broadcast := false
      exch := some { snap := none, voice := false, begun := now, frame := frameBytes false 31 2 [sup.code] }
      ctr := { l.ctr with broadcasts := bump l.ctr.broadcasts } }
  else l

theorem State.modDrop_modDrop (s : State) (d : Fin 4) (f g : Drop → Drop) :
    (s.modDrop d f).modDrop d g = s.modDrop d fun l => g (f l) :=
  congrArg (fun v => { s with poll := { s.poll with drops := v } }) (updAt_updAt s.poll.drops d f g)

theorem State.modDrop_congr (s : State) (d : Fin 4) {f g : Drop → Drop} (h : f s.poll.drops[d] = g s.poll.drops[d]) :
    s.modDrop d f = s.modDrop d g :=
  congrArg (fun v => { s with poll := { s.poll with drops := v } }) (updAt_congr s.poll.drops d h)

theorem State.modDrop_same (s : State) (d : Fin 4) {f : Drop → Drop} (h : f s.poll.drops[d] = s.poll.drops[d]) : s.modDrop d f = s :=
  congrArg (fun v => { s with poll := { s.poll with drops := v } }) (updAt_same s.poll.drops d h)

theorem State.dropChoose_broadcast (s : State) (d : Fin 4) (hr : s.repeater = false) (hb : s.poll.drops[d].broadcast = true) :
    s.dropChoose d = s.modDrop d (·.broadcasts s.sup.state s.now) := by
  have hchoice : s.dropChoose d = if s.poll.drops[d].line = .idle then s.beginBroadcast d else s := by
    unfold State.dropChoose State.chooseFrom
    rw [hr, hb]
    by_cases h : s.poll.drops[d].line = .idle
    · rw [if_pos h, h]; rfl
    · rw [if_neg h, Bool.false_or, if_pos (bne_iff_ne.mpr h)]
  rw [hchoice]
  by_cases h : s.poll.drops[d].line = .idle
  · rw [if_pos h]
    have hone : s.poll.drops[d].broadcasts s.sup.state s.now = { s.poll.drops[d] with
        line := .sending, broadcast := false
        exch := some { snap := none, voice := false, begun := s.now, frame := frameBytes false 31 2 [s.sup.state.code] }
        ctr := { s.poll.drops[d].ctr with broadcasts := bump s.poll.drops[d].ctr.broadcasts } } := if_pos h
    exact (s.modDrop_modDrop d _ _).trans (s.modDrop_congr d (Eq.trans rfl hone.symm))
  · rw [if_neg h]
    have hone : s.poll.drops[d].broadcasts s.sup.state s.now = s.poll.drops[d] := if_neg h
    exact (s.modDrop_same d hone).symm

theorem State.forEach_broadcasts (l : List (Fin 4)) (hl : l.Nodup) (s : State) (hr : s.repeater = false)
    (hb : ∀ d : Fin 4, d ∈ l → s.poll.drops[d].broadcast = true) :
    s.forEach l (fun d s => s.dropChoose d) = { s with poll := { s.poll with drops := (s.forEach l fun d s => s.dropChoose d).poll.drops } } ∧
      ∀ d : Fin 4, (s.forEach l fun d s => s.dropChoose d).poll.drops[d] =
        if d ∈ l then s.poll.drops[d].broadcasts s.sup.state s.now else s.poll.drops[d] := by
  induction l generalizing s with
  | nil => exact ⟨rfl, fun d => (if_neg List.not_mem_nil).symm⟩
  | cons e l ih =>
    obtain ⟨he, hl⟩ := List.nodup_cons.mp hl
    have hone := s.dropChoose_broadcast e hr (hb e List.mem_cons_self)
    have hget : ∀ d : Fin 4, (s.dropChoose e).poll.drops[d] =
        if e = d then s.poll.drops[d].broadcasts s.sup.state s.now else s.poll.drops[d] := fun d => by
      rw [hone]; exact s.modDrop_get e d _
    have hne : ∀ d : Fin 4, d ∈ l → e ≠ d := fun d hd h => he (h ▸ hd)
    obtain ⟨hkept, hdrops⟩ := ih hl (s.dropChoose e) (by rw [hone]; exact hr)
      fun d hd => by rw [hget d, if_neg (hne d hd)]; exact hb d (List.mem_cons_of_mem e hd)
    have hfold : s.forEach (e :: l) (fun d s => s.dropChoose d) = (s.dropChoose e).forEach l fun d s => s.dropChoose d := rfl
    rw [hfold]
    refine ⟨hkept.trans ?_, fun d => ?_⟩
    · generalize ((s.dropChoose e).forEach l fun d s => s.dropChoose d).poll.drops = v
      rw [hone]; rfl
    · have hsup : (s.dropChoose e).sup = s.sup ∧ (s.dropChoose e).now = s.now := by rw [hone]; exact ⟨rfl, rfl⟩
      rw [hdrops d, hget d, hsup.1, hsup.2]
      by_cases hd : d ∈ l
      · rw [if_pos hd, if_neg (hne d hd), if_pos (List.mem_cons_of_mem e hd)]
      · rw [if_neg hd]
        by_cases hed : e = d
        · rw [if_pos hed, if_pos (hed ▸ List.mem_cons_self)]
        · rw [if_neg hed, if_neg (fun h => (List.mem_cons.mp h).elim (fun h => hed h.symm) hd)]

theorem State.dropsChoose_broadcasts (s : State) (hr : s.repeater = false) (hb : ∀ d : Fin 4, s.poll.drops[d].broadcast = true) :
    s.dropsChoose = { s with poll := { s.poll with drops := s.dropsChoose.poll.drops } } ∧
      ∀ d : Fin 4, s.dropsChoose.poll.drops[d] = s.poll.drops[d].broadcasts s.sup.state s.now := by
  obtain ⟨hkept, hdrops⟩ := s.forEach_broadcasts (List.finRange 4) (List.nodup_finRange 4) hr fun d _ => hb d
  exact ⟨hkept, fun d => (hdrops d).trans (if_pos (List.mem_finRange d))⟩

/-! ### A change of supply state (R166) -/

theorem Supply.enter_eq (p : Supply) (new : SupplyState) (cause : SupplyCause) (now : Nat) :
    p.enter new cause now = { p with
      state := new, cause := some cause, changedAt := some now, settle := none
      normalEntries := if new = .normal then bump p.normalEntries else p.normalEntries
      conserveEntries := if new = .conserve then bump p.conserveEntries else p.conserveEntries
      holdupEntries := if new = .holdup then bump p.holdupEntries else p.holdupEntries } := by
  cases new <;> rfl

/-- The report to the journal changes its condition, and what entering HALTED and the store arbiter change. -/
theorem State.supplyToJournal_spec (s : State) (old new : SupplyState) :
    s.supplyToJournal old new = { s with jrnl := (s.supplyToJournal old new).jrnl, ctl := (s.supplyToJournal old new).ctl } ∧
    (new = .holdup → (s.jrnl.cond = .accepting ∨ s.jrnl.cond = .full) → (s.supplyToJournal old new).jrnl = s.jrnl.halt) ∧
    (new ≠ .holdup → old = .holdup → s.jrnl.cond = .halted → (s.supplyToJournal old new).jrnl.cond = s.jrnl.openCond) := by
  unfold State.supplyToJournal
  refine ⟨?_, fun hn hc => ?_, fun hn ho hc => ?_⟩
  · split
    · unfold State.journalHoldup
      split <;> rfl
    · split
      · unfold State.journalHoldupEnds
        split
        · rw [(State.storeKick_started _).kept]; rfl
        · rfl
      · rfl
  · rw [if_pos hn, State.journalHoldup, if_pos hc]; rfl
  · rw [if_neg hn, if_pos ho, State.journalHoldupEnds, if_pos hc, (State.storeKick_started _).jrnl.kept]; rfl

/-- Settles O52: the notice is queued, the journal told, and then every IDLE line begins the broadcast. -/
theorem supplyChangeSetsBroadcasts : Obligations.SupplyChangeSetsBroadcasts := by
  intro new cause s t hr ht
  have hq := (s.modSup (·.enter new cause s.now)).notify_queued (.supply s.sup.state new cause s.sup.average)
  obtain ⟨hjk, hhalt, hopen⟩ := ((s.modSup (·.enter new cause s.now)).notify (.supply s.sup.state new cause s.sup.average)).supplyToJournal_spec
    s.sup.state new
  unfold State.changeSupply at ht
  dsimp only at ht
  generalize (s.modSup (·.enter new cause s.now)).notify (.supply s.sup.state new cause s.sup.average) = a at hq hjk hhalt hopen ht
  generalize a.supplyToJournal s.sup.state new = b at hjk hhalt hopen ht
  have hb : ∀ d : Fin 4, b.setBroadcasts.poll.drops[d] = { b.poll.drops[d] with broadcast := true } :=
    fun d => Vector.getElem_map ..
  have haj : a.jrnl = s.jrnl := by rw [hq.kept]; rfl
  have hap : a.poll = s.poll := by rw [hq.kept]; rfl
  have hbp : b.poll = s.poll := by rw [hjk]; exact hap
  have hbs : b.sup = s.sup.enter new cause s.now := by rw [hjk, hq.kept]; rfl
  have hbn : b.now = s.now := by rw [hjk, hq.kept]; rfl
  obtain ⟨htk, hdrops⟩ := b.setBroadcasts.dropsChoose_broadcasts (by rw [hjk, hq.kept]; exact hr) fun d => by rw [hb d]
  rw [← ht] at htk hdrops
  have htj : t.jrnl = b.jrnl := by rw [htk]; rfl
  have hta : t.agent = a.agent := by rw [htk]; show b.agent = a.agent; rw [hjk]
  have hsup : t.sup = s.sup.enter new cause s.now := by rw [htk]; exact hbs
  have hdrop : ∀ d : Fin 4, t.poll.drops[d] = ({ s.poll.drops[d] with broadcast := true } : Drop).broadcasts new s.now := fun d => by
    rw [hdrops d, hb d, hbp]
    show Drop.broadcasts _ b.sup.state b.now = _
    rw [hbs, hbn, Supply.enter_eq]
  refine ⟨hsup.trans (Supply.enter_eq ..), fun d => ⟨fun h => (hdrop d).trans (if_neg h), fun h => (hdrop d).trans (if_pos h)⟩,
    ?_, fun hne hroom => ?_, fun hn hc => ?_, fun hn ho hc => ?_, ?_⟩
  · rw [hta]; exact hq.serial hr
  · rw [hta, hq.notices hr hne (by simpa using hroom)]
    simp
  · rw [htj, hhalt hn (by rw [haj]; exact hc), haj]
    exact ⟨rfl, rfl, rfl, rfl, rfl, fun i e he => s.jrnl.halt_answers i e he⟩
  · rw [htj, hopen hn ho (by rw [haj]; exact hc), haj]; rfl
  · rw [htk, hjk, hq.kept]; rfl

/-! ### Samples (R161 to R165) -/

theorem pushSample_eq (w : List Nat) (level : Nat) (h : w.length ≤ 8) :
    pushSample w level = (if w.length = 8 then w.drop 1 else w) ++ [min level 4000] := by
  unfold pushSample
  by_cases h8 : w.length = 8
  · rw [if_pos h8, h8]; exact List.drop_append_of_le_length (by omega)
  · rw [if_neg h8, show w.length + 1 - 8 = 0 by omega]; rfl

/-- The monitor after the judgement of a formed average (R163) and the change it makes (R166, R167). -/
def Supply.afterJudgement (p : Supply) (avg now : Nat) : Supply :=
  match p.judged avg with
  | some c => p.enter c.1 c.2 now
  | none => p

theorem State.judgeAverage_sup (s : State) (avg : Nat) (hr : s.repeater = false) :
    (s.judgeAverage avg).sup = (s.sup.afterJudgement avg s.now).testSettle avg s.now ∧ (s.judgeAverage avg).now = s.now := by
  unfold State.judgeAverage Supply.afterJudgement
  cases s.sup.judged avg with
  | none => exact ⟨rfl, rfl⟩
  | some c =>
    obtain ⟨hsup, _, _, _, _, _, hkept⟩ := supplyChangeSetsBroadcasts c.1 c.2 s _ hr rfl
    have hnow := congrArg State.now hkept
    dsimp only
    generalize s.changeSupply c.1 c.2 = u at hsup hnow
    refine ⟨?_, hnow⟩
    show Supply.testSettle u.sup avg u.now = _
    rw [hnow, hsup, ← Supply.enter_eq]

/-- The test of the settle timer changes the timer and the count of its restarts alone. -/
theorem Supply.testSettle_kept (p : Supply) (avg now : Nat) :
    ∃ settle restarts, p.testSettle avg now = { p with settle := settle, settleRestarts := restarts } := by
  unfold Supply.testSettle
  split
  · exact ⟨p.settle, p.settleRestarts, rfl⟩
  · split
    · exact ⟨some (now + 2000), p.settleRestarts, rfl⟩
    · exact ⟨p.settle, p.settleRestarts, rfl⟩
    · exact ⟨none, bump p.settleRestarts, rfl⟩
    · exact ⟨p.settle, p.settleRestarts, rfl⟩

theorem Supply.testSettle_normal (p : Supply) (avg now : Nat) (h : p.state = .normal) : p.testSettle avg now = p := if_pos h

/-- The settle timer where the condition stands: it starts, or runs on. -/
theorem Supply.testSettle_stands (p : Supply) (avg now : Nat) (h : p.settles avg = true) :
    (p.settle = none → (p.testSettle avg now).settle = some (now + 2000)) ∧
      (p.settle ≠ none → (p.testSettle avg now).settle = p.settle) ∧ (p.testSettle avg now).settleRestarts = p.settleRestarts := by
  have hn : p.state ≠ .normal := fun hn => by unfold Supply.settles at h; rw [hn] at h; cases h
  unfold Supply.testSettle
  rw [if_neg hn, h]
  cases hs : p.settle with
  | none => exact ⟨fun _ => rfl, fun h => absurd rfl h, rfl⟩
  | some k => exact ⟨fun h => (nomatch h), fun _ => hs, rfl⟩

/-- And where it does not: a running one is cancelled and counted. -/
theorem Supply.testSettle_falls (p : Supply) (avg now : Nat) (hn : p.state ≠ .normal) (h : p.settles avg = false) :
    (p.testSettle avg now).settle = none ∧
      (p.testSettle avg now).settleRestarts = if p.settle = none then p.settleRestarts else bump p.settleRestarts := by
  unfold Supply.testSettle
  rw [if_neg hn, h]
  cases hs : p.settle with
  | none => exact ⟨hs, rfl⟩
  | some k => exact ⟨rfl, rfl⟩

/-- The judgement leaves all but the state and its notes. -/
theorem Supply.afterJudgement_kept (p : Supply) (avg now : Nat) :
    (p.afterJudgement avg now).average = p.average ∧ (p.afterJudgement avg now).lowest = p.lowest ∧
      (p.afterJudgement avg now).window = p.window ∧ (p.afterJudgement avg now).sample = p.sample ∧
      (p.afterJudgement avg now).feedLost = p.feedLost ∧ (p.afterJudgement avg now).levels = p.levels ∧
      (p.afterJudgement avg now).settleRestarts = p.settleRestarts := by
  unfold Supply.afterJudgement
  split
  · rw [Supply.enter_eq]; exact ⟨rfl, rfl, rfl, rfl, rfl, rfl, rfl⟩
  · exact ⟨rfl, rfl, rfl, rfl, rfl, rfl, rfl⟩

theorem Supply.afterJudgement_stays (p : Supply) (avg now : Nat) (h : p.judged avg = none) : p.afterJudgement avg now = p := by
  unfold Supply.afterJudgement; rw [h]

theorem Supply.afterJudgement_moves (p : Supply) (avg now : Nat) (new : SupplyState) (cause : SupplyCause) (h : p.judged avg = some (new, cause)) :
    p.afterJudgement avg now = p.enter new cause now := by
  unfold Supply.afterJudgement; rw [h]

theorem Supply.judged_holdup (p : Supply) (avg : Nat) (h : p.state = .holdup) : p.judged avg = none := by
  unfold Supply.judged; rw [h]

theorem Supply.judged_feedLost (p : Supply) (avg : Nat) (h : p.state ≠ .holdup) (hf : p.feedLost = true) :
    p.judged avg = some (.holdup, .feedLost) := by
  unfold Supply.judged
  cases hs : p.state with
  | holdup => exact absurd hs h
  | normal => exact if_pos hf
  | conserve => exact if_pos hf

/-- The judgement by level, with the feed not lost. -/
theorem Supply.judged_level (p : Supply) (avg : Nat) (h : p.state ≠ .holdup) (hf : p.feedLost = false) :
    p.judged avg = if avg < p.levels.holdupEntry then some (.holdup, .level)
      else if p.state = .normal ∧ avg < p.levels.conserveEntry ∧ avg < p.levels.conserveExit then some (.conserve, .level) else none := by
  unfold Supply.judged
  cases hs : p.state with
  | holdup => exact absurd hs h
  | normal => exact if_neg (by rw [hf]; decide)
  | conserve => exact if_neg (by rw [hf]; decide)

/-- After a change of state by the judgement the settle timer does not run: the new state's own condition for it cannot stand. -/
theorem Supply.judged_unsettled (p : Supply) (avg now : Nat) (new : SupplyState) (cause : SupplyCause) (h : p.judged avg = some (new, cause))
    (horder : p.levels.holdupEntry ≤ p.levels.holdupExit) : (p.enter new cause now).settles avg = false ∧ new ≠ .normal := by
  have hs : p.state ≠ .holdup := fun hs => by rw [p.judged_holdup avg hs] at h; cases h
  rw [Supply.enter_eq]
  by_cases hf : p.feedLost = true
  · rw [p.judged_feedLost avg hs hf] at h
    cases h
    refine ⟨?_, SupplyState.noConfusion⟩
    show (!p.feedLost && _) = false
    rw [hf]; rfl
  · rw [p.judged_level avg hs (by simpa using hf)] at h
    split_ifs at h with hlow hmid
    · cases h
      refine ⟨?_, SupplyState.noConfusion⟩
      show (!p.feedLost && decide (p.levels.holdupExit ≤ avg)) = false
      rw [decide_eq_false (by omega), Bool.and_false]
    · cases h
      exact ⟨decide_eq_false (Nat.not_le.mpr hmid.2.2), SupplyState.noConfusion⟩

/-! ### Settled: samples -/

theorem exec_sampleTimerExpiry (level : Nat) (s : State) (hr : s.repeater = false) :
    exec (.sampleTimerExpiry level) s = .next ((s.reach s.sup.sample).sampleFeed level) := by
  show Host.Outcome.next _ = _
  rw [s.unlessRepeater_run _ hr, s.onTimer_running rfl]

/-- A sample that forms no average. -/
theorem State.sampleFeed_short (s : State) (level : Nat) (h : (pushSample s.sup.window level).length ≠ 8) :
    s.sampleFeed level = s.modSup (·.sampled s.agent.params.levels level s.now) := by
  unfold State.sampleFeed
  dsimp only
  rw [show (s.modSup (·.sampled s.agent.params.levels level s.now)).sup.average = none from if_neg h]

theorem State.sampleFeed_formed (s : State) (level : Nat) (h : (pushSample s.sup.window level).length = 8) :
    s.sampleFeed level = (s.modSup (·.sampled s.agent.params.levels level s.now)).judgeAverage ((pushSample s.sup.window level).sum / 8) := by
  unfold State.sampleFeed
  dsimp only
  rw [show (s.modSup (·.sampled s.agent.params.levels level s.now)).sup.average = some ((pushSample s.sup.window level).sum / 8) from
    if_pos h]

/-- What the judgement and the test make of a monitor p with the average avg formed: the part of O50 that speaks of eight samples. -/
theorem Supply.judged_and_tested (p q : Supply) (avg now : Nat) (hq : q = (p.afterJudgement avg now).testSettle avg now) :
    (q.average = p.average ∧ q.lowest = p.lowest ∧ q.window = p.window ∧ q.sample = p.sample ∧ q.feedLost = p.feedLost ∧ q.levels = p.levels) ∧
    q.state = (p.afterJudgement avg now).state ∧ q.cause = (p.afterJudgement avg now).cause ∧
    (∀ hold : Prop, (p.state = .holdup ∧ (hold ↔ p.feedLost = false ∧ p.levels.holdupExit ≤ avg)) ∨
        (p.state = .conserve ∧ q.state = .conserve ∧ (hold ↔ p.levels.conserveExit ≤ avg)) →
      (hold → p.settle = none → q.settle = some (now + 2000) ∧ q.settleRestarts = p.settleRestarts) ∧
      (hold → p.settle ≠ none → q.settle = p.settle ∧ q.settleRestarts = p.settleRestarts) ∧
      (¬hold → p.settle ≠ none → q.settle = none ∧ q.settleRestarts = bump p.settleRestarts) ∧
      (¬hold → p.settle = none → q.settle = none ∧ q.settleRestarts = p.settleRestarts)) ∧
    (p.state = .normal → q.state = .normal → q.settle = p.settle ∧ q.settleRestarts = p.settleRestarts) ∧
    (q.state ≠ p.state → p.levels.holdupEntry ≤ p.levels.holdupExit → q.settle = none ∧ q.settleRestarts = p.settleRestarts) := by
  obtain ⟨ha, hlow, hw, hsm, hfl, hlv, hre⟩ := p.afterJudgement_kept avg now
  obtain ⟨x, n, hkept⟩ := (p.afterJudgement avg now).testSettle_kept avg now
  have hstate : q.state = (p.afterJudgement avg now).state := by rw [hq, hkept]
  refine ⟨?_, hstate, by rw [hq, hkept], fun hold hh => ?_, fun hn hqn => ?_, fun hne ho => ?_⟩
  · rw [hq, hkept]
    exact ⟨ha, hlow, hw, hsm, hfl, hlv⟩
  · obtain ⟨hj, hsettles⟩ : p.judged avg = none ∧ (p.settles avg = true ↔ hold) := by
      rcases hh with ⟨hs, hh⟩ | ⟨hs, hqs, hh⟩
      · refine ⟨p.judged_holdup avg hs, ?_⟩
        rw [hh]; unfold Supply.settles; rw [hs]; simp
      · refine ⟨?_, ?_⟩
        · cases hjc : p.judged avg with
          | none => rfl
          | some c =>
            rw [hstate, p.afterJudgement_moves avg now c.1 c.2 hjc, Supply.enter_eq] at hqs
            have hns : p.state ≠ .holdup := by rw [hs]; decide
            by_cases hf : p.feedLost = true
            · rw [p.judged_feedLost avg hns hf] at hjc; cases hjc; cases hqs
            · rw [p.judged_level avg hns (by simpa using hf), hs] at hjc
              split_ifs at hjc with hl hm
              · cases hjc; cases hqs
              · cases hm.1
        · rw [hh]; unfold Supply.settles; rw [hs]; simp
    rw [p.afterJudgement_stays avg now hj] at hq
    subst hq
    have hn : p.state ≠ .normal := by rcases hh with ⟨hs, _⟩ | ⟨hs, _, _⟩ <;> rw [hs] <;> decide
    refine ⟨fun h hz => ?_, fun h hz => ?_, fun h hz => ?_, fun h hz => ?_⟩
    · obtain ⟨h1, h2, h3⟩ := p.testSettle_stands avg now (hsettles.mpr h)
      exact ⟨h1 hz, h3⟩
    · obtain ⟨h1, h2, h3⟩ := p.testSettle_stands avg now (hsettles.mpr h)
      exact ⟨h2 hz, h3⟩
    · obtain ⟨h1, h2⟩ := p.testSettle_falls avg now hn (Bool.eq_false_iff.mpr fun hc => h (hsettles.mp hc))
      exact ⟨h1, h2.trans (if_neg hz)⟩
    · obtain ⟨h1, h2⟩ := p.testSettle_falls avg now hn (Bool.eq_false_iff.mpr fun hc => h (hsettles.mp hc))
      exact ⟨h1, h2.trans (if_pos hz)⟩
  · rw [hstate] at hqn
    rw [hq, Supply.testSettle_normal _ avg now hqn]
    cases hj : p.judged avg with
    | none => rw [p.afterJudgement_stays avg now hj]; exact ⟨rfl, rfl⟩
    | some c =>
      rw [p.afterJudgement_moves avg now c.1 c.2 hj, Supply.enter_eq] at hqn
      have hns : p.state ≠ .holdup := by rw [hn]; decide
      by_cases hf : p.feedLost = true
      · rw [p.judged_feedLost avg hns hf] at hj; cases hj; cases hqn
      · rw [p.judged_level avg hns (by simpa using hf)] at hj
        split_ifs at hj <;> cases hj <;> cases hqn
  · cases hj : p.judged avg with
    | none => rw [hstate, p.afterJudgement_stays avg now hj] at hne; exact absurd rfl hne
    | some c =>
      obtain ⟨hset, hnn⟩ := p.judged_unsettled avg now c.1 c.2 hj ho
      rw [hq, p.afterJudgement_moves avg now c.1 c.2 hj]
      obtain ⟨h1, h2⟩ := (p.enter c.1 c.2 now).testSettle_falls avg now (by rw [Supply.enter_eq]; exact hnn) hset
      rw [h1, h2, Supply.enter_eq]
      exact ⟨rfl, if_pos rfl⟩

/-- Settles O50: the sample joins the window, and a formed average is judged and then tests the settle timer. -/
theorem sampleIsAveragedAndJudged : Obligations.SampleIsAveragedAndJudged := by
  intro level w s hr hlen hw
  have hpush : pushSample s.sup.window level = w := by rw [hw]; exact pushSample_eq _ level hlen
  refine ⟨_, exec_sampleTimerExpiry level s hr, ?_⟩
  have hp : (s.reach s.sup.sample).modSup (·.sampled s.agent.params.levels level (max s.now s.sup.sample)) =
      { s with now := max s.now s.sup.sample, sup := { s.sup with
          levels := s.agent.params.levels, window := w, average := averageSample w, lowest := lowerOf s.sup.lowest (averageSample w)
          sample := max s.now s.sup.sample + 1 } } := by
    rw [← hpush]; rfl
  by_cases h8 : w.length = 8
  · have hform := (s.reach s.sup.sample).sampleFeed_formed level (by rw [← hpush] at h8; exact h8)
    change _ = State.judgeAverage ((s.reach s.sup.sample).modSup (·.sampled s.agent.params.levels level (max s.now s.sup.sample)))
      ((pushSample s.sup.window level).sum / 8) at hform
    rw [hp, hpush, show averageSample w = some (w.sum / 8) from if_pos h8] at hform
    obtain ⟨hsup, hnow⟩ := State.judgeAverage_sup { s with now := max s.now s.sup.sample, sup := { s.sup with
          levels := s.agent.params.levels, window := w, average := some (w.sum / 8), lowest := lowerOf s.sup.lowest (some (w.sum / 8))
          sample := max s.now s.sup.sample + 1 } } (w.sum / 8) hr
    rw [← hform] at hsup hnow
    generalize (s.reach s.sup.sample).sampleFeed level = t at hsup hnow
    dsimp only at hsup hnow
    obtain ⟨⟨hav, hlow, hwin, hsm, hfl, hlv⟩, hstate, hcause, hhold, hnorm, hmove⟩ := Supply.judged_and_tested _ _ _ _ hsup
    generalize hpe : ({ s.sup with
          levels := s.agent.params.levels, window := w, average := some (w.sum / 8), lowest := lowerOf s.sup.lowest (some (w.sum / 8))
          sample := max s.now s.sup.sample + 1 } : Supply) = p at hav hlow hwin hsm hfl hlv hstate hcause hhold hnorm hmove
    have hps : p.state = s.sup.state := by rw [← hpe]
    have hpc : p.cause = s.sup.cause := by rw [← hpe]
    have hpf : p.feedLost = s.sup.feedLost := by rw [← hpe]
    have hpl : p.levels = s.agent.params.levels := by rw [← hpe]
    have hpt : p.settle = s.sup.settle ∧ p.settleRestarts = s.sup.settleRestarts := by rw [← hpe]; exact ⟨rfl, rfl⟩
    rw [hps, hpf, hpl, hpt.1, hpt.2] at hhold
    rw [hps, hpt.1, hpt.2] at hnorm
    rw [hps, hpl, hpt.2] at hmove
    refine ⟨hnow, by rw [hwin, ← hpe], by rw [hsm, ← hpe, hnow], hfl.trans hpf, hlv.trans hpl, fun h => by omega, fun _ =>
      ⟨by rw [hav, ← hpe], ?_, fun hs => ?_, fun hs hf => ?_, fun hs hf hlev => ?_, fun hs hf hlev => ⟨fun hm => ?_, fun hm => ?_⟩, ?_, hnorm, hmove⟩⟩
    · rw [hlow, ← hpe]
      show lowerOf s.sup.lowest (some (w.sum / 8)) = _
      cases s.sup.lowest <;> rfl
    · rw [hstate, hcause, p.afterJudgement_stays _ _ (p.judged_holdup _ (hps.trans hs)), hpc, hps]
      exact ⟨hs, rfl⟩
    · rw [hstate, hcause, p.afterJudgement_moves _ _ _ _ (p.judged_feedLost _ (by rw [hps]; exact hs) (hpf.trans hf)), Supply.enter_eq]
      exact ⟨rfl, rfl⟩
    · have hj := p.judged_level (w.sum / 8) (by rw [hps]; exact hs) (hpf.trans hf)
      rw [hpl, if_pos (show w.sum / 8 < s.agent.params.levels.holdupEntry from hlev)] at hj
      rw [hstate, hcause, p.afterJudgement_moves _ _ _ _ hj, Supply.enter_eq]
      exact ⟨rfl, rfl⟩
    · have hj := p.judged_level (w.sum / 8) (by rw [hps]; exact hs) (hpf.trans hf)
      rw [hpl, if_neg (show ¬ w.sum / 8 < s.agent.params.levels.holdupEntry from Nat.not_lt.mpr hlev), hps] at hj
      replace hj := hj.trans (if_pos hm)
      rw [hstate, hcause, p.afterJudgement_moves _ _ _ _ hj, Supply.enter_eq]
      exact ⟨rfl, rfl⟩
    · have hj := p.judged_level (w.sum / 8) (by rw [hps]; exact hs) (hpf.trans hf)
      rw [hpl, if_neg (show ¬ w.sum / 8 < s.agent.params.levels.holdupEntry from Nat.not_lt.mpr hlev), hps] at hj
      replace hj := hj.trans (if_neg hm)
      rw [hstate, hcause, p.afterJudgement_stays _ _ hj]
      exact ⟨hps, hpc⟩
    · rw [hnow]; exact hhold
  · have hshort := (s.reach s.sup.sample).sampleFeed_short level (by rw [← hpush] at h8; exact h8)
    change _ = State.modSup (s.reach s.sup.sample) (·.sampled s.agent.params.levels level (max s.now s.sup.sample)) at hshort
    rw [hp, show averageSample w = none from if_neg h8] at hshort
    rw [hshort]
    exact ⟨rfl, rfl, rfl, rfl, rfl, fun _ => rfl, fun h => absurd h h8⟩

/-! ### Settled: the settle timer and the feed-lost input -/

/-- The state the settle timer's expiry leads to (R165). -/
def Supply.settledTo (p : Supply) : SupplyState :=
  match p.state, p.average with
  | .holdup, some avg => if avg < p.levels.conserveExit then .conserve else .normal
  | _, _ => .normal

theorem State.settleExpires_moves (s : State) (h : s.sup.state ≠ .normal) : s.settleExpires = s.changeSupply s.sup.settledTo .settled := by
  unfold State.settleExpires
  cases hs : s.sup.state with
  | normal => exact absurd hs h
  | conserve => rw [show s.sup.settledTo = .normal by unfold Supply.settledTo; rw [hs]]
  | holdup =>
    cases ha : s.sup.average with
    | none => rw [show s.sup.settledTo = .normal by unfold Supply.settledTo; rw [hs, ha]]
    | some avg =>
      rw [show s.sup.settledTo = if avg < s.sup.levels.conserveExit then .conserve else .normal by unfold Supply.settledTo; rw [hs, ha]]
      exact (apply_ite (fun n => s.changeSupply n .settled) _ _ _).symm

/-- The state once an assertion of the feed-lost input is noted (R164). -/
def State.feedLostNoted (s : State) : State := s.modSup fun p => { p with feedLost := true, feedLosses := bump p.feedLosses }

theorem State.assertFeedLost_holdup (s : State) (h : s.sup.state = .holdup) :
    s.assertFeedLost = s.feedLostNoted.modSup fun p => { p with settle := none } := by
  unfold State.assertFeedLost State.feedLostNoted
  dsimp only
  rw [show (s.modSup fun p => { p with feedLost := true, feedLosses := bump p.feedLosses }).sup.state = .holdup from h]

theorem State.assertFeedLost_unformed (s : State) (h : s.sup.state ≠ .holdup) (ha : s.sup.average = none) :
    s.assertFeedLost = s.feedLostNoted := by
  unfold State.assertFeedLost State.feedLostNoted
  dsimp only
  rw [show (s.modSup fun p => { p with feedLost := true, feedLosses := bump p.feedLosses }).sup.average = none from ha,
    show (s.modSup fun p => { p with feedLost := true, feedLosses := bump p.feedLosses }).sup.state = s.sup.state from rfl]
  cases hs : s.sup.state with
  | holdup => exact absurd hs h
  | normal => rfl
  | conserve => rfl

theorem State.assertFeedLost_formed (s : State) (a : Nat) (h : s.sup.state ≠ .holdup) (ha : s.sup.average = some a) :
    s.assertFeedLost = s.feedLostNoted.changeSupply .holdup .feedLost := by
  unfold State.assertFeedLost State.feedLostNoted
  dsimp only
  rw [show (s.modSup fun p => { p with feedLost := true, feedLosses := bump p.feedLosses }).sup.average = some a from ha,
    show (s.modSup fun p => { p with feedLost := true, feedLosses := bump p.feedLosses }).sup.state = s.sup.state from rfl]
  cases hs : s.sup.state with
  | holdup => exact absurd hs h
  | normal => rfl
  | conserve => rfl

/-- The settle timer after a negation (R164). -/
def Supply.settleNegated (p : Supply) (now : Nat) : Option Nat :=
  match p.state, p.average with
  | .holdup, some avg => if p.levels.holdupExit ≤ avg then some (now + 2000) else p.settle
  | _, _ => p.settle

theorem State.negateFeedLost_eq (s : State) :
    s.negateFeedLost = { s with sup := { s.sup with feedLost := false, settle := s.sup.settleNegated s.now } } := by
  unfold State.negateFeedLost
  dsimp only
  split
  · rename_i avg hs ha
    have hset : s.sup.settleNegated s.now = if s.sup.levels.holdupExit ≤ avg then some (s.now + 2000) else s.sup.settle := by
      unfold Supply.settleNegated
      rw [show s.sup.state = .holdup from hs, show s.sup.average = some avg from ha]
    by_cases h : s.sup.levels.holdupExit ≤ avg
    · rw [if_pos h] at hset; rw [hset]; exact if_pos h
    · rw [if_neg h] at hset; rw [hset]; exact if_neg h
  · rename_i hother
    have hset : s.sup.settleNegated s.now = s.sup.settle := by
      unfold Supply.settleNegated
      split
      · rename_i avg hs ha
        exact absurd ha (hother avg hs)
      · rfl
    rw [hset]
    rfl

/-- Settles O51: each event makes the change of state its case names, or none. -/
theorem settleAndFeedLostMoveSupply : Obligations.SettleAndFeedLostMoveSupply := by
  refine ⟨fun dl s hr hset hn => ?_, fun s hr hf => ?_, fun s hr hf => ?_⟩
  · have hexec : exec .settleTimerExpiry s = .next (s.reach dl).settleExpires := by
      show Host.Outcome.next _ = _
      rw [s.unlessRepeater_run _ hr, s.onTimer_running hset]
    refine ⟨_, hexec, ?_⟩
    have hne : s.sup.settledTo ≠ .holdup := by
      unfold Supply.settledTo
      split
      · split <;> decide
      · decide
    obtain ⟨hsup, _, _, _, _, hopen, _⟩ := supplyChangeSetsBroadcasts s.sup.settledTo .settled (s.reach dl) _ hr rfl
    rw [State.settleExpires_moves (s.reach dl) hn, show (s.reach dl).sup.settledTo = s.sup.settledTo from rfl]
    generalize (s.reach dl).changeSupply s.sup.settledTo .settled = t at hsup hopen
    rw [hsup]
    exact ⟨rfl, rfl, rfl, rfl, rfl, hopen hne⟩
  · have hexec : exec .feedLostAsserted s = .next s.assertFeedLost := by
      show Host.Outcome.next _ = _
      rw [if_neg (by rw [hf]; decide), if_neg (by rw [hr]; decide)]
    refine ⟨_, hexec, ?_⟩
    by_cases hs : s.sup.state = .holdup
    · rw [s.assertFeedLost_holdup hs]
      exact ⟨rfl, rfl, rfl, fun h => absurd hs h, fun h => absurd hs h, fun _ => rfl⟩
    · cases ha : s.sup.average with
      | none =>
        rw [s.assertFeedLost_unformed hs ha]
        exact ⟨rfl, rfl, ha, fun _ h => (nomatch h), fun _ _ => rfl, fun h => absurd h hs⟩
      | some a =>
        rw [s.assertFeedLost_formed a hs ha]
        have hsup := (supplyChangeSetsBroadcasts .holdup .feedLost s.feedLostNoted _ hr rfl).1
        generalize s.feedLostNoted.changeSupply .holdup .feedLost = t at hsup
        rw [hsup]
        exact ⟨rfl, rfl, ha, fun _ _ => ⟨rfl, rfl, rfl, rfl⟩, fun _ h => (nomatch h), fun h => absurd h hs⟩
  · have hexec : exec .feedLostNegated s = .next s.negateFeedLost := by
      show Host.Outcome.next _ = _
      rw [if_pos hf, if_neg (by rw [hr]; decide)]
    rw [hexec]
    rw [s.negateFeedLost_eq]
    rfl

end Sys2Proof.Machine
end

section
/-! PROOFS. The four reduction stages (8.1 to 8.4) and the events of a drop line (3.1). -/

namespace Sys2Proof.Machine

/-! ### Windows (R133) -/

theorem pushWindow_eq (n : Nat) (w : List Int) (x : Int) (hn : 1 ≤ n) (h : w.length ≤ n) :
    pushWindow n w x = (if w.length = n then w.drop 1 else w) ++ [x] := by
  unfold pushWindow
  by_cases hw : w.length = n
  · rw [if_pos hw, show w.length + 1 - n = 1 by omega]; exact List.drop_append_of_le_length (by omega)
  · rw [if_neg hw, show w.length + 1 - n = 0 by omega]; rfl

/-- A channel that takes a value: the window with it, and its average. -/
theorem pushChannel_value (n : Nat) (w : List Int) (avg : Option Int) (x : Int) (hn : 1 ≤ n) (h : w.length ≤ n) :
    (pushChannel n w avg (some x)).1 = (if w.length = n then w.drop 1 else w) ++ [x] ∧
      (pushChannel n w avg (some x)).2 = if (pushChannel n w avg (some x)).1.length = n
        then some ((pushChannel n w avg (some x)).1.sum.fdiv n) else none :=
  ⟨pushWindow_eq n w x hn h, rfl⟩

theorem largest_spec (l : List Int) (h : l ≠ []) : ∃ m ∈ l, largest l = some m ∧ ∀ y ∈ l, y ≤ m := by
  induction l with
  | nil => exact absurd rfl h
  | cons x l ih =>
    by_cases hl : l = []
    · subst hl
      exact ⟨x, List.mem_singleton_self x, rfl, fun y hy => le_of_eq (List.mem_singleton.mp hy)⟩
    · obtain ⟨m, hm, hlarge, hle⟩ := ih hl
      refine ⟨max x m, ?_, by unfold largest; rw [hlarge], fun y hy => ?_⟩
      · rcases max_choice x m with h | h <;> rw [h]
        · exact List.mem_cons_self
        · exact List.mem_cons_of_mem x hm
      · rcases List.mem_cons.mp hy with rfl | hy
        · exact le_max_left y m
        · exact (hle y hy).trans (le_max_right x m)

/-! ### A temperature's first two stages (R131, R132) -/

theorem tempValid_iff (t : Int) : tempValid t = true ↔ -4000 ≤ t ∧ t ≤ 8000 := by
  unfold tempValid; rw [Bool.and_eq_true, decide_eq_true_iff, decide_eq_true_iff]

theorem zeroValid_iff (z : Int) : zeroValid z = true ↔ -500 ≤ z ∧ z ≤ 500 := by
  unfold zeroValid; rw [Bool.and_eq_true, decide_eq_true_iff, decide_eq_true_iff]

theorem staged_valid (offset : Bool) (z t : Int) (h : -4000 ≤ t) (h' : t ≤ 8000) :
    staged offset z t = some (if offset = true ∧ -500 ≤ z ∧ z ≤ 500 then max (-4000) (min 8000 (t - z)) else t) := by
  unfold staged
  rw [if_pos ((tempValid_iff t).mpr ⟨h, h'⟩)]
  by_cases hz : offset = true ∧ -500 ≤ z ∧ z ≤ 500
  · rw [if_pos hz, if_pos (Bool.and_eq_true_iff.mpr ⟨hz.1, (zeroValid_iff z).mpr hz.2⟩)]; rfl
  · rw [if_neg hz, if_neg fun hb => hz ((Bool.and_eq_true_iff.mp hb).imp id (zeroValid_iff z).mp)]

theorem tempValid_out (t : Int) (h : t < -4000 ∨ 8000 < t) : tempValid t = false := by
  rw [Bool.eq_false_iff, ne_eq, tempValid_iff]; omega

theorem staged_out (offset : Bool) (z t : Int) (h : t < -4000 ∨ 8000 < t) : staged offset z t = none :=
  if_neg (by rw [tempValid_out t h]; decide)

/-! ### The wind stage (R134, R135) -/

theorem ReductionSlot.windCase_average (r : ReductionSlot) (x : Reading) (now : Nat) : (r.average x).windCase x now = r.windCase x now := rfl

/-- The slot after a reading whose fourth stage enters no speed, the wind's counters as given. -/
def ReductionSlot.processedStill (r : ReductionSlot) (x : Reading) (now restart gap : Nat) : ReductionSlot :=
  { r.average x with
    prev := some { count := x.wc, stamp := x.tm, storedAt := now }, fresh := true
    ctr := { r.countStages x with windRestart := restart, windGap := gap, readings := bump r.ctr.readings } }

/-- And after one whose fourth stage enters the speed v. -/
def ReductionSlot.processedSpeed (r : ReductionSlot) (x : Reading) (now v : Nat) (clamped : Bool) : ReductionSlot :=
  { (r.average x).pushSpeed v with
    prev := some { count := x.wc, stamp := x.tm, storedAt := now }, fresh := true
    ctr := { r.countStages x with
      windClamp := if clamped = true then bump r.ctr.windClamp else r.ctr.windClamp, readings := bump r.ctr.readings } }

/-- The wind's count of restarts and of gaps after a reading. -/
theorem ReductionSlot.process_eq (r : ReductionSlot) (x : Reading) (now : Nat) : r.process x now =
    match r.windCase x now with
    | .restart => r.processedStill x now (bump r.ctr.windRestart) r.ctr.windGap
    | .noPrevious => r.processedStill x now r.ctr.windRestart r.ctr.windGap
    | .gap => r.processedStill x now r.ctr.windRestart (bump r.ctr.windGap)
    | .speed v clamped => r.processedSpeed x now v clamped := by
  unfold ReductionSlot.process ReductionSlot.windStage
  rw [r.windCase_average]
  cases r.windCase x now with
  | restart => rfl
  | noPrevious => rfl
  | gap => rfl
  | speed v clamped => cases clamped <;> rfl

/-- What the first three stages alone decide of the slot after a reading. -/
structure ReductionSlot.Processed (r q : ReductionSlot) (x : Reading) (now : Nat) : Prop where
  windows : q.surface = (r.average x).surface ∧ q.air = (r.average x).air ∧ q.humidity = (r.average x).humidity ∧
    q.visibility = (r.average x).visibility ∧ q.light = (r.average x).light
  derived : q.derived.surface = (r.average x).derived.surface ∧ q.derived.air = (r.average x).derived.air ∧
    q.derived.humidity = (r.average x).derived.humidity ∧ q.derived.visibility = (r.average x).derived.visibility ∧
    q.derived.light = (r.average x).derived.light
  counted : q.ctr.invalidTs = (r.countStages x).invalidTs ∧ q.ctr.invalidTa = (r.countStages x).invalidTa ∧
    q.ctr.clamp = (r.countStages x).clamp
  noted : q.prev = some { count := x.wc, stamp := x.tm, storedAt := now } ∧ q.fresh = true ∧ q.ctr.readings = bump r.ctr.readings
  configured : q.depth = r.depth ∧ q.offset = r.offset ∧ q.kw = r.kw ∧ q.useLight = r.useLight ∧ q.station = r.station

theorem ReductionSlot.process_processed (r : ReductionSlot) (x : Reading) (now : Nat) : r.Processed (r.process x now) x now := by
  rw [r.process_eq]
  split <;> exact ⟨⟨rfl, rfl, rfl, rfl, rfl⟩, ⟨rfl, rfl, rfl, rfl, rfl⟩, ⟨rfl, rfl, rfl⟩, ⟨rfl, rfl, rfl⟩, ⟨rfl, rfl, rfl, rfl, rfl⟩⟩

theorem ReductionSlot.windCase_restart (r : ReductionSlot) (x : Reading) (now : Nat) (h : x.flags.getLsbD 0 = true) :
    r.windCase x now = .restart := if_pos h

theorem ReductionSlot.windCase_first (r : ReductionSlot) (x : Reading) (now : Nat) (h : x.flags.getLsbD 0 = false) (hp : r.prev = none) :
    r.windCase x now = .noPrevious := by
  unfold ReductionSlot.windCase Reading.restarted
  rw [h, hp]; rfl

/-- The wind's case against previous values. -/
theorem ReductionSlot.windCase_previous (r : ReductionSlot) (x : Reading) (now : Nat) (p : PrevWind) (dt v : Nat)
    (h : x.flags.getLsbD 0 = false) (hp : r.prev = some p) (hdt : dt = (x.tm + 65536 - p.stamp) % 65536)
    (hv : v = ((x.wc + 65536 - p.count) % 65536) * r.kw * 10 / dt) :
    r.windCase x now = if p.storedAt + 30000 < now ∨ dt = 0 ∨ 30000 < dt then .gap else .speed (min v 999) (decide (999 < v)) := by
  unfold ReductionSlot.windCase Reading.restarted
  rw [h, hp]
  dsimp only
  rw [if_neg Bool.false_ne_true, ← hdt, show windSpeed ((x.wc + 65536 - p.count) % 65536) r.kw dt = v from hv.symm]
  by_cases h1 : p.storedAt + 30000 < now
  · rw [if_pos h1, if_pos (.inl h1)]
  · rw [if_neg h1]
    by_cases h2 : dt = 0 ∨ 30000 < dt
    · rw [if_pos h2, if_pos (.inr h2)]
    · rw [if_neg h2, if_neg (fun h => h.elim h1 h2)]

/-! ### Settled: the reduction stages -/

/-- Settles O30, channel by channel and then by the wind's case. -/
theorem reductionStagesFormValues : Obligations.ReductionStagesFormValues := by
  intro r q x now hd hq
  have hp : r.Processed q x now := hq ▸ r.process_processed x now
  obtain ⟨⟨hs, ha, hh, hv, hl⟩, ⟨ds, da, dh, dv, dl⟩, ⟨cs, ca, cc⟩, hnoted, hconf⟩ := hp
  rw [r.process_eq] at hq
  have htemp : ∀ (w : List Int) (avg : Option Int) (z t v : Int), w.length ≤ r.depth → -4000 ≤ t → t ≤ 8000 →
      v = (if r.offset = true ∧ -500 ≤ z ∧ z ≤ 500 then max (-4000) (min 8000 (t - z)) else t) →
      (pushChannel r.depth w avg (staged r.offset z t)) = pushChannel r.depth w avg (some v) := fun w avg z t v _ h1 h2 hv => by
    rw [staged_valid _ _ _ h1 h2, hv]
  refine ⟨fun v hlen h1 h2 hv' => ?_, fun hout => ?_, fun v hlen h1 h2 hv' => ?_, fun hout => ?_, fun hlen => ?_, fun hlen => ?_,
    fun hu hlen => ?_, fun hu => ?_, cc, fun hf => ?_, fun hf hpr => ?_, fun p dt v hf hpr hdt hv' => ⟨fun hgap => ?_, fun h1 h2 h3 hw hg => ?_⟩,
    hnoted.1, hnoted.2.1, hnoted.2.2, hconf⟩
  · rw [hs, ds]
    unfold ReductionSlot.average
    dsimp only
    rw [htemp _ _ _ _ v hlen h1 h2 hv']
    exact pushChannel_value _ _ _ _ hd hlen
  · rw [hs, ds, cs]
    unfold ReductionSlot.average ReductionSlot.countStages
    dsimp only
    rw [staged_out _ _ _ hout, tempValid_out _ hout]
    exact ⟨rfl, rfl, rfl⟩
  · rw [ha, da]
    unfold ReductionSlot.average
    dsimp only
    rw [htemp _ _ _ _ v hlen h1 h2 hv']
    exact pushChannel_value _ _ _ _ hd hlen
  · rw [ha, da, ca]
    unfold ReductionSlot.average ReductionSlot.countStages
    dsimp only
    rw [staged_out _ _ _ hout, tempValid_out _ hout]
    exact ⟨rfl, rfl, rfl⟩
  · rw [hh, dh]
    exact pushChannel_value r.depth r.humidity r.derived.humidity (clampTop 1000 x.rh : Nat) hd hlen
  · rw [hv, dv]
    exact pushChannel_value r.depth r.visibility r.derived.visibility (clampTop 20000 x.vis : Nat) hd hlen
  · rw [hl, dl]
    unfold ReductionSlot.average
    dsimp only
    rw [hu]
    exact pushChannel_value _ _ _ _ hd hlen
  · rw [hl, dl]
    unfold ReductionSlot.average
    dsimp only
    rw [hu]
    exact ⟨rfl, rfl⟩
  · rw [r.windCase_restart x now hf] at hq
    rw [hq]; exact ⟨rfl, rfl, rfl, rfl, rfl⟩
  · rw [r.windCase_first x now hf hpr] at hq
    rw [hq]; exact ⟨rfl, rfl, rfl, rfl, rfl⟩
  · rw [r.windCase_previous x now p dt v hf hpr hdt hv', if_pos hgap] at hq
    rw [hq]; exact ⟨rfl, rfl, rfl, rfl, rfl⟩
  · rw [r.windCase_previous x now p dt v hf hpr hdt hv', if_neg (by omega)] at hq
    have hwind : q.wind = pushWindow r.depth r.wind (min v 999 : Nat) := by rw [hq]; rfl
    have hgust : q.gust = pushWindow 8 r.gust (min v 999 : Nat) := by rw [hq]; rfl
    have hgust' := hgust.trans (pushWindow_eq 8 r.gust _ (by omega) hg)
    refine ⟨hwind.trans (pushWindow_eq _ _ _ hd hw), hgust', ?_, ?_, ?_⟩
    · rw [hwind, hq]; rfl
    · obtain ⟨m, hm, hlarge, hle⟩ := largest_spec q.gust (by rw [hgust']; exact List.append_ne_nil_of_right_ne_nil _ (List.cons_ne_nil _ _))
      refine ⟨m, hm, ?_, hle⟩
      rw [← hlarge, hgust, hq]; rfl
    · rw [hq]
      by_cases hc : 999 < v
      · rw [if_pos hc]; exact if_pos (decide_eq_true hc)
      · rw [if_neg hc]; exact if_neg (by rw [decide_eq_true_iff]; exact hc)

/-! ### Settled: the line's own events -/

theorem State.chooseFrom_nothing (s : State) (d : Fin 4) (voices polls : List (Fin 32 × Nat)) (hr : s.repeater = false)
    (hb : s.poll.drops[d].broadcast = false) (hv : voices = []) (hp : polls = []) : s.chooseFrom d voices polls = s := by
  unfold State.chooseFrom
  rw [hr, hb, hv, hp]
  split <;> rfl

/-- Settles O25. -/
theorem frameEventsMoveLine : Obligations.FrameEventsMoveLine := by
  refine ⟨fun d x s hr hl hx hs => ?_, fun d x s hr hl hx hs hb hdue => ?_, fun d s hr hl => ?_, fun d bytes c s hr hc => ?_⟩
  · show Host.Outcome.next _ = _
    rw [s.unlessRepeater_run _ hr]
    unfold State.frameSent
    rw [hl, hx]
    exact congrArg Host.Outcome.next (if_pos hs)
  · show Host.Outcome.next _ = _
    rw [s.unlessRepeater_run _ hr]
    have hsent : s.frameSent d = (s.lineIdle d).endChoose d := by
      unfold State.frameSent
      rw [hl, hx]
      exact if_neg (by rw [hs]; decide)
    have hnone : ∀ l : List (Fin 32 × Nat), (∀ y ∈ l, y ∈ s.dueVoices d ++ s.duePolls d) → l.filter (s.lineIdle d).isCome = [] := by
      refine fun l hsub => List.filter_eq_nil_iff.mpr fun y hy => ?_
      obtain ⟨h1, h2⟩ := hdue y (hsub y hy)
      show ¬ (decide (y.2 < s.now) || s.poll.stations[y.1].come == some y.2) = true
      rw [h1] at h2 ⊢
      rw [Bool.or_eq_true, decide_eq_true_iff, beq_iff_eq]
      exact fun h => h.elim (lt_irrefl _) h2
    rw [hsent]
    unfold State.endChoose
    have hidle : (s.lineIdle d).poll.drops[d].broadcast = false := by rw [State.lineIdle, State.modDrop_get, if_pos rfl]; exact hb
    exact congrArg Host.Outcome.next (State.chooseFrom_nothing (s.lineIdle d) d _ _ hr hidle
      (hnone (s.dueVoices d) fun y hy => List.mem_append_left _ hy) (hnone (s.duePolls d) fun y hy => List.mem_append_right _ hy))
  · show Host.Outcome.next _ = _
    rw [s.unlessRepeater_run _ hr, if_pos hl]
    rfl
  · have hcount : ∀ o : ExchangeEnd, s.poll.drops[d].line = .idle ∨ s.poll.drops[d].line = .sending →
        s.frameArrives d o = s.countUnsolicited d := fun o h => by
      unfold State.frameArrives
      rcases h with h | h <;> rw [h]
    rcases hc with rfl | ⟨rfl | rfl, h⟩
    all_goals
      show Host.Outcome.next _ = _
      rw [s.unlessRepeater_run _ hr]
    · rfl
    · rw [hcount _ h]; rfl
    · rw [hcount _ h]; rfl

end Sys2Proof.Machine
end

section
/-! PROOFS. Commands refused, and the commands that read and that clear counters (11.2 to 11.4). -/

namespace Sys2Proof.Machine

/-! ### A command carried out at once -/

/-- A quiet agent's refusal. -/
theorem State.agentReceive_refuses (s : State) (c : Command) (st : Status) (hs : s.agentQuiet = true)
    (h : s.commandTaken.carryOut c = (some (st, []), s.commandTaken)) : s.agentReceive c = s.commandTaken.withReply c st [] :=
  s.agentReceive_answers _ c st [] hs h hs

/-- A management command of an idle agent that its owner carries out and that leaves the agent's own fields. -/
theorem State.command_performs (s u : State) (src : NodeId) (tag : Byte) (code : BitVec 4) (body : List Byte) (o : Order) (st : Status)
    (content : List Byte) (h : s.agentIdle = true) (hk : knownCode code = true)
    (ho : ({ src := src, tag := tag, code := code, body := body } : Command).order? = some o) (hr : o.inRange = true)
    (hs : o.savesOrWrites = true → s.ctl.save = none)
    (hp : s.commandTaken.perform src tag o = (some (st, content), u)) (hu : u.agentQuiet = true) :
    s.command src tag code body = u.withReply { src := src, tag := tag, code := code, body := body } st content :=
  (s.unlessRepeater_run _ (s.agentIdle_parts h).2.2).trans (s.agentReceive_performs u _ o st content h hk ho hr hs hp hu)

/-! ### Settled: the order of the refusals -/

theorem knownCode_false (c : BitVec 4) (h : c = 0 ∨ 12 ≤ c.toNat) : knownCode c = false := by
  unfold knownCode
  rw [Bool.and_eq_false_iff, decide_eq_false_iff_not, decide_eq_false_iff_not]
  rcases h with rfl | h
  · exact .inl (by decide)
  · exact .inr (by omega)

theorem knownCode_true (c : BitVec 4) (h : 1 ≤ c.toNat) (h' : c.toNat ≤ 11) : knownCode c = true := by
  unfold knownCode
  rw [decide_eq_true h, decide_eq_true h']; rfl

/-- Settles O53: each ground of refusal, with those before it excluded. -/
theorem refusalsFollowTheirOrder : Obligations.RefusalsFollowTheirOrder := by
  intro c s hs
  refine ⟨fun hn hc => ?_, fun hn hc => ?_, fun hn h1 h2 ho => ?_, fun o hn h1 h2 ho => ⟨fun hr => ?_, fun hr hw hsave => ?_⟩⟩
  all_goals refine s.agentReceive_refuses c _ hs ?_; unfold State.carryOut
  · exact if_pos ⟨hn, hc⟩
  all_goals
    have hready : s.commandTaken.notReady = false := hn
    rw [if_neg (fun h => by rw [hready] at h; cases h.1)]
  · exact if_pos (knownCode_false _ hc)
  all_goals rw [if_neg (by rw [knownCode_true _ h1 h2]; decide), ho]
  · exact if_pos hr
  · exact (if_neg (by rw [hr]; decide)).trans (if_pos ⟨hw, hsave⟩)

/-! ### Settled: STATUS and READ-ENTRY -/

/-- Settles O54. -/
theorem readsAnswerAndChangeNothing : Obligations.ReadsAnswerAndChangeNothing := by
  refine ⟨fun src tag gb g s hs hg => ?_, fun src tag tb ib t s hs ht hi => ?_⟩
  · refine congrArg Host.Outcome.next ((s.unlessRepeater_run _ (s.agentQuiet_iff.mp hs).1).trans ?_)
    refine s.agentReceive_answers s.commandTaken _ .done _ hs ?_ hs
    have ho : ({ src := src, tag := tag, code := cmdStatus, body := [gb] } : Command).order? = some (.status g) := by
      show Option.map Order.status (Group.ofCode? gb) = _
      rw [hg]; rfl
    unfold State.carryOut
    rw [if_neg (fun h => h.2 rfl), if_neg (show ¬ knownCode cmdStatus = false by decide), ho]
    rfl
  · refine congrArg Host.Outcome.next (s.command_performs s.commandTaken src tag cmdReadEntry [tb, ib] (.readEntry t ib.toNat) .done _ hs
      (by decide) ?_ (decide_eq_true hi) (fun h => nomatch h) rfl (s.agentIdle_parts hs).1)
    show Option.map (fun t => Order.readEntry t ib.toNat) (Table.ofCode? tb) = _
    rw [ht]; rfl

/-! ### Settled: CLEAR-COUNTERS -/

theorem State.clearGroup_quiet (s : State) (g : Group) (hs : s.agentQuiet = true) : (s.clearGroup g).agentQuiet = true := by
  cases g <;> exact hs

/-- Settles O55, group by group. -/
theorem clearCountersZeroesItsGroup : Obligations.ClearCountersZeroesItsGroup := by
  intro src tag gb g s hs hg
  have hq := (s.agentIdle_parts hs).1
  refine ⟨s.commandTaken.clearGroup g, congrArg Host.Outcome.next (s.command_performs (s.commandTaken.clearGroup g) src tag cmdClearCounters [gb]
    (.clearCounters g) .done [] hs (by decide) ?_ rfl (fun h => nomatch h) rfl (s.commandTaken.clearGroup_quiet g hq)), ?_⟩
  · show Option.map Order.clearCounters (Group.ofCode? gb) = _
    rw [hg]; rfl
  · refine ⟨fun h => ?_, fun h => ?_, fun h => ?_, fun h => ?_, fun h => ?_, fun h => ?_, fun h => ?_, fun h => ?_⟩ <;> subst h
    · rfl
    · exact ⟨fun d => Vector.getElem_map .., fun i => Vector.getElem_map .., rfl⟩
    · exact ⟨fun r => Vector.getElem_map .., rfl⟩
    · rfl
    · rfl
    · exact ⟨fun i => Vector.getElem_map .., rfl⟩
    · exact ⟨fun i => Vector.getElem_map .., fun k => Vector.getElem_map .., rfl⟩
    · exact ⟨fun k => Vector.getElem_map .., rfl⟩

end Sys2Proof.Machine
end

section
/-! PROOFS. The sign commands: SIGN-SET and SIGN-CANCEL (9.4) and the page commands (9.3). -/

namespace Sys2Proof.Machine

theorem Fin.ofNat_of_eq {n m : Nat} [NeZero n] (k : Fin n) (h : m = k.val) : Fin.ofNat n m = k := by
  rw [h]; exact Fin.ext (Nat.mod_eq_of_lt k.isLt)

theorem word16At_be16 (x : BitVec 16) (l : List Byte) : word16At (l ++ be16 x) l.length = x := by
  have h0 : byteAt (l ++ be16 x) l.length = x.extractLsb' 8 8 := by
    unfold byteAt be16; simp
  have h1 : byteAt (l ++ be16 x) (l.length + 1) = x.extractLsb' 0 8 := by
    unfold byteAt be16; simp
  unfold word16At
  rw [h0, h1]
  refine BitVec.eq_of_getLsbD_eq fun i hi => ?_
  rw [BitVec.getLsbD_append]
  split
  · rename_i h; simp [h]
  · rename_i h
    simp only [BitVec.getLsbD_extractLsb']
    rw [show 8 + (i - 8) = i by omega, decide_eq_true (show i - 8 < 8 by omega), Bool.true_and]

/-! ### A sign's request -/

/-- A sign record changed and its arbitration rerun: the outcome, and the other records. -/
theorem State.arbitrate_changed (s : State) (k : Fin 12) (f : Sign → Sign) :
    ((s.modSignRec k f).arbitrate k).sign.signs[k] = (f s.sign.signs[k]).setNext ((s.modSignRec k f).arbitrated k) ∧
      (∀ j : Fin 12, j ≠ k → ((s.modSignRec k f).arbitrate k).sign.signs[j] = s.sign.signs[j]) ∧
      (((s.modSignRec k f).arbitrate k).arbitrated k = (s.modSignRec k f).arbitrated k) := by
  refine ⟨?_, fun j hj => ?_, State.arbitrated_arbitrate _ k k⟩
  · rw [State.arbitrate_self, State.modSignRec_get, if_pos rfl]
  · rw [State.arbitrate_other _ k j hj, State.modSignRec_get, if_neg hj.symm]

theorem Command.order?_signSet (c : Command) (h : c.code = cmdSignSet) : c.order? =
    exactly 5 c.body (some (.signSet (natAt c.body 0) (natAt c.body 1) (natAt c.body 2) (word16At c.body 3).toNat)) := by
  unfold Command.order?
  rw [h]
  rfl

/-- Settles O59. -/
theorem signSetAndCancelMoveRequest : Obligations.SignSetAndCancelMoveRequest := by
  intro src tag sb pb prio minutes k p s hs hk hp
  have hq := (s.agentIdle_parts hs).1
  have horder : ({ src := src, tag := tag, code := cmdSignSet, body := [sb, pb, prio] ++ be16 minutes } : Command).order? =
      some (.signSet sb.toNat pb.toNat prio.toNat minutes.toNat) := by
    refine (Command.order?_signSet _ rfl).trans ?_
    rw [show word16At ([sb, pb, prio] ++ be16 minutes) 3 = minutes from word16At_be16 minutes [sb, pb, prio]]
    rfl
  have hrange : (Order.signSet sb.toNat pb.toNat prio.toNat minutes.toNat).inRange = true := by
    show (decide (sb.toNat < 12) && decide (pb.toNat < 8)) = true
    rw [hk, hp, decide_eq_true k.isLt, decide_eq_true p.isLt]; rfl
  have hset : ∀ st u, s.commandTaken.signSet k p prio.toNat minutes.toNat = (st, u) → u.agentQuiet = true →
      exec (.signSet src tag sb pb prio minutes) s =
        .next (u.withReply { src := src, tag := tag, code := cmdSignSet, body := [sb, pb, prio] ++ be16 minutes } st []) :=
    fun st u h hu => congrArg Host.Outcome.next (s.command_performs u src tag cmdSignSet _ _ st [] hs (by decide) horder hrange
      (fun h => nomatch h) (by
        show answered (s.commandTaken.signSet (Fin.ofNat 12 sb.toNat) (Fin.ofNat 8 pb.toNat) prio.toNat minutes.toNat) = _
        rw [Fin.ofNat_of_eq k hk, Fin.ofNat_of_eq p hp, h]; rfl) hu)
  have hcancel : ∀ st u, s.commandTaken.signCancel k = (st, u) → u.agentQuiet = true →
      exec (.signCancel src tag sb) s = .next (u.withReply { src := src, tag := tag, code := cmdSignCancel, body := [sb] } st []) :=
    fun st u h hu => congrArg Host.Outcome.next (s.command_performs u src tag cmdSignCancel [sb] (.signCancel sb.toNat) st [] hs (by decide)
      rfl (decide_eq_true (by rw [hk]; exact k.isLt)) (fun h => nomatch h) (by
        show answered (s.commandTaken.signCancel (Fin.ofNat 12 sb.toNat)) = _
        rw [Fin.ofNat_of_eq k hk, h]; rfl) hu)
  have hmin : minutes.toNat = 0 ↔ minutes = 0 := ⟨fun h => BitVec.eq_of_toNat_eq h, fun h => by rw [h]; rfl⟩
  refine ⟨fun h1 h2 => ?_, fun h => ?_, fun h => ?_, fun h => ?_⟩
  · have hdone := hset .done _ (if_neg (by omega)) hq
    refine ⟨_, hdone, ?_⟩
    obtain ⟨hsign, hother, hsame⟩ := s.commandTaken.arbitrate_changed k fun r => { r with
      request := some { page := p, priority := prio.toNat, expiry := if minutes.toNat = 0 then none else some (s.now + 60000 * minutes.toNat) } }
    refine ⟨?_, ?_, hother, rfl, rfl⟩
    · refine (congrArg Sign.request hsign).trans ((Sign.setNext_kept _ _).1.trans ?_)
      by_cases hm : minutes = 0
      · rw [if_pos hm]; dsimp only; rw [if_pos (hmin.mpr hm)]
      · rw [if_neg hm]; dsimp only; rw [if_neg (fun h => hm (hmin.mp h))]
    · exact (congrArg Sign.next hsign).trans ((Sign.setNext_next _ _).trans hsame.symm)
  · exact hset .badValue _ (if_pos h) hq
  · refine ⟨_, hcancel .done (s.commandTaken.dropRequest k) (if_neg ?_) hq, ?_⟩
    · show ¬ s.sign.signs[k].request.isNone = true
      rw [Option.isNone_iff_eq_none]; exact h
    · obtain ⟨hsign, hother, hsame⟩ := s.commandTaken.arbitrate_changed k fun r => { r with request := none }
      exact ⟨(congrArg Sign.request hsign).trans (Sign.setNext_kept _ _).1,
        (congrArg Sign.next hsign).trans ((Sign.setNext_next _ _).trans hsame.symm), hother, rfl⟩
  · exact hcancel .done s.commandTaken (if_pos (Option.isNone_iff_eq_none.mpr h)) hq

end Sys2Proof.Machine
end

section
/-! PROOFS. The page commands (9.3): PAGE-OPEN, PAGE-DATA and PAGE-DISCARD. -/

namespace Sys2Proof.Machine

/-! ### Units (R150) -/

theorem SignService.mem_freeUnits (g : SignService) (u : Nat) :
    u ∈ g.freeUnits ↔ u < 256 ∧ ∀ (j : Fin 12) (q : Fin 8), u ∉ g.signs[j].pages[q].units := by
  unfold SignService.freeUnits
  simp

theorem SignService.freeUnits_nodup (g : SignService) : g.freeUnits.Nodup := List.nodup_range.filter _

/-- Of two page stores the one whose pages hold fewer units has as many free at least. -/
theorem SignService.freeUnits_length_le (g h : SignService)
    (hsub : ∀ (j : Fin 12) (q : Fin 8) (u : Nat), u ∈ h.signs[j].pages[q].units → u ∈ g.signs[j].pages[q].units) :
    g.freeUnits.length ≤ h.freeUnits.length := by
  have hmem : g.freeUnits ⊆ h.freeUnits := fun u hu => by
    rw [SignService.mem_freeUnits] at hu ⊢
    exact ⟨hu.1, fun j q hq => hu.2 j q (hsub j q u hq)⟩
  exact (List.subperm_of_subset g.freeUnits_nodup hmem).length_le

theorem zeroUnits_read (a : Nat) (units : List Nat) : ∀ m : Memory, Memory.wf pageBlank m = true →
    Memory.read pageBlank (zeroUnits m units) a = if a / 128 ∈ units then 0 else Memory.read pageBlank m a := by
  induction units with
  | nil => intro m _; rfl
  | cons u units ih =>
    intro m hm
    have hcons : zeroUnits m (u :: units) = zeroUnits (Memory.writeList pageBlank m (128 * u) (List.replicate 128 0)) units := by
      unfold zeroUnits; rw [List.foldl_cons]
    rw [hcons, ih _ (Memory.writeList_wf _ _ _ _ hm)]
    by_cases hin : a / 128 ∈ units
    · rw [if_pos hin, if_pos (List.mem_cons_of_mem u hin)]
    · rw [if_neg hin]
      by_cases hu : a / 128 = u
      · rw [if_pos (hu ▸ List.mem_cons_self), show a = 128 * u + a % 128 by omega,
          Memory.read_writeList _ _ _ _ _ (by rw [List.length_replicate]; omega) hm, List.getElem_replicate]
      · rw [if_neg (fun h => (List.mem_cons.mp h).elim hu hin),
          Memory.read_writeList_other _ _ _ _ _ (by rw [List.length_replicate]; omega)]

/-! ### A page's bytes (R151) -/

/-- Two bytes of a page stand at two addresses. -/
theorem Page.address_inj (g : Page) (i j : Nat) (hn : g.units.Nodup) (hi : i < 128 * g.units.length) (hj : j < 128 * g.units.length)
    (h : g.address i = g.address j) : i = j := by
  have hi' : i / 128 < g.units.length := by omega
  have hj' : j / 128 < g.units.length := by omega
  unfold Page.address at h
  rw [List.getD_eq_getElem _ _ hi', List.getD_eq_getElem _ _ hj'] at h
  have hunit : g.units[i / 128] = g.units[j / 128] := by omega
  have hdiv := (List.Nodup.getElem_inj_iff hn).mp hunit
  omega

theorem writePage_read_other (g : Page) (a : Nat) (data : List Byte) : ∀ (m : Memory) (off : Nat),
    (∀ j : Nat, j < data.length → a ≠ g.address (off + j)) →
    Memory.read pageBlank (writePage g m off data) a = Memory.read pageBlank m a := by
  induction data with
  | nil => intro m off _; rfl
  | cons b data ih =>
    intro m off h
    refine (ih _ (off + 1) fun j hj => ?_).trans (Memory.read_write_other _ _ _ _ _ (h 0 (Nat.succ_pos _)).symm)
    rw [show off + 1 + j = off + (j + 1) by omega]
    exact h (j + 1) (Nat.succ_lt_succ hj)

theorem writePage_read (g : Page) (hn : g.units.Nodup) (data : List Byte) : ∀ (m : Memory) (off : Nat), Memory.wf pageBlank m = true →
    off + data.length ≤ 128 * g.units.length → ∀ j : Nat, j < data.length →
      Memory.read pageBlank (writePage g m off data) (g.address (off + j)) = byteAt data j := by
  induction data with
  | nil => intro m off _ _ j hj; cases hj
  | cons b data ih =>
    intro m off hm hlen j hj
    rw [List.length_cons] at hlen hj
    have hm' := Memory.write_wf pageBlank m (g.address off) b hm
    cases j with
    | zero =>
      refine (writePage_read_other g _ data (Memory.write pageBlank m (g.address off) b) (off + 1) fun j hj h => ?_).trans
        (Memory.read_write_self pageBlank m (g.address off) b hm)
      have := g.address_inj _ _ hn (by omega) (by omega) h
      omega
    | succ j =>
      have h := ih (Memory.write pageBlank m (g.address off) b) (off + 1) hm' (by omega) j (by omega)
      rw [show off + 1 + j = off + (j + 1) by omega] at h
      exact h

/-! ### A page of a sign changed -/

theorem State.modPage_sign (s : State) (k : Fin 12) (p : Fin 8) (f : Page → Page) :
    (s.modPage k p f).sign.signs[k] = { s.sign.signs[k] with pages := updAt s.sign.signs[k].pages p f } := by
  unfold State.modPage
  rw [State.modSignRec_get, if_pos rfl]

theorem State.modPage_other (s : State) (k j : Fin 12) (p : Fin 8) (f : Page → Page) (h : j ≠ k) :
    (s.modPage k p f).sign.signs[j] = s.sign.signs[j] := by
  unfold State.modPage
  rw [State.modSignRec_get, if_neg h.symm]

theorem State.modPage_page (s : State) (k j : Fin 12) (p q : Fin 8) (f : Page → Page) :
    (s.modPage k p f).sign.signs[j].pages[q] = if j = k ∧ q = p then f s.sign.signs[j].pages[q] else s.sign.signs[j].pages[q] := by
  by_cases hj : j = k
  · subst hj
    rw [s.modPage_sign]
    show (updAt s.sign.signs[j].pages p f)[q] = _
    rw [updAt_get]
    by_cases hq : p = q
    · rw [if_pos hq, if_pos ⟨rfl, hq.symm⟩]
    · rw [if_neg hq, if_neg (fun h => hq h.2.symm)]
  · rw [s.modPage_other k j p f hj, if_neg (fun h => hj h.1)]

theorem Sign.shows_false (r : Sign) (p : Fin 8) (hl : r.live ≠ some p) (hn : r.next ≠ some p) : r.shows p = false := by
  unfold Sign.shows
  rw [beq_eq_false_iff_ne.mpr hl, beq_eq_false_iff_ne.mpr hn]; rfl

theorem Sign.shows_true (r : Sign) (p : Fin 8) (h : r.live = some p ∨ r.next = some p) : r.shows p = true := by
  unfold Sign.shows
  rw [Bool.or_eq_true, beq_iff_eq, beq_iff_eq]; exact h

/-! ### PAGE-OPEN -/

theorem pageSize?_of_units (size : Byte) (n : Nat) (h : (size = 1 ∧ n = 1) ∨ (size = 2 ∧ n = 2)) : pageSize? size = some (128 * n) := by
  rcases h with ⟨rfl, rfl⟩ | ⟨rfl, rfl⟩ <;> rfl

/-- The page store once a page has been emptied. -/
def State.pageFreed (s : State) (k : Fin 12) (p : Fin 8) : State := s.modPage k p fun _ => Page.empty

/-- The state once an emptied page has been opened with n units. -/
def State.pageOpened (s : State) (k : Fin 12) (p : Fin 8) (n : Nat) : State :=
  ((s.pageFreed k p).modPage k p fun _ =>
    { state := .filling, size := 128 * n, units := (s.pageFreed k p).sign.freeUnits.take n, filled := 0 }).modSign fun g =>
      { g with store := zeroUnits g.store ((s.pageFreed k p).sign.freeUnits.take n) }

theorem State.pageOpen_eq (s : State) (k : Fin 12) (p : Fin 8) (size : Byte) (n : Nat) (h : (size = 1 ∧ n = 1) ∨ (size = 2 ∧ n = 2))
    (hs : s.sign.signs[k].shows p = false) : s.pageOpen k p size =
      if (s.pageFreed k p).sign.freeUnits.length < n then (.full, s) else (.done, s.pageOpened k p n) := by
  unfold State.pageOpen
  rw [pageSize?_of_units size n h]
  dsimp only
  rw [if_neg (by rw [hs]; decide), Nat.mul_div_cancel_left n (by decide)]
  rfl

theorem State.pageFreed_mem (s : State) (k : Fin 12) (p : Fin 8) (u : Nat) :
    u ∈ (s.pageFreed k p).sign.freeUnits ↔
      u < 256 ∧ ∀ (j : Fin 12) (q : Fin 8), ¬(j = k ∧ q = p) → u ∉ s.sign.signs[j].pages[q].units := by
  rw [SignService.mem_freeUnits]
  refine and_congr_right fun _ => forall_congr' fun j => forall_congr' fun q => ?_
  unfold State.pageFreed
  rw [s.modPage_page]
  by_cases h : j = k ∧ q = p
  · rw [if_pos h]
    exact ⟨fun _ hn => absurd h hn, fun _ => List.not_mem_nil⟩
  · rw [if_neg h]
    exact ⟨fun hu _ => hu, fun hu => hu h⟩

/-- The freed page holds no unit, so that no fewer are free. -/
theorem State.pageFreed_free (s : State) (k : Fin 12) (p : Fin 8) : s.sign.freeUnits.length ≤ (s.pageFreed k p).sign.freeUnits.length :=
  SignService.freeUnits_length_le _ _ fun j q u hu => by
    unfold State.pageFreed at hu
    rw [s.modPage_page] at hu
    split at hu
    · cases hu
    · exact hu

theorem State.pageFreed_same (s : State) (k : Fin 12) (p : Fin 8) (h : s.sign.signs[k].pages[p].units = []) :
    (s.pageFreed k p).sign.freeUnits.length = s.sign.freeUnits.length := by
  refine le_antisymm (SignService.freeUnits_length_le _ _ fun j q u hu => ?_) (s.pageFreed_free k p)
  unfold State.pageFreed
  rw [s.modPage_page]
  split
  · rename_i e
    obtain ⟨rfl, rfl⟩ := e
    rw [h] at hu; cases hu
  · exact hu

theorem State.pageOpened_page (s : State) (k j : Fin 12) (p q : Fin 8) (n : Nat) : (s.pageOpened k p n).sign.signs[j].pages[q] =
    if j = k ∧ q = p then { state := .filling, size := 128 * n, units := (s.pageFreed k p).sign.freeUnits.take n, filled := 0 }
    else s.sign.signs[j].pages[q] := by
  refine (State.modPage_page (s.pageFreed k p) k j p q _).trans ?_
  by_cases h : j = k ∧ q = p
  · rw [if_pos h, if_pos h]
  · rw [if_neg h, if_neg h]
    exact (s.modPage_page k j p q _).trans (if_neg h)

theorem State.pageOpened_kept (s : State) (k : Fin 12) (p : Fin 8) (n : Nat) :
    s.pageOpened k p n = { s with sign := (s.pageOpened k p n).sign } := rfl

theorem State.agentQuiet_of_sign (s : State) (g : SignService) (h : s.agentQuiet = true) : ({ s with sign := g } : State).agentQuiet = true := h

/-- What an opened page holds: units no other page holds, every byte 0, and the other bytes as they were. -/
theorem State.pageOpened_units (s : State) (k : Fin 12) (p : Fin 8) (n : Nat) (hn : n ≤ s.sign.freeUnits.length) (hw : s.pagesOk = true) :
    ((s.pageFreed k p).sign.freeUnits.take n).length = n ∧
    (∀ u ∈ (s.pageFreed k p).sign.freeUnits.take n, u < 256 ∧
      (∀ (j : Fin 12) (q : Fin 8), ¬(j = k ∧ q = p) → u ∉ s.sign.signs[j].pages[q].units) ∧
      ∀ b : Nat, b < 128 → Memory.read pageBlank (s.pageOpened k p n).sign.store (128 * u + b) = 0) ∧
    (∀ a : Nat, a / 128 ∉ (s.pageFreed k p).sign.freeUnits.take n →
      Memory.read pageBlank (s.pageOpened k p n).sign.store a = Memory.read pageBlank s.sign.store a) := by
  have hread : ∀ a, Memory.read pageBlank (s.pageOpened k p n).sign.store a =
      if a / 128 ∈ (s.pageFreed k p).sign.freeUnits.take n then 0 else Memory.read pageBlank s.sign.store a :=
    fun a => zeroUnits_read a _ s.sign.store hw
  refine ⟨List.length_take_of_le (hn.trans (s.pageFreed_free k p)), fun u hu => ?_, fun a ha => (hread a).trans (if_neg ha)⟩
  obtain ⟨hlt, hheld⟩ := (s.pageFreed_mem k p u).mp (List.mem_of_mem_take hu)
  exact ⟨hlt, hheld, fun b hb => (hread _).trans (if_pos (by rw [show (128 * u + b) / 128 = u by omega]; exact hu))⟩

/-! ### PAGE-DATA -/

/-- The state once a page's bytes are written. -/
def State.pageWritten (s : State) (k : Fin 12) (p : Fin 8) (off : Nat) (data : List Byte) : State :=
  (s.modSign fun g => { g with store := writePage s.sign.signs[k].pages[p] g.store off data }).modPage k p (·.extend (off + data.length))

theorem State.pageData_eq (s : State) (k : Fin 12) (p : Fin 8) (off : Nat) (data : List Byte) (he : s.sign.signs[k].pages[p].state ≠ .empty)
    (hs : s.sign.signs[k].shows p = false) (hlen : off + data.length ≤ s.sign.signs[k].pages[p].size) :
    s.pageData k p off data = (.done,
      if (s.pageWritten k p off data).sign.signs[k].isReady p then (s.pageWritten k p off data).arbitrate k else s.pageWritten k p off data) := by
  unfold State.pageData
  dsimp only
  rw [if_neg (fun h => h.elim he fun h => by rw [hs] at h; cases h), if_neg (by omega)]
  rfl

theorem State.pageWritten_page (s : State) (k : Fin 12) (p q : Fin 8) (off : Nat) (data : List Byte) :
    (s.pageWritten k p off data).sign.signs[k].pages[q] =
      if q = p then s.sign.signs[k].pages[q].extend (off + data.length) else s.sign.signs[k].pages[q] := by
  refine (State.modPage_page _ k k p q _).trans ?_
  by_cases h : q = p
  · rw [if_pos ⟨rfl, h⟩, if_pos h]; rfl
  · rw [if_neg (fun h' => h h'.2), if_neg h]; rfl

theorem State.pageWritten_shown (s : State) (k : Fin 12) (p : Fin 8) (off : Nat) (data : List Byte) :
    (s.pageWritten k p off data).sign.signs[k].next = s.sign.signs[k].next ∧
      (s.pageWritten k p off data).sign.signs[k].live = s.sign.signs[k].live := by
  unfold State.pageWritten
  rw [State.modPage_sign]
  exact ⟨rfl, rfl⟩

theorem State.pageWritten_other (s : State) (k j : Fin 12) (p : Fin 8) (off : Nat) (data : List Byte) (h : j ≠ k) :
    (s.pageWritten k p off data).sign.signs[j] = s.sign.signs[j] := State.modPage_other _ k j p _ h

theorem Sign.isReady_iff (r : Sign) (p : Fin 8) : r.isReady p = true ↔ r.pages[p].state = .ready := by
  unfold Sign.isReady; rw [beq_iff_eq]

/-! ### Settled -/

theorem Command.order?_pageOpen (c : Command) (h : c.code = cmdPageOpen) :
    c.order? = exactly 3 c.body (some (.pageOpen (natAt c.body 0) (natAt c.body 1) (byteAt c.body 2))) := by
  unfold Command.order?; rw [h]; rfl

theorem Command.order?_pageData (c : Command) (h : c.code = cmdPageData) : c.order? = if 4 ≤ c.body.length ∧ c.body.length ≤ 51 then
    some (.pageData (natAt c.body 0) (natAt c.body 1) (natAt c.body 2) (c.body.drop 3)) else none := by
  unfold Command.order?; rw [h]; rfl

theorem Command.order?_pageDiscard (c : Command) (h : c.code = cmdPageDiscard) :
    c.order? = exactly 2 c.body (some (.pageDiscard (natAt c.body 0) (natAt c.body 1))) := by
  unfold Command.order?; rw [h]; rfl

theorem page_inRange (sb pb : Byte) (k : Fin 12) (p : Fin 8) (hk : sb.toNat = k.val) (hp : pb.toNat = p.val) :
    (decide (sb.toNat < 12) && decide (pb.toNat < 8)) = true := by
  rw [hk, hp, decide_eq_true k.isLt, decide_eq_true p.isLt]; rfl

/-- Settles O58. -/
theorem pageCommandsMovePages : Obligations.PageCommandsMovePages := by
  refine ⟨fun src tag sb pb size k p n s hs hw hk hp hsize hl hn => ?_,
    fun src tag sb pb ob data k p g n s hs hw hk hp hg he hl hnx hlen1 hlen2 hend hgs hnd hn => ?_,
    fun src tag sb pb k p c s hs hk hp hc => ?_⟩
  all_goals have hq : s.commandTaken.agentQuiet = true := (s.agentIdle_parts hs).1
  · have hopen : ∀ st u, s.commandTaken.pageOpen k p size = (st, u) → u.agentQuiet = true →
        exec (.pageOpen src tag sb pb size) s = .next (u.withReply { src := src, tag := tag, code := cmdPageOpen, body := [sb, pb, size] } st []) :=
      fun st u h hu => congrArg Host.Outcome.next (s.command_performs u src tag cmdPageOpen _ (.pageOpen sb.toNat pb.toNat size) st [] hs
        (by decide) (Command.order?_pageOpen _ rfl) (page_inRange sb pb k p hk hp) (fun h => nomatch h) (by
          show answered (s.commandTaken.pageOpen (Fin.ofNat 12 sb.toNat) (Fin.ofNat 8 pb.toNat) size) = _
          rw [Fin.ofNat_of_eq k hk, Fin.ofNat_of_eq p hp, h]; rfl) hu)
    have heq := s.commandTaken.pageOpen_eq k p size n hsize (Sign.shows_false _ p hl hn)
    refine ⟨fun hfew hunits => hopen .full _ (heq.trans (if_pos ?_)) hq, fun hmany => ?_⟩
    · rw [s.commandTaken.pageFreed_same k p hunits]; exact hfew
    · obtain ⟨hlen, hunits, hbytes⟩ := s.commandTaken.pageOpened_units k p n hmany hw
      have hpage : ∀ (j : Fin 12) (q : Fin 8), _ := fun j q => s.commandTaken.pageOpened_page k j p q n
      have hdone := hopen .done _ (heq.trans (if_neg (Nat.not_lt.mpr (hmany.trans (s.commandTaken.pageFreed_free k p)))))
        (by rw [s.commandTaken.pageOpened_kept]; exact State.agentQuiet_of_sign _ _ hq)
      refine ⟨_, hdone, ?_⟩
      have hkept := s.commandTaken.pageOpened_kept k p n
      generalize s.commandTaken.pageOpened k p n = t at hunits hbytes hpage hkept
      rw [(hpage k p).trans (if_pos ⟨rfl, rfl⟩)]
      exact ⟨rfl, rfl, rfl, hlen, hunits, fun j q hjq => (hpage j q).trans (if_neg hjq), hbytes, hkept⟩
  · have hdata : ∀ u, s.commandTaken.pageData k p ob.toNat data = (.done, u) → u.agentQuiet = true →
        exec (.pageData src tag sb pb ob data) s = .next (u.withReply { src := src, tag := tag, code := cmdPageData, body := [sb, pb, ob] ++ data } .done []) :=
      fun u h hu => congrArg Host.Outcome.next (s.command_performs u src tag cmdPageData _ (.pageData sb.toNat pb.toNat ob.toNat data) .done [] hs
        (by decide) ((Command.order?_pageData _ rfl).trans (if_pos (by simp only [List.length_append, List.length_cons, List.length_nil]; omega)))
        (page_inRange sb pb k p hk hp) (fun h => nomatch h) (by
          show answered (s.commandTaken.pageData (Fin.ofNat 12 sb.toNat) (Fin.ofNat 8 pb.toNat) ob.toNat data) = _
          rw [Fin.ofNat_of_eq k hk, Fin.ofNat_of_eq p hp, h]; rfl) hu)
    have hpg : s.commandTaken.sign.signs[k].pages[p] = g := hg
    have heq := s.commandTaken.pageData_eq k p ob.toNat data (by rw [hpg]; exact he) (Sign.shows_false _ p hl hnx) (by rw [hpg]; exact hend)
    have hext : g.extend (ob.toNat + data.length) = { g with filled := n, state := if n = g.size then .ready else .filling } := by
      rw [hn]; rfl
    have hpage : ∀ q : Fin 8, _ := fun q => s.commandTaken.pageWritten_page k p q ob.toNat data
    obtain ⟨hunext, hulive⟩ := s.commandTaken.pageWritten_shown k p ob.toNat data
    have hother : ∀ j : Fin 12, j ≠ k → _ := fun j hj => s.commandTaken.pageWritten_other k j p ob.toNat data hj
    have hustore : (s.commandTaken.pageWritten k p ob.toNat data).sign.store = writePage g s.sign.store ob.toNat data := by
      rw [← hpg]; exact rfl
    have hukept : s.commandTaken.pageWritten k p ob.toNat data =
        { s.commandTaken with sign := (s.commandTaken.pageWritten k p ob.toNat data).sign } := rfl
    generalize s.commandTaken.pageWritten k p ob.toNat data = u at heq hpage hunext hulive hother hustore hukept
    have hpp : u.sign.signs[k].pages[p] = { g with filled := n, state := if n = g.size then .ready else .filling } := by
      rw [hpage p, if_pos rfl, hpg, hext]
    have hread1 : ∀ j : Nat, j < data.length → Memory.read pageBlank u.sign.store (g.address (ob.toNat + j)) = byteAt data j := fun j hj => by
      rw [hustore]; exact writePage_read g hnd data s.sign.store ob.toNat hw (by omega) j hj
    have hread2 : ∀ a : Nat, (∀ j : Nat, j < data.length → a ≠ g.address (ob.toNat + j)) →
        Memory.read pageBlank u.sign.store a = Memory.read pageBlank s.sign.store a := fun a ha => by
      rw [hustore]; exact writePage_read_other g a data s.sign.store ob.toNat ha
    by_cases hfull : n = g.size
    · have hready : u.sign.signs[k].isReady p = true := by rw [Sign.isReady_iff, hpp]; exact if_pos hfull
      rw [if_pos hready] at heq
      have hstore : (u.arbitrate k).sign.store = u.sign.store := rfl
      have hsign := u.arbitrate_self k
      have hoth : ∀ j : Fin 12, j ≠ k → _ := fun j hj => u.arbitrate_other k j hj
      have harb := u.arbitrated_arbitrate k k
      have hkept : u.arbitrate k = { u with sign := (u.arbitrate k).sign } := rfl
      generalize u.arbitrate k = t at heq hstore hsign hoth harb hkept
      refine ⟨t, hdata t heq (by rw [hkept, hukept]; exact State.agentQuiet_of_sign _ _ hq), ?_⟩
      rw [hstore]
      refine ⟨hread1, hread2, ?_, fun q hqp => ?_, fun _ => ?_, fun h => absurd hfull h, fun j hj => (hoth j hj).trans (hother j hj), ?_⟩
      · rw [hsign, (Sign.setNext_kept _ _).2, hpp]
      · rw [hsign, (Sign.setNext_kept _ _).2, hpage q, if_neg hqp]; rfl
      · rw [hsign, Sign.setNext_next, harb]
      · rw [hkept, hukept]
    · have hready : ¬ u.sign.signs[k].isReady p = true := by
        rw [Sign.isReady_iff, hpp]
        show ¬ (if n = g.size then PageState.ready else PageState.filling) = .ready
        rw [if_neg hfull]; exact PageState.noConfusion
      rw [if_neg hready] at heq
      exact ⟨u, hdata u heq (by rw [hukept]; exact State.agentQuiet_of_sign _ _ hq), hread1, hread2, hpp,
        fun q hqp => (hpage q).trans (if_neg hqp), fun h => absurd h hfull, fun _ => ⟨hunext, hulive⟩, hother, hukept⟩
  · have hdiscard : ∀ st u, s.commandTaken.pageDiscard k p = (st, u) → u.agentQuiet = true →
        exec (.pageDiscard src tag sb pb) s = .next (u.withReply c st []) := fun st u h hu => by
      rw [hc]
      exact congrArg Host.Outcome.next (s.command_performs u src tag cmdPageDiscard _ (.pageDiscard sb.toNat pb.toNat) st [] hs
        (by decide) (Command.order?_pageDiscard _ rfl) (page_inRange sb pb k p hk hp) (fun h => nomatch h) (by
          show answered (s.commandTaken.pageDiscard (Fin.ofNat 12 sb.toNat) (Fin.ofNat 8 pb.toNat)) = _
          rw [Fin.ofNat_of_eq k hk, Fin.ofNat_of_eq p hp, h]; rfl) hu)
    refine ⟨fun hl hn he => ?_, fun hl hn he => ?_, fun h => ?_⟩
    · have heq : s.commandTaken.pageDiscard k p = (.done, (s.commandTaken.pageFreed k p).arbitrate k) := by
        unfold State.pageDiscard
        exact (if_neg (by rw [Sign.shows_false s.commandTaken.sign.signs[k] p hl hn]; decide)).trans (if_neg he)
      have hpages : ∀ q : Fin 8, (s.commandTaken.pageFreed k p).sign.signs[k].pages[q] = if q = p then Page.empty else s.sign.signs[k].pages[q] :=
        fun q => (State.modPage_page _ k k p q _).trans (by by_cases h : q = p <;> simp [h]; rfl)
      have hother : ∀ j : Fin 12, j ≠ k → (s.commandTaken.pageFreed k p).sign.signs[j] = s.sign.signs[j] := fun j hj => State.modPage_other _ k j p _ hj
      refine ⟨_, hdiscard .done _ heq (State.agentQuiet_of_sign s.commandTaken _ hq), ?_, fun q hqp => ?_, ?_, rfl, fun j hj => ?_, rfl⟩
      · rw [State.arbitrate_self, (Sign.setNext_kept _ _).2, hpages p, if_pos rfl]; rfl
      · rw [State.arbitrate_self, (Sign.setNext_kept _ _).2, hpages q, if_neg hqp]
      · rw [State.arbitrate_self, Sign.setNext_next, State.arbitrated_arbitrate]
      · rw [State.arbitrate_other _ k j hj, hother j hj]
    · refine hdiscard .done s.commandTaken ?_ hq
      unfold State.pageDiscard
      exact (if_neg (by rw [Sign.shows_false s.commandTaken.sign.signs[k] p hl hn]; decide)).trans (if_pos he)
    · exact hdiscard .state s.commandTaken (if_pos (Sign.shows_true s.commandTaken.sign.signs[k] p h)) hq

end Sys2Proof.Machine
end

section
/-! PROOFS. The table writes (11.3): lanes, rules, signs, reduction slots and the node parameters. -/

namespace Sys2Proof.Machine

theorem Table.ofCode?_code (t : Table) : Table.ofCode? t.code = some t := by cases t <;> rfl

theorem fin?_val {n : Nat} (k : Fin n) : fin? n k.val = some k := dif_pos k.isLt

theorem Command.order?_writeEntry (c : Command) (h : c.code = cmdWriteEntry) : c.order? = parseWrite c.body := by
  unfold Command.order?; rw [h]; rfl

theorem parseWrite_entry (t : Table) (index : Byte) (l : List Byte) (h : l.length = t.recordSize) :
    parseWrite (t.code :: index :: l) = some (.writeEntry t index.toNat l) := by
  unfold parseWrite
  rw [show byteAt (t.code :: index :: l) 0 = t.code from rfl, t.ofCode?_code]
  exact if_pos (by simp only [List.length_cons]; omega)

/-- A WRITE-ENTRY of an idle agent with no save in flight, as its table's write judges it. -/
theorem State.command_writes (s u : State) (src : NodeId) (tag : Byte) (t : Table) (index : Byte) (l : List Byte) (st : Status)
    (h : s.agentIdle = true) (hsave : s.ctl.save = none) (hi : index.toNat < t.size) (hl : l.length = t.recordSize)
    (hw : s.commandTaken.writeEntry t index.toNat l = (st, u)) (hu : u.agentQuiet = true) :
    s.command src tag cmdWriteEntry (t.code :: index :: l) =
      u.withReply { src := src, tag := tag, code := cmdWriteEntry, body := t.code :: index :: l } st [] :=
  s.command_performs u src tag cmdWriteEntry _ (.writeEntry t index.toNat l) st [] h (by decide)
    ((Command.order?_writeEntry _ rfl).trans (parseWrite_entry t index l hl)) (decide_eq_true hi) (fun _ => hsave)
    (by show answered (s.commandTaken.writeEntry t index.toNat l) = _; rw [hw]; rfl) hu

/-! ### Lanes (R8) -/

theorem State.testSeized_none (s : State) (h : ∀ r : Fin 16, s.calls.records[r].state ≠ .seized) : s.testSeized = s := by
  have hnil : s.seizedRecords = [] := by
    unfold State.seizedRecords
    rw [List.filterMap_eq_nil_iff.mpr fun r _ => if_neg (h r)]
    rfl
  unfold State.testSeized
  rw [hnil]; rfl

theorem State.offerTolls_none (s : State) (h : s.jrnl.readAhead = []) : s.offerTolls = s := by
  unfold State.offerTolls State.offerTollsUpTo
  rw [h]

theorem State.writeLane_bound (s : State) (i : Fin 64) (l : List Byte) (hi : i.val ≠ 63) (hv : s.lanes[i].service = .voice)
    (hb : s.lanes[i].binding.isSome = true) : s.writeLane i l = (.state, s) := (if_neg hi).trans (if_pos ⟨hv, hb⟩)

theorem State.writeLane_done (s : State) (i : Fin 64) (l : List Byte) (x : LaneRecord) (hi : i.val ≠ 63)
    (hx : LaneRecord.ofBytes? l = some x) (hb : s.lanes[i].service = .voice → s.lanes[i].binding = none)
    (hs : ∀ r : Fin 16, s.calls.records[r].state ≠ .seized) (hr : s.jrnl.readAhead = []) :
    s.writeLane i l = (.done, s.modLane i (·.configure x)) := by
  unfold State.writeLane
  rw [if_neg hi, if_neg (fun h => by have h2 := h.2; rw [hb h.1] at h2; cases h2), hx]
  dsimp only
  rw [(s.modLane i (·.configure x)).testSeized_none hs, (s.modLane i (·.configure x)).offerTolls_none hr]

theorem laneWriteSetsFields (src : NodeId) (tag index state service peer : Byte) (i : Fin 64) (s : State) (hs : s.agentIdle = true)
    (hsave : s.ctl.save = none) (hi : index.toNat = i.val) (st : Status) (u : State)
    (h : s.commandTaken.writeLane i [state, service, peer] = (st, u)) (hu : u.agentQuiet = true) :
    exec (.writeEntryLane src tag index state service peer) s = .next (u.withReply
      { src := src, tag := tag, code := cmdWriteEntry, body := [0, index, state, service, peer] } st []) :=
  congrArg Host.Outcome.next (s.command_writes u src tag .lane index [state, service, peer] st hs hsave (by rw [hi]; exact i.isLt) rfl (by
    show (fin? 64 index.toNat).elim _ _ = _
    rw [hi, fin?_val]; exact h) hu)

/-! ### Rules (R142, R143) -/

/-- Effective states that stand as their rules derive them are left by a derivation (R147). -/
theorem State.settle_unchanged (s : State) (also : BitVec 12) (but : Option (Fin 32))
    (h : ∀ j : Fin 32, ruleEffective s.rules j = s.rules[j].effective) : s.settle also but = s.arbitrateSet also := by
  have hnone : s.changedRules = [] := by
    unfold State.changedRules
    exact List.filter_eq_nil_iff.mpr fun j _ => by rw [h j]; simp
  have hrules : settleRules s.rules = s.rules := by
    refine Vector.ext fun j hj => ?_
    refine (settleRules_get s.rules ⟨j, hj⟩).trans ?_
    rw [h ⟨j, hj⟩]; rfl
  have hmod : s.modRules settleRules = s := congrArg (fun v => { s with rules := v }) hrules
  unfold State.settle
  rw [hnone, hmod]
  rfl

theorem ruleEffective_unheld (rules : Vector Rule 32) (i : Fin 32) (h : rules[i].holds = false) : ruleEffective rules i = false := by
  unfold ruleEffective; rw [h]; rfl

theorem State.writeRule_unheld (s : State) (i : Fin 32) (x : RuleRecord) (h : ∀ j : Fin 32, s.rules[j].holds = false ∧ s.rules[j].effective = false) :
    s.writeRule i x = (s.modRule i (·.configure x)).arbitrateSet (s.rules[i].signs ||| x.signs) := by
  refine State.settle_unchanged _ _ _ fun j => ?_
  have hj : (s.modRule i (·.configure x)).rules[j] = if i = j then s.rules[j].configure x else s.rules[j] := updAt_get s.rules i j _
  have hun : (s.modRule i (·.configure x)).rules[j].holds = false ∧ (s.modRule i (·.configure x)).rules[j].effective = false := by
    rw [hj]
    split
    · exact ⟨rfl, (h j).2⟩
    · exact h j
  rw [ruleEffective_unheld _ j hun.1, hun.2]

theorem State.arbitrateSet_quiet (s : State) (m : BitVec 12) (h : s.agentQuiet = true) : (s.arbitrateSet m).agentQuiet = true := by
  rw [s.arbitrateSet_kept m]; exact h

/-! ### Reduction slots (R129) -/

theorem ReductionSlot.configure_fields (r : ReductionSlot) (x : SlotRecord) :
    (r.configure x).depth = x.depth ∧ (r.configure x).offset = x.offset ∧ (r.configure x).kw = x.kw ∧ (r.configure x).useLight = x.useLight ∧
      (r.configure x).fresh = r.fresh ∧ (r.configure x).prev = r.prev := by
  unfold ReductionSlot.configure
  refine ⟨?_, ?_, ?_, ?_, ?_, ?_⟩ <;> dsimp only <;> split_ifs with h1 h2 h3 h4 <;> simp_all

theorem ReductionSlot.configure_deepened (r : ReductionSlot) (x : SlotRecord) (h : x.depth ≠ r.depth) :
    (r.configure x).surface = [] ∧ (r.configure x).air = [] ∧ (r.configure x).humidity = [] ∧ (r.configure x).visibility = [] ∧
      (r.configure x).light = [] ∧ (r.configure x).wind = [] ∧ (x.kw = r.kw → (r.configure x).gust = r.gust) := by
  unfold ReductionSlot.configure
  dsimp only
  rw [if_neg h]
  refine ⟨?_, ?_, ?_, ?_, ?_, ?_, fun hk => ?_⟩ <;> split_ifs <;> rfl

theorem ReductionSlot.configure_same (r : ReductionSlot) (x : SlotRecord) (h1 : x.depth = r.depth) (h2 : x.offset = r.offset)
    (h3 : x.kw = r.kw) (h4 : x.useLight = r.useLight) : r.configure x = r := by
  unfold ReductionSlot.configure
  dsimp only
  rw [if_pos h1, if_pos h2, if_pos h3, if_pos h4]

/-! ### Settled -/

theorem Sign.setNext_mode (r : Sign) (n : Option (Fin 8)) : (r.setNext n).mode = r.mode := by
  unfold Sign.setNext
  split
  · rfl
  · cases r.live <;> rfl

theorem State.writeRuleEntry_some (s : State) (i : Fin 32) (l : List Byte) (x : RuleRecord) (h : RuleRecord.ofBytes? l = some x) :
    s.writeRuleEntry i l = (.done, s.writeRule i x) := by unfold State.writeRuleEntry; rw [h]

theorem State.writeSignEntry_some (s : State) (k : Fin 12) (l : List Byte) (m : IntensityMode) (h : IntensityMode.ofBytes? l = some m) :
    s.writeSignEntry k l = (.done, s.writeSign k m) := by unfold State.writeSignEntry; rw [h]

theorem State.writeSlotEntry_some (s : State) (k : Fin 8) (l : List Byte) (x : SlotRecord) (h : SlotRecord.ofBytes? l = some x) :
    s.writeSlotEntry k l = (.done, s.modSlot k (·.configure x)) := by unfold State.writeSlotEntry; rw [h]

theorem State.writeParams_some (s : State) (l : List Byte) (p : Params) (h : Params.ofBytes? l = some p) :
    s.writeParams l = (.done, s.modAgent fun a => { a with params := p }) := by unfold State.writeParams; rw [h]

theorem State.modSignRec_modSignRec (s : State) (k : Fin 12) (f g : Sign → Sign) :
    (s.modSignRec k f).modSignRec k g = s.modSignRec k fun r => g (f r) :=
  congrArg (fun v => { s with sign := { s.sign with signs := v } }) (updAt_updAt s.sign.signs k f g)

theorem State.modSignRec_congr (s : State) (k : Fin 12) {f g : Sign → Sign} (h : f s.sign.signs[k] = g s.sign.signs[k]) :
    s.modSignRec k f = s.modSignRec k g :=
  congrArg (fun v => { s with sign := { s.sign with signs := v } }) (updAt_congr s.sign.signs k h)

/-- A sign record changed and its arbitration rerun: nothing but that record is changed. -/
theorem State.arbitrate_changed_eq (s : State) (k : Fin 12) (f : Sign → Sign) : (s.modSignRec k f).arbitrate k =
    { s with sign := { s.sign with signs := updAt s.sign.signs k fun _ => ((s.modSignRec k f).arbitrate k).sign.signs[k] } } := by
  rw [(s.arbitrate_changed k f).1]
  exact (s.modSignRec_modSignRec k f _).trans (s.modSignRec_congr k rfl)

/-- Settles O56. -/
theorem tableWritesSetFields : Obligations.TableWritesSetFields := by
  refine ⟨fun src tag index state service peer i s hs hsave hi h63 => ⟨fun x hx hb hz hr => ?_, fun hv hb => ?_⟩,
    fun src tag index enabled source quantity sense p link page priority set clear signs i x s hs hsave hi hx hrules => ?_,
    fun src tag index station mode level minimum slope k m s hs hsave hi hm => ?_,
    fun src tag index depth offset light kw k x s hs hsave hi hx => ?_,
    fun src tag index ringSize wTq wMq wAq primary secondary ce cx he hx' p s hs hsave hi hp => ?_⟩
  all_goals have hq : s.commandTaken.agentQuiet = true := (s.agentIdle_parts hs).1
  · exact laneWriteSetsFields src tag index state service peer i s hs hsave hi .done _
      (s.commandTaken.writeLane_done i _ x h63 hx hb hz hr) hq
  · exact laneWriteSetsFields src tag index state service peer i s hs hsave hi .state _
      (s.commandTaken.writeLane_bound i _ h63 hv hb) hq
  · have hw := s.commandTaken.writeRule_unheld i x hrules
    refine ⟨s.commandTaken.writeRule i x, congrArg Host.Outcome.next (s.command_writes _ src tag .rule index _ .done hs hsave
      (by rw [hi]; exact i.isLt) rfl ?_ (by rw [hw]; exact State.arbitrateSet_quiet _ _ hq)), ?_⟩
    · show (fin? 32 index.toNat).elim _ _ = _
      rw [hi, fin?_val]
      exact s.commandTaken.writeRuleEntry_some i _ x hx
    · rw [hw, State.arbitrateSet_kept]; rfl
  · have hsign : s.commandTaken.writeSign k m = (s.commandTaken.modSignRec k fun r => { r with mode := m }).arbitrate k := rfl
    obtain ⟨hself, hother, hsame⟩ := s.commandTaken.arbitrate_changed k fun r => { r with mode := m }
    refine ⟨s.commandTaken.writeSign k m, congrArg Host.Outcome.next (s.command_writes _ src tag .sign index _ .done hs hsave
      (by rw [hi]; exact k.isLt) rfl ?_ (State.agentQuiet_of_sign s.commandTaken _ hq)), ?_⟩
    · show (fin? 12 index.toNat).elim _ _ = _
      rw [hi, fin?_val]
      exact s.commandTaken.writeSignEntry_some k _ m hm
    · rw [hsign]
      refine ⟨?_, ?_, ?_, ?_⟩
      · rw [hself, Sign.setNext_mode]
      · rw [hsame, hself, Sign.setNext_next]
      · rw [hself, (Sign.setNext_kept _ _).2]; rfl
      · exact s.commandTaken.arbitrate_changed_eq k _
  · have hget : (s.commandTaken.modSlot k (·.configure x)).slots[k] = s.slots[k].configure x := updAt_get_self s.slots k _
    refine ⟨s.commandTaken.modSlot k (·.configure x), congrArg Host.Outcome.next (s.command_writes _ src tag .slot index _ .done hs hsave
      (by rw [hi]; exact k.isLt) rfl ?_ hq), ?_⟩
    · show (fin? 8 index.toNat).elim _ _ = _
      rw [hi, fin?_val]
      exact s.commandTaken.writeSlotEntry_some k _ x hx
    · rw [hget]
      obtain ⟨h1, h2, h3, h4, h5, h6⟩ := s.slots[k].configure_fields x
      exact ⟨h1, h2, h3, h4, h5, h6, s.slots[k].configure_deepened x, s.slots[k].configure_same x,
        congrArg (fun v => { s.commandTaken with slots := v }) (updAt_congr s.slots k rfl)⟩
  · refine congrArg Host.Outcome.next (s.command_writes ({ s.commandTaken with agent := { s.commandTaken.agent with params := p } } : State)
      src tag .param index _ .done hs hsave (by rw [hi]; decide) rfl ?_ hq)
    exact s.commandTaken.writeParams_some _ p hp

end Sys2Proof.Machine
end

section
/-! PROOFS. Station writes (3.2, 11.3). -/

namespace Sys2Proof.Machine

/-! ### Reports of a write (R92, R128, R148) -/

/-- What a station write's reports change: the journal, the reduction slots and sign service. -/
def State.Reported (s t : State) : Prop := t = { s with jrnl := t.jrnl, slots := t.slots, sign := t.sign }

theorem State.Reported.refl (s : State) : s.Reported s := rfl

theorem State.Reported.trans {a b c : State} (h : a.Reported b) (k : b.Reported c) : a.Reported c := by
  unfold State.Reported at *
  rw [k, h]

theorem State.emptyAnswers_reported (s : State) (i : Fin 32) : s.Reported (s.emptyAnswers i) := rfl

theorem State.reportLink_reported (s : State) (e : Station) : s.Reported (s.reportLink e) := by
  unfold State.reportLink
  split
  · split <;> exact rfl
  · split <;> exact rfl
  · exact rfl

theorem State.reportStation_reported (s : State) (i : Fin 32) (old : Station) (x : StationRecord) : s.Reported (s.reportStation i old x) := by
  have hif : ∀ (c : Bool) (a b : State), a.Reported b → a.Reported (if c = true then b else a) := fun c a b h => by
    split
    · exact h
    · exact .refl a
  unfold State.reportStation
  dsimp only
  exact ((hif _ _ _ (s.emptyAnswers_reported i)).trans (hif _ _ _ (State.reportLink_reported _ old))).trans
    (hif _ _ _ (State.reportLink_reported _ _))

/-! ### The entry after a write (R41) -/

theorem Station.write_configured (e : Station) (x : StationRecord) (now : Nat) :
    (e.write x now).drop = x.drop ∧ (e.write x now).address = x.address ∧ (e.write x now).kind = x.kind ∧
      (e.write x now).period = x.period ∧ (e.write x now).link = x.link ∧ (e.write x now).location = x.location ∧
      (e.write x now).shed = x.shed := by
  unfold Station.write
  split
  · exact ⟨rfl, rfl, rfl, rfl, rfl, rfl, rfl⟩
  · split <;> exact ⟨rfl, rfl, rfl, rfl, rfl, rfl, rfl⟩

theorem Station.renewed_iff (e : Station) (x : StationRecord) (hx : x.state ≠ .unused) : e.renewed x = true ↔
    e.state = .unused ∨ e.drop ≠ x.drop ∨ e.address ≠ x.address ∨ e.kind ≠ x.kind := by
  unfold Station.renewed Station.inUse
  simp [hx, or_assoc]

/-! ### Settled -/

/-- A station write that passes, before its reply. -/
def State.stationWritten (s : State) (i : Fin 32) (x : StationRecord) : State :=
  if s.poll.stations[i].renewed x || s.endsShed s.poll.stations[i] x then
    ((s.modStation i (·.write x s.now)).reportStation i s.poll.stations[i] x).dropChoose x.drop
  else (s.modStation i (·.write x s.now)).reportStation i s.poll.stations[i] x

theorem State.writeStation_done (s : State) (i : Fin 32) (l : List Byte) (x : StationRecord) (hb : s.stationBusy i = false)
    (hx : StationRecord.ofBytes? l = some x) (hc : s.stationClashes i x = false) (hf : s.dropFull i x = false) :
    s.writeStation i l = (.done, s.stationWritten i x) := by
  unfold State.writeStation
  rw [if_neg (by rw [hb]; decide), hx]
  dsimp only
  rw [if_neg (by rw [hc]; decide), if_neg (by rw [hf]; decide)]
  rfl

/-- A write that passes changes its own entry, then its reports and the choice it lets the drop make. -/
theorem State.stationWritten_spec (s : State) (i : Fin 32) (x : StationRecord) :
    s.stationWritten i x = { s with
      poll := (s.stationWritten i x).poll, calls := (s.stationWritten i x).calls, jrnl := (s.stationWritten i x).jrnl
      slots := (s.stationWritten i x).slots, sign := (s.stationWritten i x).sign } ∧
    (s.stationWritten i x).poll.stations = updAt s.poll.stations i (·.write x s.now) := by
  have hrep := (s.modStation i (·.write x s.now)).reportStation_reported i s.poll.stations[i] x
  unfold State.stationWritten
  generalize (s.modStation i (·.write x s.now)).reportStation i s.poll.stations[i] x = a at hrep
  have ha : a.poll.stations = updAt s.poll.stations i (·.write x s.now) := by rw [hrep]; rfl
  split
  · have hpaid := (a.dropChoose_begun x.drop).paid.kept
    generalize a.dropChoose x.drop = t at hpaid
    refine ⟨by rw [hpaid, hrep]; rfl, ?_⟩
    rw [hpaid]; exact ha
  · exact ⟨by rw [hrep]; rfl, ha⟩

/-- Settles O57. -/
theorem stationWriteSetsUpStation : Obligations.StationWriteSetsUpStation := by
  intro src tag index state drop address kind link shed period location i c s hs hsave hi hc
  have hq : s.commandTaken.agentQuiet = true := (s.agentIdle_parts hs).1
  have hwrite : ∀ st u, s.commandTaken.writeStation i
        ([state, drop, address, kind] ++ be16 period ++ [link] ++ be16 location ++ [shed]) = (st, u) → u.agentQuiet = true →
      exec (.writeEntryStation src tag index state drop address kind period link location shed) s = .next (u.withReply c st []) :=
    fun st u h hu => by
      rw [hc]
      refine congrArg Host.Outcome.next (s.command_writes u src tag .station index _ st hs hsave (by rw [hi]; exact i.isLt) rfl ?_ hu)
      show (fin? 32 index.toNat).elim _ _ = _
      rw [hi, fin?_val]
      exact h
  refine ⟨fun x hb hx hcl hfull => ?_, fun hb => hwrite .state s.commandTaken (if_pos hb) hq⟩
  obtain ⟨hkept, hst⟩ := s.commandTaken.stationWritten_spec i x
  have hdone := hwrite .done _ (s.commandTaken.writeStation_done i _ x hb hx hcl hfull)
  generalize s.commandTaken.stationWritten i x = u at hkept hst hdone
  refine ⟨_, hdone (by rw [hkept]; exact hq), ?_⟩
  have hget : ∀ k : Fin 32, (u.withReply c .done []).poll.stations[k] =
      if i = k then s.poll.stations[k].write x s.now else s.poll.stations[k] := fun k => by
    show u.poll.stations[k] = _
    rw [hst]; exact updAt_get s.poll.stations i k _
  have hself := (hget i).trans (if_pos rfl)
  obtain ⟨h1, h2, h3, h4, h5, h6, h7⟩ := s.poll.stations[i].write_configured x s.now
  have hframe : u.withReply c .done [] = { s with
      ring := (s.commandTaken.withReply c .done []).ring, agent := (s.commandTaken.withReply c .done []).agent, poll := u.poll
      calls := u.calls, jrnl := u.jrnl, slots := u.slots, sign := u.sign } := by rw [hkept]; rfl
  rw [hself]
  refine ⟨by rw [hframe], by rw [hframe], fun k hk => (hget k).trans (if_neg hk.symm), h1, h2, h3, h4, h5, h6, h7, fun hu => ?_,
    fun hu hnew => ?_, fun hu h1 h2 h3 h4 => ?_, ?_⟩
  · unfold Station.write
    rw [if_pos hu]
    exact ⟨rfl, rfl, rfl⟩
  · unfold Station.write
    rw [if_neg hu, if_pos ((Station.renewed_iff _ x hu).mpr hnew)]
    exact ⟨rfl, rfl, rfl, rfl, rfl, rfl⟩
  · have hold : ¬ s.poll.stations[i].renewed x = true := fun h =>
      ((Station.renewed_iff _ x hu).mp h).elim h1 fun h => h.elim (fun h => h h2) fun h => h.elim (fun h => h h3) fun h => h h4
    unfold Station.write
    rw [if_neg hu, if_neg hold]
    exact ⟨rfl, rfl, rfl⟩
  · rw [hframe]

end Sys2Proof.Machine
end

section
/-! PROOFS. RESTART (11.6). -/

namespace Sys2Proof.Machine

/-! ### The calls dropped (R76) -/

/-- A CLEAR with reason FORCED. -/
def Block.ForcedClear (b : Block) : Prop := b.kind = .call ∧ b.subtype = 4 ∧ byteAt b.body 2 = 4

/-- What the dropping of calls changes: EQ takes FORCED CLEARs, lanes lose bindings, phones fall due, and the records go. -/
structure State.CallsDropped (s t : State) : Prop where
  kept : t = { s with
    ring := { s.ring with eq := t.ring.eq }, lanes := t.lanes, poll := { s.poll with stations := t.poll.stations }
    calls := { s.calls with records := t.calls.records, ctr := t.calls.ctr } }
  lanes : ∀ i : Fin 64, t.lanes[i] = { s.lanes[i] with binding := t.lanes[i].binding }
  stations : ∀ i : Fin 32, t.poll.stations[i] = { s.poll.stations[i] with
    due := t.poll.stations[i].due, voiceDue := t.poll.stations[i].voiceDue, come := t.poll.stations[i].come }
  eq : ∀ b ∈ t.ring.eq, b ∈ s.ring.eq ∨ b.ForcedClear

theorem State.CallsDropped.refl (s : State) : s.CallsDropped s := ⟨rfl, fun _ => rfl, fun _ => rfl, fun _ h => .inl h⟩

theorem State.CallsDropped.trans {a b c : State} (h : a.CallsDropped b) (k : b.CallsDropped c) : a.CallsDropped c where
  kept := by rw [k.kept, h.kept]
  lanes i := by rw [k.lanes i, h.lanes i]
  stations i := by rw [k.stations i, h.stations i]
  eq x hx := (k.eq x hx).elim (h.eq x) .inr

theorem State.forEach_dropped {α : Type} (f : α → State → State) (hf : ∀ a s, State.CallsDropped s (f a s)) (l : List α) :
    ∀ s : State, s.CallsDropped (s.forEach l f) := by
  induction l with
  | nil => exact .refl
  | cons a l ih => exact fun s => (hf a s).trans (ih (f a s))

theorem State.modRecord_dropped (s : State) (r : Fin 16) (f : CallRecord → CallRecord) : s.CallsDropped (s.modRecord r f) :=
  ⟨rfl, fun _ => rfl, fun _ => rfl, fun _ h => .inl h⟩

theorem State.countCalls_dropped (s : State) (f : CallCounters → CallCounters) : s.CallsDropped (s.countCalls f) :=
  ⟨rfl, fun _ => rfl, fun _ => rfl, fun _ h => .inl h⟩

theorem State.sendCall_dropped (s : State) (seq : Byte) (body : List Byte) (h : byteAt body 2 = 4) :
    s.CallsDropped (s.sendCall subClear seq body) := by
  unfold State.sendCall
  split
  · exact s.countCalls_dropped _
  · split
    · refine ⟨rfl, fun _ => rfl, fun _ => rfl, fun b hb => ?_⟩
      rcases List.mem_append.mp hb with hb | hb
      · exact .inl hb
      · rw [List.mem_singleton.mp hb]
        exact .inr ⟨rfl, rfl, h⟩
    · exact s.countCalls_dropped _

theorem State.forceClear_dropped (s : State) (r : Fin 16) : s.CallsDropped (s.forceClear r) := by
  unfold State.forceClear
  split
  · rename_i hid
    have hrec := (s.modRecord_get r r fun x => { x with attempts := min 255 (x.attempts + 1) }).trans (if_pos rfl)
    have hbody : byteAt ((s.modRecord r fun x => { x with attempts := min 255 (x.attempts + 1) }).calls.records[r].idBytes ++
        [ClearReason.forced.code]) 2 = 4 := by
      rw [hrec]
      unfold CallRecord.idBytes
      obtain ⟨c, hc⟩ := Option.isSome_iff_exists.mp hid
      dsimp only
      rw [hc]; rfl
    exact ((s.modRecord_dropped r _).trans (State.sendCall_dropped _ _ _ hbody)).trans (State.countCalls_dropped _ _)
  · exact .refl s

theorem State.seatReleased_dropped (s : State) (slot : Fin 32) : s.CallsDropped (s.seatReleased slot) := by
  refine ⟨rfl, fun _ => rfl, fun i => ?_, fun _ h => .inl h⟩
  have h : (s.seatReleased slot).poll.stations[i] = _ := s.modStation_get slot i _
  rw [h]
  split <;> rfl

theorem State.releaseSeat_dropped (s : State) (r : Fin 16) : s.CallsDropped (s.releaseSeat r) := by
  unfold State.releaseSeat
  split
  · split
    · exact s.seatReleased_dropped _
    · exact .refl s
  · exact .refl s

theorem State.unbind_dropped (s : State) (r : Fin 16) : s.CallsDropped (s.unbind r) := by
  unfold State.unbind
  split
  · rename_i lane _
    refine ⟨rfl, fun i => ?_, fun _ => rfl, fun _ h => .inl h⟩
    have h : (s.modLane lane fun e => { e with binding := none }).lanes[i] = _ := updAt_get s.lanes lane i _
    rw [h]
    split <;> rfl
  · exact .refl s

theorem State.clearRecord_dropped (s : State) (r : Fin 16) : s.CallsDropped (s.clearRecord r) :=
  ((s.releaseSeat_dropped r).trans (State.unbind_dropped _ r)).trans (State.modRecord_dropped _ r _)

theorem State.releaseSeat_calls (s : State) (r : Fin 16) : (s.releaseSeat r).calls = s.calls := by
  unfold State.releaseSeat
  split
  · split <;> rfl
  · rfl

theorem State.unbind_calls (s : State) (r : Fin 16) : (s.unbind r).calls = s.calls := by
  unfold State.unbind
  split <;> rfl

theorem State.clearRecord_get (s : State) (r q : Fin 16) :
    (s.clearRecord r).calls.records[q] = if r = q then CallRecord.free else s.calls.records[q] := by
  unfold State.clearRecord
  rw [State.modRecord_get, State.unbind_calls, State.releaseSeat_calls]

/-- Once every record of a list is cleared, each of them is FREE. -/
theorem State.forEach_cleared (l : List (Fin 16)) (q : Fin 16) : ∀ s : State, (q ∈ l ∨ s.calls.records[q] = CallRecord.free) →
    (s.forEach l fun r s => s.clearRecord r).calls.records[q] = CallRecord.free := by
  induction l with
  | nil => exact fun s h => h.elim (fun h => (nomatch h)) id
  | cons r l ih =>
    intro s h
    refine ih (s.clearRecord r) ?_
    rw [s.clearRecord_get r q]
    by_cases hr : r = q
    · exact .inr (if_pos hr)
    · rw [if_neg hr]
      exact h.imp (fun h => (List.mem_cons.mp h).resolve_left fun e => hr e.symm) id

/-- The call engine's part of RESTART: the calls dropped, the wait list gone, and a notice of that. -/
theorem State.restartCalls_spec (s : State) : ∃ u : State, s.CallsDropped u ∧ (∀ r : Fin 16, u.calls.records[r] = CallRecord.free) ∧
    ∃ l, State.Queued { u with calls := { u.calls with waitList := [] } } s.restartCalls l := by
  refine ⟨(s.forEach (List.finRange 16) fun r s => s.forceClear r).forEach (List.finRange 16) fun r s => s.clearRecord r,
    (State.forEach_dropped _ (fun r s => s.forceClear_dropped r) _ s).trans (State.forEach_dropped _ (fun r s => s.clearRecord_dropped r) _ _),
    fun r => State.forEach_cleared _ r _ (.inl (List.mem_finRange r)), ?_⟩
  unfold State.restartCalls
  dsimp only
  split
  · exact ⟨[], .refl _⟩
  · exact ⟨_, State.notify_queued _ _⟩

/-! ### The journal and the store controller (R112, R115) -/

theorem State.restartJournal_eq (s : State) : s.restartJournal = { s with
    ctl := s.ctl.withdraw fun _ => true
    jrnl := { ({ s.jrnl with readAhead := [] } : Journal).reopen with
      staging := [], overrun := false, answers := Vector.replicate 32 []
      hand := s.jrnl.hand.map fun h => { h with txn := { h.txn with linked := false } }, credit := 0, inTransit := [] } } := rfl

/-- What every RESTART leaves of the journal, and of the controller. -/
structure State.CustodyRestarted (s t : State) : Prop where
  kept : t = { s with jrnl := t.jrnl, ctl := t.ctl }
  jrnl : t.jrnl = s.restartJournal.jrnl
  scans : s.jrnl.cond = .fault → t.ctl.state = .scanning
  stays : s.jrnl.cond ≠ .fault → t.ctl.state = s.ctl.state
  save : t.ctl.save = s.ctl.save ∧ t.ctl.generation = s.ctl.generation

theorem State.restartCustody_restarted (s : State) : s.CustodyRestarted s.restartCustody := by
  unfold State.restartCustody
  by_cases h : s.jrnl.cond = .fault
  · rw [if_pos h]
    unfold State.rescan
    dsimp only
    split
    · exact ⟨rfl, rfl, fun _ => rfl, fun hc => absurd h hc, rfl, rfl⟩
    · exact ⟨rfl, rfl, fun _ => rfl, fun hc => absurd h hc, rfl, rfl⟩
  · rw [if_neg h]
    exact ⟨rfl, rfl, fun hc => absurd hc h, fun _ => rfl, rfl, rfl⟩

theorem Journal.reopen_fault (j : Journal) (h : j.cond = .fault) : j.reopen = { j.dropView with cond := .recovering, faultCause := none } :=
  if_pos h

theorem Journal.reopen_other (j : Journal) (h : j.cond ≠ .fault) : j.reopen = j := if_neg h

theorem State.restartJournal_fault (s : State) (h : s.jrnl.cond = .fault) : s.restartJournal.jrnl = { s.jrnl.dropView with
    cond := .recovering, faultCause := none, staging := [], overrun := false, answers := Vector.replicate 32 []
    hand := s.jrnl.hand.map fun h => { h with txn := { h.txn with linked := false } }, credit := 0, inTransit := [] } := by
  rw [State.restartJournal_eq, Journal.reopen_fault ({ s.jrnl with readAhead := [] } : Journal) h]
  rfl

theorem State.restartJournal_other (s : State) (h : s.jrnl.cond ≠ .fault) : s.restartJournal.jrnl = { s.jrnl with
    readAhead := [], staging := [], overrun := false, answers := Vector.replicate 32 []
    hand := s.jrnl.hand.map fun h => { h with txn := { h.txn with linked := false } }, credit := 0, inTransit := [] } := by
  rw [State.restartJournal_eq, Journal.reopen_other ({ s.jrnl with readAhead := [] } : Journal) h]

theorem Journal.reopen_unread (j : Journal) (h : j.readAhead = []) : j.reopen.readAhead = [] := by
  unfold Journal.reopen
  split
  · rfl
  · exact h

theorem Journal.reopen_ctr (j : Journal) : j.reopen.ctr = j.ctr := by
  unfold Journal.reopen
  split <;> rfl

/-! ### Rules and signs (R159) -/

/-- Every rule INACTIVE and not effective. -/
theorem State.restartSigns_rules (s : State) (i : Fin 32) :
    s.restartSigns.rules[i] = { s.rules[i] with state := .inactive, count := 0, effective := false } := by
  have hget : ∀ j : Fin 32, (s.rules.map fun r => { r with state := .inactive, count := 0 })[j] = { s.rules[j] with state := .inactive, count := 0 } :=
    fun j => Vector.getElem_map ..
  unfold State.restartSigns
  rw [State.settleAll_kept]
  show (settleRules (s.rules.map _))[i] = _
  rw [settleRules_get, ruleEffective_unheld _ i (by rw [hget i]; rfl), hget i]

theorem State.restartSigns_kept (s : State) : s.restartSigns =
    { s with rules := s.restartSigns.rules, sign := { s.sign with signs := s.restartSigns.sign.signs } } := by
  have h := (s.modRules fun rules => rules.map fun r => { r with state := .inactive, count := 0 }).settleAll_kept
  unfold State.restartSigns
  generalize (s.modRules fun rules => rules.map fun r => { r with state := .inactive, count := 0 }).settleAll = t at h
  rw [h]
  rfl

/-- Every sign's NEXT is arbitrated again, and a LIVE page stays. -/
theorem State.restartSigns_signs (s : State) (k : Fin 12) :
    s.restartSigns.sign.signs[k] = s.sign.signs[k].setNext (s.restartSigns.arbitrated k) := by
  have hsigns := (s.modRules fun rules => rules.map fun r => { r with state := .inactive, count := 0 }).settleAll_signs k
  have hrules := congrArg State.rules (s.modRules fun rules => rules.map fun r => { r with state := .inactive, count := 0 }).settleAll_kept
  unfold State.restartSigns
  generalize hv : (s.modRules fun rules => rules.map fun r => { r with state := .inactive, count := 0 }) = v at hsigns hrules
  have hsame : v.sign = s.sign := by rw [← hv]; rfl
  generalize v.settleAll = t at hsigns hrules
  rw [← hsame]
  have harb : t.arbitrated k = (v.modRules settleRules).arbitrated k := by
    refine State.arbitrated_congr _ _ k hrules ?_ ?_ <;> rw [hsigns]
    · exact (Sign.setNext_kept _ _).1
    · exact (Sign.setNext_kept _ _).2
  rw [harb]
  exact hsigns

/-! ### The whole of RESTART (R178) -/

/-- What RESTART makes of the advisory engine and of sign service. -/
structure State.SignsRestarted (s t : State) : Prop where
  kept : t = { s with rules := t.rules, sign := { s.sign with signs := t.sign.signs } }
  rules : ∀ i : Fin 32, t.rules[i] = { s.rules[i] with state := .inactive, count := 0, effective := false }
  signs : ∀ k : Fin 12, t.sign.signs[k] = s.sign.signs[k].setNext (t.arbitrated k)

theorem State.restartSigns_restarted (s : State) : s.SignsRestarted s.restartSigns :=
  ⟨s.restartSigns_kept, s.restartSigns_rules, s.restartSigns_signs⟩

/-- The parts of RESTART, in their order. -/
theorem State.restartAll_spec (s : State) : ∃ u v x l, (s.modRing (·.restart)).CallsDropped u ∧
    (∀ r : Fin 16, u.calls.records[r] = CallRecord.free) ∧ State.Queued { u with calls := { u.calls with waitList := [] } } v l ∧
    v.unbindAll.CustodyRestarted x ∧ x.restartWeather.SignsRestarted s.restartAll := by
  obtain ⟨u, hu, hfree, l, hq⟩ := (s.modRing (·.restart)).restartCalls_spec
  exact ⟨u, _, _, l, hu, hfree, hq, State.restartCustody_restarted _, State.restartSigns_restarted _⟩

theorem Command.order?_restart (c : Command) (h : c.code = cmdRestart) :
    c.order? = exactly 1 c.body ((flagOf? (byteAt c.body 0)).map .restart) := by
  unfold Command.order?; rw [h]; rfl

theorem exec_restart_forced (src : NodeId) (tag : Byte) (s : State) (hs : s.agentIdle = true) : exec (.restart src tag 1) s =
    .next ((s.tookCommand.restartAll.reply { src := src, tag := tag, code := cmdRestart, body := [1] } (some (.done, []))).agentTurns 23) := by
  obtain ⟨hr, hi, ho, hn, hnr⟩ := s.agentIdle_iff.mp hs
  refine congrArg Host.Outcome.next ((s.unlessRepeater_run _ hr).trans ((s.agentReceive_idle _ hi ho hn).trans ?_))
  have hcarry : s.tookCommand.carryOut { src := src, tag := tag, code := cmdRestart, body := [1] } =
      (some (.done, []), s.tookCommand.restartAll) := by
    have hready : s.tookCommand.notReady = false := hnr
    unfold State.carryOut
    rw [if_neg (fun h => by rw [hready] at h; cases h.1), if_neg (show ¬ knownCode cmdRestart = false by decide),
      Command.order?_restart _ rfl]
    rfl
  rw [hcarry]

/-- What a forced RESTART leaves, by the state u in which the calls have been dropped. -/
structure State.Restarted (s u t : State) : Prop where
  calls : t.calls = { s.calls with records := u.calls.records, ctr := u.calls.ctr, waitList := [] }
  lanes : t.lanes = u.lanes.map fun e => { e with binding := none }
  ring : t.ring = { s.ring.restart with eq := u.ring.eq, mq := t.ring.mq }
  jrnl : t.jrnl = s.restartJournal.jrnl
  scans : s.jrnl.cond = .fault → t.ctl.state = .scanning
  stays : s.jrnl.cond ≠ .fault → t.ctl.state = s.ctl.state
  save : t.ctl.save = s.ctl.save ∧ t.ctl.generation = s.ctl.generation
  slots : t.slots = s.slots.map ReductionSlot.emptied
  rules : ∀ i : Fin 32, t.rules[i] = { s.rules[i] with state := .inactive, count := 0, effective := false }
  signs : ∀ k : Fin 12, t.sign.signs[k] = s.sign.signs[k].setNext (t.arbitrated k)
  store : t.sign.store = s.sign.store
  poll : t.poll = { s.poll with stations := u.poll.stations }
  kept : t.prot = s.prot ∧ t.agent.params = s.agent.params ∧ t.nv = s.nv ∧ t.sup = s.sup ∧ t.now = s.now ∧ t.straps = s.straps
  intake : t.agent.intake = s.agent.intake

theorem State.restartAll_restarted (s : State) :
    ∃ u, (s.modRing (·.restart)).CallsDropped u ∧ (∀ r : Fin 16, u.calls.records[r] = CallRecord.free) ∧ s.Restarted u s.restartAll := by
  obtain ⟨u, v, x, l, hu, hfree, hv, hx, hz⟩ := s.restartAll_spec
  refine ⟨u, hu, hfree, ?_⟩
  generalize s.restartAll = z at hz
  have hzk := hz.kept
  have hxk := hx.kept
  have hvk := hv.kept
  have huk := hu.kept
  have hjrnl : v.unbindAll.restartJournal.jrnl = s.restartJournal.jrnl := by
    have hv1 : v.jrnl = s.jrnl := by rw [hvk, huk]; rfl
    rw [State.restartJournal_eq, State.restartJournal_eq]
    show ({ ({ v.jrnl with readAhead := [] } : Journal).reopen with
      staging := [], overrun := false, answers := _, hand := v.jrnl.hand.map _, credit := 0, inTransit := [] } : Journal) = _
    rw [hv1]
  have hvctl : v.unbindAll.ctl = s.ctl ∧ v.unbindAll.jrnl.cond = s.jrnl.cond := by
    constructor
    · show v.ctl = _; rw [hvk, huk]; rfl
    · show v.jrnl.cond = _; rw [hvk, huk]; rfl
  have hxs : x.rules = s.rules ∧ x.sign = s.sign ∧ x.slots = s.slots := by rw [hxk]; show v.rules = _ ∧ v.sign = _ ∧ v.slots = _; rw [hvk, huk]; exact ⟨rfl, rfl, rfl⟩
  constructor
  case calls => rw [hzk]; show x.calls = _; rw [hxk]; show v.calls = _; rw [hvk, huk]; rfl
  case lanes => rw [hzk]; show x.lanes = _; rw [hxk]; show v.lanes.map _ = _; rw [hvk]
  case ring => rw [hzk]; show x.ring = { s.ring.restart with eq := u.ring.eq, mq := x.ring.mq }; rw [hxk]; show v.ring = { s.ring.restart with eq := u.ring.eq, mq := v.ring.mq }; rw [hvk, huk]; rfl
  case jrnl => rw [hzk]; exact hx.jrnl.trans hjrnl
  case scans => rw [hzk]; exact fun h => hx.scans (hvctl.2.trans h)
  case stays => rw [hzk]; exact fun h => (hx.stays (by rw [hvctl.2]; exact h)).trans (by rw [hvctl.1])
  case save => rw [hzk]; refine ⟨hx.save.1.trans ?_, hx.save.2.trans ?_⟩ <;> rw [hvctl.1]
  case slots => rw [hzk]; show x.slots.map _ = _; rw [hxs.2.2]
  case rules => exact fun i => (hz.rules i).trans (by rw [show x.restartWeather.rules = s.rules from hxs.1])
  case signs => exact fun k => (hz.signs k).trans (by show x.sign.signs[k].setNext _ = _; rw [hxs.2.1])
  case store => rw [hzk]; show x.sign.store = _; rw [hxs.2.1]
  case poll => rw [hzk]; show x.poll = _; rw [hxk]; show v.poll = _; rw [hvk, huk]; rfl
  case kept =>
    rw [hzk]; show x.prot = _ ∧ x.agent.params = _ ∧ x.nv = _ ∧ x.sup = _ ∧ x.now = _ ∧ x.straps = _
    rw [hxk]; show v.prot = _ ∧ v.agent.params = _ ∧ v.nv = _ ∧ v.sup = _ ∧ v.now = _ ∧ v.straps = _
    rw [hvk, huk]; exact ⟨rfl, rfl, rfl, rfl, rfl, rfl⟩
  case intake => rw [hzk]; show x.agent.intake = _; rw [hxk]; show v.agent.intake = _; rw [hvk, huk]; rfl

/-- The agent's turns that follow leave all of that. -/
theorem State.Restarted.turns {s u z : State} (h : s.Restarted u z) (hi : s.agent.intake = []) (c : Command) (a : Answer) (n : Nat) :
    s.Restarted u ((z.reply c a).agentTurns n) := by
  have hreply : z.reply c a = { z with agent := { z.agent with outbox := (z.reply c a).agent.outbox } } := by
    unfold State.reply
    split <;> rfl
  generalize z.reply c a = r at hreply
  have hri : r.agent.intake = [] := by rw [hreply]; exact h.intake.trans hi
  have htk := State.kept_of_work (State.agentTurns_work n r hri).1
  obtain ⟨more, htr⟩ := State.agentTurns_ring n r hri
  generalize r.agentTurns n = t at htk htr
  have hring : t.ring = { z.ring with mq := t.ring.mq } := by rw [htr, hreply]
  have hk : t = { z with ring := t.ring, free := t.free, agent := { z.agent with outbox := t.agent.outbox, notices := t.agent.notices } } := by
    rw [htk, hreply]
  have harb : ∀ k, t.arbitrated k = z.arbitrated k := fun k => by rw [hk]; rfl
  constructor
  case calls => rw [hk]; exact h.calls
  case lanes => rw [hk]; exact h.lanes
  case ring => rw [hring, h.ring]
  case jrnl => rw [hk]; exact h.jrnl
  case scans => rw [hk]; exact h.scans
  case stays => rw [hk]; exact h.stays
  case save => rw [hk]; exact h.save
  case slots => rw [hk]; exact h.slots
  case rules => rw [hk]; exact h.rules
  case signs => intro k; rw [harb, hk]; exact h.signs k
  case store => rw [hk]; exact h.store
  case poll => rw [hk]; exact h.poll
  case kept => rw [hk]; exact h.kept
  case intake => rw [hk]; exact h.intake

/-! ### Settled -/

theorem Sign.setNext_record (r : Sign) (n : Option (Fin 8)) :
    r.setNext n = { r with next := n, live := (r.setNext n).live, cursor := (r.setNext n).cursor } := by
  have h := r.setNext_shown n
  rw [r.setNext_next n] at h
  exact h

theorem State.callsUp_true (s : State) (r : Fin 16) (h : s.calls.records[r].state ≠ .free) : s.callsUp = true := by
  unfold State.callsUp
  rw [List.any_eq_true]
  exact ⟨s.calls.records[r], Vector.mem_toList_iff.mpr (Vector.getElem_mem _), bne_iff_ne.mpr h⟩

/-- Settles O60. -/
theorem restartEmptiesEngines : Obligations.RestartEmptiesEngines := by
  refine ⟨fun src tag s hs => ?_, fun src tag r s hs hr => ?_⟩
  · obtain ⟨u, hu, hfree, hz⟩ := s.tookCommand.restartAll_restarted
    have ht := hz.turns rfl { src := src, tag := tag, code := cmdRestart, body := [1] } (some (.done, [])) 23
    refine ⟨_, exec_restart_forced src tag s hs, ?_⟩
    generalize (s.tookCommand.restartAll.reply _ _).agentTurns 23 = t at ht
    refine ⟨fun r => ?_, by rw [ht.calls], by rw [ht.calls]; rfl, by rw [ht.calls]; rfl, by rw [ht.calls]; rfl, fun i => ?_, ?_, ?_, ht.kept.1,
      ?_, ?_, fun i => ?_, ?_, ?_, ?_, ?_, ?_, fun hf => ?_, fun hf => ?_, ht.save.1, ht.save.2, fun k => ?_, ht.rules, fun k => ⟨?_, fun hl => ?_⟩,
      ht.store, fun i => ?_, by rw [ht.poll]; rfl, ht.kept.2⟩
    · rw [ht.calls]; exact hfree r
    · rw [ht.lanes]
      refine (Vector.getElem_map ..).trans ?_
      have hi := hu.lanes i
      rw [Fin.getElem_fin] at hi
      rw [hi]; rfl
    · rw [ht.ring]; rfl
    · rw [ht.ring]; exact fun b hb => (hu.eq b hb).resolve_left List.not_mem_nil
    · rw [ht.jrnl]; rfl
    · rw [ht.jrnl]; rfl
    · rw [ht.jrnl]; exact Vector.getElem_replicate _
    · rw [ht.jrnl]; rfl
    · rw [ht.jrnl]; rfl
    · rw [ht.jrnl, State.restartJournal_eq]; exact Journal.reopen_unread _ rfl
    · rw [ht.jrnl, State.restartJournal_eq]
      show Option.map _ (s.jrnl.hand.map _) = _
      rw [Option.map_map]; rfl
    · rw [ht.jrnl, State.restartJournal_eq]; exact Journal.reopen_ctr _
    · have hscan := ht.scans hf
      rw [ht.jrnl, s.tookCommand.restartJournal_fault hf]
      refine ⟨rfl, rfl, rfl, hscan, ?_⟩
      unfold State.notReady
      rw [hscan]; rfl
    · rw [ht.jrnl, s.tookCommand.restartJournal_other hf]
      exact ⟨rfl, rfl, rfl, rfl, rfl, rfl, rfl, rfl, ht.stays hf⟩
    · rw [ht.slots]; exact Vector.getElem_map ..
    · rw [ht.signs k]; exact Sign.setNext_record _ _
    · rw [ht.signs k]; exact Sign.setNext_shows _ _ hl
    · rw [ht.poll]; exact hu.stations i
  · refine congrArg Host.Outcome.next (s.command_performs s.commandTaken src tag cmdRestart [0] (.restart false) .state [] hs (by decide)
      ((Command.order?_restart _ rfl).trans rfl) rfl (fun h => nomatch h) ?_ (s.agentIdle_parts hs).1)
    show (if (!false && s.commandTaken.callsUp) = true then _ else _) = _
    exact if_pos (s.commandTaken.callsUp_true r hr)

end Sys2Proof.Machine
end

section
/-! PROOFS. The call engine's operations (chapter 4), said once, and the signalling timers. -/

namespace Sys2Proof.Machine

/-! ### Signalling blocks (R65) -/

/-- EQ with one more block. -/
def State.eqWith (s : State) (b : Block) : State := { s with ring := { s.ring with eq := s.ring.eq ++ [s.completed b] } }

def State.signalLost (s : State) : State := s.countCalls fun c => { c with signallingLost := bump c.signallingLost }

theorem State.sendCall_taken (s : State) (lane : Fin 64) (subtype : BitVec 4) (seq : Byte) (body : List Byte)
    (hl : s.laneFor .call = some lane) (ht : s.takes .eq = true) :
    s.sendCall subtype seq body = s.eqWith (localBlock .call subtype lane s.lanes[lane].peer seq body) := by
  unfold State.sendCall
  rw [hl]
  exact if_pos ht

theorem State.sendCall_lost (s : State) (subtype : BitVec 4) (seq : Byte) (body : List Byte) (ht : s.takes .eq = false) :
    s.sendCall subtype seq body = s.signalLost := by
  unfold State.sendCall
  split
  · rfl
  · exact if_neg (by rw [ht]; decide)

/-- A signalling block joins EQ or is counted as lost, and nothing else changes. -/
theorem State.sendCall_kept (s : State) (subtype : BitVec 4) (seq : Byte) (body : List Byte) :
    s.sendCall subtype seq body = { s with
      ring := (s.sendCall subtype seq body).ring, calls := { s.calls with ctr := (s.sendCall subtype seq body).calls.ctr } } := by
  unfold State.sendCall
  split
  · rfl
  · split <;> rfl

theorem State.takes_isolated (s : State) (q : LocalQueue) (h : s.prot.ring = .isolated) : s.takes q = false := by
  rw [Bool.eq_false_iff, ne_eq, s.takes_iff]
  exact fun hc => hc.2.1 h

theorem State.modRecord_self (s : State) (r : Fin 16) (f : CallRecord → CallRecord) :
    (s.modRecord r f).calls.records[r] = f s.calls.records[r] := (s.modRecord_get r r f).trans (if_pos rfl)

theorem State.modRecord_other (s : State) (r q : Fin 16) (f : CallRecord → CallRecord) (h : q ≠ r) :
    (s.modRecord r f).calls.records[q] = s.calls.records[q] := (s.modRecord_get r q f).trans (if_neg h.symm)

/-- A record that counts a send and starts its timer sends what it would have sent, with the new count as the seq. -/
theorem State.sendRequest_of_record (s : State) (r : Fin 16) (f : CallRecord → CallRecord) (x : CallRecord) (hx : s.calls.records[r] = x)
    (hf : (f x).phone = x.phone ∧ (f x).lane = x.lane ∧ (f x).callId = x.callId) :
    (s.modRecord r f).sendRequest r = (s.modRecord r f).sendCall subRequest (byte (f x).attempts)
      (x.idBytes ++ s.placeBytes r ++ s.locationBytes r) := by
  have hrec : (s.modRecord r f).calls.records[r] = f x := by rw [s.modRecord_self, hx]
  have hpoll : (s.modRecord r f).poll = s.poll := rfl
  unfold State.sendRequest State.placeBytes State.locationBytes CallRecord.idBytes
  rw [hrec, hpoll, hx, hf.1, hf.2.1, hf.2.2]

theorem State.sendResume_of_record (s : State) (r : Fin 16) (f : CallRecord → CallRecord) (x : CallRecord) (hx : s.calls.records[r] = x)
    (hf : (f x).phone = x.phone ∧ (f x).lane = x.lane ∧ (f x).callId = x.callId) :
    (s.modRecord r f).sendResume r = (s.modRecord r f).sendCall subResume (byte (f x).attempts) (x.idBytes ++ s.placeBytes r) := by
  have hrec : (s.modRecord r f).calls.records[r] = f x := by rw [s.modRecord_self, hx]
  have hpoll : (s.modRecord r f).poll = s.poll := rfl
  unfold State.sendResume State.placeBytes CallRecord.idBytes
  rw [hrec, hpoll, hx, hf.1, hf.2.1, hf.2.2]

/-! ### The refill and becoming FREE (R64, R73) -/

theorem State.refill_empty (s : State) (h : s.calls.waitList = []) : s.refill = s := by
  have hwalk : s.refillWalk = s := by unfold State.refillWalk; rw [h]; rfl
  unfold State.refill
  rw [hwalk]
  exact if_neg (lt_irrefl _)

theorem State.releaseSeat_unseated (s : State) (r : Fin 16) (h : s.calls.records[r].state.seated = false) : s.releaseSeat r = s :=
  if_neg (by rw [h]; decide)

theorem State.releaseSeat_seated (s : State) (r : Fin 16) (slot : Fin 32) (h : s.calls.records[r].state.seated = true)
    (hp : s.calls.records[r].phone = some slot) : s.releaseSeat r = s.seatReleased slot := by
  unfold State.releaseSeat
  rw [if_pos h, hp]

theorem State.unbind_some (s : State) (r : Fin 16) (lane : Fin 64) (h : s.calls.records[r].lane = some lane) :
    s.unbind r = s.modLane lane fun e => { e with binding := none } := by
  unfold State.unbind
  rw [h]

theorem State.unbind_none (s : State) (r : Fin 16) (h : s.calls.records[r].lane = none) : s.unbind r = s := by
  unfold State.unbind
  rw [h]

/-- A record that becomes FREE with no phone waiting and no other record SEIZED. -/
theorem State.freeCall_alone (s : State) (r : Fin 16) (hw : s.calls.waitList = [])
    (hs : ∀ q : Fin 16, q ≠ r → s.calls.records[q].state ≠ .seized) : s.freeCall r = s.clearRecord r := by
  have hwait : (s.clearRecord r).calls.waitList = [] := by rw [(s.clearRecord_dropped r).kept]; exact hw
  unfold State.freeCall
  rw [(s.clearRecord r).refill_empty hwait]
  refine State.testSeized_none _ fun q => ?_
  rw [s.clearRecord_get r q]
  by_cases hq : r = q
  · rw [if_pos hq]; exact CallState.noConfusion
  · rw [if_neg hq]; exact hs q fun h => hq h.symm

/-- What a record without a seat leaves as it becomes FREE. -/
theorem State.clearRecord_unseated (s : State) (r : Fin 16) (h : s.calls.records[r].state.seated = false) :
    (s.clearRecord r).calls = { s.calls with records := updAt s.calls.records r fun _ => CallRecord.free } ∧
    (∀ lane : Fin 64, s.calls.records[r].lane = some lane → (s.clearRecord r).lanes = updAt s.lanes lane fun e => { e with binding := none }) ∧
    (s.calls.records[r].lane = none → (s.clearRecord r).lanes = s.lanes) ∧
    s.clearRecord r = { s with calls := (s.clearRecord r).calls, lanes := (s.clearRecord r).lanes } := by
  unfold State.clearRecord
  rw [s.releaseSeat_unseated r h]
  cases hl : s.calls.records[r].lane with
  | none =>
    rw [s.unbind_none r hl]
    exact ⟨rfl, fun _ h => (nomatch h), fun _ => rfl, rfl⟩
  | some k =>
    rw [s.unbind_some r k hl]
    exact ⟨rfl, fun lane h => by cases h; rfl, fun h => (nomatch h), rfl⟩

/-! ### Settled: the signalling timers -/

theorem exec_signalTimer (s : State) (r : Fin 16) (dl : Nat) (st : CallState) (f : State → State) (hr : s.repeater = false)
    (hst : s.calls.records[r].state = st) (ht : s.calls.records[r].timer = some dl) :
    (s.unlessRepeater fun s => s.onSignalTimer r st f) = f (s.reach dl) := by
  rw [s.unlessRepeater_run _ hr]
  unfold State.onSignalTimer
  rw [if_pos hst, s.onTimer_running ht]

theorem State.callingExpires_sends (s : State) (r : Fin 16) (x : CallRecord) (hx : s.calls.records[r] = x) (h : x.attempts < 15) :
    s.callingExpires r = (s.modRecord r fun x => { x with attempts := x.attempts + 1, timer := some (s.now + 2000) }).sendCall subRequest
      (byte (x.attempts + 1)) (x.idBytes ++ s.placeBytes r ++ s.locationBytes r) := by
  unfold State.callingExpires
  rw [if_pos (by rw [hx]; exact h)]
  exact s.sendRequest_of_record r _ x hx ⟨rfl, rfl, rfl⟩

theorem State.isolatedSignals_sends (s : State) (r : Fin 16) (x : CallRecord) (hx : s.calls.records[r] = x) :
    s.isolatedSignals r = (s.modRecord r fun x => { x with attempts := min 255 (x.attempts + 1), timer := some (s.now + 30000) }).sendCall
      (if x.prior = some .calling then subRequest else subResume) (byte (min 255 (x.attempts + 1)))
      (x.idBytes ++ s.placeBytes r ++ if x.prior = some .calling then s.locationBytes r else []) := by
  unfold State.isolatedSignals
  rw [hx]
  by_cases hp : x.prior = some .calling
  · rw [if_pos hp, if_pos hp, if_pos hp]
    exact s.sendRequest_of_record r _ x hx ⟨rfl, rfl, rfl⟩
  · rw [if_neg hp, if_neg hp, if_neg hp, List.append_nil]
    exact s.sendResume_of_record r _ x hx ⟨rfl, rfl, rfl⟩

theorem State.clearingExpires_sends (s : State) (r : Fin 16) (x : CallRecord) (hx : s.calls.records[r] = x) (h : x.attempts < 4) :
    s.clearingExpires r = (s.modRecord r fun x => { x with attempts := x.attempts + 1, timer := some (s.now + 2000) }).sendCall subClear
      (byte (x.attempts + 1)) (x.idBytes ++ [(x.reason.getD .lineLost).code]) := by
  unfold State.clearingExpires
  rw [if_pos (by rw [hx]; exact h), hx]
  unfold State.sendClear CallRecord.idBytes
  dsimp only
  rw [State.modRecord_self, hx]

/-- A record changed and its block sent: what the call engine holds, and what stays. -/
theorem State.sent_spec (s : State) (r : Fin 16) (f : CallRecord → CallRecord) (subtype : BitVec 4) (seq : Byte) (body : List Byte) :
    ((s.modRecord r f).sendCall subtype seq body).calls.records = updAt s.calls.records r f ∧
    (∀ lane : Fin 64, s.laneFor .call = some lane → s.takes .eq = true → ((s.modRecord r f).sendCall subtype seq body).ring =
      { s.ring with eq := s.ring.eq ++ [s.completed (localBlock .call subtype lane s.lanes[lane].peer seq body)] }) ∧
    (s.takes .eq = false → ((s.modRecord r f).sendCall subtype seq body).ring = s.ring ∧
      ((s.modRecord r f).sendCall subtype seq body).calls.ctr = { s.calls.ctr with signallingLost := bump s.calls.ctr.signallingLost }) ∧
    (s.modRecord r f).sendCall subtype seq body = { s with
      ring := ((s.modRecord r f).sendCall subtype seq body).ring, calls := ((s.modRecord r f).sendCall subtype seq body).calls } := by
  have hkept := (s.modRecord r f).sendCall_kept subtype seq body
  refine ⟨?_, fun lane hl ht => ?_, fun ht => ?_, ?_⟩
  · rw [hkept]; rfl
  · rw [(s.modRecord r f).sendCall_taken lane subtype seq body hl ht]; rfl
  · rw [(s.modRecord r f).sendCall_lost subtype seq body ht]; exact ⟨rfl, rfl⟩
  · generalize (s.modRecord r f).sendCall subtype seq body = t at hkept
    rw [hkept]; rfl

theorem records_self (v : Vector CallRecord 16) (r : Fin 16) (f : CallRecord → CallRecord) (x : CallRecord) (h : v[r] = x) :
    (updAt v r f)[r] = f x := (updAt_self v r f).trans (by rw [h])

/-- Settles O31: each signalling timer sends again or ends. -/
theorem signalTimersSendOrEnd : Obligations.SignalTimersSendOrEnd := by
  refine ⟨fun r dl x s hr hx hst ht => ?_, fun r dl x s hr hx hst ht => ?_, fun r dl x s hr hx hst ht => ?_⟩ <;> rw [← hx] at hst ht
  · refine ⟨_, congrArg Host.Outcome.next (exec_signalTimer s r dl .calling (fun s => s.callingExpires r) hr hst ht), ?_⟩
    by_cases hn : x.attempts < 15
    · obtain ⟨hrec, htaken, hlost, hkept⟩ := (s.reach dl).sent_spec r (fun x => { x with attempts := x.attempts + 1, timer := some ((s.reach dl).now + 2000) })
        subRequest (byte (x.attempts + 1)) (x.idBytes ++ s.placeBytes r ++ s.locationBytes r)
      have heq := (s.reach dl).callingExpires_sends r x hx hn
      change _ = State.sendCall _ subRequest (byte (x.attempts + 1)) (x.idBytes ++ s.placeBytes r ++ s.locationBytes r) at heq
      rw [← heq] at hrec htaken hlost hkept
      generalize (s.reach dl).callingExpires r = t at hrec htaken hlost hkept
      have hnow : t.now = max s.now dl := by rw [hkept]; rfl
      refine ⟨hnow, fun _ => ⟨?_, htaken⟩, fun h => by omega, fun q hq => ?_, ?_⟩
      · rw [hrec, hnow]; exact records_self _ r _ x hx
      · rw [hrec]; exact updAt_get_other _ r q _ hq.symm
      · rw [hkept]; rfl
    · have heq : (s.reach dl).callingExpires r = (s.reach dl).modRecord r fun x =>
          { x with state := .isolated, prior := some .calling, attempts := 0, timer := some (max s.now dl + 30000) } :=
        if_neg (by show ¬ s.calls.records[r].attempts < 15; rw [hx]; exact hn)
      rw [heq]
      exact ⟨rfl, fun h => absurd h hn, fun _ => ⟨records_self _ r _ x hx, rfl⟩, fun q hq => State.modRecord_other _ r q _ hq, rfl⟩
  · refine ⟨_, congrArg Host.Outcome.next (exec_signalTimer s r dl .isolated (fun s => s.isolatedSignals r) hr hst ht), ?_⟩
    obtain ⟨hrec, htaken, hlost, hkept⟩ := (s.reach dl).sent_spec r
      (fun x => { x with attempts := min 255 (x.attempts + 1), timer := some ((s.reach dl).now + 30000) })
      (if x.prior = some .calling then subRequest else subResume) (byte (min 255 (x.attempts + 1)))
      (x.idBytes ++ s.placeBytes r ++ if x.prior = some .calling then s.locationBytes r else [])
    have heq := (s.reach dl).isolatedSignals_sends r x hx
    change _ = State.sendCall _ _ _ (x.idBytes ++ s.placeBytes r ++ if x.prior = some .calling then s.locationBytes r else []) at heq
    rw [← heq] at hrec htaken hlost hkept
    generalize (s.reach dl).isolatedSignals r = t at hrec htaken hlost hkept
    have hnow : t.now = max s.now dl := by rw [hkept]; rfl
    refine ⟨hnow, ?_, fun hi => hlost (s.takes_isolated .eq hi), htaken, ?_⟩
    · rw [hrec, hnow]; exact updAt_congr _ r (by rw [show (s.reach dl).calls.records[r] = x from hx]; rfl)
    · rw [hkept]; rfl
  · refine ⟨_, congrArg Host.Outcome.next (exec_signalTimer s r dl .clearing (fun s => s.clearingExpires r) hr hst ht), ?_⟩
    by_cases hn : x.attempts < 4
    · obtain ⟨hrec, htaken, hlost, hkept⟩ := (s.reach dl).sent_spec r (fun x => { x with attempts := x.attempts + 1, timer := some ((s.reach dl).now + 2000) })
        subClear (byte (x.attempts + 1)) (x.idBytes ++ [(x.reason.getD .lineLost).code])
      rw [← (s.reach dl).clearingExpires_sends r x hx hn] at hrec htaken hlost hkept
      generalize (s.reach dl).clearingExpires r = t at hrec htaken hlost hkept
      have hnow : t.now = max s.now dl := by rw [hkept]; rfl
      refine ⟨hnow, fun _ => ⟨?_, fun q hq => ?_, fun lane why hl hte hw => ?_, ?_⟩, fun h => by omega⟩
      · rw [hrec, hnow]; exact records_self _ r _ x hx
      · rw [hrec]; exact updAt_get_other _ r q _ hq.symm
      · rw [hw] at htaken; exact htaken lane hl hte
      · rw [hkept]; rfl
    · have heq : (s.reach dl).clearingExpires r = (s.reach dl).freeCall r :=
        if_neg (by show ¬ s.calls.records[r].attempts < 4; rw [hx]; exact hn)
      rw [heq]
      have hnow : ((s.reach dl).freeCall r).now = max s.now dl := congrArg (fun o => o.1) ((s.reach dl).freeCall_outer r)
      refine ⟨hnow, fun h => absurd h hn, fun _ hw hs => ?_⟩
      have halone := (s.reach dl).freeCall_alone r hw fun q _ => hs q
      obtain ⟨hcalls, hlane, _, hkept⟩ := (s.reach dl).clearRecord_unseated r (by
        show s.calls.records[r].state.seated = false
        rw [hst]; rfl)
      rw [← halone] at hcalls hlane hkept
      generalize (s.reach dl).freeCall r = t at hnow hcalls hlane hkept
      exact ⟨hcalls, fun lane hl => hlane lane (by rw [show (s.reach dl).calls.records[r] = x from hx]; exact hl), by rw [hkept]; rfl⟩

end Sys2Proof.Machine
end

section
/-! PROOFS. The blocks of the phone centre (4.4, 4.5). -/

namespace Sys2Proof.Machine

/-! ### A CALL block with a call id (R68 to R70) -/

theorem State.recordWithId_spec (s : State) (c : CallId) (r : Fin 16) (h : s.recordWithId c = some r) :
    s.calls.records[r].state ≠ .free ∧ s.calls.records[r].callId = some c := by
  have hr := List.find?_some h
  rw [Bool.and_eq_true, bne_iff_ne, beq_iff_eq] at hr
  exact hr

theorem State.takeCallBlock_held (s : State) (b : Block) (n c : Byte) (r : Fin 16) (h : s.recordWithId { node := n, counter := c } = some r)
    (hs : b.subtype = 2) (hb : b.body = [n, c]) : s.takeCallBlock b = s.takeHeld r := by
  unfold State.takeCallBlock
  rw [hs, hb, if_neg (fun h => h rfl), if_neg (by decide)]
  dsimp only
  rw [show ({ node := byteAt [n, c] 0, counter := byteAt [n, c] 1 } : CallId) = { node := n, counter := c } from rfl, h]
  rfl

theorem State.takeCallBlock_answer (s : State) (b : Block) (n c : Byte) (r : Fin 16) (h : s.recordWithId { node := n, counter := c } = some r)
    (hs : b.subtype = 3) (hb : b.body = [n, c]) : s.takeCallBlock b = s.takeAnswer r := by
  unfold State.takeCallBlock
  rw [hs, hb, if_neg (fun h => h rfl), if_neg (by decide)]
  dsimp only
  rw [show ({ node := byteAt [n, c] 0, counter := byteAt [n, c] 1 } : CallId) = { node := n, counter := c } from rfl, h]
  rfl

theorem State.takeCallBlock_clear (s : State) (b : Block) (n c why : Byte) (r : Fin 16) (h : s.recordWithId { node := n, counter := c } = some r)
    (hs : b.subtype = 4) (hb : b.body = [n, c, why]) : s.takeCallBlock b = s.takeClear r b.seq := by
  unfold State.takeCallBlock
  rw [hs, hb, if_neg (fun h => h rfl), if_neg (by decide)]
  dsimp only
  rw [show ({ node := byteAt [n, c, why] 0, counter := byteAt [n, c, why] 1 } : CallId) = { node := n, counter := c } from rfl, h]
  rfl

theorem State.takeCallBlock_cleared (s : State) (b : Block) (n c : Byte) (r : Fin 16) (h : s.recordWithId { node := n, counter := c } = some r)
    (hs : b.subtype = 5) (hb : b.body = [n, c]) : s.takeCallBlock b = s.takeCleared r := by
  unfold State.takeCallBlock
  rw [hs, hb, if_neg (fun h => h rfl), if_neg (by decide)]
  dsimp only
  rw [show ({ node := byteAt [n, c] 0, counter := byteAt [n, c] 1 } : CallId) = { node := n, counter := c } from rfl, h]
  rfl

/-! ### A block that meets no record, or is of no use (R70) -/

theorem State.takeCallBlock_unanswered (s : State) (b : Block) (n c : Byte) (h : s.recordWithId { node := n, counter := c } = none)
    (hs : b.subtype = 2 ∨ b.subtype = 3) (hb : b.body = [n, c]) :
    s.takeCallBlock b = (s.sendCall subClear b.seq [n, c, 2]).unknownCall := by
  unfold State.takeCallBlock
  rw [hb, if_neg (by rcases hs with h | h <;> rw [h] <;> exact fun h => h rfl), if_neg (by rcases hs with h | h <;> rw [h] <;> decide)]
  dsimp only
  rw [show ({ node := byteAt [n, c] 0, counter := byteAt [n, c] 1 } : CallId) = { node := n, counter := c } from rfl, h]
  exact if_pos hs

theorem State.takeCallBlock_unheld (s : State) (b : Block) (n c why : Byte) (h : s.recordWithId { node := n, counter := c } = none)
    (hs : b.subtype = 4) (hb : b.body = [n, c, why]) :
    s.takeCallBlock b = (s.sendCall subCleared b.seq [n, c]).unknownCall := by
  unfold State.takeCallBlock
  rw [hb, hs, if_neg (fun h => h rfl), if_neg (by decide)]
  dsimp only
  rw [show ({ node := byteAt [n, c, why] 0, counter := byteAt [n, c, why] 1 } : CallId) = { node := n, counter := c } from rfl, h]
  rfl

theorem callLength?_eq (t : BitVec 4) (n : Nat) (h : callLength? t = some n) :
    (t = 1 ∧ n = 7) ∨ (t = 2 ∧ n = 2) ∨ (t = 3 ∧ n = 2) ∨ (t = 4 ∧ n = 3) ∨ (t = 5 ∧ n = 2) ∨ (t = 6 ∧ n = 5) := by
  unfold callLength? at h
  split_ifs at h with h1 h2 h3 h4 h5 h6 <;> cases h <;> simp_all [subRequest, subHeld, subAnswer, subClear, subCleared, subResume]

/-- Every other block is counted as unknown. -/
theorem State.takeCallBlock_unknown (s : State) (b : Block)
    (h : (b.subtype ≠ 2 ∧ b.subtype ≠ 3 ∧ b.subtype ≠ 4 ∧ b.subtype ≠ 5) ∨ (b.subtype = 4 ∧ b.body.length ≠ 3) ∨
      (b.subtype ≠ 4 ∧ b.body.length ≠ 2) ∨ (b.subtype = 5 ∧ s.recordWithId { node := byteAt b.body 0, counter := byteAt b.body 1 } = none)) :
    s.takeCallBlock b = s.unknownCall := by
  unfold State.takeCallBlock
  by_cases hlen : callLength? b.subtype ≠ some b.body.length
  · exact if_pos hlen
  · rw [if_neg hlen]
    by_cases hsend : b.subtype = subRequest ∨ b.subtype = subResume
    · exact if_pos hsend
    · rw [if_neg hsend]
      obtain ⟨h1, h6⟩ := not_or.mp hsend
      have hknown := callLength?_eq b.subtype b.body.length (not_not.mp hlen)
      have h5 : b.subtype = 5 ∧ s.recordWithId { node := byteAt b.body 0, counter := byteAt b.body 1 } = none := by
        rcases hknown with ⟨e, n⟩ | ⟨e, n⟩ | ⟨e, n⟩ | ⟨e, n⟩ | ⟨e, n⟩ | ⟨e, n⟩
        · exact absurd e h1
        · rw [e, n] at h; simp at h
        · rw [e, n] at h; simp at h
        · rw [e, n] at h; simp at h
        · rw [e, n] at h
          exact ⟨e, by simpa using h⟩
        · exact absurd e h6
      dsimp only
      rw [h5.2, h5.1]
      rfl

/-! ### A centre's CLEAR (R69) -/

/-- A record whose seat is released and that becomes CLEARING at the centre's CLEAR, answered CLEARED. -/
theorem State.clearCentre_answered (s : State) (r : Fin 16) (seq : Byte) (slot : Fin 32) (lane : Fin 64)
    (hw : s.calls.waitList = []) (hseat : s.calls.records[r].state.seated = true) (hp : s.calls.records[r].phone = some slot)
    (hl : s.laneFor .call = some lane) (ht : s.takes .eq = true) :
    s.clearCentre r seq = { s with
      poll := { s.poll with stations := updAt s.poll.stations slot fun e => { e with voiceDue := none, due := some s.now, come := some s.now } }
      calls := { s.calls with
        records := updAt s.calls.records r fun x => { x with state := .clearing, reason := some .centre, attempts := 0, timer := none }
        ctr := { s.calls.ctr with clearCentre := bump s.calls.ctr.clearCentre } }
      ring := { s.ring with eq := s.ring.eq ++
        [s.completed (localBlock .call 5 lane s.lanes[lane].peer seq s.calls.records[r].idBytes)] } } := by
  unfold State.clearCentre
  rw [s.releaseSeat_seated r slot hseat hp]
  have hsend := State.sendCall_taken (((s.seatReleased slot).modRecord r fun x =>
    { x with state := .clearing, reason := some .centre, attempts := 0, timer := none }).countCalls (·.cleared .centre)) lane subCleared seq
    s.calls.records[r].idBytes hl ht
  rw [hsend]
  exact State.refill_empty _ hw

theorem CallRecord.idBytes_of (x : CallRecord) (n c : Byte) (h : x.callId = some { node := n, counter := c }) : x.idBytes = [n, c] := by
  unfold CallRecord.idBytes
  rw [h]; rfl

/-- A CLEAR that meets a record already CLEARING is answered CLEARED; a reason of the node's own ends there. -/
theorem State.takeClear_clearing (s : State) (r : Fin 16) (seq : Byte) (lane : Fin 64) (h : s.calls.records[r].state = .clearing)
    (hl : s.laneFor .call = some lane) (ht : s.takes .eq = true) : s.takeClear r seq =
      if s.calls.records[r].reason = some .centre then
        s.eqWith (localBlock .call 5 lane s.lanes[lane].peer seq s.calls.records[r].idBytes)
      else (s.eqWith (localBlock .call 5 lane s.lanes[lane].peer seq s.calls.records[r].idBytes)).freeCall r := by
  unfold State.takeClear
  rw [h]
  dsimp only
  rw [s.sendCall_taken lane subCleared seq _ hl ht]
  rfl

/-- A CLEARING record that becomes FREE with no phone waiting and no record SEIZED. -/
theorem State.freeCall_clearing (s : State) (r : Fin 16) (hw : s.calls.waitList = []) (hz : ∀ q : Fin 16, s.calls.records[q].state ≠ .seized)
    (h : s.calls.records[r].state = .clearing) :
    (s.freeCall r).calls = { s.calls with records := updAt s.calls.records r fun _ => CallRecord.free } ∧
    (∀ lane : Fin 64, s.calls.records[r].lane = some lane → (s.freeCall r).lanes = updAt s.lanes lane fun e => { e with binding := none }) ∧
    (s.calls.records[r].lane = none → (s.freeCall r).lanes = s.lanes) ∧
    s.freeCall r = { s with calls := (s.freeCall r).calls, lanes := (s.freeCall r).lanes } := by
  rw [s.freeCall_alone r hw fun q _ => hz q]
  exact s.clearRecord_unseated r (by rw [h]; rfl)

/-- Settles O33: each block by the record that holds its call id. -/
theorem centreBlocksMoveRecord : Obligations.CentreBlocksMoveRecord := by
  refine ⟨fun b n c r x s hid hx => ⟨fun hs hb => ⟨fun hst => ?_, fun hst => ?_⟩, fun hs hb => ⟨fun hst => ?_, fun hst => ?_⟩, fun hst hb => ?_,
    fun why slot lane hs hb hw hst hp hl ht => ?_, fun why lane u hs hb hst hl ht hu => ⟨fun hre => ?_, fun hre hw hz => ?_⟩,
    fun hs hb hloc hw hz => ?_⟩, fun b n c why lane s hid hl ht => ⟨fun hs hb => ?_, fun hs hb => ?_⟩, fun b s h => s.takeCallBlock_unknown b h⟩
  · rw [s.takeCallBlock_held b n c r hid hs hb]
    unfold State.takeHeld
    rw [hx]
    rcases hst with h | h | h <;> rw [h] <;> rfl
  · rw [s.takeCallBlock_held b n c r hid hs hb]
    unfold State.takeHeld
    rw [hx, hst]
  · rw [s.takeCallBlock_answer b n c r hid hs hb]
    unfold State.takeAnswer
    rw [hx]
    rcases hst with h | h | h <;> rw [h] <;> rfl
  · rw [s.takeCallBlock_answer b n c r hid hs hb]
    unfold State.takeAnswer
    rw [hx, hst]
  · rcases hst with ⟨hs | hs, hst⟩ | ⟨hs, hloc⟩
    · rw [s.takeCallBlock_held b n c r hid hs hb]
      unfold State.takeHeld
      rw [hx, hst]; rfl
    · rw [s.takeCallBlock_answer b n c r hid hs hb]
      unfold State.takeAnswer
      rw [hx, hst]; rfl
    · rw [s.takeCallBlock_cleared b n c r hid hs hb]
      exact if_neg (by rw [hx, hloc]; decide)
  · rw [s.takeCallBlock_clear b n c why r hid hs hb]
    have hclear : s.takeClear r b.seq = s.clearCentre r b.seq := by
      unfold State.takeClear
      rw [hx]
      rcases hst with h | h | h | h <;> rw [h]
    have hseat : s.calls.records[r].state.seated = true := by
      rw [hx]
      rcases hst with h | h | h | h <;> rw [h] <;> rfl
    rw [hclear, s.clearCentre_answered r b.seq slot lane hw hseat (by rw [hx]; exact hp) hl ht,
      CallRecord.idBytes_of _ n c (s.recordWithId_spec _ r hid).2]
  · rw [s.takeCallBlock_clear b n c why r hid hs hb, s.takeClear_clearing r b.seq lane (by rw [hx]; exact hst) hl ht,
      CallRecord.idBytes_of _ n c (s.recordWithId_spec _ r hid).2, if_pos (by rw [hx]; exact hre), hu]
    rfl
  · have hloc : s.calls.records[r].reason ≠ some .centre := by rw [hx]; rcases hre with h | h <;> rw [h] <;> decide
    rw [s.takeCallBlock_clear b n c why r hid hs hb, s.takeClear_clearing r b.seq lane (by rw [hx]; exact hst) hl ht,
      CallRecord.idBytes_of _ n c (s.recordWithId_spec _ r hid).2, if_neg hloc]
    change ∃ t, State.freeCall { s with ring := { s.ring with eq := s.ring.eq ++
      [s.completed (localBlock .call 5 lane s.lanes[lane].peer b.seq [n, c])] } } r = t ∧ _
    rw [← hu]
    have huc : u.calls = s.calls ∧ u.lanes = s.lanes := by rw [hu]; exact ⟨rfl, rfl⟩
    obtain ⟨hcalls, hlane, hnone, hkept⟩ := u.freeCall_clearing r (by rw [huc.1]; exact hw) (by rw [huc.1]; exact hz)
      (by rw [huc.1, hx]; exact hst)
    rw [huc.1] at hcalls
    rw [huc.1, huc.2, hx] at hlane
    exact ⟨_, rfl, hcalls, hlane, hkept⟩
  · have hcl : s.calls.records[r].state = .clearing := by
      rw [hx]
      exact beq_iff_eq.mp (Bool.and_eq_true_iff.mp hloc).1
    have hfree : s.takeCallBlock b = s.freeCall r := (s.takeCallBlock_cleared b n c r hid hs hb).trans (if_pos (by rw [hx]; exact hloc))
    obtain ⟨hcalls, hlane, hnone, hkept⟩ := s.freeCall_clearing r hw hz hcl
    rw [hx] at hlane
    exact ⟨_, hfree, hcalls, hlane, hkept⟩
  · rw [s.takeCallBlock_unanswered b n c hid hs hb, s.sendCall_taken lane subClear b.seq _ hl ht]
    rfl
  · rw [s.takeCallBlock_unheld b n c why hid hs hb, s.sendCall_taken lane subCleared b.seq _ hl ht]
    rfl

end Sys2Proof.Machine
end

section
/-! PROOFS. The voice path (chapter 5). -/

namespace Sys2Proof.Machine

theorem State.modRecord_congr (s : State) (r : Fin 16) {f g : CallRecord → CallRecord} (h : f s.calls.records[r] = g s.calls.records[r]) :
    s.modRecord r f = s.modRecord r g :=
  congrArg (fun v => { s with calls := { s.calls with records := v } }) (updAt_congr s.calls.records r h)

theorem State.modVoice_congr (s : State) (r : Fin 16) {f g : VoiceFields → VoiceFields}
    (h : f s.calls.records[r].voice = g s.calls.records[r].voice) : s.modVoice r f = s.modVoice r g :=
  s.modRecord_congr r (by rw [h])

/-- A count and a change of the voice fields that leaves the counters do not depend on their order. -/
theorem State.countVoice_modVoice (s : State) (r : Fin 16) (f : VoiceCounters → VoiceCounters) (g : VoiceFields → VoiceFields)
    (h : ∀ v c, g { v with ctr := c } = { g v with ctr := c }) (hc : ∀ v, (g v).ctr = v.ctr) :
    (s.countVoice r f).modVoice r g = (s.modVoice r g).countVoice r f := by
  have hrec : updAt (updAt s.calls.records r fun x => { x with voice := { x.voice with ctr := f x.voice.ctr } }) r
        (fun x => { x with voice := g x.voice }) =
      updAt (updAt s.calls.records r fun x => { x with voice := g x.voice }) r
        (fun x => { x with voice := { x.voice with ctr := f x.voice.ctr } }) := by
    rw [updAt_updAt, updAt_updAt]
    exact updAt_congr _ r (by dsimp only; rw [h, hc])
  exact congrArg (fun v => { s with calls := { s.calls with records := v, totals := f s.calls.totals } }) hrec

/-! ### Places in a queue (R84) -/

theorem insertFrame_between (n : Byte) (f : VoiceFrame) (pre post : List VoiceFrame)
    (hpre : ∀ g ∈ pre, (g.seq - n : Byte).toNat < (f.seq - n : Byte).toNat)
    (hpost : ∀ g ∈ post, (f.seq - n : Byte).toNat < (g.seq - n : Byte).toNat) : insertFrame n f (pre ++ post) = pre ++ f :: post := by
  induction pre with
  | nil =>
    cases post with
    | nil => rfl
    | cons g post => exact if_pos (hpost g List.mem_cons_self)
  | cons g pre ih =>
    have hg := hpre g List.mem_cons_self
    refine (if_neg ?_).trans (congrArg (g :: ·) (ih fun y hy => hpre y (List.mem_cons_of_mem g hy)))
    exact Nat.not_lt.mpr (Nat.le_of_lt hg)

theorem notQueued_of_between (n : Byte) (f : VoiceFrame) (pre post : List VoiceFrame)
    (hpre : ∀ g ∈ pre, (g.seq - n : Byte).toNat < (f.seq - n : Byte).toNat)
    (hpost : ∀ g ∈ post, (f.seq - n : Byte).toNat < (g.seq - n : Byte).toNat) : (pre ++ post).any (·.seq == f.seq) = false := by
  rw [List.any_eq_false]
  intro g hg h
  have he : g.seq = f.seq := beq_iff_eq.mp h
  rcases List.mem_append.mp hg with hg | hg
  · have := hpre g hg; rw [he] at this; omega
  · have := hpost g hg; rw [he] at this; omega

/-! ### An arrival judged (R83 to R86) -/

theorem State.takeVoice_connected (s : State) (r : Fin 16) (b : Block) (hb : b.body.length = 32)
    (hc : s.calls.records[r].state = .connected) : s.takeVoice r b = s.placeVoice r { seq := b.seq, samples := b.body } :=
  (if_neg fun h => h hb).trans (if_neg fun h => h hc)

theorem State.placeVoice_first (s : State) (r : Fin 16) (f : VoiceFrame) (hn : s.calls.records[r].voice.next = none) :
    s.placeVoice r f = s.insertVoice r f.seq f := by
  unfold State.placeVoice
  dsimp only
  rw [hn]

/-- A frame judged by its distance from next. -/
theorem State.placeVoice_next (s : State) (r : Fin 16) (f : VoiceFrame) (n : Byte) (hn : s.calls.records[r].voice.next = some n) :
    s.placeVoice r f = if (f.seq - n : Byte).toNat ≤ 7 then
      (if s.calls.records[r].voice.queue.any (·.seq == f.seq) then s.countVoice r fun c => { c with duplicate := bump c.duplicate }
        else s.insertVoice r n f)
      else if (f.seq - n : Byte).toNat ≤ 127 then s.resyncVoice r f else s.countVoice r fun c => { c with late := bump c.late } := by
  unfold State.placeVoice
  dsimp only
  rw [hn]
  rfl

theorem VoiceFields.start_stays (v : VoiceFields) (h : v.play = .playing ∨ v.queue.length < 2) : v.start = v :=
  if_neg fun hc => h.elim hc.1 fun h => by omega

theorem VoiceFields.start_plays (v : VoiceFields) (f : VoiceFrame) (l : List VoiceFrame) (h : v.play ≠ .playing) (hl : l ≠ [])
    (hq : v.queue = f :: l) : v.start = { v with play := .playing, next := some f.seq, rep := false } := by
  have hlen : 2 ≤ v.queue.length := by
    rw [hq, List.length_cons]
    have := List.length_pos_iff.mpr hl
    omega
  unfold VoiceFields.start
  rw [if_pos ⟨h, hlen⟩, hq]

/-- A frame with a place among those queued joins them there, and with it two frames start the play. -/
theorem State.takeVoice_placed (s : State) (r : Fin 16) (b : Block) (n : Byte) (pre post : List VoiceFrame) (hb : b.body.length = 32)
    (hc : s.calls.records[r].state = .connected) (hn : s.calls.records[r].voice.next = some n) (hd : (b.seq - n : Byte).toNat ≤ 7)
    (hq : s.calls.records[r].voice.queue = pre ++ post) (hpre : ∀ f ∈ pre, (f.seq - n : Byte).toNat < (b.seq - n : Byte).toNat)
    (hpost : ∀ f ∈ post, (b.seq - n : Byte).toNat < (f.seq - n : Byte).toNat) : s.takeVoice r b =
      (s.modVoice r fun v => VoiceFields.start { v with queue := pre ++ { seq := b.seq, samples := b.body } :: post }).countVoice r
        fun c => { c with received := bump c.received } := by
  rw [s.takeVoice_connected r b hb hc, s.placeVoice_next r _ n hn, if_pos hd, hq,
    if_neg (by rw [notQueued_of_between n { seq := b.seq, samples := b.body } pre post hpre hpost]; decide)]
  unfold State.insertVoice
  refine congrArg (fun u => State.countVoice u r _) (s.modVoice_congr r ?_)
  rw [hq, insertFrame_between n { seq := b.seq, samples := b.body } pre post hpre hpost, ← hn]

/-! ### Play-out (R79, R87) -/

theorem State.playStep_silent (s : State) (r : Fin 16) (h : s.calls.records[r].state ≠ .connected ∨ s.calls.records[r].voice.play ≠ .playing) :
    s.playStep r = (List.replicate 32 128, s) := if_neg fun hc => h.elim (fun h => h hc.1) fun h => h hc.2

theorem State.playStep_frame (s : State) (r : Fin 16) (n : Byte) (f : VoiceFrame) (rest : List VoiceFrame)
    (hc : s.calls.records[r].state = .connected) (hp : s.calls.records[r].voice.play = .playing)
    (hn : s.calls.records[r].voice.next = some n) (hq : s.calls.records[r].voice.queue = f :: rest) (hf : f.seq = n)
    (hrest : ∀ g ∈ rest, g.seq ≠ n) : s.playStep r = (f.samples, s.modVoice r fun v =>
      { v with queue := rest, last := some f.samples, rep := false, next := some (n + 1) }) := by
  have hfind : (f :: rest).find? (·.seq == n) = some f := List.find?_cons_of_pos (beq_iff_eq.mpr hf)
  have hfilter : (f :: rest).filter (·.seq != n) = rest := by
    rw [List.filter_cons_of_neg (by rw [hf]; simp), List.filter_eq_self]
    exact fun g hg => bne_iff_ne.mpr (hrest g hg)
  have hout : s.calls.records[r].voice.playOut n = (f.samples, { s.calls.records[r].voice with
      queue := rest, last := some f.samples, rep := false, next := some (n + 1) }) := by
    unfold VoiceFields.playOut
    rw [hq, hfind]
    dsimp only
    rw [hfilter]
  have hany : s.calls.records[r].voice.queue.any (·.seq == n) = true := by
    rw [hq, List.any_cons, beq_iff_eq.mpr hf]; rfl
  unfold State.playStep
  dsimp only
  rw [if_pos ⟨hc, hp⟩, hn]
  dsimp only
  rw [hout, hany]
  exact congrArg (Prod.mk f.samples) (s.modVoice_congr r rfl)

/-- The play with no frame at next: the last frame repeated once, and then silence. -/
theorem State.playStep_missing (s : State) (r : Fin 16) (n : Byte) (hc : s.calls.records[r].state = .connected)
    (hp : s.calls.records[r].voice.play = .playing) (hn : s.calls.records[r].voice.next = some n)
    (hq : ∀ g ∈ s.calls.records[r].voice.queue, g.seq ≠ n) :
    (∀ l, s.calls.records[r].voice.rep = false → s.calls.records[r].voice.last = some l → s.playStep r =
      (l, (s.modVoice r fun v => { v with rep := true, next := some (n + 1) }).countVoice r fun c => { c with repeats := bump c.repeats })) ∧
    (s.calls.records[r].voice.rep = true → s.playStep r = (List.replicate 32 128,
      (s.modVoice r fun v => { v with rep := false, play := .underrun, next := some (n + 1) }).countVoice r
        fun c => { c with underruns := bump c.underruns })) := by
  have hfind : s.calls.records[r].voice.queue.find? (·.seq == n) = none :=
    List.find?_eq_none.mpr fun g hg h => hq g hg (beq_iff_eq.mp h)
  have hany : s.calls.records[r].voice.queue.any (·.seq == n) = false :=
    List.any_eq_false.mpr fun g hg h => hq g hg (beq_iff_eq.mp h)
  refine ⟨fun l hrep hl => ?_, fun hrep => ?_⟩
  · have hout : s.calls.records[r].voice.playOut n = (l, { s.calls.records[r].voice with rep := true, next := some (n + 1) }) := by
      unfold VoiceFields.playOut
      rw [hfind]
      refine (if_neg (by rw [hrep]; decide)).trans (Prod.ext ?_ rfl)
      show s.calls.records[r].voice.last.getD _ = l
      rw [hl]; rfl
    unfold State.playStep
    dsimp only
    rw [if_pos ⟨hc, hp⟩, hn]
    dsimp only
    rw [hout, hany, hrep]
    exact congrArg (fun u => (l, State.countVoice u r _)) (s.modVoice_congr r rfl)
  · have hout : s.calls.records[r].voice.playOut n =
        (silentFrame, { s.calls.records[r].voice with rep := false, play := .underrun, next := some (n + 1) }) := by
      unfold VoiceFields.playOut
      rw [hfind]
      exact if_pos hrep
    unfold State.playStep
    dsimp only
    rw [if_pos ⟨hc, hp⟩, hn]
    dsimp only
    rw [hout, hany, hrep]
    exact congrArg (fun u => (silentFrame, State.countVoice u r _)) (s.modVoice_congr r rfl)

/-! ### Capture (R80 to R82) -/

/-- What a CONNECTED completion makes of its outcome. -/
def State.captured (s : State) (r : Fin 16) : VoiceOutcome → State
  | some samples => s.captureBlock r samples
  | none => s.countVoice r fun c => { c with gap := bump c.gap }

theorem State.voiceOutcome_seated (s : State) (slot : Fin 32) (o : VoiceOutcome) (r : Fin 16) (h : s.seatedRecordOf slot = some r) :
    s.voiceOutcome slot o = (if s.calls.records[r].state = .connected then s.captured r o else s).modVoice r fun v => { v with capture := v.capture + 1 } := by
  unfold State.voiceOutcome
  rw [h]
  cases o <;> rfl

/-- R85: what a block far ahead leaves of the queue. -/
def VoiceFields.restarted (v : VoiceFields) (f : VoiceFrame) : VoiceFields :=
  { v with
    queue := [f]
    next := some f.seq
    play := .prefill
    rep := false
    ctr := { v.ctr with resync := bump v.ctr.resync, flushed := bumpBy v.ctr.flushed v.queue.length } }

theorem State.resyncVoice_spec (s : State) (r : Fin 16) (f : VoiceFrame) : s.resyncVoice r f =
    { s with calls := { s.calls with
      records := updAt s.calls.records r fun x => { x with voice := x.voice.restarted f }
      totals := { s.calls.totals with
        resync := bump s.calls.totals.resync
        flushed := bumpBy s.calls.totals.flushed s.calls.records[r].voice.queue.length } } } := by
  have hrec : updAt (updAt s.calls.records r fun x => { x with voice :=
        { x.voice with queue := [f], next := some f.seq, play := .prefill, rep := false } }) r (fun x =>
          { x with voice := { x.voice with ctr := { x.voice.ctr with
              resync := bump x.voice.ctr.resync
              flushed := bumpBy x.voice.ctr.flushed s.calls.records[r].voice.queue.length } } }) =
      updAt s.calls.records r fun x => { x with voice := x.voice.restarted f } := by
    rw [updAt_updAt]
    exact updAt_congr _ r rfl
  exact congrArg (fun v => { s with calls := { s.calls with
    records := v
    totals := { s.calls.totals with
      resync := bump s.calls.totals.resync
      flushed := bumpBy s.calls.totals.flushed s.calls.records[r].voice.queue.length } } }) hrec

theorem State.takeVoice_far (s : State) (r : Fin 16) (b : Block) (n : Byte) (hb : b.body.length = 32)
    (hc : s.calls.records[r].state = .connected) (hn : s.calls.records[r].voice.next = some n) (h8 : 8 ≤ (b.seq - n : Byte).toNat)
    (h127 : (b.seq - n : Byte).toNat ≤ 127) : s.takeVoice r b = s.resyncVoice r { seq := b.seq, samples := b.body } := by
  rw [s.takeVoice_connected r b hb hc, s.placeVoice_next r _ n hn]
  exact (if_neg (Nat.not_le.mpr h8)).trans (if_pos h127)

/-- A queue with no next takes the block as its first and is not started. -/
theorem State.takeVoice_first (s : State) (r : Fin 16) (b : Block) (hb : b.body.length = 32)
    (hc : s.calls.records[r].state = .connected) (hn : s.calls.records[r].voice.next = none)
    (hq : s.calls.records[r].voice.queue = []) : s.takeVoice r b = (s.modVoice r fun v => { v with
      next := some b.seq, queue := [{ seq := b.seq, samples := b.body }] }).countVoice r
        fun c => { c with received := bump c.received } := by
  rw [s.takeVoice_connected r b hb hc, s.placeVoice_first r _ hn]
  refine congrArg (fun u => State.countVoice u r _) (s.modVoice_congr r ?_)
  rw [hq]
  exact VoiceFields.start_stays _ (.inr Nat.one_lt_two)

/-- A block placed while the play runs, or as the only frame, starts nothing. -/
theorem State.takeVoice_stays (s : State) (r : Fin 16) (b : Block) (n : Byte) (pre post : List VoiceFrame) (hb : b.body.length = 32)
    (hc : s.calls.records[r].state = .connected) (hn : s.calls.records[r].voice.next = some n) (hd : (b.seq - n : Byte).toNat ≤ 7)
    (hq : s.calls.records[r].voice.queue = pre ++ post) (hpre : ∀ f ∈ pre, (f.seq - n : Byte).toNat < (b.seq - n : Byte).toNat)
    (hpost : ∀ f ∈ post, (b.seq - n : Byte).toNat < (f.seq - n : Byte).toNat)
    (hplay : s.calls.records[r].voice.play = .playing ∨ s.calls.records[r].voice.queue = []) : s.takeVoice r b =
      (s.modVoice r fun v => { v with queue := pre ++ { seq := b.seq, samples := b.body } :: post }).countVoice r
        fun c => { c with received := bump c.received } := by
  rw [s.takeVoice_placed r b n pre post hb hc hn hd hq hpre hpost]
  refine congrArg (fun u => State.countVoice u r _) (s.modVoice_congr r (VoiceFields.start_stays _ ?_))
  refine hplay.imp id fun hnil => ?_
  rw [hq] at hnil
  obtain ⟨hpre0, hpost0⟩ := List.append_eq_nil_iff.mp hnil
  rw [hpre0, hpost0]
  exact Nat.one_lt_two

/-- R86: with a frame queued and one placed, the play starts at the nearer to next. -/
theorem State.takeVoice_starts (s : State) (r : Fin 16) (b : Block) (n : Byte) (pre post : List VoiceFrame) (f : VoiceFrame)
    (hb : b.body.length = 32) (hc : s.calls.records[r].state = .connected) (hn : s.calls.records[r].voice.next = some n)
    (hd : (b.seq - n : Byte).toNat ≤ 7) (hq : s.calls.records[r].voice.queue = pre ++ post)
    (hpre : ∀ f ∈ pre, (f.seq - n : Byte).toNat < (b.seq - n : Byte).toNat)
    (hpost : ∀ f ∈ post, (b.seq - n : Byte).toNat < (f.seq - n : Byte).toNat) (hplay : s.calls.records[r].voice.play ≠ .playing)
    (hone : s.calls.records[r].voice.queue = [f]) : s.takeVoice r b = (s.modVoice r fun v => { v with
      queue := pre ++ { seq := b.seq, samples := b.body } :: post
      play := .playing, rep := false
      next := some (if (f.seq - n : Byte).toNat < (b.seq - n : Byte).toNat then f.seq else b.seq) }).countVoice r
        fun c => { c with received := bump c.received } := by
  rw [s.takeVoice_placed r b n pre post hb hc hn hd hq hpre hpost]
  refine congrArg (fun u => State.countVoice u r _) (s.modVoice_congr r ?_)
  rw [hone] at hq
  rcases List.append_eq_singleton_iff.mp hq.symm with ⟨hpre0, hpost1⟩ | ⟨hpre1, hpost0⟩
  · have hlt := hpost f (by rw [hpost1]; exact List.mem_cons_self)
    subst hpre0 hpost1
    refine (VoiceFields.start_plays { s.calls.records[r].voice with queue := [] ++ { seq := b.seq, samples := b.body } :: [f] }
      { seq := b.seq, samples := b.body } [f] hplay (List.cons_ne_nil f []) rfl).trans ?_
    rw [if_neg (Nat.not_lt.mpr (Nat.le_of_lt hlt))]
  · have hlt := hpre f (by rw [hpre1]; exact List.mem_cons_self)
    subst hpre1 hpost0
    refine (VoiceFields.start_plays { s.calls.records[r].voice with queue := [f] ++ [{ seq := b.seq, samples := b.body }] }
      f [{ seq := b.seq, samples := b.body }] hplay (List.cons_ne_nil _ _) rfl).trans ?_
    rw [if_pos hlt]

/-- R85 and R86: a queue restarted is silent until a second frame near the first starts its play. -/
theorem State.takeVoice_restarts (s : State) (r : Fin 16) (b : Block) (n : Byte) (hb : b.body.length = 32)
    (hc : s.calls.records[r].state = .connected) (hn : s.calls.records[r].voice.next = some n) (h8 : 8 ≤ (b.seq - n : Byte).toNat)
    (h127 : (b.seq - n : Byte).toNat ≤ 127) : (s.takeVoice r b).playStep r = (List.replicate 32 128, s.takeVoice r b) ∧
    ∀ b2 : Block, b2.body.length = 32 → 1 ≤ (b2.seq - b.seq : Byte).toNat → (b2.seq - b.seq : Byte).toNat ≤ 7 →
      (((s.takeVoice r b).takeVoice r b2).calls.records[r].voice.play = .playing ∧
        ((s.takeVoice r b).takeVoice r b2).calls.records[r].voice.next = some b.seq) := by
  have hrec : (s.takeVoice r b).calls.records[r] = { s.calls.records[r] with
      voice := s.calls.records[r].voice.restarted { seq := b.seq, samples := b.body } } := by
    rw [s.takeVoice_far r b n hb hc hn h8 h127, State.resyncVoice_spec]
    exact updAt_get_self _ r _
  generalize s.takeVoice r b = t at hrec
  have hstate : t.calls.records[r].state = .connected := by rw [hrec]; exact hc
  have hplay : t.calls.records[r].voice.play ≠ .playing := by rw [hrec]; exact fun h => PlayState.noConfusion h
  have hq : t.calls.records[r].voice.queue = [{ seq := b.seq, samples := b.body }] := by rw [hrec]; rfl
  have hn' : t.calls.records[r].voice.next = some b.seq := by rw [hrec]; rfl
  refine ⟨t.playStep_silent r (.inr hplay), fun b2 hb2 h1 h7 => ?_⟩
  have hlt : ((b.seq - b.seq : Byte)).toNat < (b2.seq - b.seq : Byte).toNat := by rw [BitVec.sub_self]; exact h1
  rw [t.takeVoice_starts r b2 b.seq [{ seq := b.seq, samples := b.body }] [] { seq := b.seq, samples := b.body } hb2 hstate hn' h7
    hq (by intro f hf; rw [List.mem_singleton.mp hf]; exact hlt) (fun f hf => absurd hf List.not_mem_nil) hplay hq, if_pos hlt]
  unfold State.countVoice State.modVoice
  rw [State.modCalls_calls]
  dsimp only
  rw [State.modRecord_self, State.modRecord_self]
  exact ⟨rfl, rfl⟩

/-- R82: a CONNECTED completion's samples, and the advance of the capture seq. -/
theorem State.captureBlock_spec (s : State) (r : Fin 16) (samples : List Byte) (lane : Fin 64)
    (hl : s.calls.records[r].lane = some lane) : s.captureBlock r samples = if s.takes .eq then
      (s.join .eq (localBlock .voice (Config.plainSubtype 2) lane s.lanes[lane].peer s.calls.records[r].voice.capture
        samples)).countVoice r fun c => { c with captured := bump c.captured }
    else s.countVoice r fun c => { c with refused := bump c.refused } := by
  unfold State.captureBlock
  rw [hl]

/-- Settles O34: each outcome of the voice path by the lemma of its case. -/
theorem voiceIsCapturedPlacedAndPlayed : Obligations.VoiceIsCapturedPlacedAndPlayed := by
  refine ⟨fun r b n s hc hn hb h8 h127 => ?_, fun r f s => rfl, fun slot o s => ⟨fun h => ?_, fun r u h hu => ⟨fun hc => ?_, fun hc ho => ?_,
      fun samples lane hc ho hl => ⟨fun ht => ?_, fun ht => ?_⟩⟩⟩,
    fun r b x s hx => ⟨fun hb => ?_, fun hb hc => ?_, fun hb hc => ⟨fun hn hq => ?_, fun n hn => ⟨fun hd => ?_, fun hd hdup => ?_,
      fun pre post hd hq hpre hpost => ⟨fun hplay => ?_, fun f hplay hone => ?_⟩⟩⟩⟩,
    fun r x s hx => ⟨fun h => ?_, fun n hc hp hn => ⟨fun f rest hq hf hrest => ?_, fun hq => ⟨fun l hrep hl => ?_, fun hrep => ?_⟩⟩⟩⟩
  · refine ⟨?_, s.takeVoice_restarts r b n hb hc hn h8 h127⟩
    rw [s.takeVoice_far r b n hb hc hn h8 h127, State.resyncVoice_spec]
    rfl
  · unfold State.voiceOutcome; rw [h]; rfl
  · rw [s.voiceOutcome_seated slot o r h, if_neg hc, hu]; rfl
  · rw [s.voiceOutcome_seated slot o r h, if_pos hc, ho, hu]
    show (s.countVoice r fun c => { c with gap := bump c.gap }).modVoice r _ = _
    exact s.countVoice_modVoice r _ _ (fun _ _ => rfl) fun _ => rfl
  · rw [s.voiceOutcome_seated slot o r h, if_pos hc, ho, hu]
    show (s.captureBlock r samples).modVoice r _ = _
    rw [s.captureBlock_spec r samples lane hl, if_pos ht]
    exact State.countVoice_modVoice _ r _ _ (fun _ _ => rfl) fun _ => rfl
  · rw [s.voiceOutcome_seated slot o r h, if_pos hc, ho, hu]
    show (s.captureBlock r samples).modVoice r _ = _
    rw [s.captureBlock_spec r samples lane hl, if_neg (by rw [ht]; decide)]
    exact s.countVoice_modVoice r _ _ (fun _ _ => rfl) fun _ => rfl
  · exact if_pos hb
  · exact (if_neg fun h => h hb).trans (if_pos (by rw [hx]; exact hc))
  · rw [← hx] at hc hn hq
    exact s.takeVoice_first r b hb hc hn hq
  · rw [s.takeVoice_connected r b hb (by rw [hx]; exact hc), s.placeVoice_next r _ n (by rw [hx]; exact hn),
      if_neg (Nat.not_le.mpr (lt_of_lt_of_le (by decide) hd)), if_neg (Nat.not_le.mpr (lt_of_lt_of_le (by decide) hd))]
  · obtain ⟨f, hf, hseq⟩ := hdup
    have hany : s.calls.records[r].voice.queue.any (·.seq == b.seq) = true :=
      List.any_eq_true.mpr ⟨f, by rw [hx]; exact hf, beq_iff_eq.mpr hseq⟩
    rw [s.takeVoice_connected r b hb (by rw [hx]; exact hc), s.placeVoice_next r _ n (by rw [hx]; exact hn), if_pos hd]
    exact if_pos hany
  · rw [← hx] at hc hn hq
    rw [← hx] at hplay
    exact s.takeVoice_stays r b n pre post hb hc hn hd hq hpre hpost hplay
  · rw [← hx] at hc hn hq hplay hone
    exact s.takeVoice_starts r b n pre post f hb hc hn hd hq hpre hpost hplay hone
  · exact s.playStep_silent r (by rw [hx]; exact h)
  · rw [← hx] at hc hp hn hq
    exact s.playStep_frame r n f rest hc hp hn hq hf hrest
  · rw [← hx] at hc hp hn hq hrep hl
    exact (s.playStep_missing r n hc hp hn hq).1 l hrep hl
  · rw [← hx] at hc hp hn hq hrep
    exact (s.playStep_missing r n hc hp hn hq).2 hrep

end Sys2Proof.Machine
end

section
/-! PROOFS. Hooks, the wait list and the refill (4.1 to 4.5). -/

namespace Sys2Proof.Machine

/-! ### A fresh call id (R59) -/

theorem nextCounter_iterate (c : Byte) (k : Nat) (hk : k ≤ 255) : (nextCounter^[k] c).toNat =
    if c.toNat + k ≤ 255 then c.toNat + k else c.toNat + k - 255 := by
  induction k with
  | zero => exact (if_pos (by have := c.isLt; omega)).symm
  | succ k ih =>
    have ih := ih (by omega)
    have hc := c.isLt
    rw [Function.iterate_succ_apply']
    generalize nextCounter^[k] c = d at ih
    unfold nextCounter
    by_cases hd : d = 255
    · rw [if_pos hd]
      rw [hd] at ih
      have h255 : (255 : Byte).toNat = 255 := rfl
      have h1 : (1 : Byte).toNat = 1 := rfl
      split_ifs at ih ⊢ <;> omega
    · rw [if_neg hd]
      have hne : d.toNat ≠ 255 := fun h => hd (BitVec.eq_of_toNat_eq h)
      have hadd : (d + 1 : Byte).toNat = d.toNat + 1 := by
        rw [BitVec.toNat_add]
        exact Nat.mod_eq_of_lt (by have := d.isLt; show d.toNat + 1 < 256; omega)
      rw [hadd]
      split_ifs at ih ⊢ <;> omega

theorem skipHeld_held (held : List Byte) (n : Nat) : ∀ c : Byte, skipHeld held n c ∈ held → ∀ k ≤ n, nextCounter^[k] c ∈ held := by
  induction n with
  | zero =>
    intro c h k hk
    rw [Nat.le_zero.mp hk]
    exact h
  | succ n ih =>
    intro c h k hk
    unfold skipHeld at h
    by_cases hc : held.contains c = true
    · rw [if_pos hc] at h
      cases k with
      | zero => exact List.contains_iff_mem.mp hc
      | succ k => exact ih (nextCounter c) h k (by omega)
    · rw [if_neg hc] at h
      exact absurd (List.contains_iff_mem.mpr h) hc

/-- Among n values held, n steps find one that is not: the n + 1 values passed are distinct. -/
theorem skipHeld_free (held : List Byte) (n : Nat) (c : Byte) (hlen : held.length ≤ n) (hn : n ≤ 254) : skipHeld held n c ∉ held := by
  intro h
  have hall := skipHeld_held held n c h
  have hnodup : ((List.range (n + 1)).map fun k => nextCounter^[k] c).Nodup := by
    refine List.Nodup.map_on (fun i hi j hj he => ?_) List.nodup_range
    have hi := List.mem_range.mp hi
    have hj := List.mem_range.mp hj
    have hi' := nextCounter_iterate c i (by omega)
    have hj' := nextCounter_iterate c j (by omega)
    rw [he] at hi'
    have hc := c.isLt
    split_ifs at hi' hj' <;> omega
  have hsub : ((List.range (n + 1)).map fun k => nextCounter^[k] c) ⊆ held := by
    intro x hx
    obtain ⟨k, hk, rfl⟩ := List.mem_map.mp hx
    exact hall k (Nat.lt_succ_iff.mp (List.mem_range.mp hk))
  have hle := (hnodup.subperm hsub).length_le
  rw [List.length_map, List.length_range] at hle
  omega

theorem State.freshCounter_free (s : State) (r : Fin 16) (h : s.calls.records[r].state ≠ .free) :
    s.calls.records[r].callId ≠ some { node := s.nodeByte, counter := s.freshCounter } := by
  intro hid
  refine skipHeld_free s.heldCounters 16 s.calls.counter ?_ (by decide) ?_
  · exact (List.length_filterMap_le _ _).trans (by rw [List.length_finRange])
  · refine List.mem_filterMap.mpr ⟨r, List.mem_finRange r, ?_⟩
    rw [hid]
    exact if_pos ⟨h, rfl⟩

/-! ### Off-hook (R60, R62) -/

theorem State.takeHook_known (s : State) (slot : Fin 32) (h : (s.recordOf slot).isSome = true ∨ s.onWaitList slot = true) :
    s.takeHook slot true = s := (if_pos rfl).trans (if_pos (Bool.or_eq_true_iff.mpr h))

theorem State.takeHook_new (s : State) (slot : Fin 32) (hr : s.recordOf slot = none) (hw : s.onWaitList slot = false) :
    s.takeHook slot true = s.offHook slot := (if_pos rfl).trans (if_neg (by rw [hr, hw]; decide))

/-- An off-hook with no place joins the wait list, or is counted. -/
theorem State.offHook_waits (s : State) (slot : Fin 32) (h : s.freeRecord = none ∨ s.seatFree s.poll.stations[slot].drop = false) :
    s.offHook slot = if s.calls.waitList.length < 32 then
        (if s.calls.waitList.isEmpty then
          (s.modCalls fun c => { c with waitList := c.waitList ++ [{ slot := slot, since := s.now }] }).notify (.waitList 1)
        else s.modCalls fun c => { c with waitList := c.waitList ++ [{ slot := slot, since := s.now }] })
      else s.countCalls fun c => { c with waitListFull := bump c.waitListFull } := by
  have hfree : (if s.seatFree s.poll.stations[slot].drop then s.freeRecord else none) = none := by
    rcases h with h | h
    · rw [h, ite_self]
    · exact if_neg (by rw [h]; decide)
  unfold State.offHook
  rw [hfree]

theorem State.offHook_seizes (s : State) (slot : Fin 32) (r : Fin 16) (h : s.freeRecord = some r)
    (hs : s.seatFree s.poll.stations[slot].drop = true) : s.offHook slot = (s.seize r slot).testSeized := by
  have hfree : (if s.seatFree s.poll.stations[slot].drop then s.freeRecord else none) = some r := by rw [if_pos hs, h]
  unfold State.offHook
  rw [hfree]

/-! ### The walk of the wait list (R63, R64) -/

theorem State.forEach_same {α : Type} (s : State) (l : List α) (f : α → State → State) (h : ∀ a ∈ l, f a s = s) : s.forEach l f = s := by
  induction l with
  | nil => rfl
  | cons a l ih =>
    show State.forEach (f a s) l f = s
    rw [h a List.mem_cons_self]
    exact ih fun b hb => h b (List.mem_cons_of_mem a hb)

theorem State.refillOne_stays (s : State) (slot : Fin 32) (h : s.freeRecord = none ∨ s.seatFree s.poll.stations[slot].drop = false) :
    s.refillOne slot = s := by
  unfold State.refillOne
  split
  · rename_i r hr
    refine if_neg ?_
    rcases h with h | h
    · rw [hr] at h; nomatch h
    · rw [h]; decide
  · rfl

theorem State.refillOne_fills (s : State) (slot : Fin 32) (r : Fin 16) (h : s.freeRecord = some r)
    (hs : s.seatFree s.poll.stations[slot].drop = true) : s.refillOne slot = (s.leaveWaitList slot).seize r slot := by
  unfold State.refillOne
  rw [h]
  exact if_pos hs

theorem State.freeRecord_free (s : State) (r : Fin 16) (h : s.freeRecord = some r) : s.calls.records[r].state = .free :=
  beq_iff_eq.mp (List.find?_some (p := fun r : Fin 16 => s.calls.records[r].state == .free) h)

theorem State.refill_stays (s : State) (h : s.freeRecord = none ∨ ∀ w ∈ s.calls.waitList, s.seatFree s.poll.stations[w.slot].drop = false) :
    s.refill = s := by
  have hwalk : s.refillWalk = s := s.forEach_same _ _ fun w hw => s.refillOne_stays w.slot (h.imp id fun h => h w hw)
  unfold State.refill
  rw [hwalk]
  exact if_neg (lt_irrefl _)

/-- What leaves the wait list leaves everything but the agent's notices as it is. -/
theorem State.leaveWaitList_calls (s : State) (slot : Fin 32) :
    (s.leaveWaitList slot).calls = { s.calls with waitList := s.calls.waitList.filter (·.slot != slot) } ∧
    (s.leaveWaitList slot).poll = s.poll ∧ (s.leaveWaitList slot).now = s.now := by
  unfold State.leaveWaitList
  dsimp only
  split
  · rw [State.notify_kept]
    exact ⟨rfl, rfl, rfl⟩
  · exact ⟨rfl, rfl, rfl⟩

/-- What leaves the wait list with another phone waiting leaves everything else as it is. -/
theorem State.leaveWaitList_others (s : State) (slot : Fin 32) (h : ∃ w ∈ s.calls.waitList, w.slot ≠ slot) : s.leaveWaitList slot =
    { s with calls := { s.calls with waitList := s.calls.waitList.filter (·.slot != slot) } } := by
  obtain ⟨w, hw, hne⟩ := h
  have hmem : w ∈ s.calls.waitList.filter (·.slot != slot) := List.mem_filter.mpr ⟨hw, bne_iff_ne.mpr hne⟩
  have hempty : (s.calls.waitList.filter (·.slot != slot)).isEmpty = false := by
    rw [List.isEmpty_eq_false_iff]
    exact List.ne_nil_of_mem hmem
  refine if_neg fun h => ?_
  exact absurd ((Bool.and_eq_true_iff.mp h).1.symm.trans hempty) (by decide)

/-- What a walk of the wait list keeps: the clock, the stations' drops, and the standing of every record in use. -/
structure State.Walked (s t : State) : Prop where
  now : t.now = s.now
  drops : ∀ i : Fin 32, t.poll.stations[i].drop = s.poll.stations[i].drop
  records : ∀ q : Fin 16, s.calls.records[q].state ≠ .free → t.calls.records[q].state = s.calls.records[q].state ∧
    t.calls.records[q].phone = s.calls.records[q].phone ∧ t.calls.records[q].seized = s.calls.records[q].seized

theorem State.Walked.refl (s : State) : s.Walked s := ⟨rfl, fun _ => rfl, fun _ _ => ⟨rfl, rfl, rfl⟩⟩

theorem State.Walked.trans {a b c : State} (h : a.Walked b) (k : b.Walked c) : a.Walked c where
  now := k.now.trans h.now
  drops i := (k.drops i).trans (h.drops i)
  records q hq := by
    obtain ⟨hs, hp, hz⟩ := h.records q hq
    obtain ⟨ks, kp, kz⟩ := k.records q (by rw [hs]; exact hq)
    exact ⟨ks.trans hs, kp.trans hp, kz.trans hz⟩

/-- A drop without a free seat stays so. -/
theorem State.Walked.seatFree {s t : State} (h : s.Walked t) (d : Fin 4) (hs : s.seatFree d = false) : t.seatFree d = false := by
  have hle : s.seats d ≤ t.seats d := by
    refine List.Sublist.length_le (List.monotone_filter_right _ fun q hq => ?_)
    obtain ⟨hseat, hdrop⟩ := Bool.and_eq_true_iff.mp hq
    obtain ⟨hst, hph, _⟩ := h.records q fun hf => by rw [hf] at hseat; exact absurd hseat (by decide)
    unfold State.seatedOn
    rw [hst, hph, hseat]
    cases hp : s.calls.records[q].phone with
    | none => rw [hp] at hdrop; exact absurd hdrop Bool.false_ne_true
    | some slot =>
      rw [hp] at hdrop
      dsimp only at hdrop ⊢
      rw [h.drops slot, hdrop]; rfl
  unfold State.seatFree at hs ⊢
  exact decide_eq_false fun hc => of_decide_eq_false hs (Nat.lt_of_le_of_lt hle hc)

/-- The state of a record just SEIZED, before its drop chooses. -/
def State.seizing (s : State) (r : Fin 16) (slot : Fin 32) : State :=
  (s.modRecord r fun x => { x with state := .seized, phone := some slot, seized := some s.now }).modStation slot fun e =>
    { e with voiceDue := some s.now, due := none, come := some s.now }

theorem State.seize_eq (s : State) (r : Fin 16) (slot : Fin 32) :
    s.seize r slot = (s.seizing r slot).dropChoose s.poll.stations[slot].drop := rfl

theorem State.seizing_drop (s : State) (r : Fin 16) (slot i : Fin 32) :
    (s.seizing r slot).poll.stations[i].drop = s.poll.stations[i].drop := updAt_get_eq s.poll.stations slot i _ Station.drop fun _ => rfl

theorem State.seize_walked (s : State) (r : Fin 16) (slot : Fin 32) (hr : s.calls.records[r].state = .free) : s.Walked (s.seize r slot) := by
  have hbegun := ((s.seizing r slot).dropChoose_begun s.poll.stations[slot].drop).paid
  rw [s.seize_eq]
  refine ⟨?_, fun i => ?_, fun q hq => ?_⟩
  · rw [hbegun.kept]; rfl
  · rw [hbegun.kept]; exact s.seizing_drop r slot i
  · have hne : q ≠ r := fun h => hq (h ▸ hr)
    rw [hbegun.records q]
    have hrec : (s.seizing r slot).calls.records[q] = s.calls.records[q] := s.modRecord_other r q _ hne
    rw [hrec]
    exact ⟨rfl, rfl, rfl⟩

theorem State.seize_record (s : State) (r : Fin 16) (slot : Fin 32) : (s.seize r slot).calls.records[r].state = .seized ∧
    (s.seize r slot).calls.records[r].phone = some slot ∧ (s.seize r slot).calls.records[r].seized = some s.now ∧
    (s.seize r slot).calls.waitList = s.calls.waitList := by
  have hbegun := ((s.seizing r slot).dropChoose_begun s.poll.stations[slot].drop).paid
  have hrec : (s.seizing r slot).calls.records[r] = { s.calls.records[r] with state := .seized, phone := some slot, seized := some s.now } :=
    s.modRecord_self r _
  rw [s.seize_eq]
  refine ⟨?_, ?_, ?_, ?_⟩
  · rw [hbegun.records r, hrec]
  · rw [hbegun.records r, hrec]
  · rw [hbegun.records r, hrec]
  · rw [hbegun.kept]; rfl

theorem State.leaveWaitList_walked (s : State) (slot : Fin 32) : s.Walked (s.leaveWaitList slot) := by
  obtain ⟨hcalls, hpoll, hnow⟩ := s.leaveWaitList_calls slot
  exact ⟨hnow, fun i => by rw [hpoll], fun q _ => by rw [hcalls]; exact ⟨rfl, rfl, rfl⟩⟩

/-- One phone of the walk: nothing changes, or it leaves the list for a place its drop has. -/
theorem State.refillOne_spec (s : State) (slot : Fin 32) : s.Walked (s.refillOne slot) ∧
    (s.refillOne slot = s ∨ (s.seatFree s.poll.stations[slot].drop = true ∧
      (s.refillOne slot).calls.waitList = s.calls.waitList.filter (·.slot != slot))) := by
  by_cases hstay : s.freeRecord = none ∨ s.seatFree s.poll.stations[slot].drop = false
  · rw [s.refillOne_stays slot hstay]
    exact ⟨.refl s, .inl rfl⟩
  · obtain ⟨hfree, hseat⟩ := not_or.mp hstay
    obtain ⟨r, hr⟩ := Option.ne_none_iff_exists'.mp hfree
    have hseat := Bool.eq_true_of_not_eq_false hseat
    have hcalls := (s.leaveWaitList_calls slot).1
    rw [s.refillOne_fills slot r hr hseat]
    refine ⟨(s.leaveWaitList_walked slot).trans (State.seize_walked _ r slot ?_), .inr ⟨hseat, ?_⟩⟩
    · rw [hcalls]; exact s.freeRecord_free r hr
    · rw [((s.leaveWaitList slot).seize_record r slot).2.2.2, hcalls]

/-- The phones whose drop has no seat are not among those who leave for a seat. -/
theorem State.filter_passed (s : State) (pre : List Waiting) (slot : Fin 32)
    (hpre : ∀ y ∈ pre, s.seatFree s.poll.stations[y.slot].drop = false) (hseat : s.seatFree s.poll.stations[slot].drop = true) :
    pre.filter (·.slot != slot) = pre := by
  refine List.filter_eq_self.mpr fun y hy => bne_iff_ne.mpr fun he => ?_
  subst he
  exact absurd (hseat.symm.trans (hpre y hy)) (by decide)

/-- The rest of a walk: the phones passed over keep their places in front, and those behind that stay keep their order. -/
theorem State.walk_rest (l : List Waiting) (pre post : List Waiting) : ∀ s : State,
    (∃ left, s.calls.waitList = pre ++ left ∧ left.Sublist post) → (∀ y ∈ pre, s.seatFree s.poll.stations[y.slot].drop = false) →
    s.Walked (s.forEach l fun w s => s.refillOne w.slot) ∧
    ∃ left, (s.forEach l fun w s => s.refillOne w.slot).calls.waitList = pre ++ left ∧ left.Sublist post := by
  induction l with
  | nil => exact fun s h _ => ⟨.refl s, h⟩
  | cons z l ih =>
    intro s hleft hpre
    obtain ⟨hwalk, hcase⟩ := s.refillOne_spec z.slot
    have hpre' : ∀ y ∈ pre, (s.refillOne z.slot).seatFree (s.refillOne z.slot).poll.stations[y.slot].drop = false := fun y hy => by
      rw [hwalk.drops]; exact hwalk.seatFree _ (hpre y hy)
    have hleft' : ∃ left, (s.refillOne z.slot).calls.waitList = pre ++ left ∧ left.Sublist post := by
      rcases hcase with h | ⟨hseat, h⟩
      · rw [h]; exact hleft
      · obtain ⟨left, hl, hsub⟩ := hleft
        exact ⟨left.filter (·.slot != z.slot), by rw [h, hl, List.filter_append, s.filter_passed pre z.slot hpre hseat], List.filter_sublist.trans hsub⟩
    obtain ⟨hrest, hl⟩ := ih (s.refillOne z.slot) hleft' hpre'
    exact ⟨hwalk.trans hrest, hl⟩

/-- The walk fills the record with the first phone whose drop has a seat. -/
theorem State.refillWalk_fills (s : State) (w : Waiting) (pre post : List Waiting) (r : Fin 16) (hw : s.calls.waitList = pre ++ w :: post)
    (hr : s.freeRecord = some r) (hpre : ∀ y ∈ pre, s.seatFree s.poll.stations[y.slot].drop = false)
    (hseat : s.seatFree s.poll.stations[w.slot].drop = true) :
    s.refillWalk.calls.records[r].state = .seized ∧ s.refillWalk.calls.records[r].phone = some w.slot ∧
    s.refillWalk.calls.records[r].seized = some s.now ∧
    ∃ left : List Waiting, s.refillWalk.calls.waitList = pre ++ left ∧ left.Sublist (post.filter (·.slot != w.slot)) := by
  have hstart : s.refillWalk = ((s.leaveWaitList w.slot).seize r w.slot).forEach post fun w s => s.refillOne w.slot := by
    have hpast : s.forEach pre (fun w s => s.refillOne w.slot) = s := s.forEach_same _ _ fun y hy => s.refillOne_stays y.slot (.inr (hpre y hy))
    unfold State.refillWalk
    rw [hw]
    unfold State.forEach at hpast ⊢
    rw [List.foldl_append, hpast, List.foldl_cons]
    dsimp only
    rw [s.refillOne_fills w.slot r hr hseat]
  have hcalls := (s.leaveWaitList_calls w.slot).1
  obtain ⟨hst, hph, hsz, hwl⟩ := (s.leaveWaitList w.slot).seize_record r w.slot
  have hwalk : s.Walked ((s.leaveWaitList w.slot).seize r w.slot) := (s.leaveWaitList_walked w.slot).trans
    (State.seize_walked _ r w.slot (by rw [hcalls]; exact s.freeRecord_free r hr))
  rw [hcalls, hw, List.filter_append, s.filter_passed pre w.slot hpre hseat, List.filter_cons_of_neg (by simp)] at hwl
  rw [(s.leaveWaitList_calls w.slot).2.2] at hsz
  generalize (s.leaveWaitList w.slot).seize r w.slot = u at hstart hst hph hsz hwl hwalk
  obtain ⟨hrest, hleft⟩ := State.walk_rest post pre (post.filter (·.slot != w.slot)) u ⟨_, hwl, .refl _⟩ fun y hy => by
    rw [hwalk.drops]; exact hwalk.seatFree _ (hpre y hy)
  rw [← hstart] at hrest hleft
  obtain ⟨ks, kp, kz⟩ := hrest.records r (by rw [hst]; decide)
  exact ⟨ks.trans hst, kp.trans hph, kz.trans hsz, hleft⟩

end Sys2Proof.Machine
end

section
/-! PROOFS. A record seized that has its path, and a phone that is gone (4.3 to 4.5). -/

namespace Sys2Proof.Machine

/-! ### SEIZED to CALLING (R66) -/

theorem State.tryCalling_pathless (s : State) (r : Fin 16) (h : s.pathAvailable = false) : s.tryCalling r = s :=
  if_neg (by rw [h]; decide)

theorem State.testSeized_pathless (s : State) (h : s.pathAvailable = false) : s.testSeized = s :=
  s.forEach_same _ _ fun r _ => s.tryCalling_pathless r h

theorem finRange_only : ∀ r : Fin 16, ((List.finRange 16).filterMap fun q => if q = r then some r else none) = [r] := by decide

/-- The only SEIZED record is the one tested. -/
theorem State.testSeized_one (s : State) (r : Fin 16) (h : s.calls.records[r].state = .seized)
    (ho : ∀ q : Fin 16, q ≠ r → s.calls.records[q].state ≠ .seized) : s.testSeized = s.tryCalling r := by
  have hfun : (fun q : Fin 16 => if s.calls.records[q].state = .seized then some (q, s.calls.records[q].seized.getD 0) else none) =
      fun q => if q = r then some (r, s.calls.records[r].seized.getD 0) else none := by
    funext q
    by_cases hq : q = r
    · rw [if_pos hq, hq, if_pos h]
    · rw [if_neg hq, if_neg (ho q hq)]
  have hlist : ((List.finRange 16).filterMap fun q : Fin 16 =>
      if q = r then some (r, s.calls.records[r].seized.getD 0) else none) = [(r, s.calls.records[r].seized.getD 0)] := by
    have hmap := List.map_filterMap (f := fun q : Fin 16 => if q = r then some r else none)
      (g := fun r => (r, s.calls.records[r].seized.getD 0)) (l := List.finRange 16)
    rw [finRange_only r] at hmap
    refine Eq.trans (congrArg (fun f => (List.finRange 16).filterMap f) (funext fun q => ?_)) hmap.symm
    by_cases hq : q = r
    · rw [if_pos hq, if_pos hq]; rfl
    · rw [if_neg hq, if_neg hq]; rfl
  have hone : s.seizedRecords = [r] := by
    unfold State.seizedRecords
    rw [hfun, hlist]; rfl
  unfold State.testSeized
  rw [hone]; rfl

/-- What the test of the SEIZED records keeps. -/
theorem State.tryCalling_kept (s : State) (r : Fin 16) : (s.tryCalling r).poll = s.poll ∧ (s.tryCalling r).calls.waitList = s.calls.waitList := by
  unfold State.tryCalling
  split
  · split
    · unfold State.enterCalling State.sendRequest
      rw [State.sendCall_kept]
      exact ⟨rfl, rfl⟩
    · exact ⟨rfl, rfl⟩
  · exact ⟨rfl, rfl⟩

theorem State.testSeized_kept (s : State) : s.testSeized.poll = s.poll ∧ s.testSeized.calls.waitList = s.calls.waitList := by
  unfold State.testSeized
  generalize s.seizedRecords = l
  induction l generalizing s with
  | nil => exact ⟨rfl, rfl⟩
  | cons r l ih =>
    obtain ⟨hp, hw⟩ := s.tryCalling_kept r
    obtain ⟨ihp, ihw⟩ := ih (s.tryCalling r)
    exact ⟨ihp.trans hp, ihw.trans hw⟩

/-! ### A choice leaves the play-out of a record that is not CONNECTED as it is -/

theorem State.playStep_record (s : State) (r q : Fin 16) (h : s.calls.records[q].state ≠ .connected) :
    (s.playStep r).2.calls.records[q] = s.calls.records[q] := by
  by_cases hq : q = r
  · subst hq
    rw [s.playStep_silent q (.inl h)]
  · unfold State.playStep
    dsimp only
    split
    · split
      · rfl
      · have hplay (f : VoiceFields → VoiceFields) : (s.modVoice r f).calls.records[q] = s.calls.records[q] := s.modRecord_other r q _ hq
        split
        · exact hplay _
        · exact (State.modRecord_other _ r q _ hq).trans (hplay _)
        · exact (State.modRecord_other _ r q _ hq).trans (hplay _)
    · rfl

theorem State.dropChoose_record (s : State) (d : Fin 4) (q : Fin 16) (h : s.calls.records[q].state ≠ .connected) :
    (s.dropChoose d).calls.records[q] = s.calls.records[q] := by
  unfold State.dropChoose State.chooseFrom
  split
  · rfl
  · split
    · rfl
    · split
      · show (s.voicePayload _).2.calls.records[q] = _
        unfold State.voicePayload
        split
        · exact s.playStep_record _ q h
        · rfl
      · split
        · show (s.stationPayload _).2.calls.records[q] = _
          unfold State.stationPayload
          dsimp only
          split
          · rfl
          · rfl
          · split <;> rfl
          · rfl
        · rfl

/-! ### An off-hook that finds a place -/

/-- What a record SEIZED leaves: its own record, the station's demands, and nothing of the lanes, the ring and the call ids. -/
theorem State.seize_spec (s : State) (r : Fin 16) (slot : Fin 32) (hr : s.calls.records[r] = CallRecord.free) :
    (s.seize r slot).calls.records[r] = { CallRecord.free with state := .seized, phone := some slot, seized := some s.now } ∧
    (∀ q : Fin 16, q ≠ r → (s.seize r slot).calls.records[q] =
      { s.calls.records[q] with voice := (s.seize r slot).calls.records[q].voice }) ∧
    (s.seize r slot).poll.stations =
      updAt s.poll.stations slot (fun e => { e with voiceDue := some s.now, due := none, come := some s.now }) ∧
    s.seize r slot = { s with
      calls := { s.calls with records := (s.seize r slot).calls.records, totals := (s.seize r slot).calls.totals }
      poll := { s.poll with stations := (s.seize r slot).poll.stations, drops := (s.seize r slot).poll.drops }
      jrnl := { s.jrnl with answers := (s.seize r slot).jrnl.answers }
      sign := { s.sign with signs := (s.seize r slot).sign.signs } } := by
  have hbegun := ((s.seizing r slot).dropChoose_begun s.poll.stations[slot].drop).paid
  have hrec : (s.seizing r slot).calls.records[r] = { CallRecord.free with state := .seized, phone := some slot, seized := some s.now } := by
    rw [← hr]; exact s.modRecord_self r _
  have hchosen := (s.seizing r slot).dropChoose_record s.poll.stations[slot].drop r (by rw [hrec]; exact CallState.noConfusion)
  rw [s.seize_eq]
  refine ⟨hchosen.trans hrec, fun q hq => ?_, ?_, ?_⟩
  · rw [hbegun.records q]
    rw [show (s.seizing r slot).calls.records[q] = s.calls.records[q] from s.modRecord_other r q _ hq]
  · rw [hbegun.kept]; rfl
  · generalize (s.seizing r slot).dropChoose s.poll.stations[slot].drop = t at hbegun
    rw [hbegun.kept]; rfl

/-- A lane bound keeps its service and its peer. -/
theorem State.laneFor_bound (s t : State) (v : Fin 64) (b : Option (Fin 16)) (sv : LaneService)
    (h : t.lanes = updAt s.lanes v fun e => { e with binding := b }) : t.laneFor sv = s.laneFor sv ∧
    ∀ lane : Fin 64, t.lanes[lane].peer = s.lanes[lane].peer := by
  have hactive (i : Fin 64) : t.lanes[i].active = s.lanes[i].active := by
    rw [h]; exact updAt_get_eq s.lanes v i _ LaneEntry.active fun _ => rfl
  have hservice (i : Fin 64) : t.lanes[i].service = s.lanes[i].service := by
    rw [h]; exact updAt_get_eq s.lanes v i _ LaneEntry.service fun _ => rfl
  refine ⟨?_, fun lane => by rw [h]; exact updAt_get_eq s.lanes v lane _ LaneEntry.peer fun _ => rfl⟩
  unfold State.laneFor
  refine congrArg (fun p => ordinaryLanes.find? p) (funext fun i => ?_)
  rw [hactive i, hservice i]

/-- A record that enters CALLING, before its REQUEST is sent. -/
def State.bound (s : State) (r : Fin 16) (v : Fin 64) : State :=
  ((((s.modLane v fun e => { e with binding := some r }).modCalls fun e => { e with counter := nextCounter s.freshCounter }).modRecord r
    fun x =>
      { x with state := .calling, lane := some v, callId := some { node := s.nodeByte, counter := s.freshCounter }, attempts := 1,
               timer := some (s.now + 2000) }).countCalls fun k => { k with requested := bump k.requested })

theorem State.enterCalling_spec (s : State) (r : Fin 16) (slot : Fin 32) (v lane : Fin 64) (hp : s.calls.records[r].phone = some slot)
    (hl : s.laneFor .call = some lane) : (s.enterCalling r v).calls.records[r] = { s.calls.records[r] with
      state := .calling, lane := some v, callId := some { node := s.nodeByte, counter := s.freshCounter }, attempts := 1
      timer := some (s.now + 2000) } ∧
    (s.enterCalling r v).lanes = updAt s.lanes v (fun e => { e with binding := some r }) ∧
    (s.enterCalling r v).calls.counter = nextCounter s.freshCounter ∧
    (s.takes .eq = true → (s.enterCalling r v).ring = { s.ring with eq := s.ring.eq ++
      [s.completed (localBlock .call subRequest lane s.lanes[lane].peer 1 ([s.nodeByte, s.freshCounter,
        byte s.poll.stations[slot].drop.val, 0#3 ++ s.poll.stations[slot].address, byte v.val] ++
        be16 s.poll.stations[slot].location))] }) := by
  have hrec : (s.bound r v).calls.records[r] = { s.calls.records[r] with
      state := .calling, lane := some v, callId := some { node := s.nodeByte, counter := s.freshCounter }, attempts := 1
      timer := some (s.now + 2000) } := State.modRecord_self _ r _
  have hsend : s.enterCalling r v = (s.bound r v).sendCall subRequest 1 ([s.nodeByte, s.freshCounter,
        byte s.poll.stations[slot].drop.val, 0#3 ++ s.poll.stations[slot].address, byte v.val] ++
        be16 s.poll.stations[slot].location) := by
    show (s.bound r v).sendRequest r = _
    have hpoll : (s.bound r v).poll = s.poll := rfl
    unfold State.sendRequest State.placeBytes State.locationBytes CallRecord.idBytes
    rw [hrec, hpoll]
    dsimp only
    rw [hp]
    rfl
  have hkept := (s.bound r v).sendCall_kept subRequest 1 ([s.nodeByte, s.freshCounter,
    byte s.poll.stations[slot].drop.val, 0#3 ++ s.poll.stations[slot].address, byte v.val] ++ be16 s.poll.stations[slot].location)
  rw [← hsend] at hkept
  refine ⟨?_, ?_, ?_, fun ht => ?_⟩
  · rw [hkept]; exact hrec
  · rw [hkept]; rfl
  · rw [hkept]; rfl
  · obtain ⟨hlane, hpeer⟩ := s.laneFor_bound (s.bound r v) v (some r) .call rfl
    rw [hsend, (s.bound r v).sendCall_taken lane subRequest 1 _ (hlane.trans hl) ht, hpeer lane]
    rfl

/-- The values held as call ids do not change where a FREE record takes a phone. -/
theorem State.freshCounter_seize (s : State) (r : Fin 16) (slot : Fin 32) (hr : s.calls.records[r] = CallRecord.free) :
    (s.seize r slot).freshCounter = s.freshCounter := by
  obtain ⟨hrec, hother, _, hkept⟩ := s.seize_spec r slot hr
  generalize s.seize r slot = t at hrec hother hkept
  have hnode : t.nodeByte = s.nodeByte := by rw [hkept]; rfl
  have hheld : t.heldCounters = s.heldCounters := by
    unfold State.heldCounters
    refine congrArg (fun f => (List.finRange 16).filterMap f) (funext fun q => ?_)
    by_cases hq : q = r
    · rw [hq, hrec, hr]; rfl
    · rw [hother q hq, hnode]
  unfold State.freshCounter
  rw [hheld, show t.calls.counter = s.calls.counter by rw [hkept]]

/-! ### A phone gone (R71 to R73) -/

/-- What a record with a seat leaves as it becomes FREE. -/
theorem State.clearRecord_seated (s : State) (r : Fin 16) (slot : Fin 32) (h : s.calls.records[r].state.seated = true)
    (hp : s.calls.records[r].phone = some slot) :
    (s.clearRecord r).calls = { s.calls with records := updAt s.calls.records r fun _ => CallRecord.free } ∧
    (∀ lane : Fin 64, s.calls.records[r].lane = some lane → (s.clearRecord r).lanes = updAt s.lanes lane fun e => { e with binding := none }) ∧
    (s.calls.records[r].lane = none → (s.clearRecord r).lanes = s.lanes) ∧
    (s.clearRecord r).poll.stations = updAt s.poll.stations slot (fun e => { e with voiceDue := none, due := some s.now, come := some s.now }) ∧
    s.clearRecord r = { s with
      calls := (s.clearRecord r).calls, lanes := (s.clearRecord r).lanes
      poll := { s.poll with stations := (s.clearRecord r).poll.stations } } := by
  unfold State.clearRecord
  rw [s.releaseSeat_seated r slot h hp]
  cases hl : s.calls.records[r].lane with
  | none =>
    rw [(s.seatReleased slot).unbind_none r hl]
    exact ⟨rfl, fun _ h => (nomatch h), fun _ => rfl, rfl, rfl⟩
  | some k =>
    rw [(s.seatReleased slot).unbind_some r k hl]
    exact ⟨rfl, fun lane h => by cases h; rfl, fun h => (nomatch h), rfl, rfl⟩

theorem State.phoneGone_record (s : State) (slot : Fin 32) (r : Fin 16) (why : ClearReason) (h : s.recordOf slot = some r) :
    s.phoneGone slot why = s.endCall r why := by
  unfold State.phoneGone
  rw [h]

theorem State.phoneGone_none (s : State) (slot : Fin 32) (why : ClearReason) (h : s.recordOf slot = none) :
    s.phoneGone slot why = if s.onWaitList slot then s.leaveWaitList slot else s := by
  unfold State.phoneGone
  rw [h]

theorem State.recordOf_spec (s : State) (slot : Fin 32) (r : Fin 16) (h : s.recordOf slot = some r) :
    s.calls.records[r].state ≠ .free ∧ s.calls.records[r].phone = some slot := by
  have hr := List.find?_some h
  rw [Bool.and_eq_true, bne_iff_ne, beq_iff_eq] at hr
  exact hr

theorem State.filter_unlisted (s : State) (slot : Fin 32) (h : s.onWaitList slot = false) :
    s.calls.waitList.filter (·.slot != slot) = s.calls.waitList := by
  refine List.filter_eq_self.mpr fun w hw => bne_iff_ne.mpr fun he => ?_
  exact List.any_eq_false.mp h w hw (beq_iff_eq.mpr he)

/-- A record CLEARING with its seat released, before its CLEAR is sent (R72). -/
def State.hungUp (s : State) (r : Fin 16) (slot : Fin 32) (why : ClearReason) : State :=
  { s with
    poll := { s.poll with stations := updAt s.poll.stations slot fun e => { e with voiceDue := none, due := some s.now, come := some s.now } }
    calls := { s.calls with
      records := updAt s.calls.records r fun x => { x with state := .clearing, reason := some why, attempts := 1, timer := some (s.now + 2000) }
      ctr := s.calls.ctr.cleared why } }

/-- A call that ends at its phone: CLEARING with its seat released and its CLEAR offered. -/
theorem State.clearLocal_sends (s : State) (r : Fin 16) (why : ClearReason) (slot : Fin 32) (hw : s.calls.waitList = [])
    (hseat : s.calls.records[r].state.seated = true) (hp : s.calls.records[r].phone = some slot) : s.clearLocal r why =
      (s.hungUp r slot why).sendCall subClear 1 (s.calls.records[r].idBytes ++ [why.code]) := by
  have hclear : ((((s.releaseSeat r).modRecord r fun x =>
      { x with state := .clearing, reason := some why, attempts := 1, timer := some (s.now + 2000) }).countCalls
      (·.cleared why)).sendClear r why) = (s.hungUp r slot why).sendCall subClear 1 (s.calls.records[r].idBytes ++ [why.code]) := by
    rw [s.releaseSeat_seated r slot hseat hp]
    have hrec : (((s.seatReleased slot).modRecord r fun x =>
      { x with state := .clearing, reason := some why, attempts := 1, timer := some (s.now + 2000) }).countCalls
      (·.cleared why)).calls.records[r] = { s.calls.records[r] with
        state := .clearing, reason := some why, attempts := 1, timer := some (s.now + 2000) } := State.modRecord_self _ r _
    unfold State.sendClear CallRecord.idBytes
    rw [hrec]
    rfl
  unfold State.clearLocal
  rw [hclear]
  refine State.refill_empty _ ?_
  rw [State.sendCall_kept]
  exact hw

/-- A phone gone whose record is in a call. -/
theorem State.phoneGone_sends (s : State) (slot : Fin 32) (r : Fin 16) (why : ClearReason) (h : s.recordOf slot = some r)
    (hst : s.calls.records[r].state = .calling ∨ s.calls.records[r].state = .queued ∨ s.calls.records[r].state = .connected ∨
      s.calls.records[r].state = .isolated) (hw : s.calls.waitList = []) : s.phoneGone slot why =
      (s.hungUp r slot why).sendCall subClear 1 (s.calls.records[r].idBytes ++ [why.code]) := by
  have hlocal : s.endCall r why = s.clearLocal r why := by
    unfold State.endCall
    rcases hst with h | h | h | h <;> rw [h]
  have hseat : s.calls.records[r].state.seated = true := by
    rcases hst with h | h | h | h <;> rw [h] <;> rfl
  rw [s.phoneGone_record slot r why h, hlocal, s.clearLocal_sends r why slot hw hseat (s.recordOf_spec slot r h).2]

/-- Settles O32: each clause by the lemma of its case. -/
theorem hookAndLossMoveCalls : Obligations.HookAndLossMoveCalls := by
  refine ⟨fun s r h => s.freshCounter_free r h, fun slot s h => s.takeHook_known slot h, fun slot s hr hw h => ⟨fun hlen => ?_, fun hlen => ?_⟩,
    fun slot r s t hr hw hf hfree hseat ht => ?_, fun s h => s.refill_stays h, fun w pre post r s hl hf hpre hseat => ?_, fun slot s => rfl,
    fun x before s hb hs hk => ?_, fun slot why s hr => ⟨fun hw => ?_, ?_, fun hw => ?_⟩,
    fun slot r x why s hr hx hwhy => ⟨fun hst hre => ?_, fun hst hw lane hl u hu => ⟨fun ht => ?_, fun ht => ?_⟩, fun hst hw hz => ?_⟩⟩
  · rw [s.takeHook_new slot hr hw, s.offHook_waits slot h, if_pos hlen]
    refine ⟨?_, fun hne => ?_⟩
    · split
      · rw [State.notify_kept]; rfl
      · rfl
    · exact if_neg fun he => hne (List.isEmpty_iff.mp he)
  · rw [s.takeHook_new slot hr hw, s.offHook_waits slot h, if_neg (by omega)]
    rfl
  · rw [s.takeHook_new slot hr hw, s.offHook_seizes slot r hf hseat] at ht
    obtain ⟨hrec, hother, hstations, hkept⟩ := s.seize_spec r slot hfree
    have hfresh := s.freshCounter_seize r slot hfree
    generalize s.seize r slot = u at ht hrec hother hstations hkept hfresh
    obtain ⟨hpoll, hwait⟩ := u.testSeized_kept
    have hlanes : u.lanes = s.lanes := by rw [hkept]
    have hring : u.prot.ring = s.prot.ring := by rw [hkept]
    have hlaneFor : u.laneFor .call = s.laneFor .call := by unfold State.laneFor; rw [hlanes]
    have hvoice : u.freeVoiceLane = s.freeVoiceLane := by unfold State.freeVoiceLane; rw [hlanes]
    have hpath : u.pathAvailable = s.pathAvailable := by unfold State.pathAvailable; rw [hlaneFor, hvoice, hring]
    refine ⟨by rw [ht, hpoll, hstations], by rw [ht, hwait, hkept], fun hp => ?_, fun v lane hz hi hv hl => ?_⟩
    · rw [ht, u.testSeized_pathless (hpath.trans hp)]
      exact ⟨hrec, hlanes, by rw [hkept], by rw [hkept]⟩
    · have hcalling : t = u.enterCalling r v := by
        rw [ht, u.testSeized_one r (by rw [hrec]) fun q hq => by rw [hother q hq]; exact hz q]
        unfold State.tryCalling State.pathAvailable
        rw [hring, hlaneFor, hvoice, hl, hv, if_pos (by rw [bne_iff_ne.mpr hi]; rfl)]
      obtain ⟨trec, tlanes, tcounter, tring⟩ := u.enterCalling_spec r slot v lane (by rw [hrec]) (hlaneFor.trans hl)
      rw [← hcalling, hfresh] at trec tring
      rw [← hcalling] at tlanes
      rw [← hcalling, hfresh] at tcounter
      have hnode : u.nodeByte = s.nodeByte := by rw [hkept]; rfl
      have hnow : u.now = s.now := by rw [hkept]
      have heq : u.ring = s.ring := by rw [hkept]
      have htakes : u.takes .eq = s.takes .eq := by rw [hkept]; rfl
      have hdone (b : Block) : u.completed b = s.completed b := by rw [hkept]; rfl
      have hdrop : u.poll.stations[slot].drop = s.poll.stations[slot].drop := by
        rw [hstations]; exact updAt_get_eq s.poll.stations slot slot _ Station.drop fun _ => rfl
      have haddress : u.poll.stations[slot].address = s.poll.stations[slot].address := by
        rw [hstations]; exact updAt_get_eq s.poll.stations slot slot _ Station.address fun _ => rfl
      have hlocation : u.poll.stations[slot].location = s.poll.stations[slot].location := by
        rw [hstations]; exact updAt_get_eq s.poll.stations slot slot _ Station.location fun _ => rfl
      rw [hrec, hnode, hnow] at trec
      rw [htakes, heq, hdone, hlanes, hnode, hdrop, haddress, hlocation] at tring
      exact ⟨trec, tlanes.trans (by rw [hlanes]), tcounter, tring⟩
  · obtain ⟨hst, hph, hsz, left, hl, hsub⟩ := s.refillWalk_fills w pre post r hl hf hpre hseat
    exact ⟨hst, hph, hsz, left, hl, hsub.trans List.filter_sublist, fun y hy =>
      bne_iff_ne.mp (List.mem_filter.mp (hsub.subset hy)).2⟩
  · unfold State.reportOffline
    dsimp only
    rw [if_pos ⟨hb, hs⟩, hk]
  · rw [s.phoneGone_none slot why hr, if_neg (by rw [hw]; decide)]
  · rw [s.phoneGone_none slot why hr]
    split
    · exact (s.leaveWaitList_calls slot).1
    · rename_i hw
      rw [s.filter_unlisted slot (Bool.eq_false_of_not_eq_true hw)]
  · rw [s.phoneGone_none slot why hr]
    split
    · exact s.leaveWaitList_others slot hw
    · rename_i hw
      rw [s.filter_unlisted slot (Bool.eq_false_of_not_eq_true hw)]
  · rw [s.phoneGone_record slot r why hr]
    unfold State.endCall
    rw [hx, hst]
    exact if_neg hre
  · rw [s.phoneGone_sends slot r why hr (by rw [hx]; exact hst) hw, hx, hu]
    refine ((s.hungUp r slot why).sendCall_taken lane subClear 1 _ hl ht).trans ?_
    rcases hwhy with rfl | rfl <;> rfl
  · rw [s.phoneGone_sends slot r why hr (by rw [hx]; exact hst) hw, hx, hu]
    refine ((s.hungUp r slot why).sendCall_lost subClear 1 _ ht).trans ?_
    rcases hwhy with rfl | rfl <;> rfl
  · have hfree : s.phoneGone slot why = s.clearRecord r := by
      rw [s.phoneGone_record slot r why hr, ← s.freeCall_alone r hw hz]
      unfold State.endCall
      rw [hx]
      rcases hst with h | ⟨h, hre⟩
      · rw [h]
      · rw [h]
        exact if_pos hre
    have hphone := (s.recordOf_spec slot r hr).2
    rw [hfree]
    rcases hst with h | ⟨h, _⟩
    · obtain ⟨hcalls, hlane, hnone, hstations, hkept⟩ := s.clearRecord_seated r slot (by rw [hx, h]; rfl) hphone
      rw [hx] at hlane hnone
      exact ⟨_, rfl, hcalls, hlane, hnone, fun _ => hstations, fun hc => (nomatch h.symm.trans hc), hkept⟩
    · obtain ⟨hcalls, hlane, hnone, hkept⟩ := s.clearRecord_unseated r (by rw [hx, h]; rfl)
      rw [hx] at hlane hnone
      generalize s.clearRecord r = t at hcalls hlane hnone hkept
      refine ⟨t, rfl, hcalls, hlane, hnone, fun hc => (nomatch h.symm.trans hc), fun _ => by rw [hkept], ?_⟩
      rw [hkept]

end Sys2Proof.Machine
end

section
/-! PROOFS. The payloads of a poll (3.6). -/

namespace Sys2Proof.Machine

/-! ### The standing of a phone (R60, R61) -/

theorem State.recordOf_none (s : State) (slot : Fin 32) :
    s.recordOf slot = none ↔ ∀ r : Fin 16, s.calls.records[r].state = .free ∨ s.calls.records[r].phone ≠ some slot := by
  unfold State.recordOf
  rw [List.find?_eq_none]
  refine ⟨fun h r => ?_, fun h r _ => ?_⟩
  · have := h r (List.mem_finRange r)
    rw [Bool.and_eq_true, bne_iff_ne, beq_iff_eq, not_and_or, not_not] at this
    exact this
  · rw [Bool.and_eq_true, bne_iff_ne, beq_iff_eq, not_and_or, not_not]
    exact h r

theorem State.onWaitList_iff (s : State) (slot : Fin 32) : s.onWaitList slot = true ↔ ∃ w ∈ s.calls.waitList, w.slot = slot := by
  unfold State.onWaitList
  rw [List.any_eq_true]
  exact exists_congr fun w => and_congr_right fun _ => beq_iff_eq

theorem State.standing_none (s : State) (slot : Fin 32) (h : s.recordOf slot = none) :
    (s.toneOf slot).code = 2 ∧ s.expectsOffHook slot = s.onWaitList slot := by
  unfold State.toneOf State.expectsOffHook
  rw [h]
  exact ⟨rfl, rfl⟩

/-- What a phone hears from the record that holds it. -/
def CallState.tone : CallState → Byte
  | .free | .queued | .isolated => 2
  | .seized | .calling => 1
  | .connected => 0
  | .clearing => 3

theorem State.standing_some (s : State) (slot : Fin 32) (r : Fin 16) (x : CallRecord) (h : s.recordOf slot = some r)
    (hx : s.calls.records[r] = x) : (s.toneOf slot).code = x.state.tone ∧ s.expectsOffHook slot = !x.clearingLocal := by
  unfold State.toneOf State.expectsOffHook
  rw [h]
  dsimp only
  rw [hx]
  cases x.state <;> exact ⟨rfl, rfl⟩

theorem CallRecord.clearingLocal_iff (x : CallRecord) :
    x.clearingLocal = true ↔ x.state = .clearing ∧ (x.reason = some .onHook ∨ x.reason = some .lineLost) := by
  unfold CallRecord.clearingLocal
  rw [Bool.and_eq_true, Bool.or_eq_true, beq_iff_eq, beq_iff_eq, beq_iff_eq]

theorem State.voicePayload_body (s : State) (slot : Fin 32) : ∃ l : List Byte, l.length = 32 ∧
    (s.voicePayload slot).1 = [(s.toneOf slot).code, flagByte (s.expectsOffHook slot)] ++ l := by
  unfold State.voicePayload
  split
  · exact ⟨_, sized_length 32 _, rfl⟩
  · exact ⟨_, sized_length 32 _, rfl⟩

/-! ### The answers a TOLL poll carries (R94) -/

theorem readyAnswers_mem (l : List AnswerEntry) (h : l.length ≤ 4) (n : BitVec 16) (v : Verdict) :
    (n, v) ∈ readyAnswers l ↔ { number := n, state := .ready v } ∈ l := by
  unfold readyAnswers
  rw [List.take_of_length_le ((List.length_filterMap_le _ _).trans h), List.mem_filterMap]
  constructor
  · rintro ⟨⟨m, st⟩, he, hs⟩
    cases st with
    | ready w => cases hs; exact he
    | processing => nomatch hs
    | carried w => nomatch hs
  · exact fun h => ⟨_, h, rfl⟩

/-! ### The payload of a station poll -/

theorem State.stationPayload_phone (s : State) (slot : Fin 32) (h : s.poll.stations[slot].kind = .phone) :
    s.stationPayload slot = (s.phonePollBody slot silentFrame, s) := by
  unfold State.stationPayload
  dsimp only
  rw [h]

theorem State.stationPayload_weather (s : State) (slot : Fin 32) (h : s.poll.stations[slot].kind = .weather) :
    s.stationPayload slot = ([], s) := by
  unfold State.stationPayload
  dsimp only
  rw [h]

theorem State.stationPayload_toll (s : State) (slot : Fin 32) (h : s.poll.stations[slot].kind = .toll) :
    s.stationPayload slot = (tollPollBody (readyAnswers s.jrnl.answers[slot]), s.carryAnswers slot) := by
  unfold State.stationPayload
  dsimp only
  rw [h]

theorem State.stationPayload_sign (s : State) (slot : Fin 32) (k : Fin 12) (h : s.poll.stations[slot].kind = .sign)
    (hk : signOf? s.poll.stations[slot].link = some k) : s.stationPayload slot = s.signPayload k := by
  unfold State.stationPayload
  dsimp only
  rw [h]
  dsimp only
  rw [hk]

/-- The payload of a sign by the chunk supplied for it. -/
theorem State.signPayload_chunk (s : State) (k : Fin 12) (page : Option (Fin 8)) (offset : Nat) (l : List Byte)
    (h : s.chunkOf k = ({ page := page, offset := offset }, l)) : s.signPayload k =
      (byteOr (page.map (·.val)) ++ [byte offset, byte (sentIntensity s.sup.state (s.computedIntensity k))] ++ l,
        s.modSignRec k fun r => { r with chunk := some { page := page, offset := offset }, lastIntensity := s.computedIntensity k }) := by
  unfold State.signPayload
  dsimp only
  rw [h]

theorem State.modSignRec_same (s : State) (k : Fin 12) {f g : Sign → Sign} (h : f s.sign.signs[k] = g s.sign.signs[k]) :
    s.modSignRec k f = s.modSignRec k g := congrArg (fun v => { s with sign := { s.sign with signs := v } }) (updAt_congr s.sign.signs k h)

/-- R158: the computed intensity by the sign's mode. -/
theorem State.computedIntensity_ambient (s : State) (k : Fin 12) (slot : Fin 8) (low slope : Nat)
    (h : s.sign.signs[k].mode = .ambient slot low slope) :
    (∀ light : Int, s.slots[slot].derived.light = some light →
      s.computedIntensity k = max low (min 100 (low + light.toNat * slope / 4096))) ∧
    (s.slots[slot].derived.light = none → s.computedIntensity k = max low (min 100 s.sign.signs[k].lastIntensity)) := by
  unfold State.computedIntensity
  rw [h]
  dsimp only
  refine ⟨fun light hl => ?_, fun hl => ?_⟩
  · rw [hl]
  · rw [hl]

/-- Settles O24: each payload by the station's kind, each standing by the record that holds the phone. -/
theorem pollPayloadFollowsKind : Obligations.PollPayloadFollowsKind := by
  refine ⟨fun i s => ⟨fun h => s.stationPayload_phone i h, fun h => s.stationPayload_weather i h, fun h => ⟨List.length_take_le _ _,
      fun hl n v => readyAnswers_mem _ hl n v, ?_⟩, fun k p h hk hp => ?_, fun k h hk hp => ?_⟩,
    fun k s => ⟨fun level h => ?_, fun slot low slope h => s.computedIntensity_ambient k slot low slope h⟩,
    fun i s => ⟨s.recordOf_none i, fun h => ⟨(s.standing_none i h).1, ?_⟩, fun r x h hx => ?_, s.voicePayload_body i⟩⟩
  · rw [s.stationPayload_toll i h]
    refine congrArg (fun f => (_, { s with jrnl := { s.jrnl with answers := updAt s.jrnl.answers i (List.map f) } })) (funext fun e => ?_)
    cases e.state <;> rfl
  · rw [s.stationPayload_sign i k h hk, s.signPayload_chunk k (some p) s.sign.signs[k].cursor
      (Memory.readList pageBlank s.sign.store (s.sign.signs[k].pages[p].address s.sign.signs[k].cursor) 32) (by
        unfold State.chunkOf; dsimp only; rw [hp])]
    exact congrArg (Prod.mk _) (s.modSignRec_same k rfl)
  · rw [s.stationPayload_sign i k h hk, s.signPayload_chunk k none 0 (List.replicate 32 0) (by
      unfold State.chunkOf; dsimp only; rw [hp])]
    rfl
  · unfold State.computedIntensity
    rw [h]
  · rw [(s.standing_none i h).2]
    exact s.onWaitList_iff i
  · obtain ⟨hst, hph⟩ := s.recordOf_spec i r h
    obtain ⟨htone, hhook⟩ := s.standing_some i r x h hx
    rw [hx] at hst hph
    rw [htone, hhook, Bool.not_eq_true', Bool.not_eq_false', ← Bool.not_eq_true, x.clearingLocal_iff]
    refine ⟨hst, hph, ?_, ?_, ?_, ?_, ?_, fun hc hre => ⟨hc, hre⟩⟩
    · rintro (h | h) <;> rw [h] <;> rfl
    · rintro (h | h) <;> rw [h] <;> rfl
    · intro h; rw [h]; rfl
    · intro h; rw [h]; rfl
    · rintro (hne | hre) ⟨hc, hloc⟩
      · exact hne hc
      · rw [hre] at hloc
        rcases hloc with h | h <;> nomatch h

end Sys2Proof.Machine
end

section
/-! PROOFS. The choice of a drop (3.4): which exchange is found first, and how it begins. -/

namespace Sys2Proof.Machine

/-! ### The earliest of the demands (R49) -/

theorem earliest_none (l : List (Fin 32 × Nat)) : earliest l = none ↔ l = [] := by
  cases l with
  | nil => exact ⟨fun _ => rfl, fun _ => rfl⟩
  | cons x l =>
    refine ⟨fun h => ?_, fun h => (nomatch h)⟩
    unfold earliest at h
    split at h
    · nomatch h
    · split at h <;> nomatch h

theorem earliest_spec (l : List (Fin 32 × Nat)) : ∀ x : Fin 32 × Nat, earliest l = some x → ∃ pre post : List (Fin 32 × Nat),
    l = pre ++ x :: post ∧ (∀ y ∈ pre, x.2 < y.2) ∧ ∀ y ∈ post, x.2 ≤ y.2 := by
  induction l with
  | nil => exact fun x h => (nomatch h)
  | cons z l ih =>
    intro x h
    unfold earliest at h
    cases he : earliest l with
    | none =>
      rw [he] at h
      cases h
      rw [(earliest_none l).mp he]
      exact ⟨[], [], rfl, fun _ h => absurd h List.not_mem_nil, fun _ h => absurd h List.not_mem_nil⟩
    | some y =>
      rw [he] at h
      obtain ⟨pre, post, hl, hpre, hpost⟩ := ih y he
      dsimp only at h
      by_cases hle : z.2 ≤ y.2
      · rw [if_pos hle] at h
        cases h
        refine ⟨[], l, rfl, fun _ h => absurd h List.not_mem_nil, fun w hw => ?_⟩
        rw [hl] at hw
        rcases List.mem_append.mp hw with hw | hw
        · exact hle.trans (Nat.le_of_lt (hpre w hw))
        · rcases List.mem_cons.mp hw with rfl | hw
          · exact hle
          · exact hle.trans (hpost w hw)
      · rw [if_neg hle] at h
        cases h
        refine ⟨z :: pre, post, by rw [hl]; rfl, fun w hw => ?_, hpost⟩
        rcases List.mem_cons.mp hw with rfl | hw
        · exact Nat.lt_of_not_le hle
        · exact hpre w hw

/-! ### The demands of a drop -/

theorem State.duePolls_mem (s : State) (d : Fin 4) (i : Fin 32) (t : Nat) : (i, t) ∈ s.duePolls d ↔
    s.poll.stations[i].due = some t ∧ t ≤ s.now ∧ s.poll.stations[i].inUse = true ∧ s.poll.stations[i].drop = d ∧
      s.skips s.poll.stations[i] = false := by
  unfold State.duePolls
  rw [List.mem_filterMap]
  dsimp only
  constructor
  · rintro ⟨j, _, hj⟩
    split at hj
    · rename_i u hu
      split at hj
      · rename_i hc
        cases hj
        exact ⟨hu, hc.2.2.1, hc.1, hc.2.1, hc.2.2.2⟩
      · nomatch hj
    · nomatch hj
  · rintro ⟨hd, ht, hu, hdrop, hskip⟩
    refine ⟨i, List.mem_finRange i, ?_⟩
    rw [hd]
    exact if_pos ⟨hu, hdrop, ht, hskip⟩

theorem State.dueVoices_mem (s : State) (d : Fin 4) (i : Fin 32) (t : Nat) : (i, t) ∈ s.dueVoices d ↔
    s.poll.stations[i].voiceDue = some t ∧ t ≤ s.now ∧ s.poll.stations[i].drop = d := by
  unfold State.dueVoices
  rw [List.mem_filterMap]
  dsimp only
  constructor
  · rintro ⟨j, _, hj⟩
    split at hj
    · rename_i u hu
      split at hj
      · rename_i hc
        cases hj
        exact ⟨hu, hc.2, hc.1⟩
      · nomatch hj
    · nomatch hj
  · rintro ⟨hd, ht, hdrop⟩
    refine ⟨i, List.mem_finRange i, ?_⟩
    rw [hd]
    exact if_pos ⟨hdrop, ht⟩

/-- What a filter keeps with its own key stands in the order of the keys. -/
theorem filterMap_keys_sublist {α β : Type} (f : α → Option (α × β)) (h : ∀ i x, f i = some x → x.1 = i) (l : List α) :
    ((l.filterMap f).map (·.1)).Sublist l := by
  induction l with
  | nil => exact .refl _
  | cons i l ih =>
    cases hf : f i with
    | none => rw [List.filterMap_cons_none hf]; exact ih.cons i
    | some x =>
      rw [List.filterMap_cons_some hf, List.map_cons, h i x hf]
      exact ih.cons_cons i

theorem State.duePolls_keys (s : State) (d : Fin 4) : ((s.duePolls d).map (·.1)).Pairwise (· < ·) := by
  refine (List.pairwise_lt_finRange 32).sublist (filterMap_keys_sublist _ (fun i x hx => ?_) _)
  dsimp only at hx
  split at hx
  · split at hx
    · cases hx; rfl
    · nomatch hx
  · nomatch hx

theorem State.dueVoices_keys (s : State) (d : Fin 4) : ((s.dueVoices d).map (·.1)).Pairwise (· < ·) := by
  refine (List.pairwise_lt_finRange 32).sublist (filterMap_keys_sublist _ (fun i x hx => ?_) _)
  dsimp only at hx
  split at hx
  · split at hx
    · cases hx; rfl
    · nomatch hx
  · nomatch hx

/-! ### How an exchange begins (R49) -/

theorem State.playStep_kept (s : State) (r : Fin 16) : (s.playStep r).2 = { s with calls := (s.playStep r).2.calls } := by
  unfold State.playStep
  dsimp only
  split
  · split
    · rfl
    · split <;> rfl
  · rfl

theorem State.voicePayload_kept (s : State) (slot : Fin 32) : (s.voicePayload slot).2 = { s with calls := (s.voicePayload slot).2.calls } := by
  unfold State.voicePayload
  split
  · exact s.playStep_kept _
  · rfl

theorem State.stationPayload_kept (s : State) (slot : Fin 32) : (s.stationPayload slot).2 =
    { s with jrnl := (s.stationPayload slot).2.jrnl, sign := (s.stationPayload slot).2.sign } := by
  unfold State.stationPayload
  dsimp only
  split
  · rfl
  · rfl
  · split <;> rfl
  · rfl

/-- A drop whose line begins an exchange with a station. -/
def Drop.begins (l : Drop) (x : Snapshot) (voice : Bool) (begun : Nat) (body : List Byte) (f : DropCounters → DropCounters) : Drop :=
  { l with
    line := .sending
    exch := some { snap := some x, voice := voice, begun := begun, frame := frameBytes false x.address typePoll body }
    ctr := f l.ctr }

theorem State.beginVoice_eq (s : State) (d : Fin 4) (i : Fin 32) : s.beginVoice d i = { s with
    poll := { s.poll with drops := updAt s.poll.drops d (·.begins (s.snapshotOf i) true s.now (s.voicePayload i).1
      fun c => { c with voices := bump c.voices }) }
    calls := (s.voicePayload i).2.calls } := by
  have hkept := s.voicePayload_kept i
  unfold State.beginVoice
  dsimp only
  generalize (s.voicePayload i).2 = t at hkept
  rw [hkept]
  rfl

theorem State.beginPoll_eq (s : State) (d : Fin 4) (i : Fin 32) : s.beginPoll d i = { s with
    poll := { s.poll with drops := updAt s.poll.drops d (·.begins (s.snapshotOf i) false s.now (s.stationPayload i).1
      fun c => { c with polls := bump c.polls }) }
    jrnl := (s.stationPayload i).2.jrnl, sign := (s.stationPayload i).2.sign } := by
  have hkept := s.stationPayload_kept i
  unfold State.beginPoll
  dsimp only
  generalize (s.stationPayload i).2 = t at hkept
  rw [hkept]
  rfl

theorem State.chooseFrom_idle (s : State) (d : Fin 4) (hr : s.repeater = false)
    (hl : s.poll.drops[d].line = .idle) : ¬ (s.repeater || s.poll.drops[d].line != .idle) = true := by
  rw [hr, hl]; decide

theorem State.chooseFrom_voice (s : State) (d : Fin 4) (voices polls : List (Fin 32 × Nat)) (x : Fin 32 × Nat) (hr : s.repeater = false)
    (hl : s.poll.drops[d].line = .idle) (hb : s.poll.drops[d].broadcast = false) (h : earliest voices = some x) :
    s.chooseFrom d voices polls = s.beginVoice d x.1 := by
  unfold State.chooseFrom
  rw [if_neg (s.chooseFrom_idle d hr hl), hb, if_neg (by decide), h]

theorem State.chooseFrom_poll (s : State) (d : Fin 4) (voices polls : List (Fin 32 × Nat)) (x : Fin 32 × Nat) (hr : s.repeater = false)
    (hl : s.poll.drops[d].line = .idle) (hb : s.poll.drops[d].broadcast = false) (hv : voices = []) (h : earliest polls = some x) :
    s.chooseFrom d voices polls = s.beginPoll d x.1 := by
  unfold State.chooseFrom
  rw [if_neg (s.chooseFrom_idle d hr hl), hb, if_neg (by decide), hv, (earliest_none []).mpr rfl, h]

theorem State.chooseFrom_broadcast (s : State) (d : Fin 4) (voices polls : List (Fin 32 × Nat)) (hr : s.repeater = false)
    (hl : s.poll.drops[d].line = .idle) (hb : s.poll.drops[d].broadcast = true) :
    s.chooseFrom d voices polls = s.beginBroadcast d := by
  unfold State.chooseFrom
  rw [if_neg (s.chooseFrom_idle d hr hl), hb, if_pos rfl]

theorem State.stationPayload_unsigned (s : State) (slot : Fin 32) (h : s.poll.stations[slot].kind = .sign)
    (hk : signOf? s.poll.stations[slot].link = none) : s.stationPayload slot = (sized 35 [255], s) := by
  unfold State.stationPayload
  dsimp only
  rw [h]
  dsimp only
  rw [hk]

/-! ### A moment that has come -/

/-- A due moment come leaves every demand as it is. -/
theorem State.dueComes_station (s : State) (i j : Fin 32) (due : Option Nat) :
    (s.dueComes i due).poll.stations[j] = { s.poll.stations[j] with come := (s.dueComes i due).poll.stations[j].come } := by
  have h : (s.dueComes i due).poll.stations[j] = if i = j then { s.poll.stations[j] with come := due } else s.poll.stations[j] :=
    s.modStation_get i j _
  rw [h]
  split <;> rfl

theorem State.dueComes_voices (s : State) (i : Fin 32) (due : Option Nat) (d : Fin 4) : (s.dueComes i due).dueVoices d = s.dueVoices d := by
  unfold State.dueVoices
  refine congrArg (fun f => (List.finRange 32).filterMap f) (funext fun j => ?_)
  dsimp only
  rw [s.dueComes_station i j due]
  rfl

theorem State.dueComes_polls (s : State) (i : Fin 32) (due : Option Nat) (d : Fin 4) : (s.dueComes i due).duePolls d = s.duePolls d := by
  unfold State.duePolls
  refine congrArg (fun f => (List.finRange 32).filterMap f) (funext fun j => ?_)
  dsimp only
  rw [s.dueComes_station i j due]
  rfl

theorem State.dueComes_snapshot (s : State) (i j : Fin 32) (due : Option Nat) : (s.dueComes i due).snapshotOf j = s.snapshotOf j := by
  unfold State.snapshotOf
  rw [s.dueComes_station i j due]

theorem State.playStep_samples (s t : State) (r : Fin 16) (h : t.calls = s.calls) : (t.playStep r).1 = (s.playStep r).1 := by
  unfold State.playStep
  rw [h]
  dsimp only
  split
  · split
    · rfl
    · split <;> rfl
  · rfl

theorem State.dueComes_voicePayload (s : State) (i j : Fin 32) (due : Option Nat) :
    ((s.dueComes i due).voicePayload j).1 = (s.voicePayload j).1 := by
  have hplay (r : Fin 16) : ((s.dueComes i due).playStep r).1 = (s.playStep r).1 := s.playStep_samples _ r rfl
  have hseat : (s.dueComes i due).seatedRecordOf j = s.seatedRecordOf j := rfl
  unfold State.voicePayload
  rw [hseat]
  split
  · dsimp only
    rw [hplay]; rfl
  · rfl

theorem State.dueComes_stationPayload (s : State) (i j : Fin 32) (due : Option Nat) :
    ((s.dueComes i due).stationPayload j).1 = (s.stationPayload j).1 := by
  have hcome := s.dueComes_station i j due
  have hkind : (s.dueComes i due).poll.stations[j].kind = s.poll.stations[j].kind := by rw [hcome]
  have hlink : (s.dueComes i due).poll.stations[j].link = s.poll.stations[j].link := by rw [hcome]
  cases hk : s.poll.stations[j].kind with
  | phone => rw [s.stationPayload_phone j hk, State.stationPayload_phone _ j (hkind.trans hk)]; rfl
  | weather => rw [s.stationPayload_weather j hk, State.stationPayload_weather _ j (hkind.trans hk)]
  | toll => rw [s.stationPayload_toll j hk, State.stationPayload_toll _ j (hkind.trans hk)]; rfl
  | sign =>
    cases hl : signOf? s.poll.stations[j].link with
    | some k =>
      rw [s.stationPayload_sign j k hk hl, State.stationPayload_sign _ j k (hkind.trans hk) (by rw [hlink]; exact hl)]; rfl
    | none => rw [s.stationPayload_unsigned j hk hl, State.stationPayload_unsigned _ j (hkind.trans hk) (by rw [hlink]; exact hl)]

theorem exec_voiceDue (s : State) (i : Fin 32) (dl : Nat) (hr : s.repeater = false) (h : s.poll.stations[i].voiceDue = some dl) :
    exec (.voiceExchangeDue i) s = .next (((s.reach dl).dueComes i (some dl)).dropChoose s.poll.stations[i].drop) := by
  refine congrArg Host.Outcome.next ((s.unlessRepeater_run _ hr).trans ?_)
  rw [State.onTimer_running s h]
  exact congrArg (fun due => ((s.reach dl).dueComes i due).dropChoose s.poll.stations[i].drop) h

theorem exec_pollDue (s : State) (i : Fin 32) (dl : Nat) (hr : s.repeater = false) (h : s.poll.stations[i].due = some dl) :
    exec (.stationPollDue i) s = .next (((s.reach dl).dueComes i (some dl)).dropChoose s.poll.stations[i].drop) := by
  refine congrArg Host.Outcome.next ((s.unlessRepeater_run _ hr).trans ?_)
  rw [State.onTimer_running s h]
  exact congrArg (fun due => ((s.reach dl).dueComes i due).dropChoose s.poll.stations[i].drop) h

theorem State.isCome_eq (s : State) : s.isCome = fun x => decide (x.2 < s.now ∨ s.poll.stations[x.1].come = some x.2) := by
  funext x
  unfold State.isCome
  by_cases h : s.poll.stations[x.1].come = some x.2
  · rw [decide_eq_true (Or.inr h), beq_iff_eq.mpr h, Bool.or_true]
  · rw [beq_eq_false_iff_ne.mpr h, Bool.or_false]
    exact decide_eq_decide.mpr (or_iff_left h).symm

/-- A POLL of a PHONE or a WEATHER station takes nothing from its engine. -/
theorem State.stationPayload_engineless (s : State) (i : Fin 32)
    (h : s.poll.stations[i].kind = .phone ∨ s.poll.stations[i].kind = .weather) : (s.stationPayload i).2 = s := by
  rcases h with h | h
  · rw [s.stationPayload_phone i h]
  · rw [s.stationPayload_weather i h]

theorem State.snapshotOf_eq (s : State) (i : Fin 32) (d : Fin 4) (e : Station) (he : s.poll.stations[i] = e) (hd : e.drop = d) :
    s.snapshotOf i = { slot := i, drop := d, address := e.address, kind := e.kind, link := e.link } := by
  unfold State.snapshotOf
  rw [he, ← hd]

theorem earliest_mem (l : List (Fin 32 × Nat)) (x : Fin 32 × Nat) (h : earliest l = some x) : x ∈ l := by
  obtain ⟨pre, post, hl, _, _⟩ := earliest_spec l x h
  rw [hl]
  exact List.mem_append_right pre List.mem_cons_self

/-- Settles O23: the demands found first, and how the exchange found begins. -/
theorem dueEventsBeginEarliestExchange : Obligations.DueEventsBeginEarliestExchange := by
  refine ⟨fun i d e dl s hr he hd hdue hl hb hv => ?_, fun i d e dl s hr he hd hdue hl hb hv hp => ?_, earliest_none,
    earliest_spec, fun d i t s => s.duePolls_mem d i t, fun d i t s => s.dueVoices_mem d i t,
    fun d s => ⟨s.duePolls_keys d, s.dueVoices_keys d⟩, fun d L P s u hr hl hL hP hu => ?_, fun i dl c s hr hl hc => ?_⟩
  · subst he
    have hchoice : ((s.reach dl).dueComes i (some dl)).dropChoose s.poll.stations[i].drop = ((s.reach dl).dueComes i (some dl)).beginVoice d i := by
      rw [hd]
      exact State.chooseFrom_voice _ d _ _ (i, dl) hr hl hb (by rw [State.dueComes_voices]; exact hv)
    have hbody := (s.reach dl).dueComes_voicePayload i i (some dl)
    have hsnap := (s.reach dl).dueComes_snapshot i i (some dl)
    have hx := (s.reach dl).snapshotOf_eq i d s.poll.stations[i] rfl hd
    refine ⟨_, exec_voiceDue s i dl hr hdue, ?_⟩
    rw [hchoice, State.beginVoice_eq, hbody, hsnap, hx]
    exact ⟨rfl, rfl, updAt_self _ d _, fun k hk => updAt_get_other _ d k _ hk.symm, rfl⟩
  · subst he
    have hchoice : ((s.reach dl).dueComes i (some dl)).dropChoose s.poll.stations[i].drop = ((s.reach dl).dueComes i (some dl)).beginPoll d i := by
      rw [hd]
      exact State.chooseFrom_poll _ d _ _ (i, dl) hr hl hb (by rw [State.dueComes_voices]; exact hv)
        (by rw [State.dueComes_polls]; exact hp)
    have hbody := (s.reach dl).dueComes_stationPayload i i (some dl)
    have hsnap := (s.reach dl).dueComes_snapshot i i (some dl)
    have hx := (s.reach dl).snapshotOf_eq i d s.poll.stations[i] rfl hd
    have hkind : ((s.reach dl).dueComes i (some dl)).poll.stations[i].kind = s.poll.stations[i].kind := by
      rw [(s.reach dl).dueComes_station i i]; rfl
    refine ⟨_, exec_pollDue s i dl hr hdue, ?_⟩
    rw [hchoice, State.beginPoll_eq, hbody, hsnap, hx]
    refine ⟨rfl, rfl, updAt_self _ d _, fun k hk => updAt_get_other _ d k _ hk.symm, rfl, fun h => ?_⟩
    have hsame := State.stationPayload_engineless ((s.reach dl).dueComes i (some dl)) i (by rw [hkind]; exact h)
    dsimp only
    rw [hsame]
    exact ⟨rfl, rfl⟩
  · rw [← s.isCome_eq] at hL hP
    unfold State.endChoose at hu
    rw [← hL, ← hP] at hu
    refine ⟨fun hb => ?_, fun i dl e hb he hx => ?_, fun i dl e hb he hLn hx => ?_, fun hb hLn hPn => ?_⟩
    · rw [hu, s.chooseFrom_broadcast d L P hr hl hb]
      exact (s.modDrop_modDrop d _ _).trans rfl
    · rw [hu, s.chooseFrom_voice d L P (i, dl) hr hl hb hx, s.beginVoice_eq]
      rw [hL] at hx
      have hdrop := ((s.dueVoices_mem d i dl).mp (List.mem_filter.mp (earliest_mem _ _ hx)).1).2.2
      dsimp only
      rw [s.snapshotOf_eq i d e he (by rw [← he]; exact hdrop)]
      exact ⟨rfl, rfl⟩
    · rw [hu, s.chooseFrom_poll d L P (i, dl) hr hl hb hLn hx, s.beginPoll_eq]
      rw [hP] at hx
      have hdrop := ((s.duePolls_mem d i dl).mp (List.mem_filter.mp (earliest_mem _ _ hx)).1).2.2.2.1
      dsimp only
      rw [s.snapshotOf_eq i d e he (by rw [← he]; exact hdrop)]
      exact ⟨rfl, rfl⟩
    · rw [hu, s.chooseFrom_nothing d L P hr hb hLn hPn]
  · rcases hc with ⟨rfl, h⟩ | ⟨rfl, h⟩
    · rw [exec_voiceDue s i dl hr h, ((s.reach dl).dueComes i (some dl)).dropChoose_busy _ hl]
      rfl
    · rw [exec_pollDue s i dl hr h, ((s.reach dl).dueComes i (some dl)).dropChoose_busy _ hl]
      rfl

end Sys2Proof.Machine
end

section
/-! PROOFS. How an exchange completes (3.1 to 3.3): the reply judged, and an exchange superseded. -/

namespace Sys2Proof.Machine

theorem State.judgeFrame_good (s : State) (d : Fin 4) (bytes : List Byte) (x : Snapshot) (e : Exchange) (r : Reply)
    (h : s.poll.drops[d].exch = some e) (hx : e.snap = some x) (hr : Reply.ofFrame? x.address bytes = some r) :
    s.judgeFrame d bytes = .good r := by
  obtain ⟨snap, voice, begun, frame⟩ := e
  unfold State.judgeFrame
  rw [h, show snap = some x from hx]
  dsimp only
  rw [hr]

theorem State.judgeFrame_bad (s : State) (d : Fin 4) (bytes : List Byte) (x : Snapshot) (e : Exchange)
    (h : s.poll.drops[d].exch = some e) (hx : e.snap = some x) (hr : Reply.ofFrame? x.address bytes = none) :
    s.judgeFrame d bytes = .bad := by
  obtain ⟨snap, voice, begun, frame⟩ := e
  unfold State.judgeFrame
  rw [h, show snap = some x from hx]
  dsimp only
  rw [hr]

theorem State.frameArrives_receiving (s : State) (d : Fin 4) (o : ExchangeEnd) (h : s.poll.drops[d].line = .receiving) :
    s.frameArrives d o = s.frameEnds d o := by
  unfold State.frameArrives
  rw [h]

theorem exec_replyFrameEnd (s : State) (d : Fin 4) (bytes : List Byte) (hr : s.repeater = false) (hl : s.poll.drops[d].line = .receiving) :
    exec (.replyFrameEnd d bytes) s = .next (s.frameEnds d (s.judgeFrame d bytes)) :=
  congrArg Host.Outcome.next ((s.unlessRepeater_run _ hr).trans (s.frameArrives_receiving d _ hl))

theorem exec_brokenFrame (s : State) (d : Fin 4) (hr : s.repeater = false) (hl : s.poll.drops[d].line = .receiving) :
    exec (.brokenFrame d) s = .next (s.frameEnds d .bad) :=
  congrArg Host.Outcome.next ((s.unlessRepeater_run _ hr).trans (s.frameArrives_receiving d .bad hl))

theorem exec_replyTimer (s : State) (d : Fin 4) (dl : Nat) (hr : s.repeater = false) (h : s.poll.drops[d].replyTimer = some dl) :
    exec (.replyTimerExpiry d) s = .next ((s.reach dl).completeWith d .noReply) :=
  congrArg Host.Outcome.next ((s.unlessRepeater_run _ hr).trans (s.onTimer_running h _))

/-- An exchange with a station completes: it settles, and the drop chooses again. -/
theorem State.completeWith_station (s : State) (d : Fin 4) (o : ExchangeEnd) (x : Snapshot) (voice : Bool) (begun : Nat) (frame : List Byte)
    (h : s.poll.drops[d].exch = some { snap := some x, voice := voice, begun := begun, frame := frame }) :
    s.completeWith d o = ((s.settleEnd x voice begun o).lineIdle d).endChoose d := by
  unfold State.completeWith
  rw [h]

/-- An exchange superseded settles nothing: it is counted, and the drop chooses again. -/
theorem State.completeWith_superseded (s : State) (d : Fin 4) (o : ExchangeEnd) (x : Snapshot) (voice : Bool) (begun : Nat)
    (frame : List Byte) (h : s.poll.drops[d].exch = some { snap := some x, voice := voice, begun := begun, frame := frame })
    (hx : x.drop = d) (hm : s.poll.stations[x.slot].matches x = false) : s.completeWith d o = (s.modDrop d fun l =>
      { l with line := .idle, exch := none, replyTimer := none
               ctr := { l.ctr with superseded := bump l.ctr.superseded } }).endChoose d := by
  have hsettle : s.settleEnd x voice begun o = s.countDrop d fun c => { c with superseded := bump c.superseded } := by
    rw [← hx]
    exact if_neg (by rw [hm]; decide)
  rw [s.completeWith_station d o x voice begun frame h, hsettle]
  exact congrArg (fun t => State.endChoose t d) (s.modDrop_modDrop d _ _)

/-- A frame that ends a superseded exchange: a bad one is counted before the comparison. -/
theorem State.frameEnds_superseded (s : State) (d : Fin 4) (o : ExchangeEnd) (x : Snapshot) (voice : Bool) (begun k : Nat)
    (frame : List Byte) (h : s.poll.drops[d].exch = some { snap := some x, voice := voice, begun := begun, frame := frame })
    (hx : x.drop = d) (hm : s.poll.stations[x.slot].matches x = false)
    (hk : s.countBad d o = s.countDrop d fun c => { c with bad := k }) : s.frameEnds d o = (s.modDrop d fun l =>
      { l with line := .idle, exch := none, replyTimer := none
               ctr := { l.ctr with bad := k, superseded := bump l.ctr.superseded } }).endChoose d := by
  have hexch : (s.countDrop d fun c => { c with bad := k }).poll.drops[d].exch = s.poll.drops[d].exch :=
    updAt_get_eq s.poll.drops d d _ Drop.exch fun _ => rfl
  unfold State.frameEnds
  rw [hk, State.completeWith_superseded _ d o x voice begun frame (hexch.trans h) hx hm]
  exact congrArg (fun t => State.endChoose t d) (s.modDrop_modDrop d _ _)

theorem State.countBad_bad (s : State) (d : Fin 4) :
    s.countBad d .bad = s.countDrop d fun c => { c with bad := bump s.poll.drops[d].ctr.bad } := s.modDrop_congr d rfl

theorem State.countBad_good (s : State) (d : Fin 4) (r : Reply) :
    s.countBad d (.good r) = s.countDrop d fun c => { c with bad := s.poll.drops[d].ctr.bad } := (s.modDrop_same d rfl).symm

/-- Settles O28: each end of a superseded exchange is the line freed and the drop's next choice. -/
theorem supersededOutcomeIsDropped : Obligations.SupersededOutcomeIsDropped := by
  intro d bytes frame voice x begun dl n k c s hr he hx hm hc
  rcases hc with ⟨rfl, hl, rfl, rfl⟩ | ⟨rfl, hl, rfl, rfl⟩ | ⟨rfl, ht, rfl, rfl⟩
  · rw [exec_replyFrameEnd s d bytes hr hl]
    cases hreply : Reply.ofFrame? x.address bytes with
    | none =>
      rw [s.judgeFrame_bad d bytes x _ he rfl hreply, s.frameEnds_superseded d _ x voice begun _ frame he hx hm (s.countBad_bad d)]
      rfl
    | some r =>
      rw [s.judgeFrame_good d bytes x _ r he rfl hreply, s.frameEnds_superseded d _ x voice begun _ frame he hx hm (s.countBad_good d r)]
      rfl
  · rw [exec_brokenFrame s d hr hl, s.frameEnds_superseded d _ x voice begun _ frame he hx hm (s.countBad_bad d)]
    rfl
  · rw [exec_replyTimer s d dl hr ht, (s.reach dl).completeWith_superseded d .noReply x voice begun frame he hx hm]
    exact congrArg (fun t => Host.Outcome.next (State.endChoose t d)) ((s.reach dl).modDrop_congr d rfl)

end Sys2Proof.Machine
end

section
/-! PROOFS. A good reply (3.3, 3.6). -/

namespace Sys2Proof.Machine

/-! ### Which replies fit (R53) -/

theorem flagOf?_isSome (h : Byte) : (flagOf? h).isSome = true ↔ h = 0 ∨ h = 1 := by
  unfold flagOf?
  split_ifs with h0 h1
  · simp [h0]
  · simp [h1]
  · exact ⟨fun h => Bool.noConfusion h, fun h => h.elim (absurd · h0) (absurd · h1)⟩

theorem Reply.fits_iff (r : Reply) (k : StationKind) (voice : Bool) : r.fits k voice = true ↔
    (r = .nil ∧ voice = false ∧ k ≠ .sign) ∨ (∃ h : Byte, r = .hook h ∧ k = .phone ∧ (h = 0 ∨ h = 1)) ∨
    (∃ (h : Byte) (l : List Byte), r = .voice h l ∧ k = .phone ∧ voice = true ∧ (h = 0 ∨ h = 1)) ∨
    (∃ (n : BitVec 16) (l : List Byte), r = .txn n l ∧ k = .toll) ∨ (∃ rd : Reading, r = .reading rd ∧ k = .weather) ∨
    ((r = .chunkOk ∨ r = .chunkAgain) ∧ k = .sign) := by
  cases r <;> simp [Reply.fits, flagOf?_isSome, and_assoc]

/-! ### The entry after a good reply (R43, R47, R48) -/

/-- The entry of a station that has answered an exchange. -/
def Station.replied (e : Station) (voice : Bool) (begun : Nat) (sup : SupplyState) : Station :=
  { e with
    state := .online, miss := 0, good := bump e.good
    voiceDue := if voice = true then e.voiceDue.map (fun _ => begun + 4) else e.voiceDue
    due := if voice = false ∧ e.voiceDue = none then
        some (begun + if e.kind = .weather ∧ sup = .conserve then 4 * e.period else e.period)
      else e.due }

theorem Station.replied_eq (e : Station) (r : Reply) (voice : Bool) (begun : Nat) (sup : SupplyState) :
    (e.outcome (.good r)).nextDue voice begun sup = e.replied voice begun sup := by
  unfold Station.replied Station.nextDue
  cases voice with
  | true => rw [if_pos rfl, if_pos rfl, if_neg (fun h => Bool.noConfusion h.1)]; rfl
  | false =>
    rw [if_neg Bool.false_ne_true, if_neg Bool.false_ne_true]
    by_cases hv : e.voiceDue = none
    · rw [if_pos (show (false = false ∧ e.voiceDue = none) from ⟨rfl, hv⟩)]
      refine (if_neg ?_).trans rfl
      show ¬ e.voiceDue.isSome = true
      rw [hv]; decide
    · have hdue : (if false = false ∧ e.voiceDue = none then
          some (begun + if e.kind = .weather ∧ sup = .conserve then 4 * e.period else e.period) else e.due) = e.due :=
        if_neg fun h => hv h.2
      rw [hdue]
      exact if_pos (Option.isSome_iff_ne_none.mpr hv)

theorem Station.replied_polled (e : Station) (begun : Nat) (sup : SupplyState) (h : e.voiceDue = none) : e.replied false begun sup =
    { e with
      state := .online, miss := 0, good := bump e.good
      due := some (begun + if e.kind = .weather ∧ sup = .conserve then 4 * e.period else e.period) } := by
  unfold Station.replied
  rw [if_neg Bool.false_ne_true, if_pos ⟨rfl, h⟩]

/-- The state after a good reply, before the engines hear of it. -/
def State.replied (s : State) (x : Snapshot) (voice : Bool) (begun : Nat) : State :=
  { s with poll := { s.poll with
    stations := updAt s.poll.stations x.slot (·.replied voice begun s.sup.state)
    drops := updAt s.poll.drops x.drop fun l => { l with ctr := { l.ctr with good := bump l.ctr.good } } } }

/-- The state after a good reply and its notice (R44). -/
def State.heardFrom (s : State) (x : Snapshot) (voice : Bool) (begun : Nat) : State :=
  if s.poll.stations[x.slot].state = .offline then (s.replied x voice begun).notify (.station x.slot x.drop x.address x.kind .online)
  else s.replied x voice begun

theorem State.heardFrom_poll (s : State) (x : Snapshot) (voice : Bool) (begun : Nat) :
    (s.heardFrom x voice begun).poll = (s.replied x voice begun).poll := by
  unfold State.heardFrom
  split
  · rw [State.notify_kept]
  · rfl

theorem Station.matches_spec (e : Station) (x : Snapshot) (h : e.matches x = true) :
    e.inUse = true ∧ e.drop = x.drop ∧ e.address = x.address ∧ e.kind = x.kind := by
  unfold Station.matches at h
  rw [Bool.and_eq_true, Bool.and_eq_true, Bool.and_eq_true, beq_iff_eq, beq_iff_eq, beq_iff_eq] at h
  obtain ⟨⟨⟨hu, hd⟩, ha⟩, hk⟩ := h
  exact ⟨hu, hd, ha, hk⟩

theorem State.replied_station (s : State) (x : Snapshot) (voice : Bool) (begun : Nat) :
    (s.replied x voice begun).poll.stations[x.slot] = s.poll.stations[x.slot].replied voice begun s.sup.state := updAt_self _ _ _

theorem State.noticeStation_replied (s : State) (x : Snapshot) (voice : Bool) (begun : Nat)
    (h : s.poll.stations[x.slot].matches x = true) :
    (s.replied x voice begun).noticeStation x s.poll.stations[x.slot].state = s.heardFrom x voice begun := by
  obtain ⟨_, hd, ha, hk⟩ := Station.matches_spec _ _ h
  unfold State.noticeStation State.heardFrom
  dsimp only
  rw [s.replied_station x voice begun]
  rw [if_neg (fun hc => StationState.noConfusion hc.2)]
  by_cases ho : s.poll.stations[x.slot].state = .offline
  · rw [if_pos ⟨ho, rfl⟩, if_pos ho, ← hd, ← ha, ← hk]
    rfl
  · rw [if_neg (fun hc => ho hc.1), if_neg ho]

theorem State.voiceOutcome_poll (s : State) (slot : Fin 32) (o : VoiceOutcome) : (s.voiceOutcome slot o).poll = s.poll := by
  unfold State.voiceOutcome
  split
  · rfl
  · dsimp only
    split
    · split
      · unfold State.captureBlock
        split
        · rfl
        · split <;> rfl
      · rfl
    · rfl

theorem State.reportVoice_poll (s : State) (x : Snapshot) (voice : Bool) (o : ExchangeEnd) : (s.reportVoice x voice o).poll = s.poll := by
  unfold State.reportVoice
  split
  · exact s.voiceOutcome_poll _ _
  · rfl

/-- A good reply is applied: the entry, the notice, the voice path, the engine's outcome and the dispatch. -/
theorem State.applyEnd_good (s : State) (x : Snapshot) (voice : Bool) (begun : Nat) (r : Reply)
    (h : s.poll.stations[x.slot].matches x = true) : s.applyEnd x voice begun (.good r) =
      (((s.heardFrom x voice begun).reportVoice x voice (.good r)).reportOutcome x (.good r)).dispatch x voice r := by
  have hfirst : (s.modStation x.slot fun e => (e.outcome (.good r)).nextDue voice begun s.sup.state).countDrop x.drop (·.outcome (.good r)) =
      s.replied x voice begun := by
    have hstation : s.modStation x.slot (fun e => (e.outcome (.good r)).nextDue voice begun s.sup.state) =
        s.modStation x.slot (·.replied voice begun s.sup.state) :=
      congrArg (fun v => { s with poll := { s.poll with stations := v } })
        (updAt_congr s.poll.stations x.slot (Station.replied_eq _ r voice begun s.sup.state))
    rw [hstation]
    rfl
  have honline : ((s.heardFrom x voice begun).reportVoice x voice (.good r)).poll.stations[x.slot].state = .online := by
    rw [State.reportVoice_poll, State.heardFrom_poll, State.replied_station]
    rfl
  have hoffline : ((s.heardFrom x voice begun).reportVoice x voice (.good r)).reportOffline x s.poll.stations[x.slot].state =
      (s.heardFrom x voice begun).reportVoice x voice (.good r) :=
    if_neg fun hc => by rw [honline] at hc; exact StationState.noConfusion hc.2
  unfold State.applyEnd
  dsimp only
  rw [hfirst, s.noticeStation_replied x voice begun h, hoffline]

/-- A good reply to an exchange of the station in the entry. -/
theorem exec_goodReply (s : State) (d : Fin 4) (bytes frame : List Byte) (x : Snapshot) (voice : Bool) (begun : Nat) (r : Reply)
    (hr : s.repeater = false) (hl : s.poll.drops[d].line = .receiving)
    (he : s.poll.drops[d].exch = some { snap := some x, voice := voice, begun := begun, frame := frame })
    (hm : s.poll.stations[x.slot].matches x = true) (hreply : Reply.ofFrame? x.address bytes = some r) :
    exec (.replyFrameEnd d bytes) s = .next ((((((s.heardFrom x voice begun).reportVoice x voice (.good r)).reportOutcome x
      (.good r)).dispatch x voice r).lineIdle d).endChoose d) := by
  rw [exec_replyFrameEnd s d bytes hr hl, s.judgeFrame_good d bytes x _ r he rfl hreply]
  have hsettle : s.settleEnd x voice begun (.good r) = s.applyEnd x voice begun (.good r) := if_pos hm
  show Host.Outcome.next (s.completeWith d (.good r)) = _
  rw [s.completeWith_station d _ x voice begun frame he, hsettle, s.applyEnd_good x voice begun r hm]

/-! ### What the report and the dispatch make of a reply -/

theorem State.dispatch_fits (s : State) (x : Snapshot) (voice : Bool) (r : Reply) (h : r.fits x.kind voice = true) :
    s.dispatch x voice r = s.handOver x r := if_pos h

theorem State.dispatch_unfit (s : State) (x : Snapshot) (voice : Bool) (r : Reply) (h : r.fits x.kind voice = false) :
    s.dispatch x voice r = s.countDrop x.drop fun c => { c with mismatch := bump c.mismatch } := if_neg (by rw [h]; decide)

theorem State.reportOutcome_toll (s : State) (x : Snapshot) (o : ExchangeEnd) (h : x.kind = .toll) :
    s.reportOutcome x o = s.answersOutcome x.slot o.isGood := by
  unfold State.reportOutcome
  rw [h]

theorem State.reportOutcome_none (s : State) (x : Snapshot) (o : ExchangeEnd) (h : x.kind = .phone ∨ x.kind = .weather) :
    s.reportOutcome x o = s := by
  unfold State.reportOutcome
  rcases h with h | h <;> rw [h]

theorem State.answersOutcome_missed (s : State) (slot : Fin 32) : s.answersOutcome slot false =
    { s with jrnl := { s.jrnl with answers := updAt s.jrnl.answers slot (List.map fun e =>
      { e with state := match e.state with
                        | .carried v => .ready v
                        | .processing => .processing
                        | .ready v => .ready v }) } } := by
  refine congrArg (fun f => ({ s with jrnl := { s.jrnl with answers := updAt s.jrnl.answers slot (List.map f) } } : State)) (funext fun e => ?_)
  obtain ⟨number, state⟩ := e
  cases state <;> rfl

/-- R54, R80: no samples reach the voice path from a reply that does not fit. -/
theorem ExchangeEnd.voice_unfit (r : Reply) (h : r.fits .phone true = false) : (ExchangeEnd.good r).voice = none := by
  cases r with
  | voice hook samples =>
    refine if_neg fun hf => ?_
    rw [show (Reply.voice hook samples).fits .phone true = (flagOf? hook).isSome from rfl, hf] at h
    exact Bool.noConfusion h
  | nil => rfl
  | hook h => rfl
  | txn number body => rfl
  | reading rd => rfl
  | chunkOk => rfl
  | chunkAgain => rfl

/-- A READING handed to the slot its station feeds, or counted as unlinked. -/
theorem State.handOver_reading (s : State) (x : Snapshot) (k : Fin 8) (rd : Reading) (h : slotOf? x.link = some k) :
    s.handOver x (.reading rd) = s.takeReading x k rd := by
  unfold State.handOver
  dsimp only
  rw [h]

theorem State.takeReading_linked (s : State) (x : Snapshot) (k : Fin 8) (rd : Reading) (h : s.slots[k].station = some x.slot) :
    s.takeReading x k rd = (({ s with slots := updAt s.slots k fun q => q.process rd s.now } : State).forwardReading k x.drop x.address rd
      (s.slots[k].speedOf rd s.now)).evaluate k := if_pos h

theorem State.takeReading_unlinked (s : State) (x : Snapshot) (k : Fin 8) (rd : Reading) (h : s.slots[k].station ≠ some x.slot) :
    s.takeReading x k rd = { s with slots := updAt s.slots k fun q => { q with ctr := { q.ctr with unlinked := bump q.ctr.unlinked } } } :=
  if_neg h

/-! ### What a choice leaves of a drop -/

/-- What a choice leaves of a drop: the outcomes counted, and the line as it was or SENDING. -/
structure Drop.Chose (l m : Drop) : Prop where
  good : m.ctr.good = l.ctr.good
  bad : m.ctr.bad = l.ctr.bad
  noReply : m.ctr.noReply = l.ctr.noReply
  line : m.line = l.line ∨ m.line = .sending

theorem Drop.Chose.refl (l : Drop) : l.Chose l := ⟨rfl, rfl, rfl, .inl rfl⟩

theorem Drop.Chose.trans {a b c : Drop} (h : a.Chose b) (k : b.Chose c) : a.Chose c where
  good := k.good.trans h.good
  bad := k.bad.trans h.bad
  noReply := k.noReply.trans h.noReply
  line := k.line.elim (fun hb => h.line.imp hb.trans hb.trans) .inr

theorem updAt_chose (v : Vector Drop 4) (d e : Fin 4) (f : Drop → Drop) (h : ∀ l : Drop, l.Chose (f l)) : v[e].Chose (updAt v d f)[e] := by
  rw [updAt_get]
  split
  · exact h _
  · exact .refl _

theorem Drop.begins_chose (l : Drop) (x : Snapshot) (voice : Bool) (begun : Nat) (body : List Byte) (f : DropCounters → DropCounters)
    (h : ∀ c : DropCounters, (f c).good = c.good ∧ (f c).bad = c.bad ∧ (f c).noReply = c.noReply) : l.Chose (l.begins x voice begun body f) :=
  ⟨(h _).1, (h _).2.1, (h _).2.2, .inr rfl⟩

theorem State.chooseFrom_chose (s : State) (d : Fin 4) (voices polls : List (Fin 32 × Nat)) (e : Fin 4) :
    s.poll.drops[e].Chose (s.chooseFrom d voices polls).poll.drops[e] := by
  unfold State.chooseFrom
  split
  · exact .refl _
  · split
    · exact (updAt_chose s.poll.drops d e (fun l => { l with broadcast := false }) fun l => ⟨rfl, rfl, rfl, .inl rfl⟩).trans
        (updAt_chose _ d e (fun l => { l with
          line := .sending
          exch := some { snap := none, voice := false, begun := s.now, frame := frameBytes false 31 typeSupply [s.sup.state.code] }
          ctr := { l.ctr with broadcasts := bump l.ctr.broadcasts } }) fun l => ⟨rfl, rfl, rfl, .inr rfl⟩)
    · split
      · rw [s.beginVoice_eq]
        exact updAt_chose _ d e _ fun l => l.begins_chose _ _ _ _ _ fun _ => ⟨rfl, rfl, rfl⟩
      · split
        · rw [s.beginPoll_eq]
          exact updAt_chose _ d e _ fun l => l.begins_chose _ _ _ _ _ fun _ => ⟨rfl, rfl, rfl⟩
        · exact .refl _

/-- A line freed chooses: the outcomes of its drop stand as counted, and the line is IDLE or SENDING. -/
theorem State.freed_chose (s : State) (d : Fin 4) : ((s.lineIdle d).endChoose d).poll.drops[d].ctr.good = s.poll.drops[d].ctr.good ∧
    (((s.lineIdle d).endChoose d).poll.drops[d].line = .idle ∨ ((s.lineIdle d).endChoose d).poll.drops[d].line = .sending) := by
  have hchose := (s.lineIdle d).chooseFrom_chose d (((s.lineIdle d).dueVoices d).filter (s.lineIdle d).isCome)
    (((s.lineIdle d).duePolls d).filter (s.lineIdle d).isCome) d
  have hdrop : (s.lineIdle d).poll.drops[d] = { s.poll.drops[d] with line := .idle, exch := none, replyTimer := none } := updAt_self _ d _
  rw [hdrop] at hchose
  exact ⟨hchose.good, hchose.line⟩

/-- What the report of a reply to a PHONE, TOLL or WEATHER station changes: the journal's answers. -/
theorem State.reportOutcome_kept (s : State) (x : Snapshot) (r : Reply) (h : x.kind ≠ .sign) :
    s.reportOutcome x (.good r) = { s with jrnl := (s.reportOutcome x (.good r)).jrnl } := by
  unfold State.reportOutcome
  cases hk : x.kind with
  | sign => exact absurd hk h
  | toll => rfl
  | phone => rfl
  | weather => rfl

theorem State.heardFrom_kept (s : State) (x : Snapshot) (voice : Bool) (begun : Nat) :
    (s.heardFrom x voice begun).slots = s.slots ∧ (s.heardFrom x voice begun).now = s.now := by
  unfold State.heardFrom
  split
  · rw [State.notify_kept]
    exact ⟨rfl, rfl⟩
  · exact ⟨rfl, rfl⟩

/-- Settles O26: a good reply applied, reported and dispatched, by its type. -/
theorem goodReplyReachesItsEngine : Obligations.GoodReplyReachesItsEngine := by
  refine ⟨fun d bytes frame x e begun s hr hl he hx hst hm hoff hvd hk hreply => ?_, Reply.fits_iff,
    fun slot s => ⟨rfl, s.answersOutcome_missed slot⟩,
    fun d bytes frame x e voice begun r s v u hr hl he hx hst hm hreply hv hu => ?_⟩
  · subst hst
    have hexec := exec_goodReply s d bytes frame x false begun .nil hr hl he hm hreply
    have hheard : s.heardFrom x false begun = s.replied x false begun := if_neg hoff
    rw [hheard, State.dispatch_fits _ x false .nil ((Reply.fits_iff _ _ _).mpr (.inl ⟨rfl, rfl, hk⟩))] at hexec
    have hkept := (s.replied x false begun).reportOutcome_kept x .nil hk
    generalize hw : (s.replied x false begun).reportOutcome x (.good .nil) = w at hkept
    have hexec : exec (.replyFrameEnd d bytes) s = .next ((w.lineIdle d).endChoose d) := by rw [hexec, ← hw]; rfl
    have hpoll : w.poll = (s.replied x false begun).poll := by rw [hkept]
    obtain ⟨hgood, hline⟩ := w.freed_chose d
    have hbegun := (w.lineIdle d).endChoose_begun d
    generalize (w.lineIdle d).endChoose d = t at hexec hgood hline hbegun
    have hpaid := hbegun.paid.kept
    refine ⟨t, hexec, ?_, fun k hk => ?_, ?_, hline, ?_⟩
    · have hstations : t.poll.stations = w.poll.stations := by rw [hpaid]; rfl
      rw [hstations, hpoll]
      show updAt s.poll.stations x.slot (·.replied false begun s.sup.state) = _
      exact updAt_congr s.poll.stations x.slot (Station.replied_polled _ begun s.sup.state hvd)
    · rw [hbegun.others k hk]
      have hother : (w.lineIdle d).poll.drops[k] = w.poll.drops[k] := updAt_get_other _ d k _ hk.symm
      rw [hother, hpoll]
      exact updAt_get_other _ x.drop k _ (by rw [hx]; exact hk.symm)
    · rw [hgood, hpoll, ← hx]
      exact congrArg (fun l => l.ctr.good) (updAt_self s.poll.drops x.drop _)
    · rw [hpaid, hkept]
      rfl
  · subst hst hx
    have hheard : u = s.heardFrom x voice begun := by rw [hu, hv]; rfl
    obtain ⟨hslots, hnow⟩ := s.heardFrom_kept x voice begun
    rw [← hheard] at hslots hnow
    refine ⟨_, exec_goodReply s x.drop bytes frame x voice begun r hr hl he hm hreply, ?_⟩
    rw [← hheard]
    clear hu hv hheard
    refine ⟨fun h1 h2 h3 => ?_, fun h h1 h2 h3 h4 => ?_, fun h h1 h2 h3 h4 => ?_, fun h l h1 h2 h3 h4 => ?_, fun n l h1 h2 h3 => ?_,
      fun h1 h2 h3 => ?_, fun k rd h1 h2 h3 hl => ⟨fun hs => ?_, fun hs => ?_⟩, fun h1 h2 h3 => ?_, fun y h1 h2 hy => ?_⟩
    · subst h2 h3
      rw [State.dispatch_fits _ x _ _ ((Reply.fits_iff _ _ _).mpr (.inl ⟨rfl, rfl, by rcases h1 with h | h <;> rw [h] <;> decide⟩)),
        State.reportOutcome_none _ x _ h1]
      rfl
    · subst h2 h3
      rw [State.dispatch_fits _ x _ _ ((Reply.fits_iff _ _ _).mpr (.inr (.inl ⟨h, rfl, h1, h4⟩))), State.reportOutcome_none _ x _ (.inl h1)]
      rfl
    · subst h2 h3
      rw [State.dispatch_fits _ x _ _ ((Reply.fits_iff _ _ _).mpr (.inr (.inl ⟨h, rfl, h1, h4⟩))), State.reportOutcome_none _ x _ (.inl h1)]
      rfl
    · subst h2 h3
      have hvoice : (ExchangeEnd.good (.voice h l)).voice = some l := if_pos ((flagOf?_isSome h).mpr h4)
      rw [State.dispatch_fits _ x _ _ ((Reply.fits_iff _ _ _).mpr (.inr (.inr (.inl ⟨h, l, rfl, h1, rfl, h4⟩)))),
        State.reportOutcome_none _ x _ (.inl h1)]
      show ((u.voiceOutcome x.slot (ExchangeEnd.good (.voice h l)).voice).takeHook x.slot (h == 1)) = _
      rw [hvoice]
    · subst h2 h3
      rw [State.dispatch_fits _ x _ _ ((Reply.fits_iff _ _ _).mpr (.inr (.inr (.inr (.inl ⟨n, l, rfl, h1⟩))))),
        State.reportOutcome_toll _ x _ h1]
      rfl
    · subst h2 h3
      rw [State.dispatch_fits _ x _ _ ((Reply.fits_iff _ _ _).mpr (.inl ⟨rfl, rfl, by rw [h1]; decide⟩)), State.reportOutcome_toll _ x _ h1]
      rfl
    · subst h2 h3
      rw [State.dispatch_fits _ x _ _ ((Reply.fits_iff _ _ _).mpr (.inr (.inr (.inr (.inr (.inl ⟨rd, rfl, h1⟩)))))),
        State.reportOutcome_none _ x _ (.inr h1), State.handOver_reading _ x k rd hl]
      rw [← hslots] at hs
      rw [← hslots, ← hnow]
      exact u.takeReading_linked x k rd hs
    · subst h2 h3
      rw [State.dispatch_fits _ x _ _ ((Reply.fits_iff _ _ _).mpr (.inr (.inr (.inr (.inr (.inl ⟨rd, rfl, h1⟩)))))),
        State.reportOutcome_none _ x _ (.inr h1), State.handOver_reading _ x k rd hl]
      rw [← hslots] at hs
      exact u.takeReading_unlinked x k rd hs
    · subst h2
      rw [State.dispatch_fits _ x _ _ ((Reply.fits_iff _ _ _).mpr (.inr (.inr (.inr (.inr (.inr ⟨h3, h1⟩))))))]
      rcases h3 with rfl | rfl <;> rfl
    · rw [State.dispatch_unfit _ x voice r h1]
      refine congrArg (fun y : State => y.countDrop x.drop fun c => { c with mismatch := bump c.mismatch }) ?_
      rw [hy]
      cases voice with
      | false =>
        show u.reportOutcome x (.good r) = _
        cases hk : x.kind with
        | toll => rw [State.reportOutcome_toll _ x _ hk]; rfl
        | sign => rfl
        | phone => rw [State.reportOutcome_none _ x _ (.inl hk)]; rfl
        | weather => rw [State.reportOutcome_none _ x _ (.inr hk)]; rfl
      | true =>
        have hk := h2 rfl
        rw [hk] at h1
        show (u.voiceOutcome x.slot (ExchangeEnd.good r).voice).reportOutcome x (.good r) = _
        rw [State.reportOutcome_none _ x _ (.inl hk), ExchangeEnd.voice_unfit r h1, hk]
        rfl

end Sys2Proof.Machine
end

section
/-! PROOFS. A miss (3.3): what the engines make of it leaves the stations and the outcomes counted. -/

namespace Sys2Proof.Machine

/-! ### The drops through the call engine -/

/-- Every drop is as choices leave it. -/
def State.DropsChose (s t : State) : Prop := ∀ e : Fin 4, s.poll.drops[e].Chose t.poll.drops[e]

theorem State.DropsChose.trans {a b c : State} (h : a.DropsChose b) (k : b.DropsChose c) : a.DropsChose c := fun e => (h e).trans (k e)

theorem State.DropsChose.of_eq {s t : State} (h : t.poll.drops = s.poll.drops) : s.DropsChose t := fun e => by rw [h]; exact .refl _

theorem State.seize_chose (s : State) (r : Fin 16) (slot : Fin 32) : s.DropsChose (s.seize r slot) :=
  fun e => (s.seizing r slot).chooseFrom_chose s.poll.stations[slot].drop _ _ e

theorem State.refillOne_chose (s : State) (slot : Fin 32) : s.DropsChose (s.refillOne slot) := by
  unfold State.refillOne
  split
  · rename_i r _
    split
    · exact (State.DropsChose.of_eq (by rw [(s.leaveWaitList_calls slot).2.1])).trans (State.seize_chose _ r slot)
    · exact .of_eq rfl
  · exact .of_eq rfl

theorem State.refillWalk_chose (s : State) : s.DropsChose s.refillWalk := by
  unfold State.refillWalk
  generalize s.calls.waitList = l
  induction l generalizing s with
  | nil => exact .of_eq rfl
  | cons w l ih => exact (s.refillOne_chose w.slot).trans (ih (s.refillOne w.slot))

theorem State.refill_chose (s : State) : s.DropsChose s.refill := by
  unfold State.refill
  dsimp only
  split
  · exact s.refillWalk_chose.trans (.of_eq (by rw [s.refillWalk.testSeized_kept.1]))
  · exact s.refillWalk_chose

theorem State.releaseSeat_drops (s : State) (r : Fin 16) : (s.releaseSeat r).poll.drops = s.poll.drops := by
  unfold State.releaseSeat
  split
  · split <;> rfl
  · rfl

theorem State.unbind_poll (s : State) (r : Fin 16) : (s.unbind r).poll = s.poll := by
  unfold State.unbind
  split <;> rfl

theorem State.freeCall_chose (s : State) (r : Fin 16) : s.DropsChose (s.freeCall r) := by
  have hclear : (s.clearRecord r).poll.drops = s.poll.drops := by
    show ((s.releaseSeat r).unbind r).poll.drops = _
    rw [State.unbind_poll, State.releaseSeat_drops]
  exact ((State.DropsChose.of_eq hclear).trans (s.clearRecord r).refill_chose).trans (.of_eq (by rw [← ((s.clearRecord r).refill).testSeized_kept.1]; rfl))

theorem State.clearLocal_chose (s : State) (r : Fin 16) (why : ClearReason) : s.DropsChose (s.clearLocal r why) := by
  unfold State.clearLocal
  refine State.DropsChose.trans (.of_eq ?_) (State.refill_chose _)
  unfold State.sendClear
  rw [State.sendCall_kept]
  exact s.releaseSeat_drops r

theorem State.phoneGone_chose (s : State) (slot : Fin 32) (why : ClearReason) : s.DropsChose (s.phoneGone slot why) := by
  unfold State.phoneGone
  split
  · rename_i r _
    unfold State.endCall
    split
    · exact .of_eq rfl
    · exact s.freeCall_chose r
    · exact s.clearLocal_chose r why
    · exact s.clearLocal_chose r why
    · exact s.clearLocal_chose r why
    · exact s.clearLocal_chose r why
    · split
      · exact s.freeCall_chose r
      · exact .of_eq rfl
  · split
    · exact .of_eq (by rw [(s.leaveWaitList_calls slot).2.1])
    · exact .of_eq rfl

/-! ### The reports of a miss -/

theorem State.weatherOffline_stale (s : State) (k : Fin 8) :
    (s.weatherOffline k).slots[k].fresh = false ∧ (s.weatherOffline k).poll = s.poll := by
  unfold State.weatherOffline
  by_cases h : s.slots[k].fresh = true
  · rw [if_pos h, State.notify_kept]
    exact ⟨congrArg ReductionSlot.fresh (updAt_self s.slots k _), rfl⟩
  · rw [if_neg h]
    exact ⟨Bool.eq_false_of_not_eq_true h, rfl⟩

theorem State.reportOffline_chose (s : State) (x : Snapshot) (before : StationState) : s.DropsChose (s.reportOffline x before) := by
  unfold State.reportOffline
  dsimp only
  split
  · split
    · exact s.phoneGone_chose _ _
    · split
      · exact .of_eq (by rw [(s.weatherOffline_stale _).2])
      · exact .of_eq rfl
    · exact .of_eq rfl
    · exact .of_eq rfl
  · exact .of_eq rfl

theorem State.noticeStation_poll (s : State) (x : Snapshot) (before : StationState) : (s.noticeStation x before).poll = s.poll := by
  unfold State.noticeStation
  dsimp only
  split
  · rw [State.notify_kept]
  · split
    · rw [State.notify_kept]
    · rfl

theorem State.reportOutcome_poll (s : State) (x : Snapshot) (o : ExchangeEnd) : (s.reportOutcome x o).poll = s.poll := by
  unfold State.reportOutcome
  split
  · unfold State.answersOutcome
    split <;> rfl
  · split
    · rfl
    · rfl
  · rfl
  · rfl

/-! ### A miss applied -/

/-- The entries but for their due times, one by one. -/
theorem State.station_of_view {s t : State} (h : t.stationView = s.stationView) (i : Fin 32) :
    t.poll.stations[i].state = s.poll.stations[i].state ∧ t.poll.stations[i].miss = s.poll.stations[i].miss := by
  have hi := congrArg (fun v : Vector Station 32 => v[i]) h
  unfold State.stationView at hi
  rw [Fin.getElem_fin, Fin.getElem_fin, Vector.getElem_map, Vector.getElem_map] at hi
  have hstate := congrArg Station.state hi
  have hmiss := congrArg Station.miss hi
  exact ⟨hstate, hmiss⟩

/-- The state after a miss, before the engines hear of it. -/
def State.missed (s : State) (x : Snapshot) (voice : Bool) (begun : Nat) (o : ExchangeEnd) : State :=
  (s.modStation x.slot fun e => (e.outcome o).nextDue voice begun s.sup.state).countDrop x.drop (·.outcome o)

/-- The state after a miss, its notice and the voice path. -/
def State.missTold (s : State) (x : Snapshot) (voice : Bool) (begun : Nat) (o : ExchangeEnd) : State :=
  ((s.missed x voice begun o).noticeStation x s.poll.stations[x.slot].state).reportVoice x voice o

theorem State.missTold_poll (s : State) (x : Snapshot) (voice : Bool) (begun : Nat) (o : ExchangeEnd) :
    (s.missTold x voice begun o).poll = (s.missed x voice begun o).poll := by
  unfold State.missTold
  rw [State.reportVoice_poll, State.noticeStation_poll]

theorem State.applyEnd_missed (s : State) (x : Snapshot) (voice : Bool) (begun : Nat) (o : ExchangeEnd) (h : o = .bad ∨ o = .noReply) :
    s.applyEnd x voice begun o =
      ((s.missTold x voice begun o).reportOffline x s.poll.stations[x.slot].state).reportOutcome x o := by
  rcases h with rfl | rfl <;> rfl

theorem Station.nextDue_kept (e : Station) (voice : Bool) (begun : Nat) (sup : SupplyState) : (e.nextDue voice begun sup).state = e.state ∧
    (e.nextDue voice begun sup).miss = e.miss ∧ (e.nextDue voice begun sup).kind = e.kind ∧ (e.nextDue voice begun sup).link = e.link := by
  unfold Station.nextDue
  split
  · exact ⟨rfl, rfl, rfl, rfl⟩
  · split <;> exact ⟨rfl, rfl, rfl, rfl⟩

/-- The entry of a station that has missed. -/
theorem State.missed_station (s : State) (x : Snapshot) (voice : Bool) (begun : Nat) (o : ExchangeEnd) (h : o = .bad ∨ o = .noReply) :
    (s.missed x voice begun o).poll.stations[x.slot].state = (if s.poll.stations[x.slot].miss + 1 < 3 then .silent else .offline) ∧
    (s.missed x voice begun o).poll.stations[x.slot].miss = min 3 (s.poll.stations[x.slot].miss + 1) ∧
    (s.missed x voice begun o).poll.stations[x.slot].kind = s.poll.stations[x.slot].kind ∧
    (s.missed x voice begun o).poll.stations[x.slot].link = s.poll.stations[x.slot].link := by
  have hself : (s.missed x voice begun o).poll.stations[x.slot] =
      (s.poll.stations[x.slot].outcome o).nextDue voice begun s.sup.state := updAt_self _ _ _
  obtain ⟨hst, hmiss, hkind, hlink⟩ := (s.poll.stations[x.slot].outcome o).nextDue_kept voice begun s.sup.state
  rw [hself, hst, hmiss, hkind, hlink]
  rcases h with rfl | rfl <;> exact ⟨rfl, rfl, rfl, rfl⟩

/-- What the reports of a miss leave of the entries and the drops. -/
theorem State.applyEnd_kept (s : State) (x : Snapshot) (voice : Bool) (begun : Nat) (o : ExchangeEnd) (h : o = .bad ∨ o = .noReply) :
    (s.applyEnd x voice begun o).stationView = (s.missed x voice begun o).stationView ∧
    (s.missed x voice begun o).DropsChose (s.applyEnd x voice begun o) := by
  rw [s.applyEnd_missed x voice begun o h]
  refine ⟨?_, ?_⟩
  · rw [State.reportOutcome_stationView, State.reportOffline_stationView]
    unfold State.missTold
    rw [State.reportVoice_stationView, State.noticeStation_stationView]
  · have htold : (s.missed x voice begun o).DropsChose (s.missTold x voice begun o) := .of_eq (by rw [s.missTold_poll])
    exact (htold.trans (State.reportOffline_chose _ x _)).trans (.of_eq (by rw [State.reportOutcome_poll]))

/-- A WEATHER station's move to OFFLINE leaves the slot its entry names STALE. -/
theorem State.applyEnd_stale (s : State) (x : Snapshot) (voice : Bool) (begun : Nat) (o : ExchangeEnd) (h : o = .bad ∨ o = .noReply)
    (hm : s.poll.stations[x.slot].matches x = true) (h2 : 2 ≤ s.poll.stations[x.slot].miss)
    (hoff : s.poll.stations[x.slot].state ≠ .offline) (hk : s.poll.stations[x.slot].kind = .weather) (k : Fin 8)
    (hl : slotOf? s.poll.stations[x.slot].link = some k) : (s.applyEnd x voice begun o).slots[k].fresh = false := by
  obtain ⟨hst, _, hkind, hlink⟩ := s.missed_station x voice begun o h
  rw [← s.missTold_poll] at hst hkind hlink
  have hreport : (s.missTold x voice begun o).reportOffline x s.poll.stations[x.slot].state = (s.missTold x voice begun o).weatherOffline k := by
    unfold State.reportOffline
    dsimp only
    rw [if_pos ⟨hoff, hst.trans (if_neg (by omega))⟩, hkind, hk]
    dsimp only
    rw [hlink, hl]
  have hxk : x.kind = .weather := by rw [← (Station.matches_spec _ _ hm).2.2.2, hk]
  rw [s.applyEnd_missed x voice begun o h, hreport, State.reportOutcome_none _ x o (.inr hxk)]
  exact (State.weatherOffline_stale _ k).1

/-- A station's miss: its entry, the other entries, the outcomes counted, and the slot of a WEATHER station that moves to OFFLINE. -/
structure State.Missed (s t : State) (d : Fin 4) (i : Fin 32) (o : ExchangeEnd) : Prop where
  state : t.poll.stations[i].state = if s.poll.stations[i].miss + 1 < 3 then .silent else .offline
  miss : t.poll.stations[i].miss = min 3 (s.poll.stations[i].miss + 1)
  others : ∀ k : Fin 32, k ≠ i → t.poll.stations[k].state = s.poll.stations[k].state ∧ t.poll.stations[k].miss = s.poll.stations[k].miss
  bad : t.poll.drops[d].ctr.bad = s.poll.drops[d].ctr.bad
  noReply : o = .noReply → t.poll.drops[d].ctr.noReply = bump s.poll.drops[d].ctr.noReply
  stale : 2 ≤ s.poll.stations[i].miss → s.poll.stations[i].state ≠ .offline → s.poll.stations[i].kind = .weather →
    ∀ k, slotOf? s.poll.stations[i].link = some k → t.slots[k].fresh = false

theorem State.completeWith_missed (s : State) (d : Fin 4) (o : ExchangeEnd) (x : Snapshot) (voice : Bool) (begun : Nat) (frame : List Byte)
    (he : s.poll.drops[d].exch = some { snap := some x, voice := voice, begun := begun, frame := frame }) (hx : x.drop = d)
    (hm : s.poll.stations[x.slot].matches x = true) (h : o = .bad ∨ o = .noReply) : s.Missed (s.completeWith d o) d x.slot o := by
  subst hx
  have hsettle : s.settleEnd x voice begun o = s.applyEnd x voice begun o := if_pos hm
  rw [s.completeWith_station x.drop o x voice begun frame he, hsettle]
  obtain ⟨hview, hdrops⟩ := s.applyEnd_kept x voice begun o h
  have hstale := s.applyEnd_stale x voice begun o h hm
  obtain ⟨hst, hmiss, _, _⟩ := s.missed_station x voice begun o h
  generalize s.applyEnd x voice begun o = w at hview hdrops hstale
  have hend : ((w.lineIdle x.drop).endChoose x.drop).stationView = (s.missed x voice begun o).stationView := by
    rw [State.endChoose_stationView, State.lineIdle_stationView, hview]
  have hbegun := (w.lineIdle x.drop).endChoose_begun x.drop
  have hchose := (w.lineIdle x.drop).chooseFrom_chose x.drop (((w.lineIdle x.drop).dueVoices x.drop).filter (w.lineIdle x.drop).isCome)
    (((w.lineIdle x.drop).duePolls x.drop).filter (w.lineIdle x.drop).isCome) x.drop
  change Drop.Chose _ ((w.lineIdle x.drop).endChoose x.drop).poll.drops[x.drop] at hchose
  have hidle : (w.lineIdle x.drop).poll.drops[x.drop] = { w.poll.drops[x.drop] with line := .idle, exch := none, replyTimer := none } :=
    updAt_self _ _ _
  have hmissed : (s.missed x voice begun o).poll.drops[x.drop] = { s.poll.drops[x.drop] with ctr := s.poll.drops[x.drop].ctr.outcome o } :=
    updAt_self _ _ _
  have hdrop := hdrops x.drop
  rw [hmissed] at hdrop
  rw [hidle] at hchose
  generalize (w.lineIdle x.drop).endChoose x.drop = t at hend hbegun hchose
  refine ⟨?_, ?_, fun k hk => ?_, ?_, fun ho => ?_, fun h2 hoff hkind k hl => ?_⟩
  · rw [(State.station_of_view hend x.slot).1, hst]
  · rw [(State.station_of_view hend x.slot).2, hmiss]
  · obtain ⟨kst, kmiss⟩ := State.station_of_view hend k
    have hother : (s.missed x voice begun o).poll.stations[k] = s.poll.stations[k] := updAt_get_other _ x.slot k _ hk.symm
    rw [kst, kmiss, hother]
    exact ⟨rfl, rfl⟩
  · rw [hchose.bad]
    refine hdrop.bad.trans ?_
    rcases h with rfl | rfl <;> rfl
  · rw [hchose.noReply]
    refine hdrop.noReply.trans ?_
    rw [ho]
    rfl
  · rw [hbegun.paid.kept]
    exact hstale h2 hoff hkind k hl

/-- Settles O27: both kinds of miss complete by the same lemma. -/
theorem missMovesStationTowardOffline : Obligations.MissMovesStationTowardOffline := by
  intro d frame voice x e begun dl c s hr he hx hst hm hc
  subst hst
  rcases hc with ⟨rfl, hl⟩ | ⟨rfl, ht⟩
  · have hexch : (s.countBad d .bad).poll.drops[d].exch = s.poll.drops[d].exch := updAt_get_eq s.poll.drops d d _ Drop.exch fun _ => rfl
    have hmissed := (s.countBad d .bad).completeWith_missed d .bad x voice begun frame (hexch.trans he) hx hm (.inl rfl)
    have hbad : (s.countBad d .bad).poll.drops[d].ctr.bad = bump s.poll.drops[d].ctr.bad :=
      congrArg (fun l => l.ctr.bad) (updAt_self s.poll.drops d _)
    exact ⟨_, exec_brokenFrame s d hr hl, hmissed.state, hmissed.miss, hmissed.others, fun _ => hmissed.bad.trans hbad,
      fun h => (nomatch h), hmissed.stale⟩
  · have hmissed := (s.reach dl).completeWith_missed d .noReply x voice begun frame he hx hm (.inr rfl)
    exact ⟨_, exec_replyTimer s d dl hr ht, hmissed.state, hmissed.miss, hmissed.others, fun h => (nomatch h),
      fun _ => hmissed.noReply rfl, hmissed.stale⟩

end Sys2Proof.Machine
end

section
/-! PROOFS. The forwarding of a reading and the evaluation of a slot's rules (8.3, 8.6, 9.1). -/

namespace Sys2Proof.Machine

/-! ### The WX block (R138, 12.2) -/

/-- The value of seven conditions read as bits, lowest first. -/
theorem bitsByte_seven (a b c d e f g : Bool) (x : Byte) (h : x.toNat = (if a = true then 1 else 0) + (if b = true then 2 else 0) +
    (if c = true then 4 else 0) + (if d = true then 8 else 0) + (if e = true then 16 else 0) + (if f = true then 32 else 0) +
    (if g = true then 64 else 0)) : bitsByte [a, b, c, d, e, f, g] = x := by
  refine BitVec.eq_of_toNat_eq ?_
  rw [h]
  clear h
  revert a b c d e f g
  decide

theorem bitsByte_three (a b c : Bool) (x : Byte) (h : x.toNat = (if a = true then 1 else 0) + (if b = true then 2 else 0) +
    (if c = true then 4 else 0)) : bitsByte [a, b, c] = x := by
  refine BitVec.eq_of_toNat_eq ?_
  rw [h]
  clear h
  revert a b c
  decide

theorem State.forwardReading_laneless (s : State) (k : Fin 8) (drop : Fin 4) (address : BitVec 5) (x : Reading) (speed : Option Nat)
    (h : s.laneFor .wx = none) : s.forwardReading k drop address x speed = s.countSlot k fun c => { c with forwardSkipped := bump c.forwardSkipped } := by
  unfold State.forwardReading
  rw [h]

theorem State.forwardReading_lane (s : State) (k : Fin 8) (drop : Fin 4) (address : BitVec 5) (x : Reading) (speed : Option Nat)
    (lane : Fin 64) (h : s.laneFor .wx = some lane) : s.forwardReading k drop address x speed = if s.takes .aq then
      (s.join .aq (localBlock .wx (Config.plainSubtype 6) lane s.lanes[lane].peer (Config.plainSeq 6)
        (wxBody k drop address x s.slots[k].derived speed))).countSlot k fun c => { c with forwarded := bump c.forwarded }
    else s.countSlot k fun c => { c with forwardRefused := bump c.forwardRefused } := by
  unfold State.forwardReading
  rw [h]

/-- What a forwarding leaves: the slot's own counters and AQ move, and nothing else. -/
theorem State.forwardReading_spec (s : State) (k : Fin 8) (drop : Fin 4) (address : BitVec 5) (x : Reading) (speed : Option Nat) :
    (∀ j : Fin 8, j ≠ k → (s.forwardReading k drop address x speed).slots[j] = s.slots[j]) ∧
    (s.forwardReading k drop address x speed).slots[k] =
      { s.slots[k] with ctr := (s.forwardReading k drop address x speed).slots[k].ctr } ∧
    (s.forwardReading k drop address x speed).slots[k].ctr.readings = s.slots[k].ctr.readings ∧
    (s.forwardReading k drop address x speed).poll = s.poll := by
  have hcount (t : State) (f : SlotCounters → SlotCounters) (ht : t.slots = s.slots) (hp : t.poll = s.poll)
      (hf : ∀ c, (f c).readings = c.readings) : (∀ j : Fin 8, j ≠ k → (t.countSlot k f).slots[j] = s.slots[j]) ∧
      (t.countSlot k f).slots[k] = { s.slots[k] with ctr := (t.countSlot k f).slots[k].ctr } ∧
      (t.countSlot k f).slots[k].ctr.readings = s.slots[k].ctr.readings ∧ (t.countSlot k f).poll = s.poll := by
    have hself : (t.countSlot k f).slots[k] = { s.slots[k] with ctr := f s.slots[k].ctr } := by
      rw [← ht]; exact updAt_self t.slots k _
    refine ⟨fun j hj => ?_, by rw [hself], by rw [hself]; exact hf _, hp⟩
    rw [← ht]
    exact updAt_get_other t.slots k j _ hj.symm
  cases hl : s.laneFor .wx with
  | none =>
    rw [s.forwardReading_laneless k drop address x speed hl]
    exact hcount s _ rfl rfl fun _ => rfl
  | some lane =>
    rw [s.forwardReading_lane k drop address x speed lane hl]
    split
    · exact hcount _ _ rfl rfl fun _ => rfl
    · exact hcount s _ rfl rfl fun _ => rfl

/-- The body of a WX block, its two flag bytes by their values (12.2). -/
theorem wxBody_eq (k : Fin 8) (drop : Fin 4) (address : BitVec 5) (x : Reading) (D : Derived) (speed : Option Nat) (v f : Byte)
    (hv : v.toNat = (if -4000 ≤ x.ts ∧ x.ts ≤ 8000 then 1 else 0) + (if -4000 ≤ x.ta ∧ x.ta ≤ 8000 then 2 else 0) +
      (if -500 ≤ x.z ∧ x.z ≤ 500 then 4 else 0))
    (hf : f.toNat = (if D.surface.isSome = true then 1 else 0) + (if D.air.isSome = true then 2 else 0) +
      (if D.humidity.isSome = true then 4 else 0) + (if D.visibility.isSome = true then 8 else 0) +
      (if D.light.isSome = true then 16 else 0) + (if D.windMean.isSome = true then 32 else 0) +
      (if D.windGust.isSome = true then 64 else 0)) : wxBody k drop address x D speed =
    [byte k.val, byte drop.val, 0#3 ++ address] ++ x.raw ++ [v, f] ++
      ([D.surface, D.air, D.humidity, D.visibility, D.light, D.windMean, D.windGust].flatMap fun o => int16 (o.getD 0)) ++ nat16Or speed := by
  have hvalid : bitsByte [tempValid x.ts, tempValid x.ta, zeroValid x.z] = v :=
    bitsByte_three _ _ _ v (by simp only [tempValid_iff, zeroValid_iff]; exact hv)
  have hformed : bitsByte ([D.surface, D.air, D.humidity, D.visibility, D.light, D.windMean, D.windGust].map Option.isSome) = f :=
    bitsByte_seven _ _ _ _ _ _ _ f hf
  unfold wxBody
  dsimp only
  rw [hvalid, hformed, List.append_assoc _ [v] [f]]
  rfl

/-! ### The speed a reading forms (R134) -/

theorem ReductionSlot.speedOf_case (r : ReductionSlot) (x : Reading) (now v : Nat) (c : Bool) (h : r.windCase x now = .speed v c) :
    r.speedOf x now = some v := by
  unfold ReductionSlot.speedOf
  rw [h]

theorem ReductionSlot.speedOf_none (r : ReductionSlot) (x : Reading) (now : Nat)
    (h : r.windCase x now = .restart ∨ r.windCase x now = .noPrevious ∨ r.windCase x now = .gap) : r.speedOf x now = none := by
  unfold ReductionSlot.speedOf
  rcases h with h | h | h <;> rw [h]

/-! ### The evaluation of a slot (R144 to R147) -/

/-- The rules moved by a slot's derived quantities. -/
def movedRules (k : Fin 8) (d : Derived) (rules : Vector Rule 32) : Vector Rule 32 :=
  Vector.ofFn fun i =>
    if rules[i].enabled ∧ rules[i].source = k then
      match d.get rules[i].quantity with
      | none => rules[i]
      | some v => rules[i].move v
    else rules[i]

theorem State.evaluate_eq (s : State) (k : Fin 8) : s.evaluate k = (s.modRules (movedRules k s.slots[k].derived)).settle 0 none := rfl

/-- What moving a rule leaves of it. -/
theorem Rule.move_kept (r : Rule) (v : Int) : (r.move v).effective = r.effective ∧ (r.move v).link = r.link ∧ (r.move v).signs = r.signs ∧
    (r.move v).source = r.source ∧ (r.move v).quantity = r.quantity := by
  unfold Rule.move
  split
  all_goals first | (split <;> exact ⟨rfl, rfl, rfl, rfl, rfl⟩) | exact ⟨rfl, rfl, rfl, rfl, rfl⟩

theorem Rule.holds_iff (r : Rule) : r.holds = true ↔ r.state = .active ∨ r.state = .pendingClear := by
  unfold Rule.holds
  rw [Bool.or_eq_true, beq_iff_eq, beq_iff_eq]

theorem ruleEffective_iff (rules : Vector Rule 32) (i : Fin 32) : ruleEffective rules i = true ↔
    rules[i].holds = true ∧ ∀ j : Fin 32, rules[i].link = some j → rules[j].holds = true := by
  unfold ruleEffective
  rw [Bool.and_eq_true]
  refine and_congr_right fun _ => ?_
  cases hl : rules[i].link with
  | none => exact ⟨fun _ j h => (nomatch h), fun _ => rfl⟩
  | some k => exact ⟨fun h j hj => by cases hj; exact h, fun h => h k rfl⟩

/-- A derivation of the effective states with no rule excepted: the notices by rule index, then the signs of the changed rules. -/
theorem State.settle_eq (s : State) : s.settle 0 none = (((s.modRules settleRules).forEach s.changedRules fun i s => s.noticeRule i).arbitrateSet
    (s.changedRules.foldl (fun m i => m ||| s.rules[i].signs) 0)) := by
  have hall : (s.changedRules.filter fun i => some i != none) = s.changedRules := List.filter_eq_self.mpr fun i _ => rfl
  unfold State.settle
  dsimp only
  rw [hall]

theorem signsOf_getLsbD (rules : Vector Rule 32) (j : Fin 12) (l : List (Fin 32)) : ∀ m : BitVec 12,
    (l.foldl (fun m i => m ||| rules[i].signs) m).getLsbD j.val = true ↔
      m.getLsbD j.val = true ∨ ∃ i ∈ l, rules[i].signs.getLsbD j.val = true := by
  induction l with
  | nil => exact fun m => ⟨.inl, fun h => h.elim id fun ⟨i, hi, _⟩ => absurd hi List.not_mem_nil⟩
  | cons i l ih =>
    intro m
    rw [List.foldl_cons, ih, BitVec.getLsbD_or, Bool.or_eq_true, or_assoc]
    refine or_congr_right ⟨fun h => ?_, fun h => ?_⟩
    · rcases h with h | ⟨k, hk, h⟩
      · exact ⟨i, List.mem_cons_self, h⟩
      · exact ⟨k, List.mem_cons_of_mem i hk, h⟩
    · obtain ⟨k, hk, h⟩ := h
      rcases List.mem_cons.mp hk with rfl | hk
      · exact .inl h
      · exact .inr ⟨k, hk, h⟩

/-- The notices of a list of rules, each with what the rules and the slots say. -/
theorem State.forEach_noticeRule (u : State) (l : List (Fin 32)) : ∀ y : State, y.rules = u.rules → y.slots = u.slots →
    y.forEach l (fun i s => s.noticeRule i) =
      l.foldl (fun y i => y.notify (.rule i u.rules[i].effective u.rules[i].state (u.ruleValue i))) y ∧
    y.forEach l (fun i s => s.noticeRule i) = { y with
      ring := (y.forEach l (fun i s => s.noticeRule i)).ring, agent := (y.forEach l (fun i s => s.noticeRule i)).agent } := by
  induction l with
  | nil => exact fun y _ _ => ⟨rfl, rfl⟩
  | cons i l ih =>
    intro y hr hs
    have hvalue : y.ruleValue i = u.ruleValue i :=
      congrArg₂ (fun (rules : Vector Rule 32) (slots : Vector ReductionSlot 8) => slots[rules[i].source].derived.get rules[i].quantity) hr hs
    have hnotice : y.noticeRule i = y.notify (.rule i u.rules[i].effective u.rules[i].state (u.ruleValue i)) := by
      unfold State.noticeRule
      rw [hvalue, hr]
    have hkept : y.noticeRule i = { y with ring := (y.noticeRule i).ring, agent := (y.noticeRule i).agent } := by
      rw [hnotice]; exact y.notify_kept _
    obtain ⟨hfold, hrest⟩ := ih (y.noticeRule i) (by rw [hkept]; exact hr) (by rw [hkept]; exact hs)
    change y.forEach (i :: l) _ = _ at hfold
    change y.forEach (i :: l) _ = _ at hrest
    generalize y.forEach (i :: l) (fun i s => s.noticeRule i) = z at hfold hrest
    refine ⟨?_, ?_⟩
    · rw [hfold, hnotice]; rfl
    · rw [hrest, hkept]

theorem State.modRules_modRules (s : State) (f g : Vector Rule 32 → Vector Rule 32) :
    (s.modRules f).modRules g = { s with rules := g (f s.rules) } := rfl

theorem State.changedRules_of (s : State) (R : Vector Rule 32) (h : s.rules = R) :
    s.changedRules = (List.finRange 32).filter fun i => ruleEffective R i != R[i].effective := by
  unfold State.changedRules
  rw [h]

/-- What an evaluation leaves: the rules moved and their effective states derived, the notices of those that changed, and the signs. -/
theorem State.evaluate_spec (s : State) (k : Fin 8) (R : Vector Rule 32) (C : List (Fin 32)) (u w : State)
    (hR : R = movedRules k s.slots[k].derived s.rules)
    (hC : C = (List.finRange 32).filter fun i => ruleEffective R i != R[i].effective)
    (hu : u = { s with rules := settleRules R })
    (hw : w = C.foldl (fun y i => y.notify (.rule i u.rules[i].effective u.rules[i].state (u.ruleValue i))) u) :
    s.evaluate k = w.arbitrateSet (C.foldl (fun m i => m ||| R[i].signs) 0) ∧ w = { u with ring := w.ring, agent := w.agent } := by
  have hnotices := u.forEach_noticeRule C u rfl rfl
  rw [← hw] at hnotices
  obtain ⟨hfold, hkept⟩ := hnotices
  rw [hfold] at hkept
  refine ⟨?_, hkept⟩
  rw [s.evaluate_eq k, State.settle_eq]
  have hstate : (s.modRules (movedRules k s.slots[k].derived)).modRules settleRules = u := by
    rw [hu, hR]
    exact s.modRules_modRules _ settleRules
  have hrules : (s.modRules (movedRules k s.slots[k].derived)).rules = R := by rw [hR]; exact s.modRules_rules _
  have hchanged : (s.modRules (movedRules k s.slots[k].derived)).changedRules = C := by
    rw [hC]; exact State.changedRules_of _ R hrules
  rw [hchanged, hstate, hrules, hfold]

/-- A rule moved by a value, when one is formed. -/
def Rule.moved (r : Rule) : Option Int → Rule
  | none => r
  | some v => r.move v

theorem movedRules_get (k : Fin 8) (d : Derived) (rules : Vector Rule 32) (i : Fin 32) : (movedRules k d rules)[i] =
    if rules[i].enabled = true ∧ rules[i].source = k then rules[i].moved (d.get rules[i].quantity) else rules[i] :=
  Vector.getElem_ofFn i.isLt

theorem movedRules_kept (k : Fin 8) (d : Derived) (rules : Vector Rule 32) (i : Fin 32) :
    (movedRules k d rules)[i].effective = rules[i].effective ∧ (movedRules k d rules)[i].link = rules[i].link ∧
    (movedRules k d rules)[i].signs = rules[i].signs ∧ (movedRules k d rules)[i].source = rules[i].source ∧
    (movedRules k d rules)[i].quantity = rules[i].quantity := by
  rw [movedRules_get]
  split
  · unfold Rule.moved
    split
    · exact ⟨rfl, rfl, rfl, rfl, rfl⟩
    · exact Rule.move_kept _ _
  · exact ⟨rfl, rfl, rfl, rfl, rfl⟩

/-- Every notice's value is the quantity its rule watches. -/
theorem Derived.get_eq (d : Derived) (q : Quantity) : d.get q = match q with
    | .surface => d.surface | .air => d.air | .humidity => d.humidity | .visibility => d.visibility
    | .light => d.light | .windMean => d.windMean | .windGust => d.windGust := by
  cases q <;> rfl

theorem State.ruleValue_of (s t : State) (i : Fin 32) (hs : t.slots = s.slots) (hsrc : t.rules[i].source = s.rules[i].source)
    (hq : t.rules[i].quantity = s.rules[i].quantity) : t.ruleValue i = s.ruleValue i := by
  have hsource : t.ruleValue i = t.slots[s.rules[i].source].derived.get t.rules[i].quantity :=
    congrArg (fun src : Fin 8 => t.slots[src].derived.get t.rules[i].quantity) hsrc
  rw [hsource, hs, hq]
  rfl

/-- What an evaluation of a slot leaves, with each rule's value, its move and its effective state given. -/
theorem State.evaluated (k : Fin 8) (V : Fin 32 → Option Int) (m : Fin 32 → Rule) (E : Fin 32 → Bool) (s t u w : State)
    (hV : ∀ i : Fin 32, V i = s.ruleValue i) (hm : ∀ i : Fin 32, m i = (movedRules k s.slots[k].derived s.rules)[i])
    (hE : ∀ i : Fin 32, E i = true ↔ ((m i).state = .active ∨ (m i).state = .pendingClear) ∧
      ∀ j : Fin 32, s.rules[i].link = some j → ((m j).state = .active ∨ (m j).state = .pendingClear))
    (hu : u = { s with rules := Vector.ofFn fun i => { m i with effective := E i } })
    (hw : w = ((List.finRange 32).filter fun i => E i != s.rules[i].effective).foldl
      (fun y i => y.notify (.rule i (E i) (m i).state (V i))) u) (ht : t = s.evaluate k) :
    t.rules = u.rules ∧ t.agent = w.agent ∧ t.ring = w.ring ∧
    (∀ j : Fin 12, (∀ i : Fin 32, s.rules[i].signs.getLsbD j.val = true → E i = s.rules[i].effective) →
      t.sign.signs[j] = s.sign.signs[j]) ∧
    (∀ (j : Fin 12) (i : Fin 32), s.rules[i].signs.getLsbD j.val = true → E i ≠ s.rules[i].effective →
      t.sign.signs[j] = s.sign.signs[j].setNext (t.arbitrated j)) ∧
    t = { s with rules := t.rules, sign := { s.sign with signs := t.sign.signs }, agent := t.agent, ring := t.ring } := by
  generalize hR : movedRules k s.slots[k].derived s.rules = R at hm
  have hkept (i : Fin 32) : R[i].effective = s.rules[i].effective ∧ R[i].link = s.rules[i].link ∧ R[i].signs = s.rules[i].signs ∧
      R[i].source = s.rules[i].source ∧ R[i].quantity = s.rules[i].quantity := by rw [← hR]; exact movedRules_kept k _ _ i
  have hE (i : Fin 32) : E i = ruleEffective R i := by
    rw [Bool.eq_iff_iff, hE i, ruleEffective_iff, Rule.holds_iff, ← hm i, (hm i ▸ (hkept i).2.1 : (m i).link = _)]
    refine and_congr_right fun _ => forall_congr' fun j => imp_congr_right fun _ => ?_
    rw [← hm j, Rule.holds_iff]
  have hu' : u = { s with rules := settleRules R } := by
    rw [hu]
    refine congrArg (fun v => { s with rules := v }) (congrArg Vector.ofFn (funext fun i => ?_))
    rw [hm i, hE i]
  have hrule (i : Fin 32) : u.rules[i] = { R[i] with effective := ruleEffective R i } := by rw [hu']; exact settleRules_get R i
  have hvalue (i : Fin 32) : u.ruleValue i = V i := by
    rw [hV i]
    exact s.ruleValue_of u i (by rw [hu']) (by rw [hrule i]; exact (hkept i).2.2.2.1) (by rw [hrule i]; exact (hkept i).2.2.2.2)
  generalize hC : ((List.finRange 32).filter fun i => E i != s.rules[i].effective) = C at hw
  have hC' : C = (List.finRange 32).filter fun i => ruleEffective R i != R[i].effective := by
    rw [← hC]
    refine congrArg (fun p => List.filter p (List.finRange 32)) (funext fun i => ?_)
    rw [hE i, (hkept i).1]
  have hw' : w = C.foldl (fun y i => y.notify (.rule i u.rules[i].effective u.rules[i].state (u.ruleValue i))) u := by
    rw [hw]
    refine congrArg (fun f => List.foldl f u C) (funext fun y => funext fun i => ?_)
    rw [hvalue i, hrule i, hE i, hm i]
  obtain ⟨heval, hwkept⟩ := s.evaluate_spec k R C u w hR.symm hC' hu' hw'
  rw [← ht] at heval
  have htkept := w.arbitrateSet_kept (C.foldl (fun m i => m ||| R[i].signs) 0)
  have hsigns := w.arbitrateSet_signs (C.foldl (fun m i => m ||| R[i].signs) 0)
  have hset (j : Fin 12) := signsOf_getLsbD R j C 0
  generalize C.foldl (fun m i => m ||| R[i].signs) 0 = M at heval htkept hsigns hset
  rw [← heval] at htkept hsigns
  have hwsigns : w.sign = s.sign := by rw [hwkept, hu']
  have hchosen (j : Fin 12) : M.getLsbD j.val = true ↔ ∃ i : Fin 32, s.rules[i].signs.getLsbD j.val = true ∧ E i ≠ s.rules[i].effective := by
    rw [hset j, ← hC]
    refine ⟨fun h => ?_, fun ⟨i, hs, hne⟩ => .inr ⟨i, List.mem_filter.mpr ⟨List.mem_finRange i, bne_iff_ne.mpr hne⟩, ?_⟩⟩
    · rcases h with h | ⟨i, hi, hs⟩
      · exact absurd h (by simp)
      · rw [(hkept i).2.2.1] at hs
        exact ⟨i, hs, bne_iff_ne.mp (List.mem_filter.mp hi).2⟩
    · rw [(hkept i).2.2.1]; exact hs
  refine ⟨by rw [htkept, hwkept], by rw [htkept], by rw [htkept], fun j hj => ?_, fun j i hi hne => ?_, ?_⟩
  · rw [hsigns j, if_neg (fun h => by obtain ⟨i, hs, hne⟩ := (hchosen j).mp h; exact hne (hj i hs)), hwsigns]
  · have hself := hsigns j
    rw [if_pos ((hchosen j).mpr ⟨i, hi, hne⟩)] at hself
    have hshown := w.sign.signs[j].setNext_kept (w.arbitrated j)
    have hsame : t.arbitrated j = w.arbitrated j :=
      w.arbitrated_congr t j (by rw [htkept]) (by rw [hself]; exact hshown.1) (by rw [hself]; exact hshown.2)
    rw [hsame, hself, hwsigns]
  · rw [htkept, hwkept, hu']

/-- An evaluation leaves the slots and the stations as they are. -/
theorem State.evaluate_kept (s : State) (k : Fin 8) : (s.evaluate k).slots = s.slots ∧ (s.evaluate k).poll = s.poll := by
  obtain ⟨heval, hkept⟩ := s.evaluate_spec k _ _ _ _ rfl rfl rfl rfl
  rw [heval, State.arbitrateSet_kept, hkept]
  exact ⟨rfl, rfl⟩

/-- Settles O29: the reading handed to its slot, its forwarding and its evaluation. -/
theorem readingIsReducedForwardedAndEvaluated : Obligations.ReadingIsReducedForwardedAndEvaluated := by
  refine ⟨fun d bytes frame x k rd begun s hr hl he hx hm hk hlink hs hreply => ?_,
    fun r x now => ⟨fun h => ?_, fun p dt hf hp hdt => ⟨fun h => ?_, fun h1 h2 h3 => ?_⟩⟩,
    fun k drop address rd speed D s hD => ⟨fun h => s.forwardReading_laneless k drop address rd speed h,
      fun lane hl => ⟨fun ht => ?_, fun ht v f hv hf => ?_⟩⟩,
    fun k V m E s t u w hV hm hE hu hw ht => ?_⟩
  · have hexec := exec_goodReply s d bytes frame x false begun (.reading rd) hr hl he hm hreply
    obtain ⟨hslots, hnow⟩ := s.heardFrom_kept x false begun
    have hpoll := s.heardFrom_poll x false begun
    generalize s.heardFrom x false begun = u at hexec hslots hnow hpoll
    have hw : ((u.reportVoice x false (.good (.reading rd))).reportOutcome x (.good (.reading rd))).dispatch x false (.reading rd) =
        (({ u with slots := updAt u.slots k fun q => q.process rd u.now } : State).forwardReading k x.drop x.address rd
          (u.slots[k].speedOf rd u.now)).evaluate k := by
      rw [State.dispatch_fits _ x _ _ ((Reply.fits_iff _ _ _).mpr (.inr (.inr (.inr (.inr (.inl ⟨rd, rfl, hk⟩)))))),
        State.reportOutcome_none _ x _ (.inr hk), State.handOver_reading _ x k rd hlink]
      exact u.takeReading_linked x k rd (by rw [hslots]; exact hs)
    rw [hw] at hexec
    generalize u.slots[k].speedOf rd u.now = speed at hexec
    generalize hv : ({ u with slots := updAt u.slots k fun q => q.process rd u.now } : State) = v at hexec
    have hvk : v.slots[k] = s.slots[k].process rd s.now := by
      rw [← hv, ← hslots, ← hnow]; exact updAt_self u.slots k _
    have hvj (j : Fin 8) (hj : j ≠ k) : v.slots[j] = s.slots[j] := by
      rw [← hv, ← hslots]; exact updAt_get_other u.slots k j _ hj.symm
    have hvpoll : v.poll = u.poll := by rw [← hv]
    obtain ⟨hother, hself, hreadings, hfpoll⟩ := v.forwardReading_spec k x.drop x.address rd speed
    generalize v.forwardReading k x.drop x.address rd speed = y at hexec hother hself hreadings hfpoll
    obtain ⟨heslots, hepoll⟩ := y.evaluate_kept k
    generalize y.evaluate k = z at hexec heslots hepoll
    have hbegun := (z.lineIdle d).endChoose_begun d
    generalize (z.lineIdle d).endChoose d = t at hexec hbegun
    have htslots : t.slots = y.slots := by rw [hbegun.paid.kept, ← heslots]; rfl
    have htstations : t.poll.stations = u.poll.stations := by
      have hz : z.poll = u.poll := by rw [hepoll, hfpoll, hvpoll]
      rw [hbegun.paid.kept, ← hz]; rfl
    obtain ⟨hprev, hfresh, hcount⟩ := (s.slots[k].process_processed rd s.now).noted
    rw [hvk] at hself hreadings
    refine ⟨t, hexec, ?_, ?_, ?_, ?_, fun j hj => ?_, ?_⟩
    · rw [htslots, hself]; exact hfresh
    · rw [htslots, hself]
    · rw [htslots, hself]; exact hprev
    · rw [htslots, hreadings]; exact hcount
    · rw [htslots, hother j hj, hvj j hj]
    · rw [htstations, hpoll, s.replied_station]; rfl
  · refine r.speedOf_none x now ?_
    cases hf : x.flags.getLsbD 0 with
    | true => exact .inl (r.windCase_restart x now hf)
    | false => exact .inr (.inl (r.windCase_first x now hf (h.resolve_left (by rw [hf]; decide))))
  · refine r.speedOf_none x now (.inr (.inr ?_))
    rw [r.windCase_previous x now p dt _ hf hp hdt rfl, if_pos h]
  · refine r.speedOf_case x now _ (decide (999 < ((x.wc + 65536 - p.count) % 65536) * r.kw * 10 / dt)) ?_
    rw [r.windCase_previous x now p dt _ hf hp hdt rfl, if_neg (by omega)]
  · rw [s.forwardReading_lane k drop address rd speed lane hl, if_neg (by rw [ht]; decide)]
    rfl
  · rw [s.forwardReading_lane k drop address rd speed lane hl, if_pos ht, hD, wxBody_eq k drop address rd D speed v f hv hf]
    cases speed <;> rfl
  · refine State.evaluated k V m E s t u w (fun i => ?_) (fun i => ?_) hE hu hw ht
    · exact (hV i _ rfl).trans (Derived.get_eq _ _).symm
    · have hv : V i = s.ruleValue i := (hV i _ rfl).trans (Derived.get_eq _ _).symm
      have hmi : m i = if s.rules[i].enabled = true ∧ s.rules[i].source = k then s.rules[i].moved (V i) else s.rules[i] := hm i
      rw [hmi, movedRules_get]
      by_cases hc : s.rules[i].enabled = true ∧ s.rules[i].source = k
      · have hsource : s.ruleValue i = s.slots[k].derived.get s.rules[i].quantity :=
          congrArg (fun src : Fin 8 => s.slots[src].derived.get s.rules[i].quantity) hc.2
        rw [if_pos hc, if_pos hc, hv, hsource]
      · rw [if_neg hc, if_neg hc]

end Sys2Proof.Machine
end

section
/-! PROOFS. The ring state ISOLATED, and its end (2.5, 4.6, 6.6). -/

namespace Sys2Proof.Machine

/-! ### Entry into ISOLATED (R33, R74) -/

/-- An isolated node's notice stays in its queue. -/
theorem State.notify_isolated (s : State) (b : NoticeBody) (h : s.prot.ring = .isolated) : s.notify b = { s with agent := (s.notify b).agent } := by
  have hmq : (s.notify b).ring.mq = s.ring.mq := by
    have hoffer (t : State) (ht : t.prot.ring = .isolated) : t.offerNotice = t := if_neg (by rw [t.takes_isolated .mq ht]; decide)
    unfold State.notify
    split
    · rfl
    · dsimp only
      split
      · split
        · exact (congrArg (fun t : State => t.ring.mq) (hoffer (s.modAgent _) h)).trans rfl
        · rfl
      · rfl
  have hkept := s.notify_mq b
  generalize s.notify b = t at hmq hkept
  rw [hkept, hmq]

/-- What a record becomes when the ring isolates the node (R74). -/
def CallRecord.isolatedAt (x : CallRecord) (now : Nat) : CallRecord :=
  { x with state := .isolated, prior := some x.state, attempts := 0, timer := some (now + 30000) }

/-- Records changed one after another, each once. -/
theorem State.forEach_isolates (l : List (Fin 16)) (f : Fin 16 → State → State) (now : Nat)
    (hf : ∀ (r : Fin 16) (s : State), s.now = now → (f r s).calls.records = updAt s.calls.records r (·.isolatedAt now) ∧
      (f r s).calls.waitList = s.calls.waitList ∧ f r s = { s with calls := (f r s).calls }) :
    ∀ s : State, s.now = now → l.Nodup →
      (∀ q : Fin 16, (s.forEach l f).calls.records[q] = if q ∈ l then s.calls.records[q].isolatedAt now else s.calls.records[q]) ∧
      (s.forEach l f).calls.waitList = s.calls.waitList ∧ s.forEach l f = { s with calls := (s.forEach l f).calls } := by
  induction l with
  | nil => exact fun s _ _ => ⟨fun q => (if_neg List.not_mem_nil).symm, rfl, rfl⟩
  | cons r l ih =>
    intro s hn hd
    obtain ⟨hr, hl⟩ := List.nodup_cons.mp hd
    obtain ⟨hrec, hwait, hkept⟩ := hf r s hn
    obtain ⟨irec, iwait, ikept⟩ := ih (f r s) (by rw [hkept]; exact hn) hl
    change ∀ q : Fin 16, (s.forEach (r :: l) f).calls.records[q] = _ at irec
    change (s.forEach (r :: l) f).calls.waitList = _ at iwait
    change s.forEach (r :: l) f = { f r s with calls := (s.forEach (r :: l) f).calls } at ikept
    generalize s.forEach (r :: l) f = t at irec iwait ikept
    refine ⟨fun q => ?_, iwait.trans hwait, by rw [ikept, hkept]⟩
    rw [irec q, hrec, updAt_get]
    by_cases hq : r = q
    · subst hq
      rw [if_pos rfl, if_neg hr, if_pos List.mem_cons_self]
    · have hmem : q ∈ r :: l ↔ q ∈ l := ⟨fun h => (List.mem_cons.mp h).resolve_left (Ne.symm hq), List.mem_cons_of_mem r⟩
      rw [if_neg hq]
      by_cases hm : q ∈ l
      · rw [if_pos hm, if_pos (hmem.mpr hm)]
      · rw [if_neg hm, if_neg fun h => hm (hmem.mp h)]

theorem State.callsIsolated_spec (s : State) :
    (∀ q : Fin 16, s.callsIsolated.calls.records[q] =
      if s.calls.records[q].state.isolates then s.calls.records[q].isolatedAt s.now else s.calls.records[q]) ∧
    s.callsIsolated.calls.waitList = s.calls.waitList ∧ s.callsIsolated = { s with calls := s.callsIsolated.calls } := by
  obtain ⟨hrec, hwait, hkept⟩ := State.forEach_isolates ((List.finRange 16).filter fun r => s.calls.records[r].state.isolates)
    (fun r s => (s.modRecord r fun x =>
      { x with state := .isolated, prior := some x.state, attempts := 0, timer := some (s.now + 30000) }).countCalls fun c =>
        { c with isolations := bump c.isolations }) s.now
    (fun r t ht => ⟨by rw [← ht]; rfl, rfl, rfl⟩) s rfl ((List.nodup_finRange 16).filter _)
  refine ⟨fun q => ?_, hwait, hkept⟩
  have hq := hrec q
  simp only [List.mem_filter, List.mem_finRange, true_and] at hq
  exact hq

theorem State.requestReads_none (s : State) (h : s.jrnl.credit = 0) : s.requestReads = s := by
  have hmay : s.jrnl.mayRequest = false := by
    unfold Journal.mayRequest
    rw [h, decide_eq_false (Nat.not_lt_zero s.jrnl.readAhead.length), Bool.and_false]
    rfl
  unfold State.requestReads State.requestReadsUpTo
  rw [hmay]
  rfl

/-- A revert timer re-timed with no credit: it runs on, or every record IN-TRANSIT is unsent. -/
theorem State.retime_spec (s : State) (h : s.jrnl.credit = 0) (hr : s.jrnl.readAhead = []) :
    s.retime.jrnl.credit = 0 ∧ s.retime.jrnl.readAhead = [] ∧ s.retime.jrnl.held = s.jrnl.held ∧ s.retime.jrnl.oldest = s.jrnl.oldest ∧
    (∀ x ∈ s.retime.jrnl.inTransit, x ∈ s.jrnl.inTransit) ∧ s.retime = { s with jrnl := s.retime.jrnl, ctl := s.retime.ctl } := by
  have hrevert : s.revert = (s.modCtl (·.withdraw fun _ => true)).modJrnl (·.revert) := State.requestReads_none _ h
  have hstay : s.retime = s ∨ s.retime = s.revert := by
    unfold State.retime
    split
    · exact .inl rfl
    · split
      · exact .inr rfl
      · exact .inl rfl
  rcases hstay with he | he
  · rw [he]
    exact ⟨h, hr, rfl, rfl, fun _ hx => hx, rfl⟩
  · rw [he, hrevert]
    exact ⟨h, rfl, rfl, rfl, fun _ hx => absurd hx List.not_mem_nil, rfl⟩

/-- The drain at the ring's isolation: the credit is gone, nothing is read ahead, and of the records IN-TRANSIT none whose block was
handed over is left. -/
theorem State.journalIsolated_spec (s : State) (handed : List Nat) :
    (s.journalIsolated handed).jrnl.credit = 0 ∧ (s.journalIsolated handed).jrnl.readAhead = [] ∧
    (s.journalIsolated handed).jrnl.held = s.jrnl.held ∧ (s.journalIsolated handed).jrnl.oldest = s.jrnl.oldest ∧
    (∀ x ∈ (s.journalIsolated handed).jrnl.inTransit, x ∈ s.jrnl.inTransit ∧
      (x.serial ∈ handed → s.jrnl.holdsSerial x.serial = false)) ∧
    s.journalIsolated handed = { s with jrnl := (s.journalIsolated handed).jrnl, ctl := (s.journalIsolated handed).ctl } := by
  obtain ⟨hcredit, hread, hheld, holdest, hsent, hkept⟩ := State.retime_spec ((s.emptyReadAhead).modJrnl fun j =>
    { j with
      credit := 0
      inTransit := j.inTransit.filter fun x => !(handed.contains x.serial && j.holdsSerial x.serial) }) rfl rfl
  change (s.journalIsolated handed).jrnl.credit = 0 at hcredit
  change (s.journalIsolated handed).jrnl.readAhead = [] at hread
  change (s.journalIsolated handed).jrnl.held = s.jrnl.held at hheld
  change (s.journalIsolated handed).jrnl.oldest = s.jrnl.oldest at holdest
  change ∀ x ∈ (s.journalIsolated handed).jrnl.inTransit, x ∈ s.jrnl.inTransit.filter fun x =>
    !(handed.contains x.serial && s.jrnl.holdsSerial x.serial) at hsent
  change s.journalIsolated handed = _ at hkept
  refine ⟨hcredit, hread, hheld, holdest, fun x hx => ?_, by rw [hkept]; rfl⟩
  obtain ⟨hin, hkeep⟩ := List.mem_filter.mp (hsent x hx)
  refine ⟨hin, fun hc => ?_⟩
  rw [List.contains_iff_mem.mpr hc, Bool.true_and, Bool.not_eq_true'] at hkeep
  exact hkeep

/-- The entry into ISOLATED of a node whose ring was not. -/
theorem State.deriveRing_isolates (s : State) (hd : s.prot.derived = .isolated) (hr : s.prot.ring ≠ .isolated) :
    s.deriveRing = ((s.modProt fun p => { p with ring := .isolated, changes := bump p.changes }).notify
      (.ring s.prot.ring .isolated)).enterIsolated := by
  unfold State.deriveRing State.changeRing
  rw [hd, if_neg fun h => hr h.symm]
  rfl

/-- What a record is after the entry into ISOLATED. -/
def CallRecord.afterIsolation (x : CallRecord) (now : Nat) : CallRecord :=
  match x.state with
  | .calling | .queued | .connected => { x with state := .isolated, prior := some x.state, attempts := 0, timer := some (now + 30000) }
  | .free | .seized | .isolated | .clearing => x

theorem CallRecord.afterIsolation_eq (x : CallRecord) (now : Nat) :
    (if x.state.isolates then x.isolatedAt now else x) = x.afterIsolation now := by
  obtain ⟨state, phone, seized, callId, lane, prior, attempts, timer, reason, voice⟩ := x
  cases state <;> rfl

/-- What the entry into ISOLATED hands over. -/
theorem State.enterIsolated_spec (s : State) : s.enterIsolated.prot = s.prot.countFlush s.ring ∧
    s.enterIsolated.ring = { s.ring with eq := [], tq := [], mq := [], aq := [] } ∧
    s.enterIsolated.calls.waitList = s.calls.waitList ∧
    (∀ r : Fin 16, s.enterIsolated.calls.records[r] = s.calls.records[r].afterIsolation s.now) ∧
    s.enterIsolated.jrnl.credit = 0 ∧ s.enterIsolated.jrnl.readAhead = [] ∧ s.enterIsolated.jrnl.held = s.jrnl.held ∧
    s.enterIsolated.jrnl.oldest = s.jrnl.oldest ∧
    (∀ x ∈ s.enterIsolated.jrnl.inTransit, x ∈ s.jrnl.inTransit ∧
      ∀ b ∈ s.ring.tq, (word32At b.body 0).toNat = x.serial → s.jrnl.holdsSerial x.serial = false) ∧
    s.enterIsolated = { s with
      prot := s.enterIsolated.prot, ring := s.enterIsolated.ring, calls := s.enterIsolated.calls
      jrnl := s.enterIsolated.jrnl, ctl := s.enterIsolated.ctl } := by
  obtain ⟨hrec, hwait, hkept⟩ := State.callsIsolated_spec ((s.modProt (·.countFlush s.ring)).modRing (·.flushed))
  generalize hu : State.callsIsolated ((s.modProt (·.countFlush s.ring)).modRing (·.flushed)) = u at hrec hwait hkept
  obtain ⟨hcredit, hread, hheld, holdest, hsent, hdrain⟩ := u.journalIsolated_spec s.ring.tollSerials
  have ht : s.enterIsolated = u.journalIsolated s.ring.tollSerials := by rw [← hu]; rfl
  rw [ht]
  generalize u.journalIsolated s.ring.tollSerials = t at hcredit hread hheld holdest hsent hdrain
  have hjrnl : u.jrnl = s.jrnl := by rw [hkept]; rfl
  rw [hjrnl] at hheld holdest hsent
  refine ⟨by rw [hdrain, hkept]; rfl, by rw [hdrain, hkept]; rfl, ?_, fun r => ?_, hcredit, hread, hheld, holdest, fun x hx => ?_, ?_⟩
  · rw [hdrain]; exact hwait
  · rw [hdrain, ← CallRecord.afterIsolation_eq]; exact hrec r
  · obtain ⟨hin, hnot⟩ := hsent x hx
    exact ⟨hin, fun b hb he => hnot (by rw [← he]; exact List.mem_map.mpr ⟨b, hb, rfl⟩)⟩
  · rw [hdrain, hkept]; rfl

end Sys2Proof.Machine
end

section
/-! PROOFS. Departure of the ring state from ISOLATED (2.5, 4.6). -/

namespace Sys2Proof.Machine

/-! ### The ISOLATED records signal (R75) -/

/-- What a record is after it has signalled again. -/
def CallRecord.signalledAt (x : CallRecord) (now : Nat) : CallRecord :=
  { x with attempts := min 255 (x.attempts + 1), timer := some (now + 30000) }

/-- The block by which a record signals again. -/
def State.signalBlock (s : State) (lane : Fin 64) (r : Fin 16) : Block :=
  s.completed (localBlock .call (if s.calls.records[r].prior = some .calling then subRequest else subResume) lane
    s.lanes[lane].peer (byte (min 255 (s.calls.records[r].attempts + 1)))
    (s.calls.records[r].idBytes ++ s.placeBytes r ++
      if s.calls.records[r].prior = some .calling then s.locationBytes r else []))

/-- A record that signals again: its own record changes, and EQ takes its block where it has room. -/
theorem State.isolatedSignals_spec (s : State) (r : Fin 16) :
    (s.isolatedSignals r).calls.records = updAt s.calls.records r (·.signalledAt s.now) ∧
    (∀ lane : Fin 64, s.laneFor .call = some lane → s.takes .eq = true →
      (s.isolatedSignals r).ring = { s.ring with eq := s.ring.eq ++ [s.signalBlock lane r] }) ∧
    s.isolatedSignals r = { s with ring := (s.isolatedSignals r).ring, calls := (s.isolatedSignals r).calls } := by
  have hsends := s.isolatedSignals_sends r s.calls.records[r] rfl
  obtain ⟨hrec, htaken, _, hkept⟩ := s.sent_spec r (fun x => { x with attempts := min 255 (x.attempts + 1), timer := some (s.now + 30000) })
    (if s.calls.records[r].prior = some .calling then subRequest else subResume) (byte (min 255 (s.calls.records[r].attempts + 1)))
    (s.calls.records[r].idBytes ++ s.placeBytes r ++ if s.calls.records[r].prior = some .calling then s.locationBytes r else [])
  rw [← hsends] at hrec htaken hkept
  exact ⟨hrec, fun lane hl ht => htaken lane hl ht, hkept⟩

/-- A record's block is the same before and after another record's. -/
theorem State.signalBlock_same (s t : State) (lane : Fin 64) (q : Fin 16) (hq : t.calls.records[q] = s.calls.records[q])
    (hk : t = { s with ring := t.ring, calls := t.calls }) : t.signalBlock lane q = s.signalBlock lane q := by
  have hplace : t.placeBytes q = s.placeBytes q := by
    unfold State.placeBytes
    rw [hq, hk]
  have hlocation : t.locationBytes q = s.locationBytes q := by
    unfold State.locationBytes
    rw [hq, hk]
  have hlanes : t.lanes = s.lanes := by rw [hk]
  have hdone (b : Block) : t.completed b = s.completed b := by rw [hk]; rfl
  unfold State.signalBlock
  rw [hq, hplace, hlocation, hlanes, hdone]

/-- The records of a list signal again, each once, in the list's order. -/
theorem State.forEach_signals (l : List (Fin 16)) : ∀ s : State, l.Nodup →
    (∀ q : Fin 16, (s.forEach l fun r s => s.isolatedSignals r).calls.records[q] =
      if q ∈ l then s.calls.records[q].signalledAt s.now else s.calls.records[q]) ∧
    (s.forEach l fun r s => s.isolatedSignals r) = { s with
      ring := (s.forEach l fun r s => s.isolatedSignals r).ring, calls := (s.forEach l fun r s => s.isolatedSignals r).calls } ∧
    (∀ lane : Fin 64, s.repeater = false → s.prot.ring ≠ .isolated → s.laneFor .call = some lane → s.ring.eq.length + l.length ≤ 32 →
      (s.forEach l fun r s => s.isolatedSignals r).ring.eq = s.ring.eq ++ l.map (s.signalBlock lane)) := by
  induction l with
  | nil => exact fun s _ => ⟨fun q => (if_neg List.not_mem_nil).symm, rfl, fun _ _ _ _ _ => (List.append_nil _).symm⟩
  | cons r l ih =>
    intro s hd
    obtain ⟨hr, hl⟩ := List.nodup_cons.mp hd
    obtain ⟨hrec, htaken, hkept⟩ := s.isolatedSignals_spec r
    obtain ⟨irec, ikept, ieq⟩ := ih (s.isolatedSignals r) hl
    change ∀ q : Fin 16, (s.forEach (r :: l) fun r s => s.isolatedSignals r).calls.records[q] = _ at irec
    change (s.forEach (r :: l) fun r s => s.isolatedSignals r) = { s.isolatedSignals r with
      ring := (s.forEach (r :: l) fun r s => s.isolatedSignals r).ring, calls := (s.forEach (r :: l) fun r s => s.isolatedSignals r).calls } at ikept
    change ∀ lane : Fin 64, _ → _ → _ → _ → (s.forEach (r :: l) fun r s => s.isolatedSignals r).ring.eq = _ at ieq
    generalize (s.forEach (r :: l) fun r s => s.isolatedSignals r) = t at irec ikept ieq
    generalize s.isolatedSignals r = u at hrec htaken hkept irec ikept ieq
    have hnow : u.now = s.now := by rw [hkept]
    refine ⟨fun q => ?_, by rw [ikept, hkept], fun lane hrep hiso hlane hlen => ?_⟩
    · rw [irec q, hrec, updAt_get, hnow]
      by_cases hq : r = q
      · subst hq
        rw [if_pos rfl, if_neg hr, if_pos List.mem_cons_self]
      · have hmem : q ∈ r :: l ↔ q ∈ l := ⟨fun h => (List.mem_cons.mp h).resolve_left (Ne.symm hq), List.mem_cons_of_mem r⟩
        rw [if_neg hq]
        by_cases hm : q ∈ l
        · rw [if_pos hm, if_pos (hmem.mpr hm)]
        · rw [if_neg hm, if_neg fun h => hm (hmem.mp h)]
    · rw [List.length_cons] at hlen
      have htakes : s.takes .eq = true := (s.takes_iff .eq).mpr ⟨hrep, hiso, by show s.ring.eq.length < 32; omega⟩
      have hring := htaken lane hlane htakes
      have hueq : u.ring.eq = s.ring.eq ++ [s.signalBlock lane r] := by rw [hring]
      have hrest := ieq lane (by rw [hkept]; exact hrep) (by rw [hkept]; exact hiso) (by rw [hkept]; exact hlane)
        (by rw [hueq, List.length_append, List.length_singleton]; omega)
      rw [hrest, hueq, List.append_assoc, List.map_cons, List.singleton_append]
      refine congrArg (fun m => s.ring.eq ++ s.signalBlock lane r :: m) (List.map_congr_left fun q hq => ?_)
      have hne : r ≠ q := fun h => hr (h ▸ hq)
      exact s.signalBlock_same u lane q (by rw [hrec]; exact updAt_get_other _ r q _ hne) hkept

/-! ### The SEIZED records are then tested (R66) -/

theorem mem_insertByTime (x y : Fin 16 × Nat) (l : List (Fin 16 × Nat)) : y ∈ insertByTime x l ↔ y = x ∨ y ∈ l := by
  induction l with
  | nil => exact List.mem_cons
  | cons z l ih =>
    unfold insertByTime
    split
    · exact List.mem_cons
    · rw [List.mem_cons, ih, List.mem_cons]
      exact or_left_comm

theorem mem_foldr_insertByTime (y : Fin 16 × Nat) (l : List (Fin 16 × Nat)) : y ∈ l.foldr insertByTime [] ↔ y ∈ l := by
  induction l with
  | nil => exact Iff.rfl
  | cons x l ih => rw [List.foldr_cons, mem_insertByTime, ih, List.mem_cons]

theorem State.seizedRecords_seized (s : State) (r : Fin 16) (h : r ∈ s.seizedRecords) : s.calls.records[r].state = .seized := by
  obtain ⟨x, hx, rfl⟩ := List.mem_map.mp h
  obtain ⟨q, _, hq⟩ := List.mem_filterMap.mp ((mem_foldr_insertByTime x _).mp hx)
  split at hq
  · rename_i hs
    cases hq
    exact hs
  · nomatch hq

/-- What the calls and the offers that follow leave: the records of a set, the ring's protection, and what EQ holds. -/
structure State.Follows (Q : Fin 16 → Prop) (s t : State) : Prop where
  records : ∀ q : Fin 16, Q q → t.calls.records[q] = s.calls.records[q]
  prot : t.prot = s.prot
  intake : t.agent.intake = s.agent.intake
  eq : ∃ more : List Block, t.ring.eq = s.ring.eq ++ more

theorem State.Follows.refl (Q : Fin 16 → Prop) (s : State) : State.Follows Q s s := ⟨fun _ _ => rfl, rfl, rfl, [], (List.append_nil _).symm⟩

theorem State.Follows.trans {Q : Fin 16 → Prop} {a b c : State} (h : State.Follows Q a b) (k : State.Follows Q b c) : State.Follows Q a c where
  records q hq := (k.records q hq).trans (h.records q hq)
  prot := k.prot.trans h.prot
  intake := k.intake.trans h.intake
  eq := by
    obtain ⟨l, hl⟩ := h.eq
    obtain ⟨m, hm⟩ := k.eq
    exact ⟨l ++ m, by rw [hm, hl, List.append_assoc]⟩

theorem State.sendCall_eq (s : State) (subtype : BitVec 4) (seq : Byte) (body : List Byte) :
    ∃ more : List Block, (s.sendCall subtype seq body).ring.eq = s.ring.eq ++ more := by
  unfold State.sendCall
  split
  · exact ⟨[], (List.append_nil _).symm⟩
  · split
    · exact ⟨_, rfl⟩
    · exact ⟨[], (List.append_nil _).symm⟩

theorem State.tryCalling_follows (Q : Fin 16 → Prop) (s : State) (r : Fin 16) (h : ¬ Q r) : State.Follows Q s (s.tryCalling r) := by
  unfold State.tryCalling
  split
  · split
    · rename_i lane _
      have hrec (q : Fin 16) (hq : Q q) : (s.bound r lane).calls.records[q] = s.calls.records[q] :=
        State.modRecord_other _ r q _ fun he => h (he ▸ hq)
      show State.Follows Q s ((s.bound r lane).sendRequest r)
      unfold State.sendRequest
      refine ⟨?_, ?_, ?_, State.sendCall_eq _ _ _ _⟩
      · rw [State.sendCall_kept]; exact hrec
      · rw [State.sendCall_kept]; rfl
      · rw [State.sendCall_kept]; rfl
    · exact .refl Q s
  · exact .refl Q s

theorem State.testSeized_follows (Q : Fin 16 → Prop) (s : State) (h : ∀ q, Q q → s.calls.records[q].state ≠ .seized) :
    State.Follows Q s s.testSeized := by
  have hl : ∀ r ∈ s.seizedRecords, ¬ Q r := fun r hr hq => h r hq (s.seizedRecords_seized r hr)
  unfold State.testSeized
  generalize s.seizedRecords = l at hl
  clear h
  induction l generalizing s with
  | nil => exact .refl Q s
  | cons r l ih =>
    exact (s.tryCalling_follows Q r (hl r List.mem_cons_self)).trans (ih (s.tryCalling r) fun x hx => hl x (List.mem_cons_of_mem r hx))

theorem State.offerTolls_follows (Q : Fin 16 → Prop) (s : State) : State.Follows Q s s.offerTolls := by
  obtain ⟨more, j, c, e⟩ := State.offerTollsUpTo_kept 4 s
  have ht : s.offerTolls = { s with ring := { s.ring with tq := s.ring.tq ++ more }, jrnl := j, ctl := c } := e
  rw [ht]
  exact ⟨fun _ _ => rfl, rfl, rfl, [], (List.append_nil _).symm⟩

/-! ### The agent's turns with an empty intake -/

theorem State.agentTurn_eq (s t : State) (hi : s.agent.intake = []) (h : s.agentTurn = some t) :
    t.ring.eq = s.ring.eq ∧ t.agent.intake = [] := by
  unfold State.agentTurn at h
  rw [hi] at h
  split at h
  · split at h
    · cases h; exact ⟨rfl, hi⟩
    · nomatch h
  · rename_i heq; nomatch heq
  · nomatch h

theorem State.noticeTurn_eq (s t : State) (h : s.noticeTurn = some t) : t.ring.eq = s.ring.eq ∧ t.agent.intake = s.agent.intake := by
  unfold State.noticeTurn at h
  split at h
  · cases h
    unfold State.passNotice
    split <;> exact ⟨rfl, rfl⟩
  · nomatch h

theorem State.agentTurns_eq (n : Nat) : ∀ s : State, s.agent.intake = [] → (s.agentTurns n).ring.eq = s.ring.eq := by
  induction n with
  | zero => exact fun _ _ => rfl
  | succ n ih =>
    intro s hi
    unfold State.agentTurns
    split
    · rfl
    · rename_i a ha _
      obtain ⟨heq, hin⟩ := s.agentTurn_eq a hi ha
      exact (ih a hin).trans heq
    · rename_i b _ hb
      obtain ⟨heq, hin⟩ := s.noticeTurn_eq b hb
      exact (ih b (hin.trans hi)).trans heq
    · rename_i a b ha hb
      split
      · obtain ⟨heq, hin⟩ := s.agentTurn_eq a hi ha
        exact (ih (a.spend 1) hin).trans heq
      · obtain ⟨heq, hin⟩ := s.noticeTurn_eq b hb
        exact (ih (b.spend 1) (hin.trans hi)).trans heq

theorem State.agentRun_follows (Q : Fin 16 → Prop) (s : State) (hi : s.agent.intake = []) : State.Follows Q s s.agentRun := by
  have hkept := s.agentRun_kept hi
  have heq : s.agentRun.ring.eq = s.ring.eq := State.agentTurns_eq 24 s hi
  generalize s.agentRun = t at hkept heq
  exact ⟨fun q _ => by rw [hkept], by rw [hkept], by rw [hkept], [], by rw [heq, List.append_nil]⟩

/-! ### Departure from ISOLATED (R29, R34, R75) -/

theorem State.deriveRing_leaves (s : State) (hr : s.prot.ring = .isolated) (hd : s.prot.derived ≠ .isolated) :
    s.deriveRing = ((s.modProt fun p => { p with ring := s.prot.derived, changes := bump p.changes }).notify
      (.ring s.prot.ring s.prot.derived)).leaveIsolated := by
  unfold State.deriveRing State.changeRing
  rw [if_neg (by rw [hr]; exact hd)]
  dsimp only
  rw [if_neg hd, if_pos hr]

/-- What the departure leaves: the ISOLATED records have signalled, and what follows only adds to EQ. -/
theorem State.leaveIsolated_spec (s : State) (hi : s.agent.intake = []) :
    s.leaveIsolated.prot = s.prot ∧
    (∀ q : Fin 16, s.calls.records[q].state = .isolated → s.leaveIsolated.calls.records[q] = s.calls.records[q].signalledAt s.now) ∧
    (∀ lane : Fin 64, s.repeater = false → s.prot.ring ≠ .isolated → s.laneFor .call = some lane → s.ring.eq.length ≤ 16 →
      ∃ more : List Block, s.leaveIsolated.ring.eq = s.ring.eq ++
        ((List.finRange 16).filter fun r => s.calls.records[r].state == .isolated).map (s.signalBlock lane) ++ more) := by
  obtain ⟨hrec, hkept, heq⟩ := State.forEach_signals ((List.finRange 16).filter fun r => s.calls.records[r].state == .isolated) s
    ((List.nodup_finRange 16).filter _)
  have hlen : ((List.finRange 16).filter fun r => s.calls.records[r].state == .isolated).length ≤ 16 :=
    (List.length_filter_le _ _).trans (by rw [List.length_finRange])
  have hleave : s.leaveIsolated = ((s.forEach ((List.finRange 16).filter fun r => s.calls.records[r].state == .isolated)
    fun r s => s.isolatedSignals r).testSeized.offerTolls).agentRun := rfl
  generalize (s.forEach ((List.finRange 16).filter fun r => s.calls.records[r].state == .isolated) fun r s => s.isolatedSignals r) = u
    at hrec hkept heq hleave
  have hintake : u.agent.intake = [] := by rw [hkept]; exact hi
  have hfollows : State.Follows (fun q => u.calls.records[q].state ≠ .seized) u s.leaveIsolated := by
    rw [hleave]
    have htest := u.testSeized_follows (fun q => u.calls.records[q].state ≠ .seized) fun _ hq => hq
    have htolls := htest.trans (State.offerTolls_follows _ u.testSeized)
    exact htolls.trans (State.agentRun_follows _ _ (htolls.intake.trans hintake))
  refine ⟨by rw [hfollows.prot, hkept], fun q hq => ?_, fun lane hrep hiso hlane hroom => ?_⟩
  · have hsignal : u.calls.records[q] = s.calls.records[q].signalledAt s.now := by
      have hmem : q ∈ (List.finRange 16).filter fun r => s.calls.records[r].state == .isolated :=
        List.mem_filter.mpr ⟨List.mem_finRange q, beq_iff_eq.mpr hq⟩
      rw [hrec q, if_pos hmem]
    rw [hfollows.records q ?_, hsignal]
    rw [hsignal]
    show s.calls.records[q].state ≠ .seized
    rw [hq]
    exact CallState.noConfusion
  · obtain ⟨more, hmore⟩ := hfollows.eq
    exact ⟨more, by rw [hmore, heq lane hrep hiso hlane (by omega)]⟩

/-- Settles O22: the entry into ISOLATED, and its end by the records that signal and what follows them. -/
theorem isolationHandsOverAndHeals : Obligations.IsolationHandsOverAndHeals := by
  refine ⟨fun s t hd hr ht => ?_, fun s t hr hd hi ht => ?_⟩
  · have hnotify := (s.modProt fun p => { p with ring := .isolated, changes := bump p.changes }).notify_isolated (.ring s.prot.ring .isolated) rfl
    rw [s.deriveRing_isolates hd hr] at ht
    generalize (s.modProt fun p => { p with ring := .isolated, changes := bump p.changes }).notify (.ring s.prot.ring .isolated) = u
      at hnotify ht
    obtain ⟨hprot, hring, hwait, hrec, hcredit, hread, hheld, holdest, hsent, hkept⟩ := u.enterIsolated_spec
    rw [← ht] at hprot hring hwait hrec hcredit hread hheld holdest hsent hkept
    have hcalls : u.calls = s.calls := by rw [hnotify]; rfl
    have hjrnl : u.jrnl = s.jrnl := by rw [hnotify]; rfl
    have huring : u.ring = s.ring := by rw [hnotify]; rfl
    have hnow : u.now = s.now := by rw [hnotify]; rfl
    rw [hcalls] at hwait hrec
    rw [hjrnl] at hheld holdest hsent
    rw [huring] at hsent
    rw [hnow] at hrec
    refine ⟨?_, ?_, hwait, hrec, hcredit, hread, hheld, holdest, hsent, ?_⟩
    · rw [hprot, huring, hnotify]; rfl
    · rw [hring, huring]
    · rw [hkept, hnotify]; rfl
  · have hnotify := (s.modProt fun p => { p with ring := s.prot.derived, changes := bump p.changes }).notify_mq (.ring s.prot.ring s.prot.derived)
    have hintake := (s.modProt fun p => { p with ring := s.prot.derived, changes := bump p.changes }).notify_intake (.ring s.prot.ring s.prot.derived)
    rw [s.deriveRing_leaves hr hd] at ht
    generalize (s.modProt fun p => { p with ring := s.prot.derived, changes := bump p.changes }).notify (.ring s.prot.ring s.prot.derived) = u
      at hnotify hintake ht
    obtain ⟨hprot, hrec, heq⟩ := u.leaveIsolated_spec (hintake.trans hi)
    rw [← ht] at hprot hrec heq
    have hcalls : u.calls = s.calls := by rw [hnotify]; rfl
    have hnow : u.now = s.now := by rw [hnotify]; rfl
    have hblock (lane : Fin 64) (q : Fin 16) : u.signalBlock lane q = s.signalBlock lane q := by rw [hnotify]; rfl
    have hueq : u.ring.eq = s.ring.eq := by rw [hnotify]; rfl
    have huprot : u.prot = { s.prot with ring := s.prot.derived, changes := bump s.prot.changes } := by rw [hnotify]; rfl
    have hlane : u.laneFor .call = s.laneFor .call := by rw [hnotify]; rfl
    have hrep : u.repeater = s.repeater := by rw [hnotify]; rfl
    rw [hcalls, hnow] at hrec
    rw [hcalls, hrep, hlane, hueq, huprot] at heq
    refine ⟨hprot.trans huprot, hrec, fun lane hr' hl hlen => ?_⟩
    obtain ⟨more, hmore⟩ := heq lane hr' hd hl hlen
    rw [List.map_congr_left fun q _ => hblock lane q] at hmore
    exact ⟨more, hmore⟩

end Sys2Proof.Machine
end
